-- ==== Sys2Proof/Word.lean ====
section
/-! DEFINITION. The word types of the module and their plainest arithmetic. -/

namespace Sys2Proof

/-- A byte. -/
abbrev Byte := BitVec 8

/-- A 32-bit register word (R30). -/
abbrev Word := BitVec 32

/-- A byte address of the register space (R30). -/
abbrev Addr := BitVec 32

/-- An instant in compare units, the 64-bit nanosecond count (R528). -/
abbrev Instant := BitVec 64

end Sys2Proof
end

