-- ==== Sys2Proof/Syntax.lean ====
section
/-! DEFINITION. The commands of spec/opcode_table.json: one constructor of `Instr` per row, with the operands that
the outside supplies. No row of the table has fields, so the operands are typed here from the rules of each row. -/

namespace Sys2Proof

/-- Who makes a register access (R48, R49). FABRIC carries the sending node address (R44). -/
inductive Origin where
  | host
  | fabric (node : BitVec 10)
  | firmware
  | safety
  | twin
  | debug
  deriving DecidableEq, Repr

/-- One end of a sense ring at the module, or one side of a supervisor (Sense rings). -/
inductive Side where
  | north
  | south
  deriving DecidableEq, Repr

/-- The envelope of a service message (R502): who sent it, its TOKEN, the class it travelled in, the lane it came
by, and whether its frame authenticated (R65, R483; always true on the host path). -/
structure Req where
  origin : Origin
  token  : BitVec 16
  cls    : BitVec 2
  lane   : Fin 5
  authentic : Bool
  deriving DecidableEq, Repr

/-- A host port request as it stood on the wires (R57). -/
structure HostReq where
  opcode : Byte
  count  : Byte
  addr   : Addr
  data   : List Word
  crc    : Word
  deriving DecidableEq, Repr

/-- A raw level of a safety input channel, and for how many units of 10 µs it has stood without a break (R422). -/
structure RawLevel where
  level    : Bool
  held10us : Nat
  deriving DecidableEq, Repr

/-- What stands at a comparator's input: the comparator, the analog input, its differential voltage in nanovolts, and for how
many nanoseconds it has stood there (R380, R381). -/
structure CompSample where
  comparator : Fin 12
  input      : Fin 24
  nanovolts  : Int
  heldNs     : Nat
  deriving DecidableEq, Repr

/-- One comparison of the reference, in microvolts: the selected reference, and what the diverse bandgap says it is to be
(R312, R313). -/
structure RefSample where
  selected : Nat
  diverse  : Nat
  deriving DecidableEq, Repr

/-- The natural boundary of a page's block; on SRQ that of queue `part` (R39). -/
structure BoundaryOf where
  page : Fin 41
  part : Fin 4
  deriving DecidableEq, Repr

/-- OPCODE and COUNT of a host request that neither writes nor reads: opcode 0x0E, or a reserved one in its place (R57, R61). -/
structure ResendHead where
  reserved : Option Byte
  count    : Byte
  deriving DecidableEq, Repr

/-- How a received ring frame stood on the line (R75, R112). -/
inductive LineFault where
  | clean
  | codeViolation
  | alarmInside
  | aborted
  | jabber
  deriving DecidableEq, Repr

/-- A frame received at a ring port (R77 to R81). -/
structure RingFrame where
  line  : LineFault
  kind  : BitVec 4
  rsp   : Bool
  err   : Bool
  rsv   : BitVec 2
  tag   : BitVec 4
  epoch : BitVec 2
  half  : BitVec 2
  dst   : Byte
  src   : Byte
  len   : BitVec 16
  payload : List Byte
  crc   : BitVec 16
  deriving DecidableEq, Repr

/-- What a position reports after a delay calibration (R141): DELTA and FWD in 0.25 ns, no DELTA for no second passage. -/
structure DcalReport where
  pos   : Nat
  delta : Option Int
  fwd   : Nat
  deriving DecidableEq, Repr

/-- One of the two contributors that can fall back (R16). -/
inductive Contributor where
  | estimator
  | thermal
  deriving DecidableEq, Repr

/-- How a learned-data write-back ends (R225). -/
inductive WritebackEnd where
  | verified
  | hugoodLost
  | readbackWrong
  deriving DecidableEq, Repr

/-- A channel of a dual-channel input or output (R421, R434). -/
inductive Chan where
  | a
  | b
  deriving DecidableEq, Repr

/-- The failed self-check of the island (R419, R454). -/
inductive IslandCause where
  | lockstep | clock | ecc | watchdog | supply | program | selftest
  deriving DecidableEq, Repr

/-- An Igxus frame at a lane (R479, R480), field by field; `fcsOk` is the verdict on its FCS and code groups, which IEEE 802.3
forms. -/
structure FabFrame where
  fcsOk  : Bool
  dstMac : BitVec 48
  srcMac : BitVec 48
  etherType : BitVec 16
  ver    : BitVec 4
  cls    : BitVec 2
  rsv0   : BitVec 2
  type   : Byte
  rsvDst : BitVec 6
  dst    : BitVec 10
  rsvSrc : BitVec 6
  src    : BitVec 10
  ttl    : Byte
  rsv7   : Byte
  ctr    : BitVec 64
  len    : BitVec 16
  payload : List Byte
  tag    : BitVec 128
  deriving DecidableEq, Repr

/-- The body of a DISPATCH request (R509), with its length. -/
structure DispatchBody where
  blen : Nat
  seq  : Word
  string : BitVec 16
  imm  : Bool
  notify : Bool
  reservedZero : Bool
  acts : BitVec 48
  actn : Word
  iset : Word
  ramp : Word
  deriving DecidableEq, Repr

/-- A PTP message at a fabric port (R539, R540): its addresses, majorVersionPTP and minorVersionPTP, and its fields; times in
ns. -/
structure PtpMsg where
  dstMac : BitVec 48
  srcMac : BitVec 48
  major  : BitVec 4
  minor  : BitVec 4
  domain : Byte
  seq    : BitVec 16
  twoStep : Bool
  origin : Int
  correction : Int
  gmId   : BitVec 64
  prio1  : Byte
  clockClass : Byte
  accuracy : Byte
  variance : BitVec 16
  prio2  : Byte
  stepsRemoved : BitVec 16
  sourceId : BitVec 64
  ptpTimescale : Bool
  utcOffset : Option (BitVec 16)
  deriving DecidableEq, Repr

/-- A data frame received by a CAN controller (R563, R567). -/
structure CanFrame where
  ide  : Bool
  fdf  : Bool
  brs  : Bool
  esi  : Bool
  id   : BitVec 29
  dlc  : BitVec 4
  data : List Byte
  deriving DecidableEq, Repr

/-- The error that a CAN controller detects (R579), or a protocol exception event of the standard (R557). -/
inductive CanErr where
  | crc | stuff | form | ack | bitDominant | bitRecessive | exception
  deriving DecidableEq, Repr

/-- A frame sent without error: its SOF, and the nanoseconds from CANx_TX to CANx_RX at the edge between FDF and res (R561, R570). -/
structure CanSent where
  sof : Instant
  loopNs : Nat
  deriving DecidableEq, Repr

/-- A TOLL frame (R592). -/
structure TollMsg where
  tseq : Word
  home : Bool
  role : BitVec 2
  tstate : Byte
  sstate : Byte
  health : Word
  cfgcrc : Word
  healthySeconds : BitVec 16
  active : BitVec 16
  version : Word
  deriving DecidableEq, Repr

/-- A SAMPLE frame (R591): the eight duties of R350, IREF and VAL(ISTR), and the outputs of the loops with
destinations 0x1 to 0x9. -/
structure SampleMsg where
  instant : Instant
  count   : Word
  duties  : List (BitVec 16)
  iref    : Word
  istr    : Word
  outputs : List Word
  deriving DecidableEq, Repr

/-- What the medium answers to a write of the recorder (R625). -/
inductive MediaResult where
  | good
  | readbackFailed
  | eccError
  | slow
  deriving DecidableEq, Repr

/-- The loss that the clock monitor or a lock detector declares (R649): the reference, or a PLL in PLLLOCK order. -/
inductive ClockLossKind where
  | reference
  | pll (k : Fin 5)
  deriving DecidableEq, Repr

/-- A block read or refreshed in a memory refresh pass (R693, R694). -/
structure RefreshBlock where
  block : Nat
  corrected : Nat
  verified : Bool
  deriving DecidableEq, Repr

/-- The two halves of AUTH (R719): shifting out a challenge, shifting in a signature. -/
inductive AuthStep where
  | challenge
  | signature (r : BitVec 384) (s : BitVec 384)
  deriving DecidableEq, Repr

/-- The command that opens a launch slot (R548). -/
inductive SlotKind where
  | fabricSlot
  | canSlot
  deriving DecidableEq, Repr

/-- What a read of R552 latches. -/
inductive TimeRead where
  | plant
  | p0
  | domain (d : Fin 2)
  deriving DecidableEq, Repr

/-- The commands of the module, in the order of spec/opcode_table.json. -/
inductive Instr where
  | registerWrite (o : Origin) (a : Addr) (v : Word)
  | boundaryApply (b : BoundaryOf)
  | commitGo (o : Origin) (p : Fin 41)
  | commitDiscard (o : Origin) (p : Fin 41)
  | commitApply (p : Fin 41)
  | shadowLapse (p : Fin 41)
  | lockPage (o : Origin) (p : Fin 41)
  | unlockPage (o : Origin) (p : Fin 41)
  | irqsClear (o : Origin) (p : Fin 41) (bits : Word)
  | erraClear (o : Origin) (p : Fin 41)
  | auditSummary (o : Origin) (code : BitVec 4) (a : Addr)
  | wordPairRead (o : Origin) (a : Addr)
  | writeIncrementing (count : Byte) (a : Addr) (data : List Word) (crc : Word)
  | writeFixed (count : Byte) (a : Addr) (data : List Word) (crc : Word)
  | readIncrementing (count : Byte) (a : Addr) (crc : Word)
  | readFixed (count : Byte) (a : Addr) (crc : Word)
  | resendLastRead (head : ResendHead) (a : Addr) (crc : Word)
  | hostTransactionCut (afterCrc : Option HostReq)
  | hostServiceSubmit (o : Origin) (v : Word)
  | regRead (q : Req) (a : Addr) (count : Byte)
  | regWrite (q : Req) (a : Addr) (count : Byte) (data : List Word)
  | connect (q : Req)
  | run (q : Req)
  | halt (q : Req)
  | disconnect (q : Req)
  | clearTrip (q : Req)
  | transport (q : Req)
  | contributionFallback (c : Contributor)
  | ringEnable (o : Origin) (r : Fin 4)
  | ringDisable (o : Origin) (r : Fin 4)
  | portTrainingDone (r : Fin 4)
  | ringFrameReceive (r : Fin 4) (port : Side) (f : RingFrame)
  | requestEcho (r : Fin 4) (port : Side) (tag : BitVec 4)
  | transactionTimeout (r : Fin 4) (tag : BitVec 4)
  | retryBackoff (r : Fin 4) (k : Nat)
  | alarmDetect (r : Fin 4) (port : Side)
  | alarmStatusReport (r : Fin 4) (port : Side) (f : RingFrame)
  | linkLoss (r : Fin 4) (port : Side)
  | linkRecovery (r : Fin 4) (port : Side)
  | linkLost (r : Fin 4) (port : Side) (pos : Byte) (lost : Side)
  | healTimer (r : Fin 4)
  | heal (o : Origin) (r : Fin 4)
  | enumerate (o : Origin) (r : Fin 4)
  | isolate (o : Origin) (r : Fin 4) (pos : BitVec 6)
  | ringRelease (o : Origin) (r : Fin 4) (pos : BitVec 6)
  | resetSupervisors (o : Origin) (r : Fin 4)
  | cellScanTick
  | scanCollectionStart
  | scanReport (r : Fin 4) (port : Side) (f : RingFrame)
  | scanPublication (deadline : Bool)
  | tempCollectionStart
  | tempReport (r : Fin 4) (port : Side) (f : RingFrame)
  | tempDeadline
  | delayCalibration (r : Fin 4)
  | calibrationTickReturn (r : Fin 4) (port : Side) (tret : Nat) (reports : List DcalReport)
  | queueStallIssue (r : Fin 4) (k : Nat)
  | queueDataRead (o : Origin) (q : Fin 4)
  | queueFlush (o : Origin) (q : Fin 4) (classes : BitVec 4)
  | flushBoundary (q : Fin 4)
  | queueDisable (o : Origin)
  | cellEntryRead (o : Origin) (entry : Fin 3072)
  | chimeEnable (o : Origin)
  | chimeDisable (o : Origin)
  | phasorCollectionStart
  | phasorReport (r : Fin 4) (port : Side) (f : RingFrame)
  | phasorCollectionDeadline
  | captureRef (o : Origin)
  | chimeRestart (o : Origin)
  | clearAvg (o : Origin)
  | estimatorUpdate
  | estimatorEnable (o : Origin)
  | writeback (o : Origin)
  | writebackPeriod
  | writebackCompletion (how : WritebackEnd)
  | reload (o : Origin)
  | restartLearn (o : Origin)
  | balancePlanning
  | replan (o : Origin)
  | stopAll (o : Origin)
  | balancingDisable (o : Origin)
  | thermalScan (go : Unit)
  | clearOt (o : Origin)
  | clearSensor (o : Origin)
  | coolingDemand
  | chillerTimeout
  | pwmEnable (o : Origin)
  | pwmDisable (o : Origin)
  | sampleTrigger
  | dutyLoad (cell : Fin 8) (peak : Bool)
  | flyingCapReady
  | fcTimeout
  | busRampDone
  | busTimeout
  | stopComplete
  | gateDriverFaultInput (n : Fin 8)
  | adcEnable (o : Origin)
  | adcDisable (o : Origin)
  | regularSequence (conv : Fin 4)
  | conversionDone (conv : Fin 4) (input : Fin 24) (nanovolts : Int) (injected : Bool) (at_ : Instant)
  | referenceCheck (sample : RefSample)
  | referenceTimeout
  | calibrationDue
  | calibrationDone (conv : Fin 4) (gain : Word) (offs : BitVec 16)
  | calibrate (o : Origin) (conv : Fin 4)
  | adcClearCounts (o : Origin)
  | kirchhoffInterval
  | controlSample
  | setpoint (o : Origin) (w4 : Word)
  | setpointClear (o : Origin) (w4 : Word)
  | swapRequest (o : Origin) (v : Word)
  | loopLockup
  | testStart (o : Origin)
  | testStop (o : Origin)
  | capture (o : Origin)
  | lpeClearCounts (o : Origin)
  | lpeEnable (o : Origin)
  | lpeDisable (o : Origin)
  | comparatorAssert (x : CompSample)
  | comparatorReturn (x : CompSample)
  | protectionContribution
  | digitalLimitFail (row : Fin 6) (inst : Fin 8)
  | digitalLimitRecover (row : Fin 6) (inst : Fin 8)
  | auxChange (p : Fin 10) (readsOpen : Bool)
  | contactorCloseTimeout (p : Fin 10)
  | contactorOpenTimeout (p : Fin 10)
  | prechargeComplete
  | prechargeTimeout
  | join (o : Origin) (b : Fin 8)
  | separate (o : Origin) (b : Fin 8)
  | clearWeld (o : Origin)
  | controlledOpening
  | zeroTimeout
  | ctkDisable (o : Origin)
  | holdoverAdopt
  | holdoverEnd
  | insulationHalfPeriod (go : Unit) (ended : Unit)
  | isoEnable (o : Origin)
  | faultDequeue
  | eventCodeLatch
  | alarmQuiet
  | nanQuiet
  | stormEnd
  | faultAck (o : Origin)
  | safetyCycle (rbA rbB : BitVec 4) (shadowEqual : Bool)
  | filteredEdge (n : Fin 8) (ch : Chan) (raw : RawLevel)
  | testPulse (source : Chan) (levelsA levelsB : BitVec 8)
  | discrepancyTimeout (n : Fin 8)
  | t1Expiry (n : Fin 8)
  | stopdone
  | resetDeviceRelease (n : Fin 8) (go : Unit)
  | resetDeviceStuck (n : Fin 8)
  | safetyReset (o : Origin)
  | clearOutflt (o : Origin)
  | maintonDelay
  | rimshotPulse (ch : Fin 8)
  | rimshotPulseEnd (ch : Fin 8) (readLow : Bool)
  | rimshotCheck (ch : Fin 8) (readHigh : Bool)
  | islandSelfCheckFail (cause : IslandCause)
  | islandFaultReset
  | programCrcCheck (ok : Bool)
  | islandInitDone
  | safetyEnable (o : Origin)
  | safetyDisable (o : Origin)
  | safetyConfirm (o : Origin) (v : Word)
  | handoverPrepare (o : Origin)
  | handoverCommit (o : Origin)
  | handoverAbandon (o : Origin)
  | handoverPrepareTimeout
  | startSlotSwitch
  | sclEnable (o : Origin)
  | safetyFrame (net : BitVec 2) (pdu : List Byte)
  | sclOpen
  | sclData
  | sclStatus
  | sclClose
  | cmpwinExpiry (n : Fin 8)
  | sclSendPeriod (n : Fin 8)
  | sclWatchdog (n : Fin 8)
  | sclReopenTimer (n : Fin 8)
  | reopen (o : Origin) (n : Fin 8)
  | sclCloseCommand (o : Origin) (n : Fin 8)
  | fabricEnable (o : Origin)
  | pcsSync (lane : Fin 5)
  | pcsSyncLoss (lane : Fin 5)
  | hello (lane : Fin 5) (f : FabFrame)
  | keepaliveHello (lane : Fin 5) (f : FabFrame)
  | helloRepeat (lane : Fin 5)
  | keepaliveTimer (lane : Fin 5)
  | keepaliveLoss (lane : Fin 5)
  | credit (lane : Fin 5) (f : FabFrame)
  | lsa (lane : Fin 5) (f : FabFrame)
  | conflictEnd (a : BitVec 10)
  | lsaOriginate
  | lsaAgeOut (origin : BitVec 10) (uid : BitVec 64)
  | routeComputation
  | frameForward (lane : Fin 5) (f : FabFrame)
  | creditStall (lane : Fin 5)
  | isolationExpiry (lane : Fin 5)
  | linkRestart (o : Origin) (lane : Fin 5)
  | portIsolate (o : Origin) (lane : Fin 5)
  | portRelease (o : Origin) (lane : Fin 5)
  | keyInstall (o : Origin) (lane : Fin 5) (slot : Fin 2) (w : Word)
  | keyClear (o : Origin) (lane : Fin 5) (slot : Fin 2)
  | txkeyChange (o : Origin) (lane : Fin 5) (slot : Fin 2)
  | gong (lane : Fin 5) (f : FabFrame)
  | gongPairExpiry (origin gseq : BitVec 16)
  | gongSend (o : Origin) (reason : Byte)
  | dispatch (q : Req) (d : DispatchBody)
  | dispatchLost
  | stringReport
  | sessionChallenge (q : Req)
  | sessionOpen (q : Req) (role : Byte) (tag : BitVec 128) (u : Unit)
  | sessionClose (q : Req)
  | roleKeyInstall (o : Origin) (role : Fin 3) (w : Word)
  | recompute (o : Origin)
  | fabClearCounts (o : Origin)
  | ptpSync (lane : Fin 4) (m : PtpMsg)
  | ptpFollowUp (lane : Fin 4) (m : PtpMsg)
  | ptpAnnounce (lane : Fin 4) (m : PtpMsg)
  | ptpPdelayReq (lane : Fin 4) (m : PtpMsg)
  | ptpPdelayResp (lane : Fin 4) (m : PtpMsg)
  | ptpPdelayRespFollowUp (lane : Fin 4) (m : PtpMsg)
  | pdelayTimer (lane : Fin 4)
  | ptpMasterTimer (d : Fin 2)
  | syncTimeout (d : Fin 2)
  | holdoverTimeout (d : Fin 2)
  | announceTimeout (d : Fin 2)
  | domainAdjust (o : Origin) (d : Fin 2) (v : Word)
  | incrementWrite (o : Origin) (d : Fin 2) (v : Word)
  | slewEnd
  | revertTimer
  | domainSwitch (o : Origin) (d : Fin 2)
  | timClearCounts (o : Origin)
  | timeGet (q : Req)
  | timeSet (q : Req) (dom mode : Byte) (sec : BitVec 48) (ns : Word)
  | tpoLeadingEdge (k : Fin 8)
  | tpoTrailingEdge (k : Fin 8)
  | launchArm (o : Origin) (kind : SlotKind) (s : Fin 8) (v : Word)
  | fabricLaunch (s : Fin 8)
  | canLaunch (s : Fin 8)
  | canEnable (o : Origin) (x : Fin 2)
  | canIntegrated (x : Fin 2)
  | canFrameReceive (x : Fin 2) (f : CanFrame)
  | canRemoteFrame (x : Fin 2)
  | transmitRequest (o : Origin) (x : Fin 2) (obj : Fin 128) (v : Word)
  | transmitWithdraw (o : Origin) (x : Fin 2) (obj : Fin 128) (v : Word)
  | canTransmitDone (x : Fin 2) (obj : Fin 128) (sent : CanSent)
  | canError (x : Fin 2) (e : CanErr) (sending : Option (Fin 128)) (dataPhase heavy : Bool)
  | busOffRecovered (x : Fin 2)
  | failover (x : Fin 2) (obj : Fin 128)
  | receiveStamp (x : Fin 2) (obj : Fin 128)
  | stampLate (x : Fin 2) (obj : Fin 128)
  | referenceMessage (x : Fin 2)
  | recover (o : Origin) (x : Fin 2)
  | canRelease (o : Origin) (x : Fin 2) (obj : Fin 128)
  | canAbort (o : Origin) (x : Fin 2) (obj : Fin 128)
  | canClearCounts (o : Origin) (x : Fin 2)
  | canObjectRead (o : Origin) (x : Fin 2) (obj : Fin 128)
  | ownInFall
  | takeover
  | ownershipStart (u : Unit)
  | ownershipConflict
  | tollSend
  | toll (m : TollMsg)
  | partnerLost
  | twinSample (m : SampleMsg)
  | handoverRequest
  | handoverAnnouncement (h : Instant)
  | handoverInstant (ownInHigh : Bool)
  | handoverAckTimeout
  | mirror (a : Addr) (v : Word)
  | configMismatchTimer
  | state (cells : List (Fin 3072 × List Word))
  | stateSendTimer
  | relay (r : Fin 4) (f : RingFrame)
  | log (records : List (List Byte))
  | revertDue
  | selfTestTimer
  | selfTestDone (passed : Bool)
  | handoverCommand (o : Origin)
  | selftest (o : Origin)
  | partnerReset (o : Origin)
  | partnerKill
  | powerCycle (o : Origin)
  | powerCycleDue
  | partnerPowerRestore
  | powerOff (o : Origin)
  | twinAdmit (o : Origin)
  | twinClear (o : Origin)
  | recordIntake
  | recordWrite (m : MediaResult)
  | freeze (o : Origin)
  | evrRelease (o : Origin)
  | clearMain (o : Origin)
  | clearReserve (o : Origin)
  | mediaTest (o : Origin) (passes : Bool)
  | mediaTestTimer (passes : Bool)
  | freezeTimeout
  | optimeSave
  | logStatus (q : Req)
  | logRead (q : Req) (area minsev : Byte) (fromSeq fromPcc : Word)
  | logFreeze (q : Req)
  | logRelease (q : Req)
  | logClear (q : Req) (area : Byte)
  | logMark (q : Req) (text : List Byte)
  | resetAssert (src : Fin 16)
  | resetRelease (src : Fin 16)
  | pllLock (k : Fin 5)
  | configRestore
  | softwareReset (o : Origin) (v : Word)
  | bootOk (o : Origin) (v : Word)
  | bootTimeout
  | recoveryExit (o : Origin)
  | fuseBurn (o : Origin)
  | clearBoot (o : Origin)
  | appWatchdog
  | clockMonitor (ppm : BitVec 16)
  | clockLoss (k : ClockLossKind)
  | vmainWarning (vmain : BitVec 16) (pfailLow : Bool)
  | warningEnd (vmain : BitVec 16)
  | hugoodFall
  | hugoodRise
  | vioLow (vio : BitVec 16)
  | scrubPass (corrected : Nat) (bad : Word)
  | dieTemperature (t : BitVec 16) (die : BitVec 3)
  | dieThermal
  | transportFail
  | transportExit
  | updStatus (q : Req)
  | updClaim (q : Req)
  | updRelease (q : Req)
  | updWrite (q : Req) (offset : Word) (data : List Byte)
  | updVerify (q : Req)
  | updActivate (q : Req) (imm : Bool) (acts : BitVec 48) (actn : Word)
  | updDiscard (q : Req)
  | updOffer (q : Req) (bid : BitVec 64) (version svn length : Word)
  | updFetch (q : Req) (bid : BitVec 64) (offset : Word) (len : BitVec 16)
  | updLoad (q : Req) (kind : Byte)
  | claim (o : Origin)
  | updateRelease (o : Origin)
  | verify (o : Origin)
  | activate (o : Origin)
  | discard (o : Origin)
  | disarm (o : Origin)
  | verificationDone (u : Unit)
  | updateLockTimeout
  | activation
  | marginMeasurement (i : Fin 42) (value : Word)
  | marginEvaluation
  | evaluate (o : Origin)
  | ctkReplaced (o : Origin) (pair : BitVec 4)
  | comparatorTrim (n : Fin 12)
  | mramRefresh (blocks : List RefreshBlock)
  | norRefresh (blocks : List RefreshBlock)
  | idcode
  | samplePreload (pattern : List Bool)
  | extest
  | clamp
  | highz
  | bypass (opcode : Byte)
  | jtagConditionLoss
  | testLogicReset (trstLow : Bool)
  | auth (step : AuthStep)
  | authLockoutEnd
  | dbgacc (wr : Bool) (a : Addr) (d : Word)
  | debugSessionTimeout
  | haltApp (o : Origin)
  | resumeApp (o : Origin)
  | assertReset (o : Origin)
  | releaseReset (o : Origin)
  | endSession (o : Origin)
  | gateDriverInputRelease (n : Fin 8)
  | vioRestored (vio : BitVec 16)
  | hostileWindowEnd (r : Fin 4)
  | partnerResetEnd
  | fetchResponse (lane : Fin 5) (offset : Word) (data : List Byte)
  | ageStatus (q : Req)
  | ageHistory (q : Req) (index : Byte) (fromDay : BitVec 16)
  | plantTimeRead (o : Origin) (what : TimeRead)
  deriving DecidableEq, Repr

end Sys2Proof
end

