-- ==== Sys2Proof/Machine/Num.lean ====
section
/-! DEFINITION. Number helpers: bit fields, bytes most significant first (R7), CRC-32C and CRC-16, rounding, and
IEEE 754 binary32 with round to nearest even (R332). -/

namespace Sys2Proof.Machine

/-- Bits [lo+width-1:lo] of a number. -/
def bitsOf (v lo width : Nat) : Nat := v / 2 ^ lo % 2 ^ width

/-- Bit n of a number. -/
def bitOf (v n : Nat) : Bool := v / 2 ^ n % 2 == 1

/-- `v` with bits [lo+width-1:lo] replaced by the low bits of `x`. -/
def putBits (v lo width x : Nat) : Nat :=
  v - bitsOf v lo width * 2 ^ lo + x % 2 ^ width * 2 ^ lo

/-- `v` with bit n made `b`. -/
def putBit (v n : Nat) (b : Bool) : Nat := putBits v n 1 (if b then 1 else 0)

/-- Number of bits set among the low `n` bits. -/
def popCount (n v : Nat) : Nat := ((List.range n).filter (fun k => bitOf v k)).length

/-- 1 for true. -/
def bitNat (b : Bool) : Nat := if b then 1 else 0

/-- A bit mask from the positions below `n` that satisfy `p`. -/
def maskOf (n : Nat) (p : Nat → Bool) : Nat :=
  (List.range n).foldl (fun m k => if p k then m + 2 ^ k else m) 0

/-- A `width`-bit two's complement field as an integer. -/
def toSigned (width v : Nat) : Int :=
  if v % 2 ^ width < 2 ^ (width - 1) then (v % 2 ^ width : Nat) else ((v % 2 ^ width : Nat) : Int) - 2 ^ width

/-- An integer as a `width`-bit two's complement field. -/
def ofSigned (width : Nat) (i : Int) : Nat := (i % (2 ^ width : Nat)).toNat

/-- An integer saturated to a signed `width`-bit field. -/
def satSigned (width : Nat) (i : Int) : Nat :=
  ofSigned width (max (-(2 : Int) ^ (width - 1)) (min ((2 : Int) ^ (width - 1) - 1) i))

/-- An integer saturated to an unsigned `width`-bit field. -/
def satNat (width : Nat) (i : Int) : Nat := min (2 ^ width - 1) i.toNat

/-- Most significant byte first (R7). -/
def beBytes : Nat → Nat → List Byte
  | 0, _ => []
  | n + 1, v => BitVec.ofNat 8 (v / 256 ^ n) :: beBytes n v

/-- The number that bytes spell, most significant first. -/
def ofBe (l : List Byte) : Nat := l.foldl (fun a b => a * 256 + b.toNat) 0

/-- Bytes `[off, off+n)` of a message as a number, missing bytes reading 0. -/
def beAt (l : List Byte) (off n : Nat) : Nat :=
  ofBe ((List.range n).map (fun k => l.getD (off + k) 0))

/-- One bit of a reflected CRC-32C division. -/
def crc32cBit (c : Nat) : Nat := if c % 2 = 1 then Nat.xor (c / 2) 0x82F63B78 else c / 2

/-- One byte of CRC-32C. -/
def crc32cByte (c : Nat) (b : Byte) : Nat :=
  (List.range 8).foldl (fun c _ => crc32cBit c) (Nat.xor c b.toNat)

/-- CRC-32C (Castagnoli) of a byte string. -/
def crc32c (l : List Byte) : Word :=
  BitVec.ofNat 32 (Nat.xor (l.foldl crc32cByte 0xFFFFFFFF) 0xFFFFFFFF)

/-- One byte of a CRC of 16 bits, polynomial 0x1021, most significant bit first. -/
def crc16Byte (c : Nat) (b : Byte) : Nat :=
  (List.range 8).foldl
    (fun c _ => if c ≥ 32768 then Nat.xor (c * 2 % 65536) 0x1021 else c * 2) (Nat.xor c (b.toNat * 256))

/-- CRC-16 with polynomial 0x1021 and initial value `init`. -/
def crc16 (init : Nat) (l : List Byte) : BitVec 16 := BitVec.ofNat 16 (l.foldl crc16Byte init)

/-- Floor of an exact number. -/
def ratFloor (q : Rat) : Int := q.num / (q.den : Int)

/-- Nearest integer, halves away from zero. -/
def ratRound (q : Rat) : Int :=
  if q ≥ 0 then ratFloor (q + 1 / 2) else - ratFloor (-q + 1 / 2)

/-- Nearest integer, halves to even. -/
def ratRoundEven (q : Rat) : Int :=
  let f := ratFloor q
  let r := q - f
  if r < 1 / 2 then f else if r > 1 / 2 then f + 1 else if f % 2 = 0 then f else f + 1

/-- `q` held to the range from `lo` to `hi`. -/
def ratClamp (lo hi q : Rat) : Rat := if q < lo then lo else if q > hi then hi else q

/-- Absolute value of an exact number. -/
def ratAbs (q : Rat) : Rat := if q < 0 then -q else q

/-! ### Square root, exponential, sine and cosine (log 7)

The rules name these functions and no precision. They are computed here to about 2^-100, far below every unit the
registers show; the exact cases (the root of a square of a power of two, a multiple of a quarter turn, the exponential of 0)
come out exact. -/

/-- Largest integer whose square is at most `n`. -/
def isqrt (n : Nat) : Nat :=
  (List.range (Nat.log2 n / 2 + 1)).reverse.foldl (fun r k => if (r + 2 ^ k) * (r + 2 ^ k) ≤ n then r + 2 ^ k else r) 0

/-- Square root of an exact number to 128 bits; 0 below 0. -/
def ratSqrt (q : Rat) : Rat :=
  if q ≤ 0 then 0 else
  (isqrt (q.num.toNat * q.den * 2 ^ 256) : Rat) / ((q.den * 2 ^ 128 : Nat) : Rat)

/-- The circle constant to 128 bits after the point. -/
def ratPi : Rat := ((0x3243F6A8885A308D313198A2E03707344 : Nat) : Rat) / ((2 ^ 128 : Nat) : Rat)

/-- One of fixed-point numbers with 128 bits after the point. -/
def fixOne : Int := 2 ^ 128

/-- Sum of the first `n` terms of a power series whose term `k + 1` is term `k` times `f k x`, in fixed point. -/
def fixSeries (f : Nat → Int) (n : Nat) : Int :=
  ((List.range n).foldl (fun (a : Int × Int) k => (a.1 + a.2, a.2 * f k / fixOne)) (0, fixOne)).1

/-- Exponential of an exact number, which is 0 below -64 and held to 64 above. -/
def ratExp (q : Rat) : Rat :=
  if q < -64 then 0 else
  let y : Int := ratFloor (min q 64 * 2 ^ 122)
  let e := fixSeries (fun k => y / ((k + 1 : Nat) : Int)) 40
  let r := (List.range 6).foldl (fun (a : Int) _ => a * a / fixOne) e
  (r : Rat) / (fixOne : Rat)

/-- Cosine and sine of a quarter turn's part, `u` of `fixOne`, in fixed point. -/
def fixQuarter (u : Int) : Int × Int :=
  let a := u * (0x3243F6A8885A308D313198A2E03707344 / 2) / fixOne
  let a2 := a * a / fixOne
  let c := fixSeries (fun k => -a2 / (((2 * k + 1) * (2 * k + 2) : Nat) : Int)) 20
  let s := fixSeries (fun k => -a2 / (((2 * k + 2) * (2 * k + 3) : Nat) : Int)) 20
  (c, a * s / fixOne)

/-- Cosine and sine of an angle given in turns. -/
def ratTurn (x : Rat) : Rat × Rat :=
  let t := x - ratFloor x
  let n := (ratFloor (4 * t)).toNat
  let p := fixQuarter (ratFloor ((4 * t - n) * fixOne))
  let c : Rat := (p.1 : Rat) / (fixOne : Rat)
  let s : Rat := (p.2 : Rat) / (fixOne : Rat)
  match n with
  | 0 => (c, s)
  | 1 => (-s, c)
  | 2 => (-c, -s)
  | _ => (s, -c)

/-- Cosine of an angle in turns. -/
def ratCos (x : Rat) : Rat := (ratTurn x).1

/-- Sine of an angle in turns. -/
def ratSin (x : Rat) : Rat := (ratTurn x).2

/-- 2 to an integer power. -/
def twoPow (e : Int) : Rat := if e ≥ 0 then ((2 ^ e.toNat : Nat) : Rat) else 1 / ((2 ^ (-e).toNat : Nat) : Rat)

/-- A binary32 word is a NaN. -/
def fpIsNan (w : Word) : Bool := bitsOf w.toNat 23 8 == 255 && bitsOf w.toNat 0 23 != 0

/-- A binary32 word is an infinity. -/
def fpIsInf (w : Word) : Bool := bitsOf w.toNat 23 8 == 255 && bitsOf w.toNat 0 23 == 0

/-- Sign bit of a binary32 word. -/
def fpNeg (w : Word) : Bool := bitOf w.toNat 31

/-- Value of a binary32 word; 0 for infinities and NaNs, which callers test first. -/
def fpVal (w : Word) : Rat :=
  let e := bitsOf w.toNat 23 8
  let m := bitsOf w.toNat 0 23
  if e = 255 then 0 else
  let mag : Rat := if e = 0 then (m : Rat) * twoPow (-149) else ((m + 2 ^ 23 : Nat) : Rat) * twoPow ((e : Int) - 150)
  if fpNeg w then -mag else mag

/-- The exponent `e` with `2^e ≤ q < 2^(e+1)`, for positive `q`. -/
def ratLog2 (q : Rat) : Int :=
  let e : Int := (Nat.log2 q.num.toNat : Int) - (Nat.log2 q.den : Int)
  if twoPow e ≤ q then (if twoPow (e + 1) ≤ q then e + 1 else e) else e - 1

/-- Magnitude bits of a non-negative number rounded to binary32, to nearest even; infinity past the range. -/
def fpMag (q : Rat) : Nat :=
  if q ≤ 0 then 0 else
  let ulp : Int := max (ratLog2 q - 23) (-149)
  let n := (ratRoundEven (q / twoPow ulp)).toNat
  min ((ulp + 149).toNat * 2 ^ 23 + n) 0x7F800000

/-- An exact number rounded once to binary32, to nearest even; 0 gives +0. -/
def fpOf (q : Rat) : Word :=
  if q < 0 then BitVec.ofNat 32 (2 ^ 31 + fpMag (-q)) else BitVec.ofNat 32 (fpMag q)

/-- The quiet NaN the model writes where an operation is invalid. -/
def fpNan : Word := 0x7FC00000

/-- Infinity of a sign. -/
def fpInf (neg : Bool) : Word := if neg then 0xFF800000 else 0x7F800000

/-- A zero of a sign. -/
def fpZero (neg : Bool) : Word := if neg then 0x80000000 else 0

/-- `a * b + c` with one rounding (IEEE 754 fused multiply-add). -/
def fpFma (a b c : Word) : Word :=
  if fpIsNan a || fpIsNan b || fpIsNan c then fpNan else
  let za := fpVal a == 0 && !fpIsInf a
  let zb := fpVal b == 0 && !fpIsInf b
  let pneg := fpNeg a != fpNeg b
  if (fpIsInf a && zb) || (fpIsInf b && za) then fpNan else
  if fpIsInf a || fpIsInf b then
    (if fpIsInf c && fpNeg c != pneg then fpNan else fpInf pneg)
  else if fpIsInf c then c else
  let r := fpVal a * fpVal b + fpVal c
  if r = 0 then
    (if (za || zb) && fpVal c == 0 then fpZero (pneg && fpNeg c) else fpZero false)
  else fpOf r

/-- The one of binary32. -/
def fpOne : Word := 0x3F800000

/-- Sum with one rounding. -/
def fpAdd (a b : Word) : Word := fpFma a fpOne b

/-- The word with its sign changed. -/
def fpNegate (w : Word) : Word := BitVec.ofNat 32 (if fpNeg w then w.toNat - 2 ^ 31 else w.toNat + 2 ^ 31)

/-- Difference with one rounding. -/
def fpSub (a b : Word) : Word := fpAdd a (fpNegate b)

/-- Product with one rounding. -/
def fpMul (a b : Word) : Word := fpFma a b (fpZero (fpNeg a != fpNeg b))

/-- `a < b` of two words, neither a NaN. -/
def fpLt (a b : Word) : Bool :=
  if fpIsNan a || fpIsNan b then false
  else if fpIsInf a then fpNeg a && !(fpIsInf b && fpNeg b)
  else if fpIsInf b then !fpNeg b
  else decide (fpVal a < fpVal b)

/-- The word held between two limits; a limit that is a NaN does not bind. -/
def fpClamp (lo hi x : Word) : Word := if fpLt x lo then lo else if fpLt hi x then hi else x

end Sys2Proof.Machine
end

