-- ==== Sys2Proof/Machine/Crypto.lean ====
section
/-! DEFINITION. The ciphers that rules name: AES-128 (R486), the AES-128-GCM tag over an empty plaintext under NIST SP 800-38D
(R482, R508) and SHA-384 (R677). -/

namespace Sys2Proof.Machine

/-! ### AES-128 -/

/-- The substitution table of AES, byte 0 least significant. -/
def aesTable : Nat :=
  0x16bb54b00f2d99416842e6bf0d89a18cdf2855cee9871e9b948ed9691198f8e19e1dc186b95735610ef6034866b53e708a8bbd4b1f74dde8c6b4a61c2e2578ba08ae7a65eaf4566ca94ed58d6d37c8e779e4959162acd3c25c2406490a3a32e0db0b5ede14b8ee4688902a22dc4f816073195d643d7ea7c41744975fec130ccdd2f3ff1021dab6bcf5389d928f40a351a89f3c507f02f94585334d43fbaaefd0cf584c4a39becb6a5bb1fc20ed00d153842fe329b3d63b52a05a6e1b1a2c830975b227ebe28012079a059618c323c7041531d871f1e5a534ccf73f362693fdb7c072a49cafa2d4adf04759fa7dc982ca76abd7fe2b670130c56f6bf27b777c63

/-- SubBytes of one byte. -/
def aesSub (b : Nat) : Nat := aesTable / 256 ^ b % 256

/-- A byte times x in the field of AES. -/
def aesTwice (b : Nat) : Nat := if b < 128 then 2 * b else Nat.xor (2 * b - 256) 0x1B

/-- ShiftRows of a state of 16 bytes, column by column. -/
def aesShift (l : List Nat) : List Nat := (List.range 16).map (fun i => l.getD (5 * i % 16) 0)

/-- MixColumns, one column after the other. -/
def aesMix : List Nat → List Nat
  | a :: b :: c :: d :: t =>
    let all := Nat.xor (Nat.xor a b) (Nat.xor c d)
    let one := fun (x y : Nat) => Nat.xor x (Nat.xor all (aesTwice (Nat.xor x y)))
    one a b :: one b c :: one c d :: one d a :: aesMix t
  | _ => []

/-- AddRoundKey. -/
def aesAdd (k l : List Nat) : List Nat := List.zipWith Nat.xor k l

/-- The next round key. -/
def aesNextKey (rc : Nat) (k : List Nat) : List Nat :=
  let w := fun (i : Nat) => (k.drop (4 * i)).take 4
  let turn := [Nat.xor (aesSub (k.getD 13 0)) rc, aesSub (k.getD 14 0), aesSub (k.getD 15 0), aesSub (k.getD 12 0)]
  let a := aesAdd (w 0) turn
  let b := aesAdd (w 1) a
  let c := aesAdd (w 2) b
  a ++ b ++ c ++ aesAdd (w 3) c

/-- The rounds after the first key addition; the last has no MixColumns. -/
def aesRounds : Nat → Nat → List Nat → List Nat → List Nat
  | 0, _, _, l => l
  | n + 1, rc, k, l =>
    let k' := aesNextKey rc k
    let x := aesShift (l.map aesSub)
    aesRounds n (aesTwice rc) k' (aesAdd k' (if n = 0 then x else aesMix x))

/-- The bytes of a 128-bit block, most significant first. -/
def blockBytes (x : Nat) : List Nat := (List.range 16).map (fun i => x / 256 ^ (15 - i) % 256)

/-- The block that bytes spell. -/
def blockOf (l : List Nat) : Nat := l.foldl (fun a b => a * 256 + b) 0

/-- AES-128 of one block. -/
def aes128 (key x : BitVec 128) : BitVec 128 :=
  let k := blockBytes key.toNat
  BitVec.ofNat 128 (blockOf (aesRounds 10 1 k (aesAdd k (blockBytes x.toNat))))

/-! ### The GCM tag -/

/-- The product of GHASH after `n` bits of `x`, most significant first: `z` gathered so far, `v` the shifted factor. -/
def ghashMul (x : Nat) : Nat → Nat → Nat → Nat
  | 0, z, _ => z
  | n + 1, z, v =>
    ghashMul x n (if bitOf x n then Nat.xor z v else z) (if v % 2 = 1 then Nat.xor (v / 2) (0xE1 * 2 ^ 120) else v / 2)

/-- Bytes in blocks of 16, the last filled up with 0; at most `n` blocks. -/
def ghashBlocks : Nat → List Byte → List Nat
  | 0, _ => []
  | n + 1, b => beAt b 0 16 :: ghashBlocks n (b.drop 16)

/-- GHASH of blocks under `h`. -/
def ghash (h : Nat) (l : List Nat) : Nat := l.foldl (fun y x => ghashMul (Nat.xor y x) 128 0 h) 0

/-- The AES-128-GCM tag of 128 bits over an empty plaintext, with a 96-bit IV (R482). -/
def gcmTag (key : BitVec 128) (iv : BitVec 96) (aad : List Byte) : BitVec 128 :=
  let blocks := ghashBlocks ((aad.length + 15) / 16) aad ++ [aad.length * 8 * 2 ^ 64]
  aes128 key (BitVec.ofNat 128 (iv.toNat * 2 ^ 32 + 1)) ^^^ BitVec.ofNat 128 (ghash (aes128 key 0).toNat blocks)

/-! ### SHA-384 -/

/-- Round constants of SHA-512, part 0. -/
def shaK0 : List Nat :=
  [0x428a2f98d728ae22, 0x7137449123ef65cd, 0xb5c0fbcfec4d3b2f, 0xe9b5dba58189dbbc,
   0x3956c25bf348b538, 0x59f111f1b605d019, 0x923f82a4af194f9b, 0xab1c5ed5da6d8118]

/-- Round constants of SHA-512, part 1. -/
def shaK1 : List Nat :=
  [0xd807aa98a3030242, 0x12835b0145706fbe, 0x243185be4ee4b28c, 0x550c7dc3d5ffb4e2,
   0x72be5d74f27b896f, 0x80deb1fe3b1696b1, 0x9bdc06a725c71235, 0xc19bf174cf692694]

/-- Round constants of SHA-512, part 2. -/
def shaK2 : List Nat :=
  [0xe49b69c19ef14ad2, 0xefbe4786384f25e3, 0x0fc19dc68b8cd5b5, 0x240ca1cc77ac9c65,
   0x2de92c6f592b0275, 0x4a7484aa6ea6e483, 0x5cb0a9dcbd41fbd4, 0x76f988da831153b5]

/-- Round constants of SHA-512, part 3. -/
def shaK3 : List Nat :=
  [0x983e5152ee66dfab, 0xa831c66d2db43210, 0xb00327c898fb213f, 0xbf597fc7beef0ee4,
   0xc6e00bf33da88fc2, 0xd5a79147930aa725, 0x06ca6351e003826f, 0x142929670a0e6e70]

/-- Round constants of SHA-512, part 4. -/
def shaK4 : List Nat :=
  [0x27b70a8546d22ffc, 0x2e1b21385c26c926, 0x4d2c6dfc5ac42aed, 0x53380d139d95b3df,
   0x650a73548baf63de, 0x766a0abb3c77b2a8, 0x81c2c92e47edaee6, 0x92722c851482353b]

/-- Round constants of SHA-512, part 5. -/
def shaK5 : List Nat :=
  [0xa2bfe8a14cf10364, 0xa81a664bbc423001, 0xc24b8b70d0f89791, 0xc76c51a30654be30,
   0xd192e819d6ef5218, 0xd69906245565a910, 0xf40e35855771202a, 0x106aa07032bbd1b8]

/-- Round constants of SHA-512, part 6. -/
def shaK6 : List Nat :=
  [0x19a4c116b8d2d0c8, 0x1e376c085141ab53, 0x2748774cdf8eeb99, 0x34b0bcb5e19b48a8,
   0x391c0cb3c5c95a63, 0x4ed8aa4ae3418acb, 0x5b9cca4f7763e373, 0x682e6ff3d6b2b8a3]

/-- Round constants of SHA-512, part 7. -/
def shaK7 : List Nat :=
  [0x748f82ee5defb2fc, 0x78a5636f43172f60, 0x84c87814a1f0ab72, 0x8cc702081a6439ec,
   0x90befffa23631e28, 0xa4506cebde82bde9, 0xbef9a3f7b2c67915, 0xc67178f2e372532b]

/-- Round constants of SHA-512, part 8. -/
def shaK8 : List Nat :=
  [0xca273eceea26619c, 0xd186b8c721c0c207, 0xeada7dd6cde0eb1e, 0xf57d4f7fee6ed178,
   0x06f067aa72176fba, 0x0a637dc5a2c898a6, 0x113f9804bef90dae, 0x1b710b35131c471b]

/-- Round constants of SHA-512, part 9. -/
def shaK9 : List Nat :=
  [0x28db77f523047d84, 0x32caab7b40c72493, 0x3c9ebe0a15c9bebc, 0x431d67c49c100d4c,
   0x4cc5d4becb3e42b6, 0x597f299cfc657e2a, 0x5fcb6fab3ad6faec, 0x6c44198c4a475817]

/-- The round constants of SHA-512 and SHA-384. -/
def shaK : List Nat :=
  shaK0 ++ shaK1 ++ shaK2 ++ shaK3 ++ shaK4 ++ shaK5 ++ shaK6 ++ shaK7 ++ shaK8 ++ shaK9

/-- The starting words of SHA-384. -/
def sha384Start : List Nat :=
  [0xcbbb9d5dc1059ed8, 0x629a292a367cd507, 0x9159015a3070dd17, 0x152fecd8f70e5939,
   0x67332667ffc00b31, 0x8eb44a8768581511, 0xdb0c2e0d64f98fa7, 0x47b5481dbefa4fa4]

/-- A 64-bit word turned right. -/
def turn64 (x n : Nat) : Nat := x / 2 ^ n + x % 2 ^ n * 2 ^ (64 - n)

/-- Three words added without carry. -/
def xor3 (a b c : Nat) : Nat := Nat.xor (Nat.xor a b) c

/-- The next words of the schedule, newest first. -/
def shaSchedule : Nat → List Nat → List Nat
  | 0, w => w
  | n + 1, w =>
    let a := w.getD 14 0
    let b := w.getD 1 0
    let low := xor3 (turn64 a 1) (turn64 a 8) (a / 2 ^ 7)
    let high := xor3 (turn64 b 19) (turn64 b 61) (b / 2 ^ 6)
    shaSchedule n ((w.getD 15 0 + low + w.getD 6 0 + high) % 2 ^ 64 :: w)

/-- One round over the eight working words. -/
def shaRound (v : List Nat) (kw : Nat) : List Nat :=
  let x := fun (i : Nat) => v.getD i 0
  let e := x 4
  let a := x 0
  let pick := Nat.xor (Nat.land e (x 5)) (Nat.land (2 ^ 64 - 1 - e) (x 6))
  let most := xor3 (Nat.land a (x 1)) (Nat.land a (x 2)) (Nat.land (x 1) (x 2))
  let t := x 7 + xor3 (turn64 e 14) (turn64 e 18) (turn64 e 41) + pick + kw
  let u := xor3 (turn64 a 28) (turn64 a 34) (turn64 a 39) + most
  [(t + u) % 2 ^ 64, a, x 1, x 2, (x 3 + t) % 2 ^ 64, e, x 5, x 6]

/-- One block of 128 bytes. -/
def shaBlock (h : List Nat) (b : List Byte) : List Nat :=
  let first := (List.range 16).foldl (fun w i => beAt b (8 * i) 8 :: w) []
  let w := (shaSchedule 64 first).reverse
  let v := (List.zipWith (· + ·) shaK w).foldl shaRound h
  List.zipWith (fun a b => (a + b) % 2 ^ 64) h v

/-- Blocks of a padded message; at most `n`. -/
def shaBlocks : Nat → List Nat → List Byte → List Nat
  | 0, h, _ => h
  | n + 1, h, b => shaBlocks n (shaBlock h (b.take 128)) (b.drop 128)

/-- SHA-384, its six words (R677). -/
def sha384 (b : List Byte) : List Nat :=
  let n := (b.length + 17 + 127) / 128
  let m := b ++ [0x80] ++ List.replicate (128 * n - 17 - b.length) 0 ++ beBytes 16 (8 * b.length)
  (shaBlocks n sha384Start m).take 6

/-- The first 8 bytes of the SHA-384 (R677). -/
def sha384Head (b : List Byte) : Nat := (sha384 b).headD 0

/-- The SHA-384 as one number. -/
def sha384Num (b : List Byte) : Nat := (sha384 b).foldl (fun a w => a * 2 ^ 64 + w) 0

/-! ### ECDSA over P-384 (FIPS 186-5) -/

/-- The prime of the field of P-384. -/
def p384Field : Nat := 2 ^ 384 - 2 ^ 128 - 2 ^ 96 + 2 ^ 32 - 1

/-- The order of the base point of P-384. -/
def p384Order : Nat :=
  0xFFFFFFFFFFFFFFFFFFFFFFFFFFFFFFFFFFFFFFFFFFFFFFFFC7634D81F4372DDF581A0DB248B0A77AECEC196ACCC52973

/-- The base point of P-384. -/
def p384Base : Nat × Nat :=
  (0xAA87CA22BE8B05378EB1C71EF320AD746E1D3B628BA79B9859F741E082542A385502F25DBF55296C3A545E3872760AB7,
   0x3617DE4A96262C6F5D9E98BF9292DC29F8F41DBD289A147CE9DA3113B5F0B8C00A60B1CE1D7E819D7A431D7C90EA0E5F)

/-- A power modulo `m`, with an exponent of 384 bits. -/
def powMod (m b e : Nat) : Nat :=
  (List.range 384).foldl (fun a i => if e / 2 ^ (383 - i) % 2 = 1 then a * a % m * b % m else a * a % m) 1

/-- The inverse modulo a prime. -/
def invMod (m a : Nat) : Nat := powMod m (a % m) (m - 2)

/-- The third point on the line of slope `l` through two points of P-384, mirrored. -/
def p384Third (l : Nat) (a b : Nat × Nat) : Nat × Nat :=
  let p := p384Field
  let x := (l * l + 2 * p - a.1 - b.1) % p
  (x, (l * (a.1 + p - x) + p - a.2) % p)

/-- The sum of two points of P-384, none being the point at infinity. -/
def p384Add : Option (Nat × Nat) → Option (Nat × Nat) → Option (Nat × Nat)
  | none, q => q
  | q, none => q
  | some a, some b =>
    let p := p384Field
    if a.1 ≠ b.1 then some (p384Third ((b.2 + p - a.2) * invMod p (b.1 + p - a.1) % p) a b)
    else if (a.2 + b.2) % p = 0 then none
    else some (p384Third ((3 * a.1 * a.1 + p - 3) * invMod p (2 * a.2) % p) a b)

/-- A multiple of a point of P-384. -/
def p384Mul (k : Nat) (q : Nat × Nat) : Option (Nat × Nat) :=
  (List.range 384).foldl (fun a i =>
    if k / 2 ^ (383 - i) % 2 = 1 then p384Add (p384Add a a) (some q) else p384Add a a) none

/-- A signature (r, s) over a message verifies under a public key: ECDSA P-384 with SHA-384 (R665, R719). -/
def ecdsaHolds (key : Nat × Nat) (m : List Byte) (r s : Nat) : Bool :=
  let n := p384Order
  decide (1 ≤ r ∧ r < n ∧ 1 ≤ s ∧ s < n) &&
    (let w := invMod n s
     match p384Add (p384Mul (sha384Num m * w % n) p384Base) (p384Mul (r * w % n) key) with
     | none => false
     | some x => x.1 % n == r)

end Sys2Proof.Machine
end

