-- ==== Sys2Proof/Machine/FaultTable.lean ====
section
/-! DEFINITION. The fault codes of R409, R453, R473, R522, R551, R582, R607, R629, R660, R685 and R697: name, mildest
class, scope; and which codes stand for an event (R731). Classes are coded by R415: 0 A, 1 B, 2 C, 3 D. -/

namespace Sys2Proof.Machine

/-- Scope of a fault code (R409). -/
inductive FaultScope where
  | string | pair | branch
  deriving DecidableEq, Repr

/-- A row of the fault-code tables. -/
structure FaultRow where
  code : Nat
  mildest : Nat
  scope : FaultScope
  deriving DecidableEq, Repr

/-- Codes 0x01 to 0x43 and FAULT_STORM (R409). -/
def faultRows1 : List FaultRow := [
  ⟨0x01, 1, .string⟩,
  ⟨0x02, 1, .string⟩,
  ⟨0x03, 0, .string⟩,
  ⟨0x04, 2, .string⟩,
  ⟨0x05, 1, .string⟩,
  ⟨0x06, 1, .string⟩,
  ⟨0x07, 2, .string⟩,
  ⟨0x08, 3, .string⟩,
  ⟨0x09, 3, .string⟩,
  ⟨0x10, 2, .string⟩,
  ⟨0x11, 2, .string⟩,
  ⟨0x12, 1, .string⟩,
  ⟨0x13, 2, .string⟩,
  ⟨0x14, 2, .string⟩,
  ⟨0x15, 1, .string⟩,
  ⟨0x16, 1, .string⟩,
  ⟨0x17, 2, .string⟩,
  ⟨0x18, 3, .string⟩,
  ⟨0x19, 2, .string⟩,
  ⟨0x1A, 2, .string⟩,
  ⟨0x1B, 3, .string⟩,
  ⟨0x1C, 3, .string⟩,
  ⟨0x20, 0, .string⟩,
  ⟨0x21, 2, .pair⟩]

/-- Fault codes, part 2. -/
def faultRows2 : List FaultRow := [
  ⟨0x22, 2, .pair⟩,
  ⟨0x23, 3, .string⟩,
  ⟨0x24, 3, .string⟩,
  ⟨0x25, 3, .branch⟩,
  ⟨0x26, 3, .string⟩,
  ⟨0x27, 3, .string⟩,
  ⟨0x30, 3, .string⟩,
  ⟨0x31, 3, .string⟩,
  ⟨0x32, 3, .string⟩,
  ⟨0x33, 3, .string⟩,
  ⟨0x34, 3, .string⟩,
  ⟨0x35, 3, .string⟩,
  ⟨0x36, 3, .string⟩,
  ⟨0x37, 3, .string⟩,
  ⟨0x38, 2, .branch⟩,
  ⟨0x39, 3, .string⟩,
  ⟨0x3A, 3, .string⟩,
  ⟨0x3B, 3, .string⟩,
  ⟨0x3C, 3, .string⟩,
  ⟨0x3D, 2, .string⟩,
  ⟨0x3E, 3, .string⟩,
  ⟨0x40, 3, .string⟩,
  ⟨0x41, 3, .string⟩,
  ⟨0x42, 3, .string⟩]

/-- Fault codes, part 3. -/
def faultRows3 : List FaultRow := [
  ⟨0x43, 3, .string⟩,
  ⟨0x60, 3, .string⟩,
  ⟨0x61, 3, .string⟩,
  ⟨0x62, 3, .string⟩,
  ⟨0x63, 0, .string⟩,
  ⟨0x64, 3, .string⟩,
  ⟨0x65, 3, .string⟩,
  ⟨0x70, 3, .string⟩,
  ⟨0x71, 3, .string⟩,
  ⟨0x72, 3, .string⟩,
  ⟨0x80, 3, .string⟩,
  ⟨0x81, 3, .string⟩,
  ⟨0x82, 3, .string⟩,
  ⟨0x83, 3, .string⟩,
  ⟨0x84, 3, .string⟩,
  ⟨0x90, 3, .string⟩,
  ⟨0x91, 3, .string⟩,
  ⟨0x92, 3, .string⟩,
  ⟨0xA0, 3, .string⟩,
  ⟨0xA1, 3, .string⟩,
  ⟨0xA2, 3, .string⟩,
  ⟨0xA3, 3, .string⟩,
  ⟨0xB0, 3, .string⟩,
  ⟨0xB1, 3, .string⟩]

/-- Fault codes, part 4. -/
def faultRows4 : List FaultRow := [
  ⟨0xB2, 3, .string⟩,
  ⟨0xB3, 3, .string⟩,
  ⟨0xB4, 3, .string⟩,
  ⟨0xB5, 3, .string⟩,
  ⟨0xB6, 3, .string⟩,
  ⟨0xB7, 1, .string⟩,
  ⟨0xC0, 3, .string⟩,
  ⟨0xC1, 3, .string⟩,
  ⟨0xC2, 3, .string⟩,
  ⟨0xD0, 1, .string⟩,
  ⟨0xD1, 3, .string⟩,
  ⟨0xD2, 3, .string⟩,
  ⟨0xD3, 3, .string⟩,
  ⟨0xD4, 3, .string⟩,
  ⟨0xD5, 3, .string⟩,
  ⟨0xE0, 3, .string⟩,
  ⟨0xE1, 3, .string⟩,
  ⟨0xE2, 3, .string⟩,
  ⟨0xE8, 3, .string⟩,
  ⟨0xE9, 3, .string⟩,
  ⟨0xEA, 3, .string⟩,
  ⟨0xF0, 0, .string⟩]

/-- Every fault code of the module. -/
def faultRows : List FaultRow := faultRows1 ++ faultRows2 ++ faultRows3 ++ faultRows4

/-- The row of a code, none for a reserved code. -/
def faultRow (code : Nat) : Option FaultRow := faultRows.find? (fun r => r.code == code)

end Sys2Proof.Machine

namespace Sys2Proof.Flt

/-- Fault code CMP_TRIP. -/
def CMP_TRIP : Nat := 0x01
/-- Fault code GATE_DRIVER_FAULT. -/
def GATE_DRIVER_FAULT : Nat := 0x02
/-- Fault code SAFETY_STOP0. -/
def SAFETY_STOP0 : Nat := 0x03
/-- Fault code SAFETY_STOP1. -/
def SAFETY_STOP1 : Nat := 0x04
/-- Fault code RING_ALARM. -/
def RING_ALARM : Nat := 0x05
/-- Fault code LOOP_OVERRUN. -/
def LOOP_OVERRUN : Nat := 0x06
/-- Fault code GONG. -/
def GONG : Nat := 0x07
/-- Fault code LOOP_NAN. -/
def LOOP_NAN : Nat := 0x08
/-- Fault code CONV_START_FAIL. -/
def CONV_START_FAIL : Nat := 0x09
/-- Fault code ISTR_OC. -/
def ISTR_OC : Nat := 0x10
/-- Fault code IBR_OC. -/
def IBR_OC : Nat := 0x11
/-- Fault code IPH_OC. -/
def IPH_OC : Nat := 0x12
/-- Fault code VBUS_LIMIT. -/
def VBUS_LIMIT : Nat := 0x13
/-- Fault code VSTR_LIMIT. -/
def VSTR_LIMIT : Nat := 0x14
/-- Fault code VFC_DEV. -/
def VFC_DEV : Nat := 0x15
/-- Fault code CELL_OV. -/
def CELL_OV : Nat := 0x16
/-- Fault code CELL_UV. -/
def CELL_UV : Nat := 0x17
/-- Fault code KIRCHHOFF. -/
def KIRCHHOFF : Nat := 0x18
/-- Fault code ADC_REF. -/
def ADC_REF : Nat := 0x19
/-- Fault code INSULATION_LOW. -/
def INSULATION_LOW : Nat := 0x1A
/-- Fault code ISO_WARN. -/
def ISO_WARN : Nat := 0x1B
/-- Fault code ISO_MONITOR_FAIL. -/
def ISO_MONITOR_FAIL : Nat := 0x1C
/-- Fault code CTK_WELD. -/
def CTK_WELD : Nat := 0x20
/-- Fault code CTK_NOCLOSE. -/
def CTK_NOCLOSE : Nat := 0x21
/-- Fault code CTK_DROPOUT. -/
def CTK_DROPOUT : Nat := 0x22
/-- Fault code CTK_SAFETY_OPEN. -/
def CTK_SAFETY_OPEN : Nat := 0x23
/-- Fault code PRECHARGE_FAIL. -/
def PRECHARGE_FAIL : Nat := 0x24
/-- Fault code BRANCH_NOJOIN. -/
def BRANCH_NOJOIN : Nat := 0x25
/-- Fault code CTK_HOLDOVER_LOST. -/
def CTK_HOLDOVER_LOST : Nat := 0x26
/-- Fault code CTK_BREAK_LOAD. -/
def CTK_BREAK_LOAD : Nat := 0x27
/-- Fault code SUP_MISSING. -/
def SUP_MISSING : Nat := 0x30
/-- Fault code RING_BREAK. -/
def RING_BREAK : Nat := 0x31
/-- Fault code RING_SPLIT. -/
def RING_SPLIT : Nat := 0x32
/-- Fault code RING_HEAL_FAILED. -/
def RING_HEAL_FAILED : Nat := 0x33
/-- Fault code SUP_SILENT. -/
def SUP_SILENT : Nat := 0x34
/-- Fault code SUP_HOSTILE. -/
def SUP_HOSTILE : Nat := 0x35
/-- Fault code RING_HOSTILE. -/
def RING_HOSTILE : Nat := 0x36
/-- Fault code ALARM_UNATTRIBUTED. -/
def ALARM_UNATTRIBUTED : Nat := 0x37
/-- Fault code CELL_UNMON. -/
def CELL_UNMON : Nat := 0x38
/-- Fault code BLEED_STUCK. -/
def BLEED_STUCK : Nat := 0x39
/-- Fault code BLEED_LEDGER_GAP. -/
def BLEED_LEDGER_GAP : Nat := 0x3A
/-- Fault code TEMP_SENSOR. -/
def TEMP_SENSOR : Nat := 0x3B
/-- Fault code TEMP_NONE. -/
def TEMP_NONE : Nat := 0x3C
/-- Fault code CELL_OT. -/
def CELL_OT : Nat := 0x3D
/-- Fault code CHILLER_LOST. -/
def CHILLER_LOST : Nat := 0x3E
/-- Fault code LD_TORN. -/
def LD_TORN : Nat := 0x40
/-- Fault code LD_NONE. -/
def LD_NONE : Nat := 0x41
/-- Fault code MAP_CONFLICT. -/
def MAP_CONFLICT : Nat := 0x42
/-- Fault code SUP_EXTRA. -/
def SUP_EXTRA : Nat := 0x43
/-- Fault code SFI_DISCREPANCY. -/
def SFI_DISCREPANCY : Nat := 0x60
/-- Fault code SFI_INPUT_FAULT. -/
def SFI_INPUT_FAULT : Nat := 0x61
/-- Fault code SFI_OUTPUT_FAULT. -/
def SFI_OUTPUT_FAULT : Nat := 0x62
/-- Fault code SFI_ISLAND_FAULT. -/
def SFI_ISLAND_FAULT : Nat := 0x63
/-- Fault code SFI_HANDOVER_FAIL. -/
def SFI_HANDOVER_FAIL : Nat := 0x64
/-- Fault code SFI_CONFIRM_LOST. -/
def SFI_CONFIRM_LOST : Nat := 0x65
/-- Fault code SCL_CONN_FAIL. -/
def SCL_CONN_FAIL : Nat := 0x70
/-- Fault code SCL_PARAM_MISMATCH. -/
def SCL_PARAM_MISMATCH : Nat := 0x71
/-- Fault code SCL_DISAGREE. -/
def SCL_DISAGREE : Nat := 0x72
/-- Fault code FAB_LINK_DOWN. -/
def FAB_LINK_DOWN : Nat := 0x80
/-- Fault code FAB_ADDR_CONFLICT. -/
def FAB_ADDR_CONFLICT : Nat := 0x81
/-- Fault code FAB_STALL. -/
def FAB_STALL : Nat := 0x82
/-- Fault code FAB_HOSTILE. -/
def FAB_HOSTILE : Nat := 0x83
/-- Fault code DISPATCH_LOST. -/
def DISPATCH_LOST : Nat := 0x84
/-- Fault code TIME_UNSYNC. -/
def TIME_UNSYNC : Nat := 0x90
/-- Fault code TIME_STEP. -/
def TIME_STEP : Nat := 0x91
/-- Fault code TIME_SWITCH. -/
def TIME_SWITCH : Nat := 0x92
/-- Fault code CAN_BUS_OFF. -/
def CAN_BUS_OFF : Nat := 0xA0
/-- Fault code CAN_ERROR_PASSIVE. -/
def CAN_ERROR_PASSIVE : Nat := 0xA1
/-- Fault code CAN_COLLISION_HOLD. -/
def CAN_COLLISION_HOLD : Nat := 0xA2
/-- Fault code CAN_FAILOVER. -/
def CAN_FAILOVER : Nat := 0xA3
/-- Fault code TWIN_PARTNER_LOST. -/
def TWIN_PARTNER_LOST : Nat := 0xB0
/-- Fault code TWIN_TAKEOVER. -/
def TWIN_TAKEOVER : Nat := 0xB1
/-- Fault code TWIN_HANDOVER. -/
def TWIN_HANDOVER : Nat := 0xB2
/-- Fault code TWIN_MISMATCH. -/
def TWIN_MISMATCH : Nat := 0xB3
/-- Fault code TWIN_CONFIG. -/
def TWIN_CONFIG : Nat := 0xB4
/-- Fault code TWIN_PARTNER_RESET. -/
def TWIN_PARTNER_RESET : Nat := 0xB5
/-- Fault code TWIN_PARTNER_POWER. -/
def TWIN_PARTNER_POWER : Nat := 0xB6
/-- Fault code TWIN_OWNERSHIP. -/
def TWIN_OWNERSHIP : Nat := 0xB7
/-- Fault code LOG_MEDIA_FAULT. -/
def LOG_MEDIA_FAULT : Nat := 0xC0
/-- Fault code LOG_HOLD_FULL. -/
def LOG_HOLD_FULL : Nat := 0xC1
/-- Fault code LOG_INTAKE_OVERFLOW. -/
def LOG_INTAKE_OVERFLOW : Nat := 0xC2
/-- Fault code CLK_FAIL. -/
def CLK_FAIL : Nat := 0xD0
/-- Fault code PWR_WARN. -/
def PWR_WARN : Nat := 0xD1
/-- Fault code DIE_WARN. -/
def DIE_WARN : Nat := 0xD2
/-- Fault code VIO_LOW. -/
def VIO_LOW : Nat := 0xD3
/-- Fault code RET_LOST. -/
def RET_LOST : Nat := 0xD4
/-- Fault code TRANSPORT_FAIL. -/
def TRANSPORT_FAIL : Nat := 0xD5
/-- Fault code UPD_REJECTED. -/
def UPD_REJECTED : Nat := 0xE0
/-- Fault code UPD_ROLLBACK. -/
def UPD_ROLLBACK : Nat := 0xE1
/-- Fault code UPD_INCOMPAT. -/
def UPD_INCOMPAT : Nat := 0xE2
/-- Fault code AGE_MARGIN_LOW. -/
def AGE_MARGIN_LOW : Nat := 0xE8
/-- Fault code AGE_MARGIN_OUT. -/
def AGE_MARGIN_OUT : Nat := 0xE9
/-- Fault code AGE_REFRESH_FAIL. -/
def AGE_REFRESH_FAIL : Nat := 0xEA
/-- Fault code FAULT_STORM. -/
def FAULT_STORM : Nat := 0xF0

/-- Codes that R731 names as events. -/
def events : List Nat := [
  TIME_STEP,
  TIME_SWITCH,
  CTK_NOCLOSE,
  CTK_DROPOUT,
  CTK_SAFETY_OPEN,
  PRECHARGE_FAIL,
  BRANCH_NOJOIN,
  CTK_HOLDOVER_LOST,
  CTK_BREAK_LOAD,
  CONV_START_FAIL,
  LOOP_OVERRUN,
  GONG,
  RING_BREAK,
  RING_HEAL_FAILED,
  RING_HOSTILE,
  ALARM_UNATTRIBUTED,
  SUP_MISSING,
  SUP_EXTRA,
  MAP_CONFLICT,
  BLEED_STUCK,
  BLEED_LEDGER_GAP,
  LD_TORN,
  LD_NONE]

end Sys2Proof.Flt
end

