-- ==== Sys2Proof/Machine/Balls.lean ====
section
/-! DEFINITION. Signal balls and their boundary cells (R700, R702, R717). -/

namespace Sys2Proof.Machine

/-- A ball's boundary cell: none, that of an input, one that only observes an output, or one that drives the ball as well
(R717). -/
inductive CellKind where
  | none | input | observes | drives
  deriving DecidableEq, Repr

/-- Kinds of signal ball, as far as R702 and R717 tell them apart: LVCMOS inputs, LVCMOS balls that can drive, the safety island's
outputs, XSEL, the TAP, and differential, analog and oscillator balls. -/
inductive BallKind where
  | input | output | safetyOut | strap | tap | analog
  deriving DecidableEq, Repr

/-- Every LVCMOS signal ball has a cell, but for XSEL and the TAP; the safety island's output cells only observe; differential,
analog and oscillator balls have none (R717). -/
def BallKind.cell : BallKind → CellKind
  | .input => .input
  | .output => .drives
  | .safetyOut => .observes
  | .strap => .none
  | .tap => .none
  | .analog => .none

/-- A run of balls with rising numbers, and a suffix. -/
def ballRun (k : BallKind) (pre : String) (n : Nat) (post : List String) (from_ : Nat := 0) : List (String × BallKind) :=
  (List.range n).flatMap (fun i => post.map (fun x => (pre ++ toString (from_ + i) ++ x, k)))

/-- Balls of one kind by name. -/
def ballNames (k : BallKind) (l : List String) : List (String × BallKind) := l.map (fun x => (x, k))

/-- Signal balls of rows A to D in the order of the ball map (R700, R702). -/
def ballsUpper : List (String × BallKind) :=
  ballRun .output "PWM_OUT" 16 [""] ++ ballRun .input "GDFLT" 8 ["_N"] ++ ballNames .input ["OWN_IN"] ++
  ballNames .output ["OWN_OUT", "PARTNER_RST_N", "PARTNER_PWR_EN"] ++ ballNames .input ["RESET_N", "PFAIL_N"] ++
  ballNames .strap ["XSEL"] ++ ballRun .output "CTK_DRV" 20 [""] ++ ballRun .input "CTK_AUX" 10 [""] ++
  ballNames .output ["ISO_INJ", "IRQ_N"] ++ ballNames .input ["HOST_CS_N", "HOST_SCK"] ++ ballRun .output "HOST_IO" 2 [""]

/-- Signal balls of rows E to H (R700, R702). -/
def ballsMiddle : List (String × BallKind) :=
  ballRun .output "HOST_IO" 2 [""] 2 ++ ballRun .output "TPO" 8 [""] ++ ballNames .output ["CANA_TX"] ++
  ballNames .input ["CANA_RX"] ++ ballNames .output ["CANB_TX"] ++ ballNames .input ["CANB_RX"] ++
  ballRun .input "SFI_IN" 8 ["_A", "_B"] ++ ballNames .safetyOut ["SFI_TPA", "SFI_TPB"] ++
  ballRun .safetyOut "SFI_OUT" 4 ["_A", "_B"] ++ ballRun .input "SFI_RB" 4 ["_A", "_B"] ++
  ballNames .tap ["TCK", "TMS", "TDI", "TDO", "TRST_N"] ++ ballRun .output "TMX_D" 4 [""] ++
  ballNames .analog ["TMX_A", "XTAL_IN", "XTAL_OUT", "XT32_IN", "XT32_OUT"]

/-- Signal balls of rows M to W (R700, R702). -/
def ballsLower : List (String × BallKind) :=
  ballRun .analog "FAB" 4 ["_TX_P", "_TX_N", "_RX_P", "_RX_N"] ++
  ballNames .analog ["TWIN_TX_P", "TWIN_TX_N", "TWIN_RX_P", "TWIN_RX_N", "ADC_REFIO"] ++
  (["SRA", "SRB", "SRC", "SRD"].flatMap (fun r =>
    ["_NTX_P", "_NTX_N", "_NRX_P", "_NRX_N", "_STX_P", "_STX_N", "_SRX_P", "_SRX_N"].map (fun x => (r ++ x, BallKind.analog)))) ++
  ballRun .analog "AIN" 24 ["_P", "_N"]

/-- The signal balls of the ball map (R700). -/
def signalBalls : List (String × BallKind) := ballsUpper ++ ballsMiddle ++ ballsLower

/-- The boundary cells in the order of the ball map (R717; the order is a DESIGN CHOICE, log 32). -/
def boundaryCells : List (String × CellKind) :=
  (signalBalls.map (fun b => (b.1, b.2.cell))).filter (fun c => c.2 != CellKind.none)

/-- What a preloaded pattern gives the balls whose cells drive (R717). -/
def driveCells (pattern : List Bool) : List (String × Bool) :=
  ((boundaryCells.zip pattern).filter (fun x => x.1.2 == CellKind.drives)).map (fun x => (x.1.1, x.2))

/-- Balls that boundary cells can drive (R717). -/
def drivenBalls : List String := (boundaryCells.filter (fun c => c.2 == CellKind.drives)).map (fun c => c.1)

end Sys2Proof.Machine
end

