-- ==== Sys2Proof/Config.lean ====
section
/-! DEFINITION. What one module fixes and what the spec leaves open: constants with no body, so that no proof can see
their value (log 2, log 4, log 6, log 7). -/

namespace Sys2Proof.Config

/-- The n-th free word the machine draws, for a value the spec leaves open (log 4). -/
opaque freeWord : Nat → Word

/-- The n-th free exact number, for a value the spec leaves open (log 4). -/
opaque freeRat : Nat → Rat

/-- The n-th fresh random 128-bit value: session and debug challenges, nonces (log 6). -/
opaque freeNonce : Nat → BitVec 128

/-- Public keys of the images by KEYID, fused: a point of P-384 (R665; log 2). -/
opaque bundleKey : Nat → Nat × Nat

/-- Public debug key, fused (R719; log 2). -/
opaque debugKey : Nat × Nat

/-- VAON in mV as `PWR_VAON` measures it at an instant in ns (log 4). -/
opaque vaon : Nat → BitVec 16

/-- Module UID, fused (R492, `FAB_UID`, `DEV_UID`; log 2). -/
opaque moduleUid : BitVec 64

/-- MAC address of lane n, fused (`FPn_MAC`; log 2). -/
opaque laneMac : Nat → BitVec 64

/-- `DEV_ORDER.RANGE`: true for -SX (log 2). -/
opaque orderSx : Bool

/-- Level of the XSEL strap (R647; log 2). -/
opaque xsel : Bool

/-- Fused role key of Sahric Service (R508; log 2). -/
opaque serviceKey : BitVec 128

/-- Users of a 64 KiB block of the retained SRAM: cell table, learned state, intake, holding buffer, last-gasp area,
over-temperature latch, bleed ledger (R655; log 2). -/
opaque retains : Nat → Fin 7 → Bool

/-- The number that an infinite or not-a-number word counts for where the spec states none (log 7). -/
opaque nonFinite : BitVec 32 → Rat

/-- A quotient by 0, by its dividend, where the spec states none (log 7). -/
opaque divZero : Rat → Rat

end Sys2Proof.Config
end

