-- ==== Sys2Proof/Machine/RegMap.lean ====
section
/-! DEFINITION. The register map: every page of R31, every register of the chapters with its class, access, write
mask, reset value and the written values that read back as another (R33, R35, R41, and the register tables of each
chapter). Addresses stand in `Sys2Proof.Reg`, named fields in `Sys2Proof.Fld`, IRQ bits in `Sys2Proof.Irq`. -/

namespace Sys2Proof.Machine

/-- Field classes of R8: live, shadowed, frozen; `none` for words without a class (read only). -/
inductive RegClass where
  | live | shadow | frozen | none
  deriving DecidableEq, Repr

/-- Access codes (Scope of this manual): read and write, read only, write only, write 1 to clear. -/
inductive Access where
  | rw | ro | wo | w1c
  deriving DecidableEq, Repr

/-- A written field value from `from_` to `to_` is stored as `repl`. -/
structure Readback where
  lo : Nat
  width : Nat
  from_ : Nat
  to_ : Nat
  repl : Nat
  deriving DecidableEq, Repr

/-- One row of a register table: `count` items, `stride` bytes apart, of `words` words each. -/
structure Row where
  off : Nat
  count : Nat
  stride : Nat
  words : Nat
  cls : RegClass
  acc : Access
  mask : Nat
  reset : Nat
  back : List Readback
  deriving DecidableEq, Repr

/-- A named bit field of the word at `addr`. -/
structure RegField where
  addr : Nat
  lo : Nat
  width : Nat
  deriving DecidableEq, Repr

/-- The pages of R31 in index order: base address, register table, PID.VERSION and PID.INSTANCE (R36). -/
inductive PageKind where
  | dev | rst | clk | pwr | aon | hst | sr | srq | chm | est | bal | thm | pwm | lpe | prt | ctk | adc | iso | flt | sfi | scl | fab | fp | tim | tpo | cn | twn | evr | aud | upd | age | dbg | tmx
  deriving DecidableEq, Repr

/-- Block registers of the DEV page. -/
def rowsDEV : List Row := [
  ⟨0x040, 1, 4, 1, .live, .ro, 0x00000000, 0x00000001, []⟩,
  ⟨0x044, 1, 4, 1, .live, .ro, 0x00000000, 0x00000000, []⟩,
  ⟨0x048, 1, 4, 2, .live, .ro, 0x00000000, 0x00000000, []⟩]

/-- Block registers of the RST page. -/
def rowsRST : List Row := [
  ⟨0x004, 1, 4, 1, .none, .ro, 0x00000000, 0x00000410, []⟩,
  ⟨0x040, 1, 4, 1, .live, .ro, 0x00000000, 0x00000000, []⟩,
  ⟨0x044, 1, 4, 1, .live, .ro, 0x00000000, 0x00000001, []⟩,
  ⟨0x048, 1, 4, 1, .live, .ro, 0x00000000, 0xFFD5BF44, []⟩,
  ⟨0x04C, 1, 4, 1, .live, .ro, 0x00000000, 0x00000004, []⟩,
  ⟨0x050, 1, 4, 1, .live, .rw, 0xFFFFFFFF, 0x00000000, []⟩,
  ⟨0x054, 1, 4, 1, .live, .rw, 0x0000000F, 0x00000000, []⟩,
  ⟨0x058, 1, 4, 1, .live, .wo, 0xFFFF0003, 0x00000000, []⟩,
  ⟨0x05C, 1, 4, 1, .live, .ro, 0x00000000, 0x00000000, []⟩,
  ⟨0x060, 1, 4, 1, .live, .wo, 0x00000001, 0x00000000, []⟩,
  ⟨0x064, 1, 4, 1, .live, .wo, 0x0000000F, 0x00000000, []⟩,
  ⟨0x068, 1, 4, 1, .live, .ro, 0x00000000, 0x00000000, []⟩]

/-- Block registers of the CLK page. -/
def rowsCLK : List Row := [
  ⟨0x004, 1, 4, 1, .none, .ro, 0x00000000, 0x00000005, []⟩,
  ⟨0x040, 1, 4, 1, .live, .ro, 0x00000000, 0x00000000, []⟩,
  ⟨0x044, 1, 4, 1, .live, .ro, 0x00000000, 0x00000000, []⟩,
  ⟨0x048, 1, 4, 1, .live, .ro, 0x00000000, 0x00000007, []⟩]

/-- Block registers of the PWR page. -/
def rowsPWR : List Row := [
  ⟨0x004, 1, 4, 1, .none, .ro, 0x00000000, 0x00000003, []⟩,
  ⟨0x040, 1, 4, 1, .shadow, .rw, 0xFFFFFFFF, 0x119411F8, []⟩,
  ⟨0x044, 1, 4, 1, .shadow, .rw, 0x0000FFFF, 0x00000032, [⟨0, 16, 0, 0, 1⟩, ⟨0, 16, 1001, 65535, 1000⟩]⟩,
  ⟨0x048, 1, 4, 1, .shadow, .rw, 0x0000FFFF, 0x000004B0, [⟨0, 16, 0, 899, 900⟩, ⟨0, 16, 1301, 65535, 1300⟩]⟩,
  ⟨0x04C, 1, 4, 1, .live, .ro, 0x00000000, 0x00000000, []⟩,
  ⟨0x050, 1, 4, 1, .live, .ro, 0x00000000, 0x00000000, []⟩,
  ⟨0x054, 1, 4, 1, .live, .ro, 0x00000000, 0x00000000, []⟩,
  ⟨0x058, 1, 4, 1, .live, .ro, 0x00000000, 0x03200320, []⟩,
  ⟨0x05C, 1, 4, 1, .live, .ro, 0x00000000, 0x00000000, []⟩]

/-- Block registers of the AON page. -/
def rowsAON : List Row := [
  ⟨0x004, 1, 4, 1, .none, .ro, 0x00000000, 0x00000800, []⟩,
  ⟨0x040, 1, 4, 1, .live, .ro, 0x00000000, 0x00000000, []⟩,
  ⟨0x044, 1, 4, 1, .live, .ro, 0x00000000, 0x00000000, []⟩,
  ⟨0x048, 1, 4, 1, .live, .ro, 0x00000000, 0x00000000, []⟩,
  ⟨0x04C, 1, 4, 1, .live, .ro, 0x00000000, 0x00000000, []⟩,
  ⟨0x050, 1, 4, 1, .live, .ro, 0x00000000, 0x00000000, []⟩]

/-- Block registers of the HST page. -/
def rowsHST : List Row := [
  ⟨0x040, 1, 4, 1, .live, .rw, 0x00000007, 0x00000002, []⟩,
  ⟨0x044, 1, 4, 1, .live, .ro, 0x00000000, 0x00000000, []⟩,
  ⟨0x048, 1, 4, 1, .live, .ro, 0x00000000, 0x00000000, []⟩,
  ⟨0x04C, 1, 4, 1, .live, .ro, 0x00000000, 0x00000000, []⟩,
  ⟨0x050, 1, 4, 1, .live, .rw, 0xFFFFFFFF, 0x00000000, []⟩,
  ⟨0x054, 1, 4, 1, .live, .rw, 0x000001FF, 0x00000000, []⟩,
  ⟨0x058, 1, 4, 1, .live, .ro, 0x00000000, 0x00000000, []⟩,
  ⟨0x05C, 1, 4, 1, .live, .ro, 0x00000000, 0x00000000, []⟩,
  ⟨0x060, 1, 4, 1, .live, .wo, 0x000007FF, 0x00000000, []⟩,
  ⟨0x064, 1, 4, 1, .live, .ro, 0x00000000, 0x00000000, []⟩,
  ⟨0x100, 256, 4, 1, .live, .rw, 0xFFFFFFFF, 0x00000000, []⟩,
  ⟨0x500, 256, 4, 1, .live, .ro, 0x00000000, 0x00000000, []⟩]

/-- Block registers of the SR pages. -/
def rowsSR : List Row := [
  ⟨0x004, 1, 4, 1, .none, .ro, 0x00000000, 0x00011020, []⟩,
  ⟨0x040, 1, 4, 1, .frozen, .rw, 0x00000F3F, 0x00000320, [⟨0, 6, 0, 0, 32⟩, ⟨0, 6, 33, 63, 32⟩]⟩,
  ⟨0x044, 1, 4, 1, .live, .ro, 0x00000000, 0x00000000, []⟩,
  ⟨0x048, 1, 4, 1, .live, .ro, 0x00000000, 0x00001000, []⟩,
  ⟨0x04C, 1, 4, 1, .live, .ro, 0x00000000, 0x00000000, []⟩,
  ⟨0x050, 1, 4, 1, .live, .ro, 0x00000000, 0x00000000, []⟩,
  ⟨0x054, 1, 4, 1, .live, .ro, 0x00000000, 0x00000000, []⟩,
  ⟨0x058, 1, 4, 1, .live, .ro, 0x00000000, 0x00000000, []⟩,
  ⟨0x05C, 1, 4, 1, .live, .ro, 0x00000000, 0x00000000, []⟩,
  ⟨0x060, 1, 4, 1, .shadow, .rw, 0x0000FFFF, 0x000007D0, [⟨0, 16, 0, 499, 500⟩, ⟨0, 16, 20001, 65535, 20000⟩]⟩,
  ⟨0x064, 1, 4, 1, .shadow, .rw, 0x0000FF03, 0x00006402, []⟩,
  ⟨0x068, 1, 4, 1, .shadow, .rw, 0x0000FFFF, 0x000003E8, []⟩,
  ⟨0x06C, 1, 4, 1, .live, .wo, 0x00003F0F, 0x00000000, []⟩,
  ⟨0x070, 1, 4, 1, .live, .ro, 0x00000000, 0x00000000, []⟩,
  ⟨0x080, 1, 4, 1, .live, .ro, 0x00000000, 0x00000000, []⟩,
  ⟨0x084, 1, 4, 1, .live, .ro, 0x00000000, 0x00000000, []⟩,
  ⟨0x088, 1, 4, 1, .live, .ro, 0x00000000, 0x00000000, []⟩,
  ⟨0x08C, 1, 4, 1, .live, .ro, 0x00000000, 0x00000000, []⟩,
  ⟨0x090, 1, 4, 1, .live, .ro, 0x00000000, 0x00000000, []⟩,
  ⟨0x094, 1, 4, 1, .live, .ro, 0x00000000, 0x00000000, []⟩,
  ⟨0x098, 1, 4, 1, .live, .ro, 0x00000000, 0x00000000, []⟩,
  ⟨0x09C, 1, 4, 1, .live, .ro, 0x00000000, 0x00000000, []⟩,
  ⟨0x100, 64, 4, 1, .frozen, .rw, 0xFFFFFFFF, 0x00000000, []⟩,
  ⟨0x200, 64, 4, 1, .live, .ro, 0x00000000, 0x00000000, []⟩,
  ⟨0x300, 32, 4, 1, .live, .ro, 0x00000000, 0x00000000, []⟩,
  ⟨0x380, 32, 4, 1, .frozen, .rw, 0x01FF07FF, 0x00000000, []⟩]

/-- Block registers of the SRQ page. -/
def rowsSRQ : List Row := [
  ⟨0x004, 1, 4, 1, .none, .ro, 0x00000000, 0x20000004, []⟩,
  ⟨0x040, 1, 4, 1, .frozen, .rw, 0x0000FF1F, 0x0000011F, [⟨8, 8, 0, 0, 1⟩, ⟨8, 8, 61, 255, 60⟩]⟩,
  ⟨0x044, 1, 4, 1, .frozen, .rw, 0x0000FFFF, 0x00001F40, [⟨0, 16, 0, 6999, 7000⟩, ⟨0, 16, 20001, 65535, 20000⟩]⟩,
  ⟨0x048, 1, 4, 1, .shadow, .rw, 0x0000FFFF, 0x00001F40, [⟨0, 16, 0, 999, 1000⟩, ⟨0, 16, 9001, 65535, 9000⟩]⟩,
  ⟨0x04C, 1, 4, 1, .live, .ro, 0x00000000, 0x00000000, []⟩,
  ⟨0x050, 1, 4, 2, .live, .ro, 0x00000000, 0x00000000, []⟩,
  ⟨0x058, 1, 4, 1, .live, .ro, 0x00000000, 0x00000000, []⟩,
  ⟨0x060, 1, 4, 1, .live, .ro, 0x00000000, 0x00000000, []⟩,
  ⟨0x064, 1, 4, 1, .live, .ro, 0x00000000, 0x00000000, []⟩,
  ⟨0x068, 1, 4, 1, .live, .ro, 0x00000000, 0x00000000, []⟩,
  ⟨0x06C, 1, 4, 1, .live, .ro, 0x00000000, 0x00000000, []⟩,
  ⟨0x100, 4, 32, 1, .frozen, .rw, 0x13FF0000, 0x00800000, []⟩,
  ⟨0x104, 4, 32, 1, .live, .rw, 0x00003FFF, 0x00000000, []⟩,
  ⟨0x108, 4, 32, 1, .live, .ro, 0x00000000, 0x00000000, []⟩,
  ⟨0x10C, 4, 32, 1, .live, .ro, 0x00000000, 0x00002000, []⟩,
  ⟨0x110, 4, 32, 1, .live, .ro, 0x00000000, 0x00000000, []⟩,
  ⟨0x114, 4, 32, 1, .live, .ro, 0x00000000, 0x00000000, []⟩,
  ⟨0x118, 4, 32, 1, .live, .wo, 0x0000000F, 0x00000000, []⟩,
  ⟨0x11C, 4, 32, 1, .live, .ro, 0x00000000, 0x00000000, []⟩,
  ⟨0x180, 1, 4, 1, .live, .ro, 0x00000000, 0x00000000, []⟩]

/-- Block registers of the CHM page. -/
def rowsCHM : List Row := [
  ⟨0x004, 1, 4, 1, .none, .ro, 0x00000000, 0x00001008, []⟩,
  ⟨0x040, 1, 4, 1, .frozen, .rw, 0x0F777033, 0x0F103002, [⟨0, 2, 3, 3, 2⟩]⟩,
  ⟨0x044, 1, 4, 1, .frozen, .rw, 0xFF1F03FF, 0x000500C8, [⟨0, 10, 0, 49, 50⟩, ⟨0, 10, 1001, 1023, 1000⟩, ⟨16, 5, 0, 0, 1⟩, ⟨16, 5, 17, 31, 16⟩]⟩,
  ⟨0x048, 1, 4, 1, .shadow, .rw, 0xFFFFFFFF, 0x003201F4, []⟩,
  ⟨0x04C, 1, 4, 1, .shadow, .rw, 0x0000FFFF, 0x000000C8, [⟨0, 16, 0, 19, 20⟩, ⟨0, 16, 401, 65535, 400⟩]⟩,
  ⟨0x050, 1, 4, 1, .shadow, .rw, 0x0000FFFF, 0x000000C8, []⟩,
  ⟨0x054, 1, 4, 1, .shadow, .rw, 0x000000FF, 0x00000000, []⟩,
  ⟨0x058, 1, 4, 1, .shadow, .rw, 0x0000FFFF, 0x00000CE4, [⟨0, 16, 0, 99, 100⟩]⟩,
  ⟨0x05C, 1, 4, 1, .live, .wo, 0x0000000F, 0x00000000, []⟩,
  ⟨0x060, 8, 4, 1, .shadow, .rw, 0x0000FFFF, 0x00000000, []⟩,
  ⟨0x080, 1, 4, 1, .live, .ro, 0x00000000, 0x00000000, []⟩,
  ⟨0x084, 1, 4, 1, .live, .ro, 0x00000000, 0x00000000, []⟩,
  ⟨0x088, 1, 4, 2, .live, .ro, 0x00000000, 0x00000000, []⟩,
  ⟨0x090, 1, 4, 1, .live, .rw, 0x000001FF, 0x00000000, []⟩,
  ⟨0x100, 14, 4, 1, .live, .ro, 0x00000000, 0x00000000, []⟩,
  ⟨0x180, 8, 16, 1, .frozen, .rw, 0x8000FFFF, 0x00000000, []⟩,
  ⟨0x184, 8, 16, 1, .shadow, .rw, 0x0000FFFF, 0x00000000, []⟩,
  ⟨0x188, 8, 16, 1, .live, .ro, 0x00000000, 0x00000000, []⟩,
  ⟨0x400, 768, 4, 1, .live, .ro, 0x00000000, 0x00000000, []⟩]

/-- Block registers of the EST page. -/
def rowsEST : List Row := [
  ⟨0x004, 1, 4, 1, .none, .ro, 0x00000000, 0x0C000006, []⟩,
  ⟨0x040, 1, 4, 1, .frozen, .rw, 0x0000FF77, 0x00003C73, [⟨8, 8, 0, 0, 1⟩]⟩,
  ⟨0x044, 1, 4, 1, .frozen, .rw, 0x0000FFFF, 0x00000000, []⟩,
  ⟨0x048, 1, 4, 1, .shadow, .rw, 0xFFFFFFFF, 0x8E9461A8, []⟩,
  ⟨0x04C, 1, 4, 1, .shadow, .rw, 0xFFFFFFFF, 0x07080014, []⟩,
  ⟨0x050, 1, 4, 1, .shadow, .rw, 0x0000FFFF, 0x00000032, []⟩,
  ⟨0x054, 1, 4, 1, .shadow, .rw, 0xFFFFFFFF, 0x0014000A, []⟩,
  ⟨0x058, 1, 4, 1, .shadow, .rw, 0xFFFFFFFF, 0x64300A28, []⟩,
  ⟨0x05C, 1, 4, 1, .shadow, .rw, 0xFFFFFFFF, 0x01C20064, []⟩,
  ⟨0x060, 1, 4, 1, .shadow, .rw, 0x0000FFFF, 0x0000000A, [⟨0, 16, 0, 0, 1⟩]⟩,
  ⟨0x064, 1, 4, 1, .shadow, .rw, 0x000000FF, 0x0000000F, [⟨0, 8, 0, 0, 1⟩]⟩,
  ⟨0x068, 1, 4, 1, .shadow, .rw, 0xFFFFFFFF, 0x00C83C32, []⟩,
  ⟨0x06C, 1, 4, 1, .shadow, .rw, 0xFFFFFFFF, 0x003C1405, []⟩,
  ⟨0x070, 1, 4, 1, .shadow, .rw, 0xFFFFFFFF, 0x00000000, []⟩,
  ⟨0x074, 1, 4, 1, .live, .wo, 0x0000000F, 0x00000000, []⟩,
  ⟨0x078, 1, 4, 1, .live, .ro, 0x00000000, 0x00000000, []⟩,
  ⟨0x07C, 1, 4, 1, .live, .ro, 0x00000000, 0x00000000, []⟩,
  ⟨0x080, 1, 4, 1, .live, .ro, 0x00000000, 0x00000000, []⟩,
  ⟨0x084, 1, 4, 1, .live, .ro, 0x00000000, 0x00000000, []⟩,
  ⟨0x088, 1, 4, 1, .live, .ro, 0x00000000, 0x00000000, []⟩,
  ⟨0x08C, 1, 4, 1, .live, .ro, 0x00000000, 0x00000000, []⟩,
  ⟨0x090, 1, 4, 1, .live, .ro, 0x00000000, 0x00000000, []⟩,
  ⟨0x094, 1, 4, 1, .live, .ro, 0x00000000, 0x00000000, []⟩,
  ⟨0x098, 1, 4, 1, .live, .ro, 0x00000000, 0x00000000, []⟩,
  ⟨0x09C, 1, 4, 1, .live, .ro, 0x00000000, 0x00000000, []⟩,
  ⟨0x0A0, 1, 4, 1, .live, .rw, 0x00000FFF, 0x00000000, []⟩,
  ⟨0x0A4, 8, 4, 1, .live, .ro, 0x00000000, 0x00000000, []⟩,
  ⟨0x0C8, 1, 4, 2, .live, .ro, 0x00000000, 0x00000000, []⟩,
  ⟨0x0D0, 8, 8, 2, .live, .ro, 0x00000000, 0x00000000, []⟩,
  ⟨0x110, 6, 4, 1, .live, .ro, 0x00000000, 0x00000000, []⟩,
  ⟨0x400, 1, 4, 1, .frozen, .rw, 0xFFFF000F, 0x00000000, []⟩,
  ⟨0x404, 616, 4, 1, .frozen, .rw, 0xFFFFFFFF, 0x00000000, []⟩,
  ⟨0xDA4, 151, 4, 1, .frozen, .rw, 0x00000000, 0x00000000, []⟩]

/-- Block registers of the BAL page. -/
def rowsBAL : List Row := [
  ⟨0x004, 1, 4, 1, .none, .ro, 0x00000000, 0x0C000018, []⟩,
  ⟨0x040, 1, 4, 1, .frozen, .rw, 0x0000FF0F, 0x00008000, [⟨0, 2, 3, 3, 0⟩, ⟨2, 2, 3, 3, 0⟩]⟩,
  ⟨0x044, 1, 4, 1, .shadow, .rw, 0xFFFFFFFF, 0xC35007D0, []⟩,
  ⟨0x048, 1, 4, 1, .shadow, .rw, 0x001FFFFF, 0x000C1E3C, [⟨0, 8, 0, 9, 10⟩, ⟨16, 5, 25, 31, 24⟩]⟩,
  ⟨0x04C, 1, 4, 1, .shadow, .rw, 0xFFFFFFFF, 0x03B602EE, []⟩,
  ⟨0x050, 1, 4, 1, .shadow, .rw, 0xFFFFFFFF, 0x02267530, []⟩,
  ⟨0x054, 1, 4, 1, .live, .wo, 0x0000000F, 0x00000000, []⟩,
  ⟨0x058, 1, 4, 2, .live, .ro, 0x00000000, 0x00000000, []⟩,
  ⟨0x060, 1, 4, 1, .live, .ro, 0x00000000, 0x00000000, []⟩,
  ⟨0x064, 1, 4, 1, .live, .ro, 0x00000000, 0x00000000, []⟩]

/-- Block registers of the THM page. -/
def rowsTHM : List Row := [
  ⟨0x004, 1, 4, 1, .none, .ro, 0x00000000, 0x04000008, []⟩,
  ⟨0x040, 1, 4, 1, .frozen, .rw, 0x000003FF, 0x00000023, [⟨4, 4, 0, 0, 1⟩, ⟨0, 4, 0, 0, 1⟩]⟩,
  ⟨0x044, 1, 4, 1, .shadow, .rw, 0x0FFFFFFF, 0x03966414, [⟨24, 4, 0, 0, 1⟩]⟩,
  ⟨0x048, 1, 4, 1, .shadow, .rw, 0xFFFFFFFF, 0x022601C2, []⟩,
  ⟨0x04C, 1, 4, 1, .shadow, .rw, 0xFFFFFFFF, 0x00000064, []⟩,
  ⟨0x050, 1, 4, 1, .shadow, .rw, 0xFFFFFFFF, 0x00000000, []⟩,
  ⟨0x054, 1, 4, 1, .shadow, .rw, 0x0FFFFFFF, 0x02320258, [⟨24, 4, 0, 0, 1⟩]⟩,
  ⟨0x058, 1, 4, 1, .shadow, .rw, 0xFFFFFFFF, 0x06720032, []⟩,
  ⟨0x05C, 1, 4, 1, .shadow, .rw, 0x0000FFFF, 0x000000FA, []⟩,
  ⟨0x060, 1, 4, 1, .frozen, .rw, 0x00FFFFFF, 0x000A0000, [⟨16, 8, 0, 0, 1⟩]⟩,
  ⟨0x064, 1, 4, 1, .shadow, .rw, 0xFFFFFFFF, 0x0564012C, [⟨16, 8, 0, 0, 1⟩]⟩,
  ⟨0x068, 1, 4, 1, .live, .wo, 0x0000000F, 0x00000000, []⟩,
  ⟨0x06C, 1, 4, 1, .live, .ro, 0x00000000, 0x00000000, []⟩,
  ⟨0x070, 1, 4, 1, .live, .ro, 0x00000000, 0x00000000, []⟩,
  ⟨0x074, 1, 4, 1, .live, .ro, 0x00000000, 0x00000000, []⟩,
  ⟨0x078, 1, 4, 1, .live, .ro, 0x00000000, 0x00000000, []⟩,
  ⟨0x07C, 1, 4, 1, .live, .ro, 0x00000000, 0x00000000, []⟩,
  ⟨0x080, 1, 4, 1, .live, .ro, 0x00000000, 0x00000000, []⟩,
  ⟨0x084, 1, 4, 1, .live, .ro, 0x00000000, 0x00000000, []⟩,
  ⟨0x100, 32, 4, 1, .live, .ro, 0x00000000, 0x00000000, []⟩,
  ⟨0x180, 32, 4, 1, .frozen, .rw, 0xFFFFFFFF, 0x00000000, []⟩]

/-- Block registers of the PWM page. -/
def rowsPWM : List Row := [
  ⟨0x004, 1, 4, 1, .none, .ro, 0x00000000, 0x08080410, []⟩,
  ⟨0x040, 1, 4, 1, .frozen, .rw, 0x000017FF, 0x000000F0, []⟩,
  ⟨0x044, 1, 4, 1, .frozen, .rw, 0x0000FFFF, 0x00003E80, [⟨0, 16, 0, 3999, 4000⟩, ⟨0, 16, 20001, 65535, 20000⟩]⟩,
  ⟨0x048, 1, 4, 1, .shadow, .rw, 0x0000FFFF, 0x00000000, []⟩,
  ⟨0x04C, 1, 4, 1, .shadow, .rw, 0xFFFFFFFF, 0xFC000400, []⟩,
  ⟨0x050, 1, 4, 1, .shadow, .rw, 0x00000FFF, 0x00000050, []⟩,
  ⟨0x054, 1, 4, 1, .frozen, .rw, 0x0000FFFF, 0x00000400, [⟨8, 8, 41, 255, 40⟩]⟩,
  ⟨0x058, 1, 4, 1, .live, .ro, 0x00000000, 0x000F0000, []⟩,
  ⟨0x05C, 1, 4, 1, .shadow, .rw, 0x0001FFFF, 0x00010064, [⟨0, 16, 0, 0, 1⟩]⟩,
  ⟨0x060, 1, 4, 1, .shadow, .rw, 0x00FF00FF, 0x00320014, [⟨16, 8, 0, 0, 1⟩]⟩,
  ⟨0x064, 1, 4, 1, .shadow, .rw, 0xFFFFFFFF, 0x03E80032, [⟨16, 16, 0, 0, 1⟩]⟩,
  ⟨0x068, 1, 4, 1, .shadow, .rw, 0x00FFFFFF, 0x003205DC, [⟨16, 8, 0, 0, 1⟩]⟩,
  ⟨0x070, 1, 4, 1, .live, .ro, 0x00000000, 0x00000000, []⟩,
  ⟨0x074, 1, 4, 1, .live, .ro, 0x00000000, 0x00000000, []⟩,
  ⟨0x080, 4, 16, 1, .shadow, .rw, 0x0000FFFF, 0x00000000, []⟩,
  ⟨0x084, 4, 16, 1, .shadow, .rw, 0x3FFF3FFF, 0x05000500, []⟩,
  ⟨0x088, 4, 16, 1, .shadow, .rw, 0x3FFF3FFF, 0x05000500, []⟩,
  ⟨0x08C, 4, 16, 1, .live, .ro, 0x00000000, 0x00000000, []⟩]

/-- Block registers of the LPE page. -/
def rowsLPE : List Row := [
  ⟨0x004, 1, 4, 1, .none, .ro, 0x00000000, 0x00286010, []⟩,
  ⟨0x040, 1, 4, 1, .frozen, .rw, 0x00000001, 0x00000000, []⟩,
  ⟨0x044, 1, 4, 1, .shadow, .rw, 0xFFFFFFFF, 0x00000000, []⟩,
  ⟨0x048, 1, 4, 1, .shadow, .rw, 0xFFFFFFFF, 0x138803E8, [⟨0, 16, 0, 0, 1⟩, ⟨16, 16, 0, 0, 1⟩]⟩,
  ⟨0x04C, 1, 4, 1, .shadow, .rw, 0xFFFFFFFF, 0x003201F4, [⟨0, 16, 0, 0, 1⟩]⟩,
  ⟨0x050, 1, 4, 1, .shadow, .rw, 0xFFFFFFFF, 0x00000000, []⟩,
  ⟨0x054, 1, 4, 1, .shadow, .rw, 0xFFFFFFFF, 0x00000000, []⟩,
  ⟨0x058, 1, 4, 1, .shadow, .rw, 0xFFFFFFFF, 0x3F800000, []⟩,
  ⟨0x05C, 1, 4, 1, .shadow, .rw, 0xFFFFFFFF, 0x00000000, []⟩,
  ⟨0x060, 1, 4, 1, .shadow, .rw, 0x0000FFFF, 0x000001F4, [⟨0, 16, 0, 0, 1⟩]⟩,
  ⟨0x064, 1, 4, 1, .shadow, .rw, 0x0000FFFF, 0x00000064, [⟨0, 16, 0, 0, 1⟩]⟩,
  ⟨0x068, 1, 4, 1, .live, .wo, 0x0000FFFF, 0x00000000, []⟩,
  ⟨0x06C, 1, 4, 1, .live, .wo, 0x0000000F, 0x00000000, []⟩,
  ⟨0x070, 1, 4, 1, .live, .ro, 0x00000000, 0x00000000, []⟩,
  ⟨0x074, 1, 4, 1, .live, .ro, 0x00000000, 0x00000000, []⟩,
  ⟨0x078, 1, 4, 1, .live, .ro, 0x00000000, 0x00000000, []⟩,
  ⟨0x07C, 1, 4, 1, .live, .ro, 0x00000000, 0x00000000, []⟩,
  ⟨0x080, 5, 4, 1, .live, .wo, 0xFFFFFFFF, 0x00000000, []⟩,
  ⟨0x094, 1, 4, 1, .live, .ro, 0x00000000, 0x00000008, []⟩,
  ⟨0x098, 1, 4, 1, .live, .ro, 0x00000000, 0x00000000, []⟩,
  ⟨0x09C, 1, 4, 1, .live, .ro, 0x00000000, 0x00000000, []⟩,
  ⟨0x0A0, 1, 4, 1, .live, .ro, 0x00000000, 0x00000000, []⟩,
  ⟨0x0A8, 1, 4, 2, .live, .ro, 0x00000000, 0x00000000, []⟩,
  ⟨0x0B0, 1, 4, 1, .shadow, .rw, 0x01FFFF03, 0x00000000, [⟨8, 8, 0, 0, 1⟩]⟩,
  ⟨0x0B4, 1, 4, 1, .shadow, .rw, 0xFFFFFFFF, 0x00000000, []⟩,
  ⟨0x0B8, 1, 4, 1, .shadow, .rw, 0xFFFFFFFF, 0x00000000, []⟩,
  ⟨0x0BC, 1, 4, 1, .shadow, .rw, 0x0000FFFF, 0x00000001, [⟨0, 16, 0, 0, 1⟩]⟩,
  ⟨0x0C0, 1, 4, 1, .shadow, .rw, 0x0000FF03, 0x00000100, [⟨8, 8, 0, 0, 1⟩]⟩,
  ⟨0x0C4, 1, 4, 1, .shadow, .rw, 0x01FF01FF, 0x00000000, []⟩,
  ⟨0x0C8, 1, 4, 1, .shadow, .rw, 0x01FF01FF, 0x00000000, []⟩,
  ⟨0x0CC, 1, 4, 1, .live, .ro, 0x00000000, 0x00000000, []⟩,
  ⟨0x0D0, 1, 4, 2, .live, .ro, 0x00000000, 0x00000000, []⟩,
  ⟨0x100, 16, 16, 1, .frozen, .rw, 0xCF0F7F00, 0x40000000, []⟩,
  ⟨0x104, 16, 16, 1, .frozen, .rw, 0x00003F3F, 0x00001A1A, []⟩,
  ⟨0x108, 16, 16, 1, .shadow, .rw, 0xFFFFFFFF, 0x00000000, []⟩,
  ⟨0x10C, 16, 16, 1, .live, .ro, 0x00000000, 0x00000000, []⟩]

/-- Block registers of the PRT page. -/
def rowsPRT : List Row := [
  ⟨0x004, 1, 4, 1, .none, .ro, 0x00000000, 0x0000060C, []⟩,
  ⟨0x040, 1, 4, 1, .frozen, .rw, 0x00000003, 0x00000000, []⟩,
  ⟨0x044, 1, 4, 1, .live, .ro, 0x00000000, 0x3F000000, []⟩,
  ⟨0x048, 1, 4, 1, .live, .ro, 0x00000000, 0x00000000, []⟩,
  ⟨0x04C, 1, 4, 1, .live, .ro, 0x00000000, 0x00000000, []⟩,
  ⟨0x050, 1, 4, 1, .shadow, .rw, 0xFFFFFFFF, 0x061805F0, []⟩,
  ⟨0x054, 1, 4, 1, .shadow, .rw, 0xFFFFFFFF, 0x057D058C, []⟩,
  ⟨0x058, 1, 4, 1, .shadow, .rw, 0xFFFFFFFF, 0x00000000, []⟩,
  ⟨0x05C, 1, 4, 1, .shadow, .rw, 0xFFFFFFFF, 0x5DC09088, []⟩,
  ⟨0x060, 1, 4, 1, .shadow, .rw, 0x0000000F, 0x00000002, [⟨0, 4, 0, 0, 1⟩]⟩,
  ⟨0x064, 1, 4, 1, .live, .ro, 0x00000000, 0x00000000, []⟩,
  ⟨0x068, 1, 4, 1, .live, .ro, 0x00000000, 0x00000000, []⟩,
  ⟨0x100, 12, 16, 1, .frozen, .rw, 0xC307071F, 0x00000000, [⟨24, 2, 3, 3, 0⟩, ⟨0, 5, 24, 31, 23⟩]⟩,
  ⟨0x104, 12, 16, 1, .shadow, .rw, 0x03FF03FF, 0x03FF0000, []⟩,
  ⟨0x108, 12, 16, 1, .live, .ro, 0x00000000, 0x00000000, []⟩,
  ⟨0x200, 6, 16, 1, .shadow, .rw, 0xFFFFFFFF, 0x7F800000, []⟩,
  ⟨0x204, 6, 16, 1, .shadow, .rw, 0xFFFFFFFF, 0xFF800000, []⟩,
  ⟨0x208, 6, 16, 1, .shadow, .rw, 0x0000FFFF, 0x0000000A, [⟨0, 16, 0, 0, 1⟩]⟩,
  ⟨0x20C, 6, 16, 1, .live, .ro, 0x00000000, 0x00000000, []⟩]

/-- Block registers of the CTK page. -/
def rowsCTK : List Row := [
  ⟨0x004, 1, 4, 1, .none, .ro, 0x00000000, 0x00000A14, []⟩,
  ⟨0x040, 1, 4, 1, .frozen, .rw, 0x0000B1FF, 0x000001FF, []⟩,
  ⟨0x044, 1, 4, 1, .shadow, .rw, 0x0000FFFF, 0x00001E32, [⟨0, 8, 0, 0, 1⟩, ⟨8, 8, 0, 0, 1⟩]⟩,
  ⟨0x048, 1, 4, 1, .shadow, .rw, 0xFFFFFFFF, 0x012C0064, []⟩,
  ⟨0x04C, 1, 4, 1, .shadow, .rw, 0x0000FFFF, 0x00000032, []⟩,
  ⟨0x050, 1, 4, 1, .shadow, .rw, 0x0000FFFF, 0x000001F4, [⟨0, 16, 0, 0, 1⟩]⟩,
  ⟨0x054, 1, 4, 1, .live, .wo, 0x0000070F, 0x00000000, []⟩,
  ⟨0x058, 1, 4, 1, .live, .ro, 0x00000000, 0x00000000, []⟩,
  ⟨0x05C, 1, 4, 1, .live, .ro, 0x00000000, 0x00000000, []⟩,
  ⟨0x060, 1, 4, 1, .live, .ro, 0x00000000, 0x00000000, []⟩,
  ⟨0x064, 1, 4, 1, .live, .ro, 0x00000000, 0x00000000, []⟩,
  ⟨0x068, 1, 4, 1, .live, .ro, 0x00000000, 0x00000000, []⟩,
  ⟨0x100, 10, 8, 1, .live, .ro, 0x00000000, 0x00000000, []⟩,
  ⟨0x104, 10, 8, 1, .live, .ro, 0x00000000, 0x00000000, []⟩]

/-- Block registers of the ADC page. -/
def rowsADC : List Row := [
  ⟨0x004, 1, 4, 1, .none, .ro, 0x00000000, 0x04100418, []⟩,
  ⟨0x040, 1, 4, 1, .frozen, .rw, 0x00000133, 0x00000002, [⟨4, 2, 3, 3, 0⟩]⟩,
  ⟨0x044, 1, 4, 1, .frozen, .rw, 0x0000FFFF, 0x00000032, [⟨0, 16, 0, 1, 2⟩, ⟨0, 16, 10001, 65535, 10000⟩]⟩,
  ⟨0x048, 1, 4, 1, .frozen, .rw, 0x0000FFFF, 0x00000514, [⟨0, 8, 0, 0, 1⟩]⟩,
  ⟨0x04C, 1, 4, 1, .shadow, .rw, 0x0000FFFF, 0x00000018, []⟩,
  ⟨0x050, 1, 4, 1, .live, .wo, 0x0000030F, 0x00000000, []⟩,
  ⟨0x054, 1, 4, 1, .shadow, .rw, 0x00000FFF, 0x000003FF, [⟨8, 4, 0, 0, 1⟩]⟩,
  ⟨0x058, 1, 4, 1, .shadow, .rw, 0x00FFFFFF, 0x000A00C8, []⟩,
  ⟨0x05C, 1, 4, 1, .live, .ro, 0x00000000, 0x00000000, []⟩,
  ⟨0x060, 1, 4, 1, .live, .ro, 0x00000000, 0x00000000, []⟩,
  ⟨0x064, 1, 4, 1, .live, .w1c, 0x00000000, 0x00000000, []⟩,
  ⟨0x068, 1, 4, 1, .live, .ro, 0x00000000, 0x00000000, []⟩,
  ⟨0x080, 4, 32, 1, .frozen, .rw, 0x9F9F9F9F, 0x00000000, []⟩,
  ⟨0x084, 4, 32, 1, .frozen, .rw, 0x9F9F9F9F, 0x00000000, []⟩,
  ⟨0x088, 4, 32, 1, .frozen, .rw, 0x9F9F9F9F, 0x00000000, []⟩,
  ⟨0x08C, 4, 32, 1, .frozen, .rw, 0x9F9F9F9F, 0x00000000, []⟩,
  ⟨0x090, 4, 32, 1, .frozen, .rw, 0x9F9F9F9F, 0x00000000, []⟩,
  ⟨0x094, 4, 32, 1, .live, .ro, 0x00000000, 0x3F800000, []⟩,
  ⟨0x098, 4, 32, 1, .live, .ro, 0x00000000, 0x00000000, []⟩,
  ⟨0x09C, 4, 32, 1, .live, .ro, 0x00000000, 0x00000000, []⟩,
  ⟨0x100, 24, 16, 1, .live, .ro, 0x00000000, 0x00000000, []⟩,
  ⟨0x104, 24, 16, 1, .live, .ro, 0x00000000, 0x00000000, []⟩,
  ⟨0x108, 24, 16, 1, .frozen, .rw, 0xFFFFFFFF, 0x00000000, []⟩,
  ⟨0x10C, 24, 16, 1, .frozen, .rw, 0xFFFFFFFF, 0x00000000, []⟩]

/-- Block registers of the ISO page. -/
def rowsISO : List Row := [
  ⟨0x004, 1, 4, 1, .none, .ro, 0x00000000, 0x00000001, []⟩,
  ⟨0x040, 1, 4, 1, .frozen, .rw, 0x0000FFFF, 0x00000A14, []⟩,
  ⟨0x044, 1, 4, 1, .frozen, .rw, 0xFFFFFFFF, 0x00000000, []⟩,
  ⟨0x048, 1, 4, 1, .frozen, .rw, 0x0000FFFF, 0x00000000, []⟩,
  ⟨0x04C, 1, 4, 1, .shadow, .rw, 0xFFFFFFFF, 0x009601F4, []⟩,
  ⟨0x050, 1, 4, 1, .live, .ro, 0x00000000, 0x00000000, []⟩,
  ⟨0x054, 1, 4, 1, .live, .ro, 0x00000000, 0x00000000, []⟩,
  ⟨0x058, 1, 4, 1, .live, .ro, 0x00000000, 0x00000000, []⟩,
  ⟨0x05C, 1, 4, 1, .live, .ro, 0x00000000, 0x00000000, []⟩]

/-- Block registers of the FLT page. -/
def rowsFLT : List Row := [
  ⟨0x004, 1, 4, 1, .none, .ro, 0x00000000, 0x00000010, []⟩,
  ⟨0x040, 1, 4, 1, .frozen, .rw, 0x000000FF, 0x00000001, [⟨0, 8, 0, 0, 1⟩]⟩,
  ⟨0x044, 1, 4, 1, .live, .ro, 0x00000000, 0x00000000, []⟩,
  ⟨0x048, 1, 4, 1, .live, .ro, 0x00000000, 0x00000000, []⟩,
  ⟨0x04C, 1, 4, 1, .live, .wo, 0x0000000F, 0x00000000, []⟩,
  ⟨0x050, 1, 4, 1, .live, .ro, 0x00000000, 0x00000000, []⟩,
  ⟨0x054, 1, 4, 1, .live, .ro, 0x00000000, 0x00000000, []⟩,
  ⟨0x058, 1, 4, 1, .live, .ro, 0x00000000, 0x00000000, []⟩,
  ⟨0x060, 1, 4, 1, .live, .ro, 0x00000000, 0x00000000, []⟩,
  ⟨0x064, 1, 4, 1, .live, .ro, 0x00000000, 0x00000000, []⟩,
  ⟨0x068, 1, 4, 2, .live, .ro, 0x00000000, 0x00000000, []⟩,
  ⟨0x100, 16, 4, 1, .frozen, .rw, 0xFFFFFFFF, 0x00000000, []⟩,
  ⟨0x140, 16, 4, 1, .live, .ro, 0x00000000, 0x00000000, []⟩,
  ⟨0x180, 16, 4, 1, .live, .ro, 0x00000000, 0x00000000, []⟩]

/-- Block registers of the SFI page. -/
def rowsSFI : List Row := [
  ⟨0x004, 1, 4, 1, .none, .ro, 0x00000000, 0x00020408, []⟩,
  ⟨0x040, 1, 4, 1, .live, .ro, 0x00000000, 0x00000000, []⟩,
  ⟨0x044, 1, 4, 1, .live, .ro, 0x00000000, 0x00000000, []⟩,
  ⟨0x048, 1, 4, 1, .live, .ro, 0x00000000, 0x00000000, []⟩,
  ⟨0x04C, 1, 4, 1, .live, .ro, 0x00000000, 0x00000000, []⟩,
  ⟨0x050, 1, 4, 1, .live, .ro, 0x00000000, 0x00000000, []⟩,
  ⟨0x054, 1, 4, 1, .live, .wo, 0xFFFFFFFF, 0x00000000, []⟩,
  ⟨0x058, 1, 4, 1, .live, .wo, 0x0000000F, 0x00000000, []⟩,
  ⟨0x05C, 1, 4, 1, .live, .ro, 0x00000000, 0x00000000, []⟩,
  ⟨0x060, 1, 4, 1, .live, .ro, 0x00000000, 0x00000000, []⟩,
  ⟨0x064, 1, 4, 1, .live, .ro, 0x00000000, 0x00000000, []⟩,
  ⟨0x068, 1, 4, 1, .live, .ro, 0x00000000, 0x00000000, []⟩,
  ⟨0x06C, 1, 4, 1, .live, .ro, 0x00000000, 0x00000000, []⟩,
  ⟨0x100, 8, 8, 1, .frozen, .rw, 0x000001FF, 0x00000000, []⟩,
  ⟨0x104, 8, 8, 1, .frozen, .rw, 0x0FFF00FF, 0x0032001E, []⟩,
  ⟨0x140, 4, 8, 1, .frozen, .rw, 0x80FF03FF, 0x00280000, []⟩,
  ⟨0x144, 4, 8, 1, .frozen, .rw, 0x000000FF, 0x00000064, []⟩,
  ⟨0x160, 1, 4, 1, .frozen, .rw, 0x0000FFFF, 0x000007D0, []⟩,
  ⟨0x164, 1, 4, 1, .frozen, .rw, 0xFFFFFFFF, 0x003201F4, []⟩,
  ⟨0x168, 1, 4, 1, .frozen, .rw, 0xFFFFFFFF, 0x00000000, []⟩,
  ⟨0x1FC, 1, 4, 1, .none, .ro, 0x00000000, 0x00000001, []⟩]

/-- Block registers of the SCL page. -/
def rowsSCL : List Row := [
  ⟨0x004, 1, 4, 1, .none, .ro, 0x00000000, 0x00000008, []⟩,
  ⟨0x040, 1, 4, 1, .live, .ro, 0x00000000, 0x00000000, []⟩,
  ⟨0x044, 1, 4, 1, .live, .wo, 0x0000070F, 0x00000000, []⟩,
  ⟨0x048, 1, 4, 1, .live, .ro, 0x00000000, 0x00000000, []⟩,
  ⟨0x080, 8, 16, 1, .live, .ro, 0x00000000, 0x00000000, []⟩,
  ⟨0x084, 8, 16, 1, .live, .ro, 0x00000000, 0x00000000, []⟩,
  ⟨0x088, 8, 16, 1, .live, .ro, 0x00000000, 0x00000000, []⟩,
  ⟨0x08C, 8, 16, 1, .live, .ro, 0x00000000, 0x00000000, []⟩,
  ⟨0x100, 8, 24, 1, .frozen, .rw, 0xF80F0FFF, 0x00040000, []⟩,
  ⟨0x104, 8, 24, 1, .frozen, .rw, 0xFFFFFFFF, 0x00000000, []⟩,
  ⟨0x108, 8, 24, 1, .frozen, .rw, 0x0FFFFFFF, 0x00A01405, []⟩,
  ⟨0x10C, 8, 24, 1, .frozen, .rw, 0xC00003FF, 0x00000000, []⟩,
  ⟨0x110, 8, 24, 1, .frozen, .rw, 0xFFFFFFFF, 0x00000000, []⟩,
  ⟨0x1FC, 1, 4, 1, .none, .ro, 0x00000000, 0x00000001, []⟩]

/-- Block registers of the FAB page. -/
def rowsFAB : List Row := [
  ⟨0x004, 1, 4, 1, .none, .ro, 0x00000000, 0x04000045, []⟩,
  ⟨0x040, 1, 4, 1, .frozen, .rw, 0x1FFF03FF, 0x00000000, []⟩,
  ⟨0x044, 1, 4, 1, .frozen, .rw, 0x0000FFFF, 0x00000000, []⟩,
  ⟨0x048, 1, 4, 2, .none, .ro, 0x00000000, 0x00000000, []⟩,
  ⟨0x050, 1, 4, 1, .shadow, .rw, 0xFF03FFFF, 0x3C010000, [⟨24, 8, 0, 0, 1⟩, ⟨16, 2, 3, 3, 1⟩]⟩,
  ⟨0x054, 1, 4, 1, .shadow, .rw, 0x00000001, 0x00000000, []⟩,
  ⟨0x058, 1, 4, 1, .live, .ro, 0x00000000, 0x00000000, []⟩,
  ⟨0x05C, 1, 4, 1, .live, .ro, 0x00000000, 0x00000000, []⟩,
  ⟨0x060, 1, 4, 1, .shadow, .rw, 0x000000FF, 0x0000000A, [⟨0, 8, 0, 0, 1⟩]⟩,
  ⟨0x064, 1, 4, 1, .shadow, .rw, 0x83FF83FF, 0x00000000, []⟩,
  ⟨0x068, 1, 4, 1, .live, .wo, 0x0000FF0F, 0x00000000, []⟩,
  ⟨0x06C, 1, 4, 1, .live, .ro, 0x00000000, 0x00000000, []⟩,
  ⟨0x070, 1, 4, 1, .live, .ro, 0x00000000, 0x00000000, []⟩,
  ⟨0x074, 1, 4, 1, .live, .ro, 0x00000000, 0x00000000, []⟩,
  ⟨0x078, 1, 4, 1, .live, .ro, 0x00000000, 0x00000000, []⟩,
  ⟨0x07C, 1, 4, 1, .live, .ro, 0x00000000, 0x00000000, []⟩,
  ⟨0x100, 4, 4, 1, .live, .wo, 0xFFFFFFFF, 0x00000000, []⟩,
  ⟨0x110, 4, 4, 1, .live, .wo, 0xFFFFFFFF, 0x00000000, []⟩,
  ⟨0x120, 4, 4, 1, .live, .wo, 0xFFFFFFFF, 0x00000000, []⟩,
  ⟨0x130, 1, 4, 1, .live, .ro, 0x00000000, 0x00000008, []⟩,
  ⟨0x400, 128, 4, 1, .live, .rw, 0xBBBBBBBB, 0x00000000, []⟩]

/-- Block registers of the FP pages. -/
def rowsFP : List Row := [
  ⟨0x004, 1, 4, 1, .none, .ro, 0x00000000, 0x00000001, []⟩,
  ⟨0x040, 1, 4, 1, .frozen, .rw, 0x000001FF, 0x00000001, [⟨0, 8, 0, 0, 1⟩]⟩,
  ⟨0x044, 1, 4, 1, .live, .ro, 0x00000000, 0x00000000, []⟩,
  ⟨0x048, 1, 4, 2, .live, .ro, 0x00000000, 0x00000000, []⟩,
  ⟨0x050, 1, 4, 1, .live, .rw, 0x0100FFFF, 0x00000000, []⟩,
  ⟨0x058, 1, 4, 2, .none, .ro, 0x00000000, 0x00000000, []⟩,
  ⟨0x060, 4, 4, 1, .live, .wo, 0xFFFFFFFF, 0x00000000, []⟩,
  ⟨0x070, 4, 4, 1, .live, .wo, 0xFFFFFFFF, 0x00000000, []⟩,
  ⟨0x080, 1, 4, 1, .live, .ro, 0x00000000, 0x00000000, []⟩,
  ⟨0x084, 1, 4, 1, .live, .ro, 0x00000000, 0x00000000, []⟩,
  ⟨0x088, 1, 4, 1, .live, .ro, 0x00000000, 0x00000000, []⟩,
  ⟨0x08C, 1, 4, 1, .live, .ro, 0x00000000, 0x00000000, []⟩,
  ⟨0x090, 1, 4, 1, .live, .ro, 0x00000000, 0x00000000, []⟩,
  ⟨0x094, 1, 4, 1, .live, .ro, 0x00000000, 0x00000000, []⟩,
  ⟨0x098, 1, 4, 1, .live, .ro, 0x00000000, 0x00000000, []⟩,
  ⟨0x09C, 1, 4, 1, .live, .ro, 0x00000000, 0x00000000, []⟩,
  ⟨0x0A0, 1, 4, 1, .live, .ro, 0x00000000, 0x00000000, []⟩,
  ⟨0x0A4, 1, 4, 1, .live, .ro, 0x00000000, 0x00000000, []⟩,
  ⟨0x0A8, 1, 4, 1, .live, .ro, 0x00000000, 0x00000000, []⟩,
  ⟨0x0AC, 1, 4, 1, .live, .ro, 0x00000000, 0x00000000, []⟩,
  ⟨0x0B0, 1, 4, 1, .live, .wo, 0x0000000F, 0x00000000, []⟩]

/-- Block registers of the TIM page. -/
def rowsTIM : List Row := [
  ⟨0x004, 1, 4, 1, .none, .ro, 0x00000000, 0x00000882, []⟩,
  ⟨0x040, 1, 4, 1, .frozen, .rw, 0x00000007, 0x00000006, []⟩,
  ⟨0x044, 1, 4, 1, .shadow, .rw, 0xFFFFFFFF, 0x006403E8, [⟨0, 16, 0, 0, 1⟩, ⟨0, 16, 5001, 65535, 5000⟩, ⟨16, 16, 0, 0, 1⟩, ⟨16, 16, 60001, 65535, 60000⟩]⟩,
  ⟨0x048, 1, 4, 1, .shadow, .rw, 0x0000FFFF, 0x0000003C, [⟨0, 16, 0, 0, 1⟩]⟩,
  ⟨0x04C, 1, 4, 1, .frozen, .rw, 0xFFFFFFFF, 0x00000000, []⟩,
  ⟨0x050, 1, 4, 1, .live, .ro, 0x00000000, 0x00000000, []⟩,
  ⟨0x054, 1, 4, 1, .live, .ro, 0x00000000, 0x00000000, []⟩,
  ⟨0x058, 1, 4, 1, .live, .ro, 0x00000000, 0x00000000, []⟩,
  ⟨0x060, 1, 4, 2, .live, .ro, 0x00000000, 0x00000000, []⟩,
  ⟨0x068, 1, 4, 1, .live, .ro, 0x00000000, 0x00000000, []⟩,
  ⟨0x06C, 1, 4, 1, .live, .ro, 0x00000000, 0x00000000, []⟩,
  ⟨0x070, 1, 4, 1, .live, .ro, 0x00000000, 0x00000000, []⟩,
  ⟨0x074, 1, 4, 1, .live, .ro, 0x00000000, 0x00000000, []⟩,
  ⟨0x078, 1, 4, 1, .live, .ro, 0x00000000, 0x00000000, []⟩,
  ⟨0x07C, 1, 4, 1, .live, .ro, 0x00000000, 0x00000000, []⟩,
  ⟨0x080, 1, 4, 1, .live, .ro, 0x00000000, 0x00000000, []⟩,
  ⟨0x084, 1, 4, 1, .live, .wo, 0x0000010F, 0x00000000, []⟩,
  ⟨0x088, 1, 4, 1, .live, .ro, 0x00000000, 0x00000000, []⟩,
  ⟨0x100, 2, 64, 1, .frozen, .rw, 0x831FFFFF, 0x000D8000, [⟨24, 2, 2, 3, 1⟩, ⟨16, 4, 1, 8, 13⟩, ⟨0, 8, 128, 255, 127⟩]⟩,
  ⟨0x104, 2, 64, 1, .shadow, .rw, 0x00FFFFFF, 0x00080064, [⟨16, 8, 0, 0, 1⟩]⟩,
  ⟨0x108, 2, 64, 1, .live, .rw, 0xFFFFFFFF, 0x40000000, []⟩,
  ⟨0x10C, 2, 64, 1, .live, .wo, 0xFFFFFFFF, 0x00000000, []⟩,
  ⟨0x110, 2, 64, 1, .live, .ro, 0x00000000, 0x00000000, []⟩,
  ⟨0x114, 2, 64, 1, .live, .ro, 0x00000000, 0x00000000, []⟩,
  ⟨0x118, 2, 64, 1, .live, .ro, 0x00000000, 0x00000000, []⟩,
  ⟨0x11C, 2, 64, 1, .live, .ro, 0x00000000, 0x00000070, []⟩,
  ⟨0x120, 2, 64, 2, .live, .ro, 0x00000000, 0x00000000, []⟩,
  ⟨0x128, 2, 64, 1, .live, .ro, 0x00000000, 0x00000000, []⟩,
  ⟨0x12C, 2, 64, 1, .live, .ro, 0x00000000, 0x00000000, []⟩,
  ⟨0x130, 2, 64, 1, .live, .ro, 0x00000000, 0x00000000, []⟩,
  ⟨0x200, 8, 32, 1, .live, .rw, 0x800001FF, 0x00000000, []⟩,
  ⟨0x204, 8, 32, 2, .live, .rw, 0xFFFFFFFF, 0x00000000, []⟩,
  ⟨0x20C, 8, 32, 1, .live, .rw, 0xFFFFFFFF, 0x00000000, []⟩,
  ⟨0x210, 8, 32, 1, .live, .ro, 0x00000000, 0x00000000, []⟩,
  ⟨0x300, 8, 32, 1, .live, .rw, 0x8000017F, 0x00000000, []⟩,
  ⟨0x304, 8, 32, 2, .live, .rw, 0xFFFFFFFF, 0x00000000, []⟩,
  ⟨0x30C, 8, 32, 1, .live, .rw, 0xFFFFFFFF, 0x00000000, []⟩,
  ⟨0x310, 8, 32, 1, .live, .ro, 0x00000000, 0x00000000, []⟩,
  ⟨0x800, 8, 256, 64, .live, .rw, 0xFFFFFFFF, 0x00000000, []⟩]

/-- Block registers of the TPO page. -/
def rowsTPO : List Row := [
  ⟨0x004, 1, 4, 1, .none, .ro, 0x00000000, 0x00000008, []⟩,
  ⟨0x100, 8, 32, 1, .shadow, .rw, 0x00000013, 0x00000000, [⟨0, 2, 3, 3, 0⟩]⟩,
  ⟨0x104, 8, 32, 1, .shadow, .rw, 0x0000FFFF, 0x00000000, []⟩,
  ⟨0x108, 8, 32, 1, .shadow, .rw, 0xFFFFFFFF, 0x00000000, []⟩,
  ⟨0x10C, 8, 32, 1, .shadow, .rw, 0x3FFFFFFF, 0x00000000, [⟨0, 30, 1000000000, 1073741823, 999999999⟩]⟩,
  ⟨0x110, 8, 32, 1, .shadow, .rw, 0xFFFFFFFF, 0x3B9ACA00, [⟨0, 32, 0, 999, 1000⟩, ⟨0, 32, 4000000001, 4294967295, 4000000000⟩]⟩,
  ⟨0x114, 8, 32, 1, .shadow, .rw, 0xFFFFFFFF, 0x00002710, []⟩,
  ⟨0x118, 8, 32, 1, .live, .ro, 0x00000000, 0x00000000, []⟩]

/-- Block registers of the CN pages. -/
def rowsCN : List Row := [
  ⟨0x004, 1, 4, 1, .none, .ro, 0x00000000, 0x00000180, []⟩,
  ⟨0x040, 1, 4, 1, .frozen, .rw, 0x00000073, 0x00000050, []⟩,
  ⟨0x044, 1, 4, 1, .frozen, .rw, 0x7FFFFFFF, 0x048100A0, []⟩,
  ⟨0x048, 1, 4, 1, .frozen, .rw, 0x1F1F7F7F, 0x010A1E28, []⟩,
  ⟨0x04C, 1, 4, 1, .frozen, .rw, 0x007F7F01, 0x00000000, []⟩,
  ⟨0x050, 1, 4, 1, .live, .ro, 0x00000000, 0x00000000, []⟩,
  ⟨0x054, 1, 4, 1, .live, .wo, 0x00007F0F, 0x00000000, []⟩,
  ⟨0x058, 1, 4, 1, .live, .ro, 0x00000000, 0x00000000, []⟩,
  ⟨0x05C, 1, 4, 1, .live, .ro, 0x00000000, 0x00000000, []⟩,
  ⟨0x060, 1, 4, 1, .live, .ro, 0x00000000, 0x00000000, []⟩,
  ⟨0x064, 1, 4, 1, .shadow, .rw, 0x80FFFF7F, 0x0003E800, [⟨8, 16, 0, 9, 10⟩, ⟨8, 16, 10001, 65535, 10000⟩]⟩,
  ⟨0x068, 1, 4, 2, .live, .ro, 0x00000000, 0x00000000, []⟩,
  ⟨0x070, 1, 4, 1, .live, .ro, 0x00000000, 0x00000000, []⟩,
  ⟨0x080, 4, 4, 1, .live, .ro, 0x00000000, 0x00000000, []⟩,
  ⟨0x090, 4, 4, 1, .live, .ro, 0x00000000, 0x00000000, []⟩,
  ⟨0x0A0, 4, 4, 1, .live, .ro, 0x00000000, 0x00000000, []⟩]

/-- Block registers of the TWN page. -/
def rowsTWN : List Row := [
  ⟨0x004, 1, 4, 1, .none, .ro, 0x00000000, 0x00000001, []⟩,
  ⟨0x040, 1, 4, 1, .frozen, .rw, 0x0000003F, 0x00000002, []⟩,
  ⟨0x044, 1, 4, 1, .shadow, .rw, 0x0000FFFF, 0x00000A03, [⟨0, 8, 0, 0, 1⟩, ⟨8, 8, 0, 0, 1⟩]⟩,
  ⟨0x048, 1, 4, 1, .shadow, .rw, 0xFFFFFFFF, 0x08140148, [⟨24, 8, 0, 0, 1⟩]⟩,
  ⟨0x04C, 1, 4, 1, .shadow, .rw, 0x00000FFF, 0x00000314, [⟨0, 8, 0, 0, 1⟩]⟩,
  ⟨0x050, 1, 4, 1, .live, .ro, 0x00000000, 0x00000000, []⟩,
  ⟨0x054, 1, 4, 1, .live, .ro, 0x00000000, 0x00000000, []⟩,
  ⟨0x058, 1, 4, 1, .live, .ro, 0x00000000, 0x00000000, []⟩,
  ⟨0x05C, 1, 4, 1, .live, .ro, 0x00000000, 0x00000000, []⟩,
  ⟨0x060, 1, 4, 1, .live, .wo, 0x0000000F, 0x00000000, []⟩,
  ⟨0x064, 1, 4, 1, .live, .ro, 0x00000000, 0x00000000, []⟩,
  ⟨0x068, 1, 4, 1, .live, .ro, 0x00000000, 0x00000000, []⟩,
  ⟨0x070, 1, 4, 2, .live, .ro, 0x00000000, 0x00000000, []⟩,
  ⟨0x078, 1, 4, 1, .live, .ro, 0x00000000, 0x00000000, []⟩,
  ⟨0x07C, 1, 4, 1, .live, .ro, 0x00000000, 0x00000000, []⟩,
  ⟨0x080, 1, 4, 1, .live, .ro, 0x00000000, 0x00000000, []⟩]

/-- Block registers of the EVR page. -/
def rowsEVR : List Row := [
  ⟨0x004, 1, 4, 1, .none, .ro, 0x00000000, 0x0100022E, []⟩,
  ⟨0x040, 1, 4, 1, .live, .rw, 0x0077FF03, 0x00003C01, [⟨8, 8, 0, 0, 1⟩, ⟨16, 3, 4, 7, 3⟩]⟩,
  ⟨0x044, 1, 4, 1, .live, .ro, 0x00000000, 0x00000000, []⟩,
  ⟨0x048, 1, 4, 1, .live, .ro, 0x00000000, 0x00000000, []⟩,
  ⟨0x04C, 1, 4, 1, .live, .ro, 0x00000000, 0x00000000, []⟩,
  ⟨0x050, 1, 4, 1, .live, .ro, 0x00000000, 0x00000000, []⟩,
  ⟨0x054, 1, 4, 1, .live, .ro, 0x00000000, 0x00000000, []⟩,
  ⟨0x058, 1, 4, 1, .live, .ro, 0x00000000, 0x00000000, []⟩,
  ⟨0x05C, 1, 4, 1, .live, .ro, 0x00000000, 0x00000000, []⟩,
  ⟨0x060, 1, 4, 1, .live, .ro, 0x00000000, 0x00000000, []⟩,
  ⟨0x064, 1, 4, 1, .live, .ro, 0x00000000, 0x00000000, []⟩,
  ⟨0x068, 1, 4, 1, .live, .ro, 0x00000000, 0x00000000, []⟩,
  ⟨0x06C, 1, 4, 1, .live, .wo, 0x0000000F, 0x00000000, []⟩]

/-- Block registers of the AUD page. -/
def rowsAUD : List Row := [
  ⟨0x004, 1, 4, 1, .none, .ro, 0x00000000, 0x0000000C, []⟩,
  ⟨0x040, 1, 4, 1, .live, .ro, 0x00000000, 0x00000000, []⟩,
  ⟨0x044, 1, 4, 1, .live, .ro, 0x00000000, 0x00000000, []⟩,
  ⟨0x048, 1, 4, 1, .live, .ro, 0x00000000, 0x00000000, []⟩,
  ⟨0x04C, 1, 4, 1, .live, .ro, 0x00000000, 0x00000000, []⟩,
  ⟨0x050, 1, 4, 1, .live, .ro, 0x00000000, 0x00000000, []⟩,
  ⟨0x054, 1, 4, 1, .live, .ro, 0x00000000, 0x00000000, []⟩]

/-- Block registers of the UPD page. -/
def rowsUPD : List Row := [
  ⟨0x004, 1, 4, 1, .none, .ro, 0x00000000, 0x00180602, []⟩,
  ⟨0x040, 1, 4, 1, .frozen, .rw, 0x0000FF03, 0x00003C01, [⟨8, 8, 0, 0, 1⟩]⟩,
  ⟨0x044, 1, 4, 1, .live, .ro, 0x00000000, 0x00000000, []⟩,
  ⟨0x048, 1, 4, 1, .live, .ro, 0x00000000, 0x00000000, []⟩,
  ⟨0x04C, 1, 4, 1, .live, .ro, 0x00000000, 0x00000000, []⟩,
  ⟨0x050, 1, 4, 1, .live, .ro, 0x00000000, 0x00000000, []⟩,
  ⟨0x054, 1, 4, 1, .live, .ro, 0x00000000, 0x00000000, []⟩,
  ⟨0x058, 1, 4, 1, .live, .ro, 0x00000000, 0x00000000, []⟩,
  ⟨0x05C, 1, 4, 1, .live, .ro, 0x00000000, 0x00000000, []⟩,
  ⟨0x060, 1, 4, 1, .live, .ro, 0x00000000, 0x00000000, []⟩,
  ⟨0x064, 1, 4, 1, .live, .ro, 0x00000000, 0x00000000, []⟩,
  ⟨0x068, 1, 4, 2, .live, .ro, 0x00000000, 0x00000000, []⟩,
  ⟨0x070, 1, 4, 1, .live, .wo, 0x0000000F, 0x00000000, []⟩,
  ⟨0x074, 1, 4, 1, .live, .ro, 0x00000000, 0x00000000, []⟩]

/-- Block registers of the AGE page. -/
def rowsAGE : List Row := [
  ⟨0x004, 1, 4, 1, .none, .ro, 0x00000000, 0x02D0002A, []⟩,
  ⟨0x040, 1, 4, 1, .shadow, .rw, 0xFFFFFFFF, 0x016D00B4, [⟨0, 16, 0, 29, 30⟩, ⟨0, 16, 721, 65535, 720⟩, ⟨16, 16, 0, 29, 30⟩, ⟨16, 16, 3651, 65535, 3650⟩]⟩,
  ⟨0x044, 1, 4, 1, .shadow, .rw, 0x0000FFFF, 0x00000000, []⟩,
  ⟨0x048, 1, 4, 1, .shadow, .rw, 0xFFFFFFFF, 0x00000000, []⟩,
  ⟨0x04C, 1, 4, 1, .live, .wo, 0x00000F0F, 0x00000000, []⟩,
  ⟨0x050, 1, 4, 1, .live, .ro, 0x00000000, 0x00000000, []⟩,
  ⟨0x054, 1, 4, 1, .live, .ro, 0x00000000, 0x0000FFFF, []⟩,
  ⟨0x058, 1, 4, 1, .live, .ro, 0x00000000, 0x00000000, []⟩,
  ⟨0x05C, 1, 4, 1, .live, .ro, 0x00000000, 0x00000000, []⟩,
  ⟨0x060, 3, 4, 1, .live, .ro, 0x00000000, 0x00000000, []⟩,
  ⟨0x070, 1, 4, 1, .live, .ro, 0x00000000, 0x00000000, []⟩,
  ⟨0x100, 42, 8, 1, .live, .ro, 0x00000000, 0x00032710, []⟩,
  ⟨0x104, 42, 8, 1, .live, .ro, 0x00000000, 0xFFFFFFFF, []⟩]

/-- Block registers of the DBG page. -/
def rowsDBG : List Row := [
  ⟨0x004, 1, 4, 1, .none, .ro, 0x00000000, 0x00000808, []⟩,
  ⟨0x040, 1, 4, 1, .live, .ro, 0x00000000, 0x00000000, []⟩,
  ⟨0x044, 1, 4, 1, .live, .ro, 0x00000000, 0x1307256B, []⟩,
  ⟨0x048, 1, 4, 1, .live, .ro, 0x00000000, 0x00000000, []⟩,
  ⟨0x04C, 1, 4, 1, .live, .ro, 0x00000000, 0x00000001, []⟩,
  ⟨0x050, 1, 4, 1, .live, .wo, 0x0000000F, 0x00000000, []⟩]

/-- Block registers of the TMX page. -/
def rowsTMX : List Row := [
  ⟨0x004, 1, 4, 1, .none, .ro, 0x00000000, 0x00014200, []⟩,
  ⟨0x040, 1, 4, 1, .shadow, .rw, 0x0000001F, 0x00000000, []⟩,
  ⟨0x044, 4, 4, 1, .shadow, .rw, 0x000001FF, 0x00000000, []⟩,
  ⟨0x054, 1, 4, 1, .shadow, .rw, 0x000001FF, 0x00000000, []⟩]

/-- The register table of a page kind. -/
def PageKind.rows : PageKind → List Row
  | .dev => rowsDEV
  | .rst => rowsRST
  | .clk => rowsCLK
  | .pwr => rowsPWR
  | .aon => rowsAON
  | .hst => rowsHST
  | .sr => rowsSR
  | .srq => rowsSRQ
  | .chm => rowsCHM
  | .est => rowsEST
  | .bal => rowsBAL
  | .thm => rowsTHM
  | .pwm => rowsPWM
  | .lpe => rowsLPE
  | .prt => rowsPRT
  | .ctk => rowsCTK
  | .adc => rowsADC
  | .iso => rowsISO
  | .flt => rowsFLT
  | .sfi => rowsSFI
  | .scl => rowsSCL
  | .fab => rowsFAB
  | .fp => rowsFP
  | .tim => rowsTIM
  | .tpo => rowsTPO
  | .cn => rowsCN
  | .twn => rowsTWN
  | .evr => rowsEVR
  | .aud => rowsAUD
  | .upd => rowsUPD
  | .age => rowsAGE
  | .dbg => rowsDBG
  | .tmx => rowsTMX

/-- IRQR bits that a page defines; the others are reserved. -/
def PageKind.irqMask : PageKind → Nat
  | .dev => 0x0
  | .rst => 0x7
  | .clk => 0x7
  | .pwr => 0x1F
  | .aon => 0x7
  | .hst => 0x1
  | .sr => 0x3FF
  | .srq => 0x3FF
  | .chm => 0xFF
  | .est => 0x7F
  | .bal => 0x1F
  | .thm => 0x3F
  | .pwm => 0x7F
  | .lpe => 0xFFFF
  | .prt => 0x1F
  | .ctk => 0x1F
  | .adc => 0x1FF
  | .iso => 0x1F
  | .flt => 0x1F
  | .sfi => 0x1FFF
  | .scl => 0x1F
  | .fab => 0x1FF
  | .fp => 0x3F
  | .tim => 0x7F
  | .tpo => 0xFF
  | .cn => 0x3FF
  | .twn => 0x7F
  | .evr => 0xFF
  | .aud => 0x7
  | .upd => 0x3F
  | .age => 0x3F
  | .dbg => 0x1F
  | .tmx => 0x1

/-- Page kind of each page index (R31). -/
def pageKinds : List PageKind := [.dev, .rst, .clk, .pwr, .aon, .hst, .sr, .sr, .sr, .sr, .srq, .chm, .est, .bal, .thm, .pwm, .lpe, .prt, .ctk, .adc, .iso, .flt, .sfi, .scl, .fab, .fp, .fp, .fp, .fp, .fp, .tim, .tpo, .cn, .cn, .twn, .evr, .aud, .upd, .age, .dbg, .tmx]

/-- Base address of each page index (R31). -/
def pageBases : List Nat := [0x0, 0x1000, 0x2000, 0x3000, 0x4000, 0x5000, 0x10000, 0x11000, 0x12000, 0x13000, 0x14000, 0x50000, 0x51000, 0x52000, 0x53000, 0x60000, 0x61000, 0x62000, 0x63000, 0x64000, 0x65000, 0x66000, 0x70000, 0x71000, 0x80000, 0x81000, 0x82000, 0x83000, 0x84000, 0x85000, 0x90000, 0x91000, 0xA0000, 0xA1000, 0xB0000, 0xC0000, 0xC1000, 0xD0000, 0xE0000, 0xF0000, 0xF1000]

/-- PID.INSTANCE of each page index (R36). -/
def pageInstances : List Nat := [0, 0, 0, 0, 0, 0, 0, 1, 2, 3, 0, 0, 0, 0, 0, 0, 0, 0, 0, 0, 0, 0, 0, 0, 0, 0, 1, 2, 3, 0, 0, 0, 0, 1, 0, 0, 0, 0, 0, 0, 0]

/-- Reset words of FLT_CLASS: the default classes of R409 and of the chapters that assign codes, coded by R415. -/
def fltClassReset : List Nat := [0xFFFD5213, 0xFFE68555, 0xFFFFFFE8, 0xFBFEFFFF, 0xFFFFFFFF, 0xFFFFFFFF, 0xFFFFFF1F, 0xFFFFFFFF, 0xFFFFFFFF, 0xFFFFFFFF, 0xFFFFFFFF, 0xFFFF7FFF, 0xFFFFFFFF, 0xFFFFFFFD, 0xFFFBFFFF, 0xFFFFFFFC]

end Sys2Proof.Machine

namespace Sys2Proof.Pg

/-- Page index of DEV (R31). -/
def DEV : Nat := 0
/-- Page index of RST (R31). -/
def RST : Nat := 1
/-- Page index of CLK (R31). -/
def CLK : Nat := 2
/-- Page index of PWR (R31). -/
def PWR : Nat := 3
/-- Page index of AON (R31). -/
def AON : Nat := 4
/-- Page index of HST (R31). -/
def HST : Nat := 5
/-- Page index of SRA (R31). -/
def SRA : Nat := 6
/-- Page index of SRB (R31). -/
def SRB : Nat := 7
/-- Page index of SRC (R31). -/
def SRC : Nat := 8
/-- Page index of SRD (R31). -/
def SRD : Nat := 9
/-- Page index of SRQ (R31). -/
def SRQ : Nat := 10
/-- Page index of CHM (R31). -/
def CHM : Nat := 11
/-- Page index of EST (R31). -/
def EST : Nat := 12
/-- Page index of BAL (R31). -/
def BAL : Nat := 13
/-- Page index of THM (R31). -/
def THM : Nat := 14
/-- Page index of PWM (R31). -/
def PWM : Nat := 15
/-- Page index of LPE (R31). -/
def LPE : Nat := 16
/-- Page index of PRT (R31). -/
def PRT : Nat := 17
/-- Page index of CTK (R31). -/
def CTK : Nat := 18
/-- Page index of ADC (R31). -/
def ADC : Nat := 19
/-- Page index of ISO (R31). -/
def ISO : Nat := 20
/-- Page index of FLT (R31). -/
def FLT : Nat := 21
/-- Page index of SFI (R31). -/
def SFI : Nat := 22
/-- Page index of SCL (R31). -/
def SCL : Nat := 23
/-- Page index of FAB (R31). -/
def FAB : Nat := 24
/-- Page index of FP0 (R31). -/
def FP0 : Nat := 25
/-- Page index of FP1 (R31). -/
def FP1 : Nat := 26
/-- Page index of FP2 (R31). -/
def FP2 : Nat := 27
/-- Page index of FP3 (R31). -/
def FP3 : Nat := 28
/-- Page index of TWP (R31). -/
def TWP : Nat := 29
/-- Page index of TIM (R31). -/
def TIM : Nat := 30
/-- Page index of TPO (R31). -/
def TPO : Nat := 31
/-- Page index of CNA (R31). -/
def CNA : Nat := 32
/-- Page index of CNB (R31). -/
def CNB : Nat := 33
/-- Page index of TWN (R31). -/
def TWN : Nat := 34
/-- Page index of EVR (R31). -/
def EVR : Nat := 35
/-- Page index of AUD (R31). -/
def AUD : Nat := 36
/-- Page index of UPD (R31). -/
def UPD : Nat := 37
/-- Page index of AGE (R31). -/
def AGE : Nat := 38
/-- Page index of DBG (R31). -/
def DBG : Nat := 39
/-- Page index of TMX (R31). -/
def TMX : Nat := 40
/-- Page index of ring `x`. -/
def SR (x : Nat) : Nat := 6 + x
/-- Page index of lane `x`, 4 for the TWIN lane. -/
def FP (x : Nat) : Nat := 25 + x
/-- Page index of CAN controller `x`. -/
def CN (x : Nat) : Nat := 32 + x

end Sys2Proof.Pg

namespace Sys2Proof.Reg

open Sys2Proof.Machine

/-- Base address of page `p`. -/
def base (p : Nat) : Nat := pageBases.getD p 0
/-- PID of page `p` (R35). -/
def pid (p : Nat) : Nat := base p + 0
/-- CAP of page `p` (R35). -/
def cap (p : Nat) : Nat := base p + 4
/-- CTRL of page `p` (R35). -/
def ctrl (p : Nat) : Nat := base p + 8
/-- STAT of page `p` (R35). -/
def stat (p : Nat) : Nat := base p + 12
/-- IRQR of page `p` (R35). -/
def irqr (p : Nat) : Nat := base p + 16
/-- IRQE of page `p` (R35). -/
def irqe (p : Nat) : Nat := base p + 20
/-- IRQS of page `p` (R35). -/
def irqs (p : Nat) : Nat := base p + 24
/-- COMMIT of page `p` (R35). -/
def commit (p : Nat) : Nat := base p + 28
/-- LOCK of page `p` (R35). -/
def lock (p : Nat) : Nat := base p + 32
/-- ERRA of page `p` (R35). -/
def erra (p : Nat) : Nat := base p + 36
/-- DEV_SSTATE. -/
def DEV_SSTATE : Nat := 0x40
/-- DEV_ORDER. -/
def DEV_ORDER : Nat := 0x44
/-- DEV_UID. -/
def DEV_UID : Nat := 0x48
/-- RST_NOW. -/
def RST_NOW : Nat := 0x1040
/-- RST_CAUSE. -/
def RST_CAUSE : Nat := 0x1044
/-- RST_FUSE. -/
def RST_FUSE : Nat := 0x1048
/-- RST_FUSECFG. -/
def RST_FUSECFG : Nat := 0x104C
/-- RST_FUSEPRG. -/
def RST_FUSEPRG : Nat := 0x1050
/-- RST_BOOTPRG. -/
def RST_BOOTPRG : Nat := 0x1054
/-- RST_SWRST. -/
def RST_SWRST : Nat := 0x1058
/-- RST_BOOT. -/
def RST_BOOT : Nat := 0x105C
/-- RST_BOOTOK. -/
def RST_BOOTOK : Nat := 0x1060
/-- RST_CMD. -/
def RST_CMD : Nat := 0x1064
/-- RST_COUNT. -/
def RST_COUNT : Nat := 0x1068
/-- CLK_REFPPM. -/
def CLK_REFPPM : Nat := 0x2040
/-- CLK_CNT. -/
def CLK_CNT : Nat := 0x2044
/-- CLK_LAST. -/
def CLK_LAST : Nat := 0x2048
/-- PWR_BO. -/
def PWR_BO : Nat := 0x3040
/-- PWR_HU. -/
def PWR_HU : Nat := 0x3044
/-- PWR_THERM. -/
def PWR_THERM : Nat := 0x3048
/-- PWR_VMAIN. -/
def PWR_VMAIN : Nat := 0x304C
/-- PWR_VAON. -/
def PWR_VAON : Nat := 0x3050
/-- PWR_DIE. -/
def PWR_DIE : Nat := 0x3054
/-- PWR_VCORE. -/
def PWR_VCORE : Nat := 0x3058
/-- PWR_CNT. -/
def PWR_CNT : Nat := 0x305C
/-- AON_OPSEC. -/
def AON_OPSEC : Nat := 0x4040
/-- AON_SCRUB. -/
def AON_SCRUB : Nat := 0x4044
/-- AON_RETBAD. -/
def AON_RETBAD : Nat := 0x4048
/-- AON_BOOTLOG. -/
def AON_BOOTLOG : Nat := 0x404C
/-- AON_THERM. -/
def AON_THERM : Nat := 0x4050
/-- HST_CFG. -/
def HST_CFG : Nat := 0x5040
/-- HST_ROLE. -/
def HST_ROLE : Nat := 0x5044
/-- HST_IRQSUM0. -/
def HST_IRQSUM0 : Nat := 0x5048
/-- HST_IRQSUM1. -/
def HST_IRQSUM1 : Nat := 0x504C
/-- HST_IRQMASK0. -/
def HST_IRQMASK0 : Nat := 0x5050
/-- HST_IRQMASK1. -/
def HST_IRQMASK1 : Nat := 0x5054
/-- HST_CRCERR. -/
def HST_CRCERR : Nat := 0x5058
/-- HST_ABORT. -/
def HST_ABORT : Nat := 0x505C
/-- HST_SDOOR. -/
def HST_SDOOR : Nat := 0x5060
/-- HST_SSTAT. -/
def HST_SSTAT : Nat := 0x5064
/-- HST_SREQ. -/
def HST_SREQ (i : Nat) : Nat := 0x5100 + 4 * i
/-- HST_SRSP. -/
def HST_SRSP (i : Nat) : Nat := 0x5500 + 4 * i
/-- SRx_CFG. -/
def SR_CFG (x : Nat) : Nat := 0x40 + 0x10000 + 0x1000 * x
/-- SRx_STATE. -/
def SR_STATE (x : Nat) : Nat := 0x44 + 0x10000 + 0x1000 * x
/-- SRx_TAGS. -/
def SR_TAGS (x : Nat) : Nat := 0x48 + 0x10000 + 0x1000 * x
/-- SRx_BREAK. -/
def SR_BREAK (x : Nat) : Nat := 0x4C + 0x10000 + 0x1000 * x
/-- SRx_REACH. -/
def SR_REACH (x : Nat) : Nat := 0x50 + 0x10000 + 0x1000 * x
/-- SRx_QUAR. -/
def SR_QUAR (x : Nat) : Nat := 0x54 + 0x10000 + 0x1000 * x
/-- SRx_MISS. -/
def SR_MISS (x : Nat) : Nat := 0x58 + 0x10000 + 0x1000 * x
/-- SRx_RTT. -/
def SR_RTT (x : Nat) : Nat := 0x5C + 0x10000 + 0x1000 * x
/-- SRx_TMO. -/
def SR_TMO (x : Nat) : Nat := 0x60 + 0x10000 + 0x1000 * x
/-- SRx_RETRY. -/
def SR_RETRY (x : Nat) : Nat := 0x64 + 0x10000 + 0x1000 * x
/-- SRx_HEAL. -/
def SR_HEAL (x : Nat) : Nat := 0x68 + 0x10000 + 0x1000 * x
/-- SRx_CMD. -/
def SR_CMD (x : Nat) : Nat := 0x6C + 0x10000 + 0x1000 * x
/-- SRx_ALARM. -/
def SR_ALARM (x : Nat) : Nat := 0x70 + 0x10000 + 0x1000 * x
/-- SRx_CNT_CRC. -/
def SR_CNT_CRC (x : Nat) : Nat := 0x80 + 0x10000 + 0x1000 * x
/-- SRx_CNT_CODE. -/
def SR_CNT_CODE (x : Nat) : Nat := 0x84 + 0x10000 + 0x1000 * x
/-- SRx_CNT_TMO. -/
def SR_CNT_TMO (x : Nat) : Nat := 0x88 + 0x10000 + 0x1000 * x
/-- SRx_CNT_UNSOL. -/
def SR_CNT_UNSOL (x : Nat) : Nat := 0x8C + 0x10000 + 0x1000 * x
/-- SRx_CNT_DISC. -/
def SR_CNT_DISC (x : Nat) : Nat := 0x90 + 0x10000 + 0x1000 * x
/-- SRx_CNT_JAB. -/
def SR_CNT_JAB (x : Nat) : Nat := 0x94 + 0x10000 + 0x1000 * x
/-- SRx_CNT_LOS. -/
def SR_CNT_LOS (x : Nat) : Nat := 0x98 + 0x10000 + 0x1000 * x
/-- SRx_CNT_RETRY. -/
def SR_CNT_RETRY (x : Nat) : Nat := 0x9C + 0x10000 + 0x1000 * x
/-- SRx_ROSTER. -/
def SR_ROSTER (x i : Nat) : Nat := 0x100 + 0x10000 + 0x1000 * x + 4 * i
/-- SRx_SEEN. -/
def SR_SEEN (x i : Nat) : Nat := 0x200 + 0x10000 + 0x1000 * x + 4 * i
/-- SRx_PINFO. -/
def SR_PINFO (x i : Nat) : Nat := 0x300 + 0x10000 + 0x1000 * x + 4 * i
/-- SRx_PMAP. -/
def SR_PMAP (x i : Nat) : Nat := 0x380 + 0x10000 + 0x1000 * x + 4 * i
/-- SRQ_CFG. -/
def SRQ_CFG : Nat := 0x14040
/-- SRQ_ALIGN. -/
def SRQ_ALIGN : Nat := 0x14044
/-- SRQ_COLDL. -/
def SRQ_COLDL : Nat := 0x14048
/-- SRQ_SCANSTAT. -/
def SRQ_SCANSTAT : Nat := 0x1404C
/-- SRQ_SCANTIME. -/
def SRQ_SCANTIME : Nat := 0x14050
/-- SRQ_CSTSEQ. -/
def SRQ_CSTSEQ : Nat := 0x14058
/-- SRQ_DLOOPA. -/
def SRQ_DLOOPA : Nat := 0x14060
/-- SRQ_DLOOPB. -/
def SRQ_DLOOPB : Nat := 0x14064
/-- SRQ_DLOOPC. -/
def SRQ_DLOOPC : Nat := 0x14068
/-- SRQ_DLOOPD. -/
def SRQ_DLOOPD : Nat := 0x1406C
/-- SRQ_QqCFG. -/
def SRQ_QCFG (i : Nat) : Nat := 0x14100 + 32 * i
/-- SRQ_QqLEVEL. -/
def SRQ_QLEVEL (i : Nat) : Nat := 0x14104 + 32 * i
/-- SRQ_QqFILL. -/
def SRQ_QFILL (i : Nat) : Nat := 0x14108 + 32 * i
/-- SRQ_QqFREE. -/
def SRQ_QFREE (i : Nat) : Nat := 0x1410C + 32 * i
/-- SRQ_QqPEEK. -/
def SRQ_QPEEK (i : Nat) : Nat := 0x14110 + 32 * i
/-- SRQ_QqDATA. -/
def SRQ_QDATA (i : Nat) : Nat := 0x14114 + 32 * i
/-- SRQ_QqCMD. -/
def SRQ_QCMD (i : Nat) : Nat := 0x14118 + 32 * i
/-- SRQ_QqCNT. -/
def SRQ_QCNT (i : Nat) : Nat := 0x1411C + 32 * i
/-- SRQ_QSTALL. -/
def SRQ_QSTALL : Nat := 0x14180
/-- CHM_CFG. -/
def CHM_CFG : Nat := 0x50040
/-- CHM_WIN. -/
def CHM_WIN : Nat := 0x50044
/-- CHM_AMB. -/
def CHM_AMB : Nat := 0x50048
/-- CHM_COLDL. -/
def CHM_COLDL : Nat := 0x5004C
/-- CHM_STEP. -/
def CHM_STEP : Nat := 0x50050
/-- CHM_PHOFS. -/
def CHM_PHOFS : Nat := 0x50054
/-- CHM_RBLEED. -/
def CHM_RBLEED : Nat := 0x50058
/-- CHM_CMD. -/
def CHM_CMD : Nat := 0x5005C
/-- CHM_IDLYb. -/
def CHM_IDLY (i : Nat) : Nat := 0x50060 + 4 * i
/-- CHM_WCOUNT. -/
def CHM_WCOUNT : Nat := 0x50080
/-- CHM_RCOUNT. -/
def CHM_RCOUNT : Nat := 0x50084
/-- CHM_WSTART. -/
def CHM_WSTART : Nat := 0x50088
/-- CHM_ZSEL. -/
def CHM_ZSEL : Nat := 0x50090
/-- CHM_DISCc. -/
def CHM_DISC (i : Nat) : Nat := 0x50100 + 4 * i
/-- CHM_TkFREQ. -/
def CHM_TFREQ (i : Nat) : Nat := 0x50180 + 16 * i
/-- CHM_TkAMP. -/
def CHM_TAMP (i : Nat) : Nat := 0x50184 + 16 * i
/-- CHM_TkSTAT. -/
def CHM_TSTAT (i : Nat) : Nat := 0x50188 + 16 * i
/-- CHM_ZDATA. -/
def CHM_ZDATA (i : Nat) : Nat := 0x50400 + 4 * i
/-- EST_CFG. -/
def EST_CFG : Nat := 0x51040
/-- EST_RATED. -/
def EST_RATED : Nat := 0x51044
/-- EST_VLIM. -/
def EST_VLIM : Nat := 0x51048
/-- EST_REST. -/
def EST_REST : Nat := 0x5104C
/-- EST_DRIFT. -/
def EST_DRIFT : Nat := 0x51050
/-- EST_ISENS. -/
def EST_ISENS : Nat := 0x51054
/-- EST_LEARN. -/
def EST_LEARN : Nat := 0x51058
/-- EST_LTEMP. -/
def EST_LTEMP : Nat := 0x5105C
/-- EST_USLEW. -/
def EST_USLEW : Nat := 0x51060
/-- EST_WB. -/
def EST_WB : Nat := 0x51064
/-- EST_ANCH. -/
def EST_ANCH : Nat := 0x51068
/-- EST_VOBS. -/
def EST_VOBS : Nat := 0x5106C
/-- EST_IREF. -/
def EST_IREF : Nat := 0x51070
/-- EST_CMD. -/
def EST_CMD : Nat := 0x51074
/-- EST_USOC. -/
def EST_USOC : Nat := 0x51078
/-- EST_UCAP. -/
def EST_UCAP : Nat := 0x5107C
/-- EST_SLIM. -/
def EST_SLIM : Nat := 0x51080
/-- EST_WEAK. -/
def EST_WEAK : Nat := 0x51084
/-- EST_CONFSTAT. -/
def EST_CONFSTAT : Nat := 0x51088
/-- EST_LDSEQ. -/
def EST_LDSEQ : Nat := 0x5108C
/-- EST_LDCNT. -/
def EST_LDCNT : Nat := 0x51090
/-- EST_ACNT. -/
def EST_ACNT : Nat := 0x51094
/-- EST_LCNT. -/
def EST_LCNT : Nat := 0x51098
/-- EST_EFCSTR. -/
def EST_EFCSTR : Nat := 0x5109C
/-- EST_CSEL. -/
def EST_CSEL : Nat := 0x510A0
/-- EST_CDATA. -/
def EST_CDATA (i : Nat) : Nat := 0x510A4 + 4 * i
/-- EST_UPDTIME. -/
def EST_UPDTIME : Nat := 0x510C8
/-- EST_QACCb. -/
def EST_QACC (i : Nat) : Nat := 0x510D0 + 8 * i
/-- EST_LDISQc. -/
def EST_LDISQ (i : Nat) : Nat := 0x51110 + 4 * i
/-- EST_CHEM. -/
def EST_CHEM (i : Nat) : Nat := 0x51400 + 4 * i
/-- BAL_CFG. -/
def BAL_CFG : Nat := 0x52040
/-- BAL_TGT. -/
def BAL_TGT : Nat := 0x52044
/-- BAL_SCHED. -/
def BAL_SCHED : Nat := 0x52048
/-- BAL_DIE. -/
def BAL_DIE : Nat := 0x5204C
/-- BAL_VMIN. -/
def BAL_VMIN : Nat := 0x52050
/-- BAL_CMD. -/
def BAL_CMD : Nat := 0x52054
/-- BAL_QTOT. -/
def BAL_QTOT : Nat := 0x52058
/-- BAL_ACTIVE. -/
def BAL_ACTIVE : Nat := 0x52060
/-- BAL_LIMITED. -/
def BAL_LIMITED : Nat := 0x52064
/-- THM_CFG. -/
def THM_CFG : Nat := 0x53040
/-- THM_PLAUS. -/
def THM_PLAUS : Nat := 0x53044
/-- THM_DHOT. -/
def THM_DHOT : Nat := 0x53048
/-- THM_DCOLD. -/
def THM_DCOLD : Nat := 0x5304C
/-- THM_IBASE. -/
def THM_IBASE : Nat := 0x53050
/-- THM_OT. -/
def THM_OT : Nat := 0x53054
/-- THM_MODEL. -/
def THM_MODEL : Nat := 0x53058
/-- THM_TCOOL. -/
def THM_TCOOL : Nat := 0x5305C
/-- THM_COOL. -/
def THM_COOL : Nat := 0x53060
/-- THM_CSET. -/
def THM_CSET : Nat := 0x53064
/-- THM_CMD. -/
def THM_CMD : Nat := 0x53068
/-- THM_SUM. -/
def THM_SUM : Nat := 0x5306C
/-- THM_HOT. -/
def THM_HOT : Nat := 0x53070
/-- THM_DERATE. -/
def THM_DERATE : Nat := 0x53074
/-- THM_COOLSTAT. -/
def THM_COOLSTAT : Nat := 0x53078
/-- THM_CHILLER. -/
def THM_CHILLER : Nat := 0x5307C
/-- THM_NSUB. -/
def THM_NSUB : Nat := 0x53080
/-- THM_NFLT. -/
def THM_NFLT : Nat := 0x53084
/-- THM_PFLT. -/
def THM_PFLT (i : Nat) : Nat := 0x53100 + 4 * i
/-- THM_PEXCL. -/
def THM_PEXCL (i : Nat) : Nat := 0x53180 + 4 * i
/-- PWM_CFG. -/
def PWM_CFG : Nat := 0x60040
/-- PWM_CAR. -/
def PWM_CAR : Nat := 0x60044
/-- PWM_TRIG. -/
def PWM_TRIG : Nat := 0x60048
/-- PWM_DLIM. -/
def PWM_DLIM : Nat := 0x6004C
/-- PWM_MINPW. -/
def PWM_MINPW : Nat := 0x60050
/-- PWM_GDF. -/
def PWM_GDF : Nat := 0x60054
/-- PWM_GDFSTAT. -/
def PWM_GDFSTAT : Nat := 0x60058
/-- PWM_DTC. -/
def PWM_DTC : Nat := 0x6005C
/-- PWM_FCWIN. -/
def PWM_FCWIN : Nat := 0x60060
/-- PWM_BSTART. -/
def PWM_BSTART : Nat := 0x60064
/-- PWM_BTGT. -/
def PWM_BTGT : Nat := 0x60068
/-- PWM_PHSTAT. -/
def PWM_PHSTAT : Nat := 0x60070
/-- PWM_CNT. -/
def PWM_CNT : Nat := 0x60074
/-- PWM_PHpANG. -/
def PWM_PHANG (i : Nat) : Nat := 0x60080 + 16 * i
/-- PWM_PHpDTO. -/
def PWM_PHDTO (i : Nat) : Nat := 0x60084 + 16 * i
/-- PWM_PHpDTI. -/
def PWM_PHDTI (i : Nat) : Nat := 0x60088 + 16 * i
/-- PWM_PHpDUTY. -/
def PWM_PHDUTY (i : Nat) : Nat := 0x6008C + 16 * i
/-- LPE_CFG. -/
def LPE_CFG : Nat := 0x61040
/-- LPE_ILIM. -/
def LPE_ILIM : Nat := 0x61044
/-- LPE_SLEW. -/
def LPE_SLEW : Nat := 0x61048
/-- LPE_LIMRAMP. -/
def LPE_LIMRAMP : Nat := 0x6104C
/-- LPE_FBEST. -/
def LPE_FBEST : Nat := 0x61050
/-- LPE_FBTHM. -/
def LPE_FBTHM : Nat := 0x61054
/-- LPE_FFG. -/
def LPE_FFG : Nat := 0x61058
/-- LPE_KSL. -/
def LPE_KSL : Nat := 0x6105C
/-- LPE_VBMIN. -/
def LPE_VBMIN : Nat := 0x61060
/-- LPE_FCBAND. -/
def LPE_FCBAND : Nat := 0x61064
/-- LPE_SWAP. -/
def LPE_SWAP : Nat := 0x61068
/-- LPE_CMD. -/
def LPE_CMD : Nat := 0x6106C
/-- LPE_OVR. -/
def LPE_OVR : Nat := 0x61070
/-- LPE_TCOMP. -/
def LPE_TCOMP : Nat := 0x61074
/-- LPE_LIMNOW. -/
def LPE_LIMNOW : Nat := 0x61078
/-- LPE_LIMSRC. -/
def LPE_LIMSRC : Nat := 0x6107C
/-- LPE_SPIN0 to LPE_SPIN4. -/
def LPE_SPIN (i : Nat) : Nat := 0x61080 + 4 * i
/-- LPE_SPSTAT. -/
def LPE_SPSTAT : Nat := 0x61094
/-- LPE_SPCNT. -/
def LPE_SPCNT : Nat := 0x61098
/-- LPE_ISET. -/
def LPE_ISET : Nat := 0x6109C
/-- LPE_IREF. -/
def LPE_IREF : Nat := 0x610A0
/-- LPE_SPTIME. -/
def LPE_SPTIME : Nat := 0x610A8
/-- LPE_TEST. -/
def LPE_TEST : Nat := 0x610B0
/-- LPE_TAMP. -/
def LPE_TAMP : Nat := 0x610B4
/-- LPE_TPHINC. -/
def LPE_TPHINC : Nat := 0x610B8
/-- LPE_TLEN. -/
def LPE_TLEN : Nat := 0x610BC
/-- LPE_CAPCFG. -/
def LPE_CAPCFG : Nat := 0x610C0
/-- LPE_CAPSEL0. -/
def LPE_CAPSEL0 : Nat := 0x610C4
/-- LPE_CAPSEL1. -/
def LPE_CAPSEL1 : Nat := 0x610C8
/-- LPE_CAPSTAT. -/
def LPE_CAPSTAT : Nat := 0x610CC
/-- LPE_CAPT0. -/
def LPE_CAPT0 : Nat := 0x610D0
/-- LPE_LPnCFG. -/
def LPE_LPCFG (i : Nat) : Nat := 0x61100 + 16 * i
/-- LPE_LPnSRC. -/
def LPE_LPSRC (i : Nat) : Nat := 0x61104 + 16 * i
/-- LPE_LPnK. -/
def LPE_LPK (i : Nat) : Nat := 0x61108 + 16 * i
/-- LPE_LPnSTAT. -/
def LPE_LPSTAT (i : Nat) : Nat := 0x6110C + 16 * i
/-- PRT_CFG. -/
def PRT_CFG : Nat := 0x62040
/-- PRT_SNSTAT. -/
def PRT_SNSTAT : Nat := 0x62044
/-- PRT_SNLATCH. -/
def PRT_SNLATCH : Nat := 0x62048
/-- PRT_SNLEVEL. -/
def PRT_SNLEVEL : Nat := 0x6204C
/-- PRT_VBHI. -/
def PRT_VBHI : Nat := 0x62050
/-- PRT_VBLO. -/
def PRT_VBLO : Nat := 0x62054
/-- PRT_ILIM. -/
def PRT_ILIM : Nat := 0x62058
/-- PRT_CELLV. -/
def PRT_CELLV : Nat := 0x6205C
/-- PRT_CELLCFG. -/
def PRT_CELLCFG : Nat := 0x62060
/-- PRT_CONTRIB. -/
def PRT_CONTRIB : Nat := 0x62064
/-- PRT_CELLSTAT. -/
def PRT_CELLSTAT : Nat := 0x62068
/-- PRT_CMPnCFG. -/
def PRT_CMPCFG (i : Nat) : Nat := 0x62100 + 16 * i
/-- PRT_CMPnTHR. -/
def PRT_CMPTHR (i : Nat) : Nat := 0x62104 + 16 * i
/-- PRT_CMPnSTAT. -/
def PRT_CMPSTAT (i : Nat) : Nat := 0x62108 + 16 * i
/-- PRT_DLrHI. -/
def PRT_DLHI (i : Nat) : Nat := 0x62200 + 16 * i
/-- PRT_DLrLO. -/
def PRT_DLLO (i : Nat) : Nat := 0x62204 + 16 * i
/-- PRT_DLrTIME. -/
def PRT_DLTIME (i : Nat) : Nat := 0x62208 + 16 * i
/-- PRT_DLrSTAT. -/
def PRT_DLSTAT (i : Nat) : Nat := 0x6220C + 16 * i
/-- CTK_CFG. -/
def CTK_CFG : Nat := 0x63040
/-- CTK_TIME. -/
def CTK_TIME : Nat := 0x63044
/-- CTK_PRE. -/
def CTK_PRE : Nat := 0x63048
/-- CTK_JOIN. -/
def CTK_JOIN : Nat := 0x6304C
/-- CTK_ZERO. -/
def CTK_ZERO : Nat := 0x63050
/-- CTK_CMD. -/
def CTK_CMD : Nat := 0x63054
/-- CTK_DRIVE. -/
def CTK_DRIVE : Nat := 0x63058
/-- CTK_AUX. -/
def CTK_AUX : Nat := 0x6305C
/-- CTK_PSTAT. -/
def CTK_PSTAT : Nat := 0x63060
/-- CTK_SEQ. -/
def CTK_SEQ : Nat := 0x63064
/-- CTK_HOLD. -/
def CTK_HOLD : Nat := 0x63068
/-- CTK_PpOPS. -/
def CTK_POPS (i : Nat) : Nat := 0x63100 + 8 * i
/-- CTK_PpBRK. -/
def CTK_PBRK (i : Nat) : Nat := 0x63104 + 8 * i
/-- ADC_CFG. -/
def ADC_CFG : Nat := 0x64040
/-- ADC_REGPER. -/
def ADC_REGPER : Nat := 0x64044
/-- ADC_REFCFG. -/
def ADC_REFCFG : Nat := 0x64048
/-- ADC_CALPER. -/
def ADC_CALPER : Nat := 0x6404C
/-- ADC_CMD. -/
def ADC_CMD : Nat := 0x64050
/-- ADC_KCFG. -/
def ADC_KCFG : Nat := 0x64054
/-- ADC_KTOL. -/
def ADC_KTOL : Nat := 0x64058
/-- ADC_KSTAT. -/
def ADC_KSTAT : Nat := 0x6405C
/-- ADC_CNT. -/
def ADC_CNT : Nat := 0x64060
/-- ADC_CLIPMAP. -/
def ADC_CLIPMAP : Nat := 0x64064
/-- ADC_CALEFF. -/
def ADC_CALEFF : Nat := 0x64068
/-- ADC_xSEQR0. -/
def ADC_XSEQR0 (i : Nat) : Nat := 0x64080 + 32 * i
/-- ADC_xSEQR1. -/
def ADC_XSEQR1 (i : Nat) : Nat := 0x64084 + 32 * i
/-- ADC_xSEQR2. -/
def ADC_XSEQR2 (i : Nat) : Nat := 0x64088 + 32 * i
/-- ADC_xSEQR3. -/
def ADC_XSEQR3 (i : Nat) : Nat := 0x6408C + 32 * i
/-- ADC_xSEQI. -/
def ADC_XSEQI (i : Nat) : Nat := 0x64090 + 32 * i
/-- ADC_xGAIN. -/
def ADC_XGAIN (i : Nat) : Nat := 0x64094 + 32 * i
/-- ADC_xOFFS. -/
def ADC_XOFFS (i : Nat) : Nat := 0x64098 + 32 * i
/-- ADC_xCALT. -/
def ADC_XCALT (i : Nat) : Nat := 0x6409C + 32 * i
/-- ADC_INnRES. -/
def ADC_INRES (i : Nat) : Nat := 0x64100 + 16 * i
/-- ADC_INnVAL. -/
def ADC_INVAL (i : Nat) : Nat := 0x64104 + 16 * i
/-- ADC_INnSCALE. -/
def ADC_INSCALE (i : Nat) : Nat := 0x64108 + 16 * i
/-- ADC_INnOFS. -/
def ADC_INOFS (i : Nat) : Nat := 0x6410C + 16 * i
/-- ISO_CFG. -/
def ISO_CFG : Nat := 0x65040
/-- ISO_NET. -/
def ISO_NET : Nat := 0x65044
/-- ISO_RC. -/
def ISO_RC : Nat := 0x65048
/-- ISO_LIM. -/
def ISO_LIM : Nat := 0x6504C
/-- ISO_RES. -/
def ISO_RES : Nat := 0x65050
/-- ISO_VPOS. -/
def ISO_VPOS : Nat := 0x65054
/-- ISO_VNEG. -/
def ISO_VNEG : Nat := 0x65058
/-- ISO_CNT. -/
def ISO_CNT : Nat := 0x6505C
/-- FLT_CFG. -/
def FLT_CFG : Nat := 0x66040
/-- FLT_STATE. -/
def FLT_STATE : Nat := 0x66044
/-- FLT_INFORCE. -/
def FLT_INFORCE : Nat := 0x66048
/-- FLT_CMD. -/
def FLT_CMD : Nat := 0x6604C
/-- FLT_CLR. -/
def FLT_CLR : Nat := 0x66050
/-- FLT_STORM. -/
def FLT_STORM : Nat := 0x66054
/-- FLT_NSTAND. -/
def FLT_NSTAND : Nat := 0x66058
/-- FLT_LAST. -/
def FLT_LAST : Nat := 0x66060
/-- FLT_LASTVAL. -/
def FLT_LASTVAL : Nat := 0x66064
/-- FLT_LASTTIME. -/
def FLT_LASTTIME : Nat := 0x66068
/-- FLT_CLASS. -/
def FLT_CLASS (i : Nat) : Nat := 0x66100 + 4 * i
/-- FLT_STAND. -/
def FLT_STAND (i : Nat) : Nat := 0x66140 + 4 * i
/-- FLT_HCLASS. -/
def FLT_HCLASS (i : Nat) : Nat := 0x66180 + 4 * i
/-- SFI_FUNC. -/
def SFI_FUNC : Nat := 0x70040
/-- SFI_INSTAT. -/
def SFI_INSTAT : Nat := 0x70044
/-- SFI_INFLT. -/
def SFI_INFLT : Nat := 0x70048
/-- SFI_OUTSTAT. -/
def SFI_OUTSTAT : Nat := 0x7004C
/-- SFI_PCV. -/
def SFI_PCV : Nat := 0x70050
/-- SFI_CONFIRM. -/
def SFI_CONFIRM : Nat := 0x70054
/-- SFI_CMD. -/
def SFI_CMD : Nat := 0x70058
/-- SFI_RIMCNT. -/
def SFI_RIMCNT : Nat := 0x7005C
/-- SFI_FAULT. -/
def SFI_FAULT : Nat := 0x70060
/-- SFI_SLOT. -/
def SFI_SLOT : Nat := 0x70064
/-- SFI_CYCLE. -/
def SFI_CYCLE : Nat := 0x70068
/-- SFI_T1REM. -/
def SFI_T1REM : Nat := 0x7006C
/-- SFI_INnCFG. -/
def SFI_INCFG (i : Nat) : Nat := 0x70100 + 8 * i
/-- SFI_INnTIM. -/
def SFI_INTIM (i : Nat) : Nat := 0x70104 + 8 * i
/-- SFI_OUTmCFG. -/
def SFI_OUTCFG (i : Nat) : Nat := 0x70140 + 8 * i
/-- SFI_OUTmTIM. -/
def SFI_OUTTIM (i : Nat) : Nat := 0x70144 + 8 * i
/-- SFI_T1. -/
def SFI_T1 : Nat := 0x70160
/-- SFI_HAND. -/
def SFI_HAND : Nat := 0x70164
/-- SFI_SCLMAP. -/
def SFI_SCLMAP : Nat := 0x70168
/-- SFI_PBFMT. -/
def SFI_PBFMT : Nat := 0x701FC
/-- SCL_PCV. -/
def SCL_PCV : Nat := 0x71040
/-- SCL_CMD. -/
def SCL_CMD : Nat := 0x71044
/-- SCL_UP. -/
def SCL_UP : Nat := 0x71048
/-- SCL_CnSTAT. -/
def SCL_CSTAT (i : Nat) : Nat := 0x71080 + 16 * i
/-- SCL_CnRX. -/
def SCL_CRX (i : Nat) : Nat := 0x71084 + 16 * i
/-- SCL_CnCNT. -/
def SCL_CCNT (i : Nat) : Nat := 0x71088 + 16 * i
/-- SCL_CnSEQ. -/
def SCL_CSEQ (i : Nat) : Nat := 0x7108C + 16 * i
/-- SCL_CnCFG. -/
def SCL_CCFG (i : Nat) : Nat := 0x71100 + 24 * i
/-- SCL_CnID. -/
def SCL_CID (i : Nat) : Nat := 0x71104 + 24 * i
/-- SCL_CnTIM. -/
def SCL_CTIM (i : Nat) : Nat := 0x71108 + 24 * i
/-- SCL_CnNET1. -/
def SCL_CNET1 (i : Nat) : Nat := 0x7110C + 24 * i
/-- SCL_CnNET2. -/
def SCL_CNET2 (i : Nat) : Nat := 0x71110 + 24 * i
/-- SCL_PBFMT. -/
def SCL_PBFMT : Nat := 0x711FC
/-- FAB_CFG. -/
def FAB_CFG : Nat := 0x80040
/-- FAB_STRING. -/
def FAB_STRING : Nat := 0x80044
/-- FAB_UID. -/
def FAB_UID : Nat := 0x80048
/-- FAB_DISP. -/
def FAB_DISP : Nat := 0x80050
/-- FAB_GONG. -/
def FAB_GONG : Nat := 0x80054
/-- FAB_GONGSTAT. -/
def FAB_GONGSTAT : Nat := 0x80058
/-- FAB_GONGCNT. -/
def FAB_GONGCNT : Nat := 0x8005C
/-- FAB_REP. -/
def FAB_REP : Nat := 0x80060
/-- FAB_REPDST. -/
def FAB_REPDST : Nat := 0x80064
/-- FAB_CMD. -/
def FAB_CMD : Nat := 0x80068
/-- FAB_DSTAT. -/
def FAB_DSTAT : Nat := 0x8006C
/-- FAB_DCNT. -/
def FAB_DCNT : Nat := 0x80070
/-- FAB_DLAST. -/
def FAB_DLAST : Nat := 0x80074
/-- FAB_TOPO. -/
def FAB_TOPO : Nat := 0x80078
/-- FAB_AUTHCNT. -/
def FAB_AUTHCNT : Nat := 0x8007C
/-- FAB_RKEY1. -/
def FAB_RKEY1 (i : Nat) : Nat := 0x80100 + 4 * i
/-- FAB_RKEY2. -/
def FAB_RKEY2 (i : Nat) : Nat := 0x80110 + 4 * i
/-- FAB_RKEY3. -/
def FAB_RKEY3 (i : Nat) : Nat := 0x80120 + 4 * i
/-- FAB_RKEYV. -/
def FAB_RKEYV : Nat := 0x80130
/-- FAB_ROLE. -/
def FAB_ROLE (i : Nat) : Nat := 0x80400 + 4 * i
/-- FPn_CFG. -/
def FP_CFG (x : Nat) : Nat := 0x40 + 0x81000 + 0x1000 * x
/-- FPn_STATE. -/
def FP_STATE (x : Nat) : Nat := 0x44 + 0x81000 + 0x1000 * x
/-- FPn_PEERUID. -/
def FP_PEERUID (x : Nat) : Nat := 0x48 + 0x81000 + 0x1000 * x
/-- FPn_KEYCTL. -/
def FP_KEYCTL (x : Nat) : Nat := 0x50 + 0x81000 + 0x1000 * x
/-- FPn_MAC. -/
def FP_MAC (x : Nat) : Nat := 0x58 + 0x81000 + 0x1000 * x
/-- FPn_KEY0. -/
def FP_KEY0 (x i : Nat) : Nat := 0x60 + 0x81000 + 0x1000 * x + 4 * i
/-- FPn_KEY1. -/
def FP_KEY1 (x i : Nat) : Nat := 0x70 + 0x81000 + 0x1000 * x + 4 * i
/-- FPn_CRED. -/
def FP_CRED (x : Nat) : Nat := 0x80 + 0x81000 + 0x1000 * x
/-- FPn_RXOCC. -/
def FP_RXOCC (x : Nat) : Nat := 0x84 + 0x81000 + 0x1000 * x
/-- FPn_TXQ. -/
def FP_TXQ (x : Nat) : Nat := 0x88 + 0x81000 + 0x1000 * x
/-- FPn_RTT. -/
def FP_RTT (x : Nat) : Nat := 0x8C + 0x81000 + 0x1000 * x
/-- FPn_CNT_FCS. -/
def FP_CNT_FCS (x : Nat) : Nat := 0x90 + 0x81000 + 0x1000 * x
/-- FPn_CNT_AUTH. -/
def FP_CNT_AUTH (x : Nat) : Nat := 0x94 + 0x81000 + 0x1000 * x
/-- FPn_CNT_REPLAY. -/
def FP_CNT_REPLAY (x : Nat) : Nat := 0x98 + 0x81000 + 0x1000 * x
/-- FPn_CNT_NOCRED. -/
def FP_CNT_NOCRED (x : Nat) : Nat := 0x9C + 0x81000 + 0x1000 * x
/-- FPn_CNT_DISC. -/
def FP_CNT_DISC (x : Nat) : Nat := 0xA0 + 0x81000 + 0x1000 * x
/-- FPn_CNT_PREEMPT. -/
def FP_CNT_PREEMPT (x : Nat) : Nat := 0xA4 + 0x81000 + 0x1000 * x
/-- FPn_CNT_DROP. -/
def FP_CNT_DROP (x : Nat) : Nat := 0xA8 + 0x81000 + 0x1000 * x
/-- FPn_CNT_STALL. -/
def FP_CNT_STALL (x : Nat) : Nat := 0xAC + 0x81000 + 0x1000 * x
/-- FPn_CMD. -/
def FP_CMD (x : Nat) : Nat := 0xB0 + 0x81000 + 0x1000 * x
/-- TIM_CFG. -/
def TIM_CFG : Nat := 0x90040
/-- TIM_SLEW. -/
def TIM_SLEW : Nat := 0x90044
/-- TIM_HOLD. -/
def TIM_HOLD : Nat := 0x90048
/-- TIM_LAT. -/
def TIM_LAT : Nat := 0x9004C
/-- TIM_PTSH. -/
def TIM_PTSH : Nat := 0x90050
/-- TIM_PTSL. -/
def TIM_PTSL : Nat := 0x90054
/-- TIM_PTNS. -/
def TIM_PTNS : Nat := 0x90058
/-- TIM_MONO. -/
def TIM_MONO : Nat := 0x90060
/-- TIM_P0SH. -/
def TIM_P0SH : Nat := 0x90068
/-- TIM_P0SL. -/
def TIM_P0SL : Nat := 0x9006C
/-- TIM_P0NS. -/
def TIM_P0NS : Nat := 0x90070
/-- TIM_RESID. -/
def TIM_RESID : Nat := 0x90074
/-- TIM_STATE. -/
def TIM_STATE : Nat := 0x90078
/-- TIM_UTC. -/
def TIM_UTC : Nat := 0x9007C
/-- TIM_CNT. -/
def TIM_CNT : Nat := 0x90080
/-- TIM_CMD. -/
def TIM_CMD : Nat := 0x90084
/-- TIM_PTPCNT. -/
def TIM_PTPCNT : Nat := 0x90088
/-- TIM_DdCFG. -/
def TIM_DCFG (i : Nat) : Nat := 0x90100 + 64 * i
/-- TIM_DdLOCK. -/
def TIM_DLOCK (i : Nat) : Nat := 0x90104 + 64 * i
/-- TIM_DdINC. -/
def TIM_DINC (i : Nat) : Nat := 0x90108 + 64 * i
/-- TIM_DdADJ. -/
def TIM_DADJ (i : Nat) : Nat := 0x9010C + 64 * i
/-- TIM_DdTSH. -/
def TIM_DTSH (i : Nat) : Nat := 0x90110 + 64 * i
/-- TIM_DdTSL. -/
def TIM_DTSL (i : Nat) : Nat := 0x90114 + 64 * i
/-- TIM_DdTNS. -/
def TIM_DTNS (i : Nat) : Nat := 0x90118 + 64 * i
/-- TIM_DdSTAT. -/
def TIM_DSTAT (i : Nat) : Nat := 0x9011C + 64 * i
/-- TIM_DdGMID. -/
def TIM_DGMID (i : Nat) : Nat := 0x90120 + 64 * i
/-- TIM_DdOFS. -/
def TIM_DOFS (i : Nat) : Nat := 0x90128 + 64 * i
/-- TIM_DdPDLY. -/
def TIM_DPDLY (i : Nat) : Nat := 0x9012C + 64 * i
/-- TIM_DdSAGE. -/
def TIM_DSAGE (i : Nat) : Nat := 0x90130 + 64 * i
/-- TIM_FLsCTL. -/
def TIM_FLCTL (i : Nat) : Nat := 0x90200 + 32 * i
/-- TIM_FLsT. -/
def TIM_FLT (i : Nat) : Nat := 0x90204 + 32 * i
/-- TIM_FLsPER. -/
def TIM_FLPER (i : Nat) : Nat := 0x9020C + 32 * i
/-- TIM_FLsSTAT. -/
def TIM_FLSTAT (i : Nat) : Nat := 0x90210 + 32 * i
/-- TIM_CLsCTL. -/
def TIM_CLCTL (i : Nat) : Nat := 0x90300 + 32 * i
/-- TIM_CLsT. -/
def TIM_CLT (i : Nat) : Nat := 0x90304 + 32 * i
/-- TIM_CLsPER. -/
def TIM_CLPER (i : Nat) : Nat := 0x9030C + 32 * i
/-- TIM_CLsSTAT. -/
def TIM_CLSTAT (i : Nat) : Nat := 0x90310 + 32 * i
/-- TIM_FLsBUF. -/
def TIM_FLBUF (i : Nat) : Nat := 0x90800 + 256 * i
/-- TPO_kCFG. -/
def TPO_KCFG (i : Nat) : Nat := 0x91100 + 32 * i
/-- TPO_kSSH. -/
def TPO_KSSH (i : Nat) : Nat := 0x91104 + 32 * i
/-- TPO_kSSL. -/
def TPO_KSSL (i : Nat) : Nat := 0x91108 + 32 * i
/-- TPO_kSNS. -/
def TPO_KSNS (i : Nat) : Nat := 0x9110C + 32 * i
/-- TPO_kPER. -/
def TPO_KPER (i : Nat) : Nat := 0x91110 + 32 * i
/-- TPO_kWID. -/
def TPO_KWID (i : Nat) : Nat := 0x91114 + 32 * i
/-- TPO_kSTAT. -/
def TPO_KSTAT (i : Nat) : Nat := 0x91118 + 32 * i
/-- CNx_CFG. -/
def CN_CFG (x : Nat) : Nat := 0x40 + 0xA0000 + 0x1000 * x
/-- CNx_NTIM. -/
def CN_NTIM (x : Nat) : Nat := 0x44 + 0xA0000 + 0x1000 * x
/-- CNx_DTIM. -/
def CN_DTIM (x : Nat) : Nat := 0x48 + 0xA0000 + 0x1000 * x
/-- CNx_SSP. -/
def CN_SSP (x : Nat) : Nat := 0x4C + 0xA0000 + 0x1000 * x
/-- CNx_STATE. -/
def CN_STATE (x : Nat) : Nat := 0x50 + 0xA0000 + 0x1000 * x
/-- CNx_CMD. -/
def CN_CMD (x : Nat) : Nat := 0x54 + 0xA0000 + 0x1000 * x
/-- CNx_SSPDLY. -/
def CN_SSPDLY (x : Nat) : Nat := 0x58 + 0xA0000 + 0x1000 * x
/-- CNx_CNT. -/
def CN_CNT (x : Nat) : Nat := 0x5C + 0xA0000 + 0x1000 * x
/-- CNx_ECNT. -/
def CN_ECNT (x : Nat) : Nat := 0x60 + 0xA0000 + 0x1000 * x
/-- CNx_REF. -/
def CN_REF (x : Nat) : Nat := 0x64 + 0xA0000 + 0x1000 * x
/-- CNx_REFSOF. -/
def CN_REFSOF (x : Nat) : Nat := 0x68 + 0xA0000 + 0x1000 * x
/-- CNx_TXNEXT. -/
def CN_TXNEXT (x : Nat) : Nat := 0x70 + 0xA0000 + 0x1000 * x
/-- CNx_TXPEND. -/
def CN_TXPEND (x i : Nat) : Nat := 0x80 + 0xA0000 + 0x1000 * x + 4 * i
/-- CNx_RXMAP. -/
def CN_RXMAP (x i : Nat) : Nat := 0x90 + 0xA0000 + 0x1000 * x + 4 * i
/-- CNx_HOLDMAP. -/
def CN_HOLDMAP (x i : Nat) : Nat := 0xA0 + 0xA0000 + 0x1000 * x + 4 * i
/-- TWN_CFG. -/
def TWN_CFG : Nat := 0xB0040
/-- TWN_TOLL. -/
def TWN_TOLL : Nat := 0xB0044
/-- TWN_CMP. -/
def TWN_CMP : Nat := 0xB0048
/-- TWN_PWR. -/
def TWN_PWR : Nat := 0xB004C
/-- TWN_STATE. -/
def TWN_STATE : Nat := 0xB0050
/-- TWN_HEALTH. -/
def TWN_HEALTH : Nat := 0xB0054
/-- TWN_PHEALTH. -/
def TWN_PHEALTH : Nat := 0xB0058
/-- TWN_HOTIME. -/
def TWN_HOTIME : Nat := 0xB005C
/-- TWN_CMD. -/
def TWN_CMD : Nat := 0xB0060
/-- TWN_CNT. -/
def TWN_CNT : Nat := 0xB0064
/-- TWN_TOLLCNT. -/
def TWN_TOLLCNT : Nat := 0xB0068
/-- TWN_LASTH. -/
def TWN_LASTH : Nat := 0xB0070
/-- TWN_CFGCRC. -/
def TWN_CFGCRC : Nat := 0xB0078
/-- TWN_PCFGCRC. -/
def TWN_PCFGCRC : Nat := 0xB007C
/-- TWN_SKEW. -/
def TWN_SKEW : Nat := 0xB0080
/-- EVR_CFG. -/
def EVR_CFG : Nat := 0xC0040
/-- EVR_SEQ. -/
def EVR_SEQ : Nat := 0xC0044
/-- EVR_PCC. -/
def EVR_PCC : Nat := 0xC0048
/-- EVR_OPSEC. -/
def EVR_OPSEC : Nat := 0xC004C
/-- EVR_OPFRAC. -/
def EVR_OPFRAC : Nat := 0xC0050
/-- EVR_FILL. -/
def EVR_FILL : Nat := 0xC0054
/-- EVR_HOLD. -/
def EVR_HOLD : Nat := 0xC0058
/-- EVR_CNT. -/
def EVR_CNT : Nat := 0xC005C
/-- EVR_MEDIA. -/
def EVR_MEDIA : Nat := 0xC0060
/-- EVR_OLDEST. -/
def EVR_OLDEST : Nat := 0xC0064
/-- EVR_LASTCLR. -/
def EVR_LASTCLR : Nat := 0xC0068
/-- EVR_CMD. -/
def EVR_CMD : Nat := 0xC006C
/-- AUD_CHAIN. -/
def AUD_CHAIN : Nat := 0xC1040
/-- AUD_CNT. -/
def AUD_CNT : Nat := 0xC1044
/-- AUD_LAST. -/
def AUD_LAST : Nat := 0xC1048
/-- AUD_LASTADDR. -/
def AUD_LASTADDR : Nat := 0xC104C
/-- AUD_LASTNODE. -/
def AUD_LASTNODE : Nat := 0xC1050
/-- AUD_LASTSEQ. -/
def AUD_LASTSEQ : Nat := 0xC1054
/-- UPD_CFG. -/
def UPD_CFG : Nat := 0xD0040
/-- UPD_LOCK. -/
def UPD_LOCK : Nat := 0xD0044
/-- UPD_BANKS. -/
def UPD_BANKS : Nat := 0xD0048
/-- UPD_VERA. -/
def UPD_VERA : Nat := 0xD004C
/-- UPD_VERB. -/
def UPD_VERB : Nat := 0xD0050
/-- UPD_VERREC. -/
def UPD_VERREC : Nat := 0xD0054
/-- UPD_SVNMIN. -/
def UPD_SVNMIN : Nat := 0xD0058
/-- UPD_PROG. -/
def UPD_PROG : Nat := 0xD005C
/-- UPD_RESULT. -/
def UPD_RESULT : Nat := 0xD0060
/-- UPD_IMGST. -/
def UPD_IMGST : Nat := 0xD0064
/-- UPD_ACTT. -/
def UPD_ACTT : Nat := 0xD0068
/-- UPD_CMD. -/
def UPD_CMD : Nat := 0xD0070
/-- UPD_CNT. -/
def UPD_CNT : Nat := 0xD0074
/-- AGE_CFG. -/
def AGE_CFG : Nat := 0xE0040
/-- AGE_CTKREF. -/
def AGE_CTKREF : Nat := 0xE0044
/-- AGE_CTKRATE. -/
def AGE_CTKRATE : Nat := 0xE0048
/-- AGE_CMD. -/
def AGE_CMD : Nat := 0xE004C
/-- AGE_SUM. -/
def AGE_SUM : Nat := 0xE0050
/-- AGE_NEXT. -/
def AGE_NEXT : Nat := 0xE0054
/-- AGE_EVAL. -/
def AGE_EVAL : Nat := 0xE0058
/-- AGE_ACT. -/
def AGE_ACT : Nat := 0xE005C
/-- AGE_CMPTRIM0 to AGE_CMPTRIM2. -/
def AGE_CMPTRIM (i : Nat) : Nat := 0xE0060 + 4 * i
/-- AGE_REFRESH. -/
def AGE_REFRESH : Nat := 0xE0070
/-- AGE_MiVAL. -/
def AGE_MVAL (i : Nat) : Nat := 0xE0100 + 8 * i
/-- AGE_MiRUN. -/
def AGE_MRUN (i : Nat) : Nat := 0xE0104 + 8 * i
/-- DBG_SESSION. -/
def DBG_SESSION : Nat := 0xF0040
/-- DBG_IDCODE. -/
def DBG_IDCODE : Nat := 0xF0044
/-- DBG_AUTHCNT. -/
def DBG_AUTHCNT : Nat := 0xF0048
/-- DBG_JTAG. -/
def DBG_JTAG : Nat := 0xF004C
/-- DBG_CMD. -/
def DBG_CMD : Nat := 0xF0050
/-- TMX_CFG. -/
def TMX_CFG : Nat := 0xF1040
/-- TMX_DSELk. -/
def TMX_DSEL (i : Nat) : Nat := 0xF1044 + 4 * i
/-- TMX_ASEL. -/
def TMX_ASEL : Nat := 0xF1054

end Sys2Proof.Reg

namespace Sys2Proof.Fld

open Sys2Proof.Machine

/-- CTRL.EN. -/
def ctrlEn (p : Nat) : RegField := ⟨Reg.ctrl p, 0, 1⟩
/-- STAT.ENS. -/
def ens (p : Nat) : RegField := ⟨Reg.stat p, 0, 1⟩
/-- STAT.CPEND. -/
def cpend (p : Nat) : RegField := ⟨Reg.stat p, 1, 1⟩
/-- LOCK.LOCKED. -/
def locked (p : Nat) : RegField := ⟨Reg.lock p, 0, 1⟩
/-- CHM_STAT.STATE. -/
def CHM_STAT_STATE : RegField := ⟨0x5000C, 8, 3⟩
/-- CHM_STAT.SCALED. -/
def CHM_STAT_SCALED : RegField := ⟨0x5000C, 11, 1⟩
/-- CHM_STAT.AMBIENT. -/
def CHM_STAT_AMBIENT : RegField := ⟨0x5000C, 12, 1⟩
/-- EST_STAT.STATE. -/
def EST_STAT_STATE : RegField := ⟨0x5100C, 8, 2⟩
/-- EST_STAT.LDBUSY. -/
def EST_STAT_LDBUSY : RegField := ⟨0x5100C, 10, 1⟩
/-- EST_STAT.ACTIVE. -/
def EST_STAT_ACTIVE : RegField := ⟨0x5100C, 11, 1⟩
/-- THM_STAT.OTLATCH. -/
def THM_STAT_OTLATCH : RegField := ⟨0x5300C, 8, 1⟩
/-- THM_STAT.CHLOST. -/
def THM_STAT_CHLOST : RegField := ⟨0x5300C, 9, 1⟩
/-- THM_STAT.SENSFLT. -/
def THM_STAT_SENSFLT : RegField := ⟨0x5300C, 10, 1⟩
/-- PWM_STAT.SAFE. -/
def PWM_STAT_SAFE : RegField := ⟨0x6000C, 8, 1⟩
/-- ADC_STAT.STATE. -/
def ADC_STAT_STATE : RegField := ⟨0x6400C, 8, 3⟩
/-- ADC_STAT.REFOK. -/
def ADC_STAT_REFOK : RegField := ⟨0x6400C, 11, 1⟩
/-- ADC_STAT.CALBUSY. -/
def ADC_STAT_CALBUSY : RegField := ⟨0x6400C, 12, 4⟩
/-- ADC_STAT.KFAIL. -/
def ADC_STAT_KFAIL : RegField := ⟨0x6400C, 16, 1⟩
/-- LPE_STAT.STATE. -/
def LPE_STAT_STATE : RegField := ⟨0x6100C, 8, 3⟩
/-- LPE_STAT.OVRC. -/
def LPE_STAT_OVRC : RegField := ⟨0x6100C, 12, 2⟩
/-- LPE_STAT.TEST. -/
def LPE_STAT_TEST : RegField := ⟨0x6100C, 14, 1⟩
/-- ISO_STAT.HALTED. -/
def ISO_STAT_HALTED : RegField := ⟨0x6500C, 8, 1⟩
/-- SFI_STAT.STATE. -/
def SFI_STAT_STATE : RegField := ⟨0x7000C, 8, 3⟩
/-- SFI_STAT.SLOT. -/
def SFI_STAT_SLOT : RegField := ⟨0x7000C, 11, 1⟩
/-- SFI_STAT.CONFIRMED. -/
def SFI_STAT_CONFIRMED : RegField := ⟨0x7000C, 12, 1⟩
/-- SFI_STAT.ISTOP. -/
def SFI_STAT_ISTOP : RegField := ⟨0x7000C, 13, 1⟩
/-- SFI_STAT.MAINT. -/
def SFI_STAT_MAINT : RegField := ⟨0x7000C, 14, 1⟩
/-- SFI_STAT.HOPREP. -/
def SFI_STAT_HOPREP : RegField := ⟨0x7000C, 15, 1⟩
/-- FAB_STAT.STATE. -/
def FAB_STAT_STATE : RegField := ⟨0x8000C, 8, 2⟩
/-- EVR_STAT.FROZEN. -/
def EVR_STAT_FROZEN : RegField := ⟨0xC000C, 8, 1⟩
/-- EVR_STAT.MEDIAFLT. -/
def EVR_STAT_MEDIAFLT : RegField := ⟨0xC000C, 9, 1⟩
/-- EVR_STAT.NORFB. -/
def EVR_STAT_NORFB : RegField := ⟨0xC000C, 10, 1⟩
/-- EVR_STAT.HUGATE. -/
def EVR_STAT_HUGATE : RegField := ⟨0xC000C, 11, 1⟩
/-- EVR_STAT.FWD. -/
def EVR_STAT_FWD : RegField := ⟨0xC000C, 12, 1⟩
/-- CLK_STAT.PLLLOCK. -/
def CLK_STAT_PLLLOCK : RegField := ⟨0x200C, 8, 5⟩
/-- PWR_STAT.HUGOOD. -/
def PWR_STAT_HUGOOD : RegField := ⟨0x300C, 8, 1⟩
/-- PWR_STAT.WARN. -/
def PWR_STAT_WARN : RegField := ⟨0x300C, 9, 1⟩
/-- PWR_STAT.DIEWARN. -/
def PWR_STAT_DIEWARN : RegField := ⟨0x300C, 10, 1⟩
/-- PWR_STAT.PFAIL. -/
def PWR_STAT_PFAIL : RegField := ⟨0x300C, 11, 1⟩
/-- PWR_STAT.VIOLOW. -/
def PWR_STAT_VIOLOW : RegField := ⟨0x300C, 12, 1⟩
/-- UPD_STAT.PHASE. -/
def UPD_STAT_PHASE : RegField := ⟨0xD000C, 8, 4⟩
/-- UPD_STAT.MIXED. -/
def UPD_STAT_MIXED : RegField := ⟨0xD000C, 12, 1⟩
/-- DEV_SSTATE.BRANCHES. -/
def DEV_SSTATE_BRANCHES : RegField := ⟨Reg.DEV_SSTATE, 8, 8⟩
/-- DEV_SSTATE.DISPATCHOPEN. -/
def DEV_SSTATE_DISPATCHOPEN : RegField := ⟨Reg.DEV_SSTATE, 6, 1⟩
/-- DEV_SSTATE.ROLE. -/
def DEV_SSTATE_ROLE : RegField := ⟨Reg.DEV_SSTATE, 4, 2⟩
/-- DEV_SSTATE.STATE. -/
def DEV_SSTATE_STATE : RegField := ⟨Reg.DEV_SSTATE, 0, 4⟩
/-- DEV_ORDER.RANGE. -/
def DEV_ORDER_RANGE : RegField := ⟨Reg.DEV_ORDER, 0, 1⟩
/-- RST_CAUSE.SRC. -/
def RST_CAUSE_SRC : RegField := ⟨Reg.RST_CAUSE, 0, 16⟩
/-- RST_CAUSE.LEVEL. -/
def RST_CAUSE_LEVEL : RegField := ⟨Reg.RST_CAUSE, 16, 2⟩
/-- RST_FUSECFG.BOOTF. -/
def RST_FUSECFG_BOOTF : RegField := ⟨Reg.RST_FUSECFG, 0, 4⟩
/-- RST_FUSECFG.BURNT. -/
def RST_FUSECFG_BURNT : RegField := ⟨Reg.RST_FUSECFG, 31, 1⟩
/-- RST_SWRST.LEVEL. -/
def RST_SWRST_LEVEL : RegField := ⟨Reg.RST_SWRST, 0, 2⟩
/-- RST_SWRST.KEY. -/
def RST_SWRST_KEY : RegField := ⟨Reg.RST_SWRST, 16, 16⟩
/-- RST_BOOT.FAILS. -/
def RST_BOOT_FAILS : RegField := ⟨Reg.RST_BOOT, 0, 4⟩
/-- RST_BOOT.RECOVERY. -/
def RST_BOOT_RECOVERY : RegField := ⟨Reg.RST_BOOT, 8, 1⟩
/-- RST_BOOT.STARTS. -/
def RST_BOOT_STARTS : RegField := ⟨Reg.RST_BOOT, 16, 16⟩
/-- RST_CMD.OP. -/
def RST_CMD_OP : RegField := ⟨Reg.RST_CMD, 0, 4⟩
/-- RST_COUNT.L1. -/
def RST_COUNT_L1 : RegField := ⟨Reg.RST_COUNT, 0, 8⟩
/-- RST_COUNT.L2. -/
def RST_COUNT_L2 : RegField := ⟨Reg.RST_COUNT, 8, 8⟩
/-- RST_COUNT.L3. -/
def RST_COUNT_L3 : RegField := ⟨Reg.RST_COUNT, 16, 8⟩
/-- CLK_CNT.UNLOCKS. -/
def CLK_CNT_UNLOCKS : RegField := ⟨Reg.CLK_CNT, 0, 16⟩
/-- CLK_CNT.REFLOSS. -/
def CLK_CNT_REFLOSS : RegField := ⟨Reg.CLK_CNT, 16, 16⟩
/-- CLK_LAST.PLL. -/
def CLK_LAST_PLL : RegField := ⟨Reg.CLK_LAST, 0, 3⟩
/-- PWR_BO.WARN. -/
def PWR_BO_WARN : RegField := ⟨Reg.PWR_BO, 0, 16⟩
/-- PWR_BO.HUTHR. -/
def PWR_BO_HUTHR : RegField := ⟨Reg.PWR_BO, 16, 16⟩
/-- PWR_HU.HOLD. -/
def PWR_HU_HOLD : RegField := ⟨Reg.PWR_HU, 0, 16⟩
/-- PWR_THERM.WARN. -/
def PWR_THERM_WARN : RegField := ⟨Reg.PWR_THERM, 0, 16⟩
/-- PWR_VMAIN.VMAIN. -/
def PWR_VMAIN_VMAIN : RegField := ⟨Reg.PWR_VMAIN, 0, 16⟩
/-- PWR_VMAIN.VIO. -/
def PWR_VMAIN_VIO : RegField := ⟨Reg.PWR_VMAIN, 16, 16⟩
/-- PWR_VAON.VAON. -/
def PWR_VAON_VAON : RegField := ⟨Reg.PWR_VAON, 0, 16⟩
/-- PWR_VCORE.SYS. -/
def PWR_VCORE_SYS : RegField := ⟨Reg.PWR_VCORE, 0, 16⟩
/-- PWR_VCORE.APP. -/
def PWR_VCORE_APP : RegField := ⟨Reg.PWR_VCORE, 16, 16⟩
/-- PWR_CNT.WARNS. -/
def PWR_CNT_WARNS : RegField := ⟨Reg.PWR_CNT, 0, 16⟩
/-- PWR_CNT.BROWNOUTS. -/
def PWR_CNT_BROWNOUTS : RegField := ⟨Reg.PWR_CNT, 16, 16⟩
/-- AON_SCRUB.PASSES. -/
def AON_SCRUB_PASSES : RegField := ⟨Reg.AON_SCRUB, 0, 16⟩
/-- AON_SCRUB.CORR. -/
def AON_SCRUB_CORR : RegField := ⟨Reg.AON_SCRUB, 16, 8⟩
/-- AON_SCRUB.UNCORR. -/
def AON_SCRUB_UNCORR : RegField := ⟨Reg.AON_SCRUB, 24, 8⟩
/-- AON_THERM.L0. -/
def AON_THERM_L0 : RegField := ⟨Reg.AON_THERM, 0, 8⟩
/-- HST_CFG.IRQPP. -/
def HST_CFG_IRQPP : RegField := ⟨Reg.HST_CFG, 0, 1⟩
/-- HST_CFG.MAXROLE. -/
def HST_CFG_MAXROLE : RegField := ⟨Reg.HST_CFG, 1, 2⟩
/-- HST_IRQMASK1.Bits. -/
def HST_IRQMASK1_Bits : RegField := ⟨Reg.HST_IRQMASK1, 0, 9⟩
/-- HST_SDOOR.LEN. -/
def HST_SDOOR_LEN : RegField := ⟨Reg.HST_SDOOR, 0, 11⟩
/-- HST_SSTAT.BUSY. -/
def HST_SSTAT_BUSY : RegField := ⟨Reg.HST_SSTAT, 31, 1⟩
/-- HST_SSTAT.DONE. -/
def HST_SSTAT_DONE : RegField := ⟨Reg.HST_SSTAT, 30, 1⟩
/-- SRx_CFG.ROSTEREN. -/
def SR_CFG_ROSTEREN (x : Nat) : RegField := ⟨Reg.SR_CFG x, 11, 1⟩
/-- SRx_CFG.AUTOISO. -/
def SR_CFG_AUTOISO (x : Nat) : RegField := ⟨Reg.SR_CFG x, 10, 1⟩
/-- SRx_CFG.AUTOHEAL. -/
def SR_CFG_AUTOHEAL (x : Nat) : RegField := ⟨Reg.SR_CFG x, 9, 1⟩
/-- SRx_CFG.ALSNARE. -/
def SR_CFG_ALSNARE (x : Nat) : RegField := ⟨Reg.SR_CFG x, 8, 1⟩
/-- SRx_CFG.NSUP. -/
def SR_CFG_NSUP (x : Nat) : RegField := ⟨Reg.SR_CFG x, 0, 6⟩
/-- SRx_STATE.EXTRA. -/
def SR_STATE_EXTRA (x : Nat) : RegField := ⟨Reg.SR_STATE x, 22, 1⟩
/-- SRx_STATE.NQUAR. -/
def SR_STATE_NQUAR (x : Nat) : RegField := ⟨Reg.SR_STATE x, 16, 6⟩
/-- SRx_STATE.NREACH. -/
def SR_STATE_NREACH (x : Nat) : RegField := ⟨Reg.SR_STATE x, 8, 6⟩
/-- SRx_STATE.EPOCH. -/
def SR_STATE_EPOCH (x : Nat) : RegField := ⟨Reg.SR_STATE x, 4, 2⟩
/-- SRx_STATE.MODE. -/
def SR_STATE_MODE (x : Nat) : RegField := ⟨Reg.SR_STATE x, 0, 4⟩
/-- SRx_TAGS.FREE. -/
def SR_TAGS_FREE (x : Nat) : RegField := ⟨Reg.SR_TAGS x, 8, 5⟩
/-- SRx_TAGS.ISSUED. -/
def SR_TAGS_ISSUED (x : Nat) : RegField := ⟨Reg.SR_TAGS x, 0, 5⟩
/-- SRx_BREAK.VALID. -/
def SR_BREAK_VALID (x : Nat) : RegField := ⟨Reg.SR_BREAK x, 31, 1⟩
/-- SRx_BREAK.NORTHEND. -/
def SR_BREAK_NORTHEND (x : Nat) : RegField := ⟨Reg.SR_BREAK x, 8, 6⟩
/-- SRx_BREAK.SOUTHEND. -/
def SR_BREAK_SOUTHEND (x : Nat) : RegField := ⟨Reg.SR_BREAK x, 0, 6⟩
/-- SRx_RTT.NORTH. -/
def SR_RTT_NORTH (x : Nat) : RegField := ⟨Reg.SR_RTT x, 0, 16⟩
/-- SRx_RTT.SOUTH. -/
def SR_RTT_SOUTH (x : Nat) : RegField := ⟨Reg.SR_RTT x, 16, 16⟩
/-- SRx_TMO.TMO. -/
def SR_TMO_TMO (x : Nat) : RegField := ⟨Reg.SR_TMO x, 0, 16⟩
/-- SRx_RETRY.N. -/
def SR_RETRY_N (x : Nat) : RegField := ⟨Reg.SR_RETRY x, 0, 2⟩
/-- SRx_RETRY.BACKOFF. -/
def SR_RETRY_BACKOFF (x : Nat) : RegField := ⟨Reg.SR_RETRY x, 8, 8⟩
/-- SRx_HEAL.TIME. -/
def SR_HEAL_TIME (x : Nat) : RegField := ⟨Reg.SR_HEAL x, 0, 16⟩
/-- SRx_CMD.POS. -/
def SR_CMD_POS (x : Nat) : RegField := ⟨Reg.SR_CMD x, 8, 6⟩
/-- SRx_CMD.OP. -/
def SR_CMD_OP (x : Nat) : RegField := ⟨Reg.SR_CMD x, 0, 4⟩
/-- SRx_ALARM.COUNT. -/
def SR_ALARM_COUNT (x : Nat) : RegField := ⟨Reg.SR_ALARM x, 16, 16⟩
/-- SRx_ALARM.LASTPORT. -/
def SR_ALARM_LASTPORT (x : Nat) : RegField := ⟨Reg.SR_ALARM x, 0, 1⟩
/-- SRx_PINFO.CAUSE. -/
def SR_PINFO_CAUSE (x i : Nat) : RegField := ⟨Reg.SR_PINFO x i, 28, 4⟩
/-- SRx_PINFO.IFREV. -/
def SR_PINFO_IFREV (x i : Nat) : RegField := ⟨Reg.SR_PINFO x i, 16, 8⟩
/-- SRx_PINFO.TEMPS. -/
def SR_PINFO_TEMPS (x i : Nat) : RegField := ⟨Reg.SR_PINFO x i, 8, 8⟩
/-- SRx_PINFO.CELLS. -/
def SR_PINFO_CELLS (x i : Nat) : RegField := ⟨Reg.SR_PINFO x i, 0, 8⟩
/-- SRx_PMAP.FIRST. -/
def SR_PMAP_FIRST (x i : Nat) : RegField := ⟨Reg.SR_PMAP x i, 16, 9⟩
/-- SRx_PMAP.BRANCH. -/
def SR_PMAP_BRANCH (x i : Nat) : RegField := ⟨Reg.SR_PMAP x i, 8, 3⟩
/-- SRx_PMAP.CELLS. -/
def SR_PMAP_CELLS (x i : Nat) : RegField := ⟨Reg.SR_PMAP x i, 0, 8⟩
/-- SRQ_CFG.DCALPER. -/
def SRQ_CFG_DCALPER : RegField := ⟨Reg.SRQ_CFG, 8, 8⟩
/-- SRQ_CFG.TSCAN. -/
def SRQ_CFG_TSCAN : RegField := ⟨Reg.SRQ_CFG, 4, 1⟩
/-- SRQ_CFG.RINGS. -/
def SRQ_CFG_RINGS : RegField := ⟨Reg.SRQ_CFG, 0, 4⟩
/-- SRQ_ALIGN.OFFSET. -/
def SRQ_ALIGN_OFFSET : RegField := ⟨Reg.SRQ_ALIGN, 0, 16⟩
/-- SRQ_SCANSTAT.DCALOK. -/
def SRQ_SCANSTAT_DCALOK : RegField := ⟨Reg.SRQ_SCANSTAT, 24, 4⟩
/-- SRQ_SCANSTAT.TSEQ. -/
def SRQ_SCANSTAT_TSEQ : RegField := ⟨Reg.SRQ_SCANSTAT, 16, 8⟩
/-- SRQ_SCANSTAT.INCOMPLETE. -/
def SRQ_SCANSTAT_INCOMPLETE : RegField := ⟨Reg.SRQ_SCANSTAT, 12, 4⟩
/-- SRQ_SCANSTAT.ALIGNLOST. -/
def SRQ_SCANSTAT_ALIGNLOST : RegField := ⟨Reg.SRQ_SCANSTAT, 8, 4⟩
/-- SRQ_SCANSTAT.SEQ. -/
def SRQ_SCANSTAT_SEQ : RegField := ⟨Reg.SRQ_SCANSTAT, 0, 8⟩
/-- SRQ_CSTSEQ.B. -/
def SRQ_CSTSEQ_B : RegField := ⟨Reg.SRQ_CSTSEQ, 24, 6⟩
/-- SRQ_CSTSEQ.Z. -/
def SRQ_CSTSEQ_Z : RegField := ⟨Reg.SRQ_CSTSEQ, 18, 6⟩
/-- SRQ_CSTSEQ.E. -/
def SRQ_CSTSEQ_E : RegField := ⟨Reg.SRQ_CSTSEQ, 12, 6⟩
/-- SRQ_CSTSEQ.T. -/
def SRQ_CSTSEQ_T : RegField := ⟨Reg.SRQ_CSTSEQ, 6, 6⟩
/-- SRQ_CSTSEQ.V. -/
def SRQ_CSTSEQ_V : RegField := ⟨Reg.SRQ_CSTSEQ, 0, 6⟩
/-- SRQ_DLOOPA.NORTH. -/
def SRQ_DLOOPA_NORTH : RegField := ⟨Reg.SRQ_DLOOPA, 0, 16⟩
/-- SRQ_DLOOPA.SOUTH. -/
def SRQ_DLOOPA_SOUTH : RegField := ⟨Reg.SRQ_DLOOPA, 16, 16⟩
/-- SRQ_QqCFG.READER. -/
def SRQ_QCFG_READER (i : Nat) : RegField := ⟨Reg.SRQ_QCFG i, 28, 1⟩
/-- SRQ_QqCFG.ALMRES. -/
def SRQ_QCFG_ALMRES (i : Nat) : RegField := ⟨Reg.SRQ_QCFG i, 16, 10⟩
/-- SRQ_QqLEVEL.LEVEL. -/
def SRQ_QLEVEL_LEVEL (i : Nat) : RegField := ⟨Reg.SRQ_QLEVEL i, 0, 14⟩
/-- SRQ_QqFILL.COMMITTED. -/
def SRQ_QFILL_COMMITTED (i : Nat) : RegField := ⟨Reg.SRQ_QFILL i, 0, 14⟩
/-- SRQ_QqFILL.RESV. -/
def SRQ_QFILL_RESV (i : Nat) : RegField := ⟨Reg.SRQ_QFILL i, 16, 14⟩
/-- SRQ_QqFREE.FREE. -/
def SRQ_QFREE_FREE (i : Nat) : RegField := ⟨Reg.SRQ_QFREE i, 0, 14⟩
/-- SRQ_QqFREE.NPKT. -/
def SRQ_QFREE_NPKT (i : Nat) : RegField := ⟨Reg.SRQ_QFREE i, 16, 14⟩
/-- SRQ_QqCMD.FLUSH. -/
def SRQ_QCMD_FLUSH (i : Nat) : RegField := ⟨Reg.SRQ_QCMD i, 0, 4⟩
/-- SRQ_QqCNT.REWIND. -/
def SRQ_QCNT_REWIND (i : Nat) : RegField := ⟨Reg.SRQ_QCNT i, 0, 10⟩
/-- SRQ_QqCNT.FLUSHED. -/
def SRQ_QCNT_FLUSHED (i : Nat) : RegField := ⟨Reg.SRQ_QCNT i, 10, 11⟩
/-- SRQ_QqCNT.SKIP. -/
def SRQ_QCNT_SKIP (i : Nat) : RegField := ⟨Reg.SRQ_QCNT i, 21, 11⟩
/-- CHM_CFG.RINGS. -/
def CHM_CFG_RINGS : RegField := ⟨Reg.CHM_CFG, 24, 4⟩
/-- CHM_CFG.DIFFTONE. -/
def CHM_CFG_DIFFTONE : RegField := ⟨Reg.CHM_CFG, 20, 3⟩
/-- CHM_CFG.LOWTONE. -/
def CHM_CFG_LOWTONE : RegField := ⟨Reg.CHM_CFG, 16, 3⟩
/-- CHM_CFG.SUMTONE. -/
def CHM_CFG_SUMTONE : RegField := ⟨Reg.CHM_CFG, 12, 3⟩
/-- CHM_CFG.STEPDISC. -/
def CHM_CFG_STEPDISC : RegField := ⟨Reg.CHM_CFG, 5, 1⟩
/-- CHM_CFG.BLEED. -/
def CHM_CFG_BLEED : RegField := ⟨Reg.CHM_CFG, 4, 1⟩
/-- CHM_CFG.MODE. -/
def CHM_CFG_MODE : RegField := ⟨Reg.CHM_CFG, 0, 2⟩
/-- CHM_WIN.GAP. -/
def CHM_WIN_GAP : RegField := ⟨Reg.CHM_WIN, 24, 8⟩
/-- CHM_WIN.NSPAN. -/
def CHM_WIN_NSPAN : RegField := ⟨Reg.CHM_WIN, 16, 5⟩
/-- CHM_WIN.LEN. -/
def CHM_WIN_LEN : RegField := ⟨Reg.CHM_WIN, 0, 10⟩
/-- CHM_AMB.MIN. -/
def CHM_AMB_MIN : RegField := ⟨Reg.CHM_AMB, 0, 16⟩
/-- CHM_AMB.FLOOR. -/
def CHM_AMB_FLOOR : RegField := ⟨Reg.CHM_AMB, 16, 16⟩
/-- CHM_COLDL.Deadline. -/
def CHM_COLDL_Deadline : RegField := ⟨Reg.CHM_COLDL, 0, 16⟩
/-- CHM_PHOFS.PHOFS. -/
def CHM_PHOFS_PHOFS : RegField := ⟨Reg.CHM_PHOFS, 0, 8⟩
/-- CHM_CMD.OP. -/
def CHM_CMD_OP : RegField := ⟨Reg.CHM_CMD, 0, 4⟩
/-- CHM_ZSEL.BLOCK. -/
def CHM_ZSEL_BLOCK : RegField := ⟨Reg.CHM_ZSEL, 0, 9⟩
/-- CHM_TkFREQ.EN. -/
def CHM_TFREQ_EN (i : Nat) : RegField := ⟨Reg.CHM_TFREQ i, 31, 1⟩
/-- CHM_TkFREQ.N. -/
def CHM_TFREQ_N (i : Nat) : RegField := ⟨Reg.CHM_TFREQ i, 0, 16⟩
/-- CHM_TkSTAT.APPLIED. -/
def CHM_TSTAT_APPLIED (i : Nat) : RegField := ⟨Reg.CHM_TSTAT i, 0, 16⟩
/-- CHM_TkSTAT.AMB. -/
def CHM_TSTAT_AMB (i : Nat) : RegField := ⟨Reg.CHM_TSTAT i, 16, 1⟩
/-- EST_CFG.UNMON. -/
def EST_CFG_UNMON : RegField := ⟨Reg.EST_CFG, 8, 8⟩
/-- EST_CFG.ANCHVOLT. -/
def EST_CFG_ANCHVOLT : RegField := ⟨Reg.EST_CFG, 6, 1⟩
/-- EST_CFG.ANCHREST. -/
def EST_CFG_ANCHREST : RegField := ⟨Reg.EST_CFG, 5, 1⟩
/-- EST_CFG.ANCHDQDV. -/
def EST_CFG_ANCHDQDV : RegField := ⟨Reg.EST_CFG, 4, 1⟩
/-- EST_CFG.RTONE. -/
def EST_CFG_RTONE : RegField := ⟨Reg.EST_CFG, 0, 3⟩
/-- EST_VLIM.VSHUT. -/
def EST_VLIM_VSHUT : RegField := ⟨Reg.EST_VLIM, 0, 16⟩
/-- EST_VLIM.VCUT. -/
def EST_VLIM_VCUT : RegField := ⟨Reg.EST_VLIM, 16, 16⟩
/-- EST_REST.I. -/
def EST_REST_I : RegField := ⟨Reg.EST_REST, 0, 16⟩
/-- EST_REST.T. -/
def EST_REST_T : RegField := ⟨Reg.EST_REST, 16, 16⟩
/-- EST_DRIFT.Drift. -/
def EST_DRIFT_Drift : RegField := ⟨Reg.EST_DRIFT, 0, 16⟩
/-- EST_ISENS.GAIN. -/
def EST_ISENS_GAIN : RegField := ⟨Reg.EST_ISENS, 0, 16⟩
/-- EST_ISENS.OFFS. -/
def EST_ISENS_OFFS : RegField := ⟨Reg.EST_ISENS, 16, 16⟩
/-- EST_LEARN.MINDSOC. -/
def EST_LEARN_MINDSOC : RegField := ⟨Reg.EST_LEARN, 0, 8⟩
/-- EST_LEARN.MAXSIG. -/
def EST_LEARN_MAXSIG : RegField := ⟨Reg.EST_LEARN, 8, 8⟩
/-- EST_LEARN.MAXHOURS. -/
def EST_LEARN_MAXHOURS : RegField := ⟨Reg.EST_LEARN, 16, 8⟩
/-- EST_LEARN.MAXRATE. -/
def EST_LEARN_MAXRATE : RegField := ⟨Reg.EST_LEARN, 24, 8⟩
/-- EST_LTEMP.TMIN. -/
def EST_LTEMP_TMIN : RegField := ⟨Reg.EST_LTEMP, 0, 16⟩
/-- EST_LTEMP.TMAX. -/
def EST_LTEMP_TMAX : RegField := ⟨Reg.EST_LTEMP, 16, 16⟩
/-- EST_USLEW.Slew. -/
def EST_USLEW_Slew : RegField := ⟨Reg.EST_USLEW, 0, 16⟩
/-- EST_WB.PERIOD. -/
def EST_WB_PERIOD : RegField := ⟨Reg.EST_WB, 0, 8⟩
/-- EST_ANCH.FLOOR. -/
def EST_ANCH_FLOOR : RegField := ⟨Reg.EST_ANCH, 0, 8⟩
/-- EST_ANCH.MAXW. -/
def EST_ANCH_MAXW : RegField := ⟨Reg.EST_ANCH, 8, 8⟩
/-- EST_ANCH.RESTORE. -/
def EST_ANCH_RESTORE : RegField := ⟨Reg.EST_ANCH, 16, 16⟩
/-- EST_VOBS.SIGMA. -/
def EST_VOBS_SIGMA : RegField := ⟨Reg.EST_VOBS, 0, 8⟩
/-- EST_VOBS.MINSLOPE. -/
def EST_VOBS_MINSLOPE : RegField := ⟨Reg.EST_VOBS, 8, 8⟩
/-- EST_VOBS.TAU. -/
def EST_VOBS_TAU : RegField := ⟨Reg.EST_VOBS, 16, 16⟩
/-- EST_IREF.CHG. -/
def EST_IREF_CHG : RegField := ⟨Reg.EST_IREF, 0, 16⟩
/-- EST_IREF.DIS. -/
def EST_IREF_DIS : RegField := ⟨Reg.EST_IREF, 16, 16⟩
/-- EST_CMD.OP. -/
def EST_CMD_OP : RegField := ⟨Reg.EST_CMD, 0, 4⟩
/-- EST_USOC.USOC. -/
def EST_USOC_USOC : RegField := ⟨Reg.EST_USOC, 0, 16⟩
/-- EST_USOC.UT. -/
def EST_USOC_UT : RegField := ⟨Reg.EST_USOC, 16, 16⟩
/-- EST_UCAP.D. -/
def EST_UCAP_D : RegField := ⟨Reg.EST_UCAP, 0, 16⟩
/-- EST_UCAP.C. -/
def EST_UCAP_C : RegField := ⟨Reg.EST_UCAP, 16, 16⟩
/-- EST_SLIM.Lchg. -/
def EST_SLIM_Lchg : RegField := ⟨Reg.EST_SLIM, 0, 16⟩
/-- EST_SLIM.Ldis. -/
def EST_SLIM_Ldis : RegField := ⟨Reg.EST_SLIM, 16, 16⟩
/-- EST_WEAK.D. -/
def EST_WEAK_D : RegField := ⟨Reg.EST_WEAK, 0, 12⟩
/-- EST_WEAK.C. -/
def EST_WEAK_C : RegField := ⟨Reg.EST_WEAK, 16, 12⟩
/-- EST_CONFSTAT.CONFMIN. -/
def EST_CONFSTAT_CONFMIN : RegField := ⟨Reg.EST_CONFSTAT, 0, 8⟩
/-- EST_CONFSTAT.CONFMEAN. -/
def EST_CONFSTAT_CONFMEAN : RegField := ⟨Reg.EST_CONFSTAT, 8, 8⟩
/-- EST_CONFSTAT.CONFMIN2. -/
def EST_CONFSTAT_CONFMIN2 : RegField := ⟨Reg.EST_CONFSTAT, 16, 12⟩
/-- EST_LDCNT.WRITES. -/
def EST_LDCNT_WRITES : RegField := ⟨Reg.EST_LDCNT, 0, 16⟩
/-- EST_LDCNT.TORN. -/
def EST_LDCNT_TORN : RegField := ⟨Reg.EST_LDCNT, 16, 16⟩
/-- EST_ACNT.DQDV. -/
def EST_ACNT_DQDV : RegField := ⟨Reg.EST_ACNT, 0, 16⟩
/-- EST_ACNT.AMBIG. -/
def EST_ACNT_AMBIG : RegField := ⟨Reg.EST_ACNT, 16, 16⟩
/-- EST_CSEL.CELL. -/
def EST_CSEL_CELL : RegField := ⟨Reg.EST_CSEL, 0, 12⟩
/-- BAL_CFG.MINCONF. -/
def BAL_CFG_MINCONF : RegField := ⟨Reg.BAL_CFG, 8, 8⟩
/-- BAL_CFG.WHEN. -/
def BAL_CFG_WHEN : RegField := ⟨Reg.BAL_CFG, 2, 2⟩
/-- BAL_CFG.MODE. -/
def BAL_CFG_MODE : RegField := ⟨Reg.BAL_CFG, 0, 2⟩
/-- BAL_TGT.DB. -/
def BAL_TGT_DB : RegField := ⟨Reg.BAL_TGT, 0, 16⟩
/-- BAL_TGT.MAXT. -/
def BAL_TGT_MAXT : RegField := ⟨Reg.BAL_TGT, 16, 16⟩
/-- BAL_SCHED.PERIOD. -/
def BAL_SCHED_PERIOD : RegField := ⟨Reg.BAL_SCHED, 0, 8⟩
/-- BAL_SCHED.MINHOLD. -/
def BAL_SCHED_MINHOLD : RegField := ⟨Reg.BAL_SCHED, 8, 8⟩
/-- BAL_SCHED.NMAX. -/
def BAL_SCHED_NMAX : RegField := ⟨Reg.BAL_SCHED, 16, 5⟩
/-- BAL_DIE.TSTART. -/
def BAL_DIE_TSTART : RegField := ⟨Reg.BAL_DIE, 0, 16⟩
/-- BAL_DIE.TSTOP. -/
def BAL_DIE_TSTOP : RegField := ⟨Reg.BAL_DIE, 16, 16⟩
/-- BAL_VMIN.VMIN. -/
def BAL_VMIN_VMIN : RegField := ⟨Reg.BAL_VMIN, 0, 16⟩
/-- BAL_VMIN.TMAX. -/
def BAL_VMIN_TMAX : RegField := ⟨Reg.BAL_VMIN, 16, 16⟩
/-- BAL_CMD.OP. -/
def BAL_CMD_OP : RegField := ⟨Reg.BAL_CMD, 0, 4⟩
/-- BAL_ACTIVE.NBLEED. -/
def BAL_ACTIVE_NBLEED : RegField := ⟨Reg.BAL_ACTIVE, 0, 12⟩
/-- BAL_ACTIVE.NTGT. -/
def BAL_ACTIVE_NTGT : RegField := ⟨Reg.BAL_ACTIVE, 16, 12⟩
/-- BAL_LIMITED.NDIE. -/
def BAL_LIMITED_NDIE : RegField := ⟨Reg.BAL_LIMITED, 0, 8⟩
/-- BAL_LIMITED.NSTUCK. -/
def BAL_LIMITED_NSTUCK : RegField := ⟨Reg.BAL_LIMITED, 8, 12⟩
/-- BAL_LIMITED.NOREF. -/
def BAL_LIMITED_NOREF : RegField := ⟨Reg.BAL_LIMITED, 20, 4⟩
/-- THM_CFG.HEATEN. -/
def THM_CFG_HEATEN : RegField := ⟨Reg.THM_CFG, 9, 1⟩
/-- THM_CFG.COOLEN. -/
def THM_CFG_COOLEN : RegField := ⟨Reg.THM_CFG, 8, 1⟩
/-- THM_CFG.SUBMIN. -/
def THM_CFG_SUBMIN : RegField := ⟨Reg.THM_CFG, 4, 4⟩
/-- THM_CFG.CPT. -/
def THM_CFG_CPT : RegField := ⟨Reg.THM_CFG, 0, 4⟩
/-- THM_PLAUS.RATE. -/
def THM_PLAUS_RATE : RegField := ⟨Reg.THM_PLAUS, 0, 8⟩
/-- THM_PLAUS.NDEV. -/
def THM_PLAUS_NDEV : RegField := ⟨Reg.THM_PLAUS, 8, 8⟩
/-- THM_PLAUS.MDEV. -/
def THM_PLAUS_MDEV : RegField := ⟨Reg.THM_PLAUS, 16, 8⟩
/-- THM_PLAUS.CONFIRM. -/
def THM_PLAUS_CONFIRM : RegField := ⟨Reg.THM_PLAUS, 24, 4⟩
/-- THM_DHOT.TSTART. -/
def THM_DHOT_TSTART : RegField := ⟨Reg.THM_DHOT, 0, 16⟩
/-- THM_DHOT.TEND. -/
def THM_DHOT_TEND : RegField := ⟨Reg.THM_DHOT, 16, 16⟩
/-- THM_DCOLD.TSTART. -/
def THM_DCOLD_TSTART : RegField := ⟨Reg.THM_DCOLD, 0, 16⟩
/-- THM_DCOLD.TEND. -/
def THM_DCOLD_TEND : RegField := ⟨Reg.THM_DCOLD, 16, 16⟩
/-- THM_IBASE.CHG. -/
def THM_IBASE_CHG : RegField := ⟨Reg.THM_IBASE, 0, 16⟩
/-- THM_IBASE.DIS. -/
def THM_IBASE_DIS : RegField := ⟨Reg.THM_IBASE, 16, 16⟩
/-- THM_OT.TLATCH. -/
def THM_OT_TLATCH : RegField := ⟨Reg.THM_OT, 0, 16⟩
/-- THM_OT.HYST. -/
def THM_OT_HYST : RegField := ⟨Reg.THM_OT, 16, 8⟩
/-- THM_OT.CONFIRM. -/
def THM_OT_CONFIRM : RegField := ⟨Reg.THM_OT, 24, 4⟩
/-- THM_MODEL.RTH. -/
def THM_MODEL_RTH : RegField := ⟨Reg.THM_MODEL, 0, 16⟩
/-- THM_MODEL.CTH. -/
def THM_MODEL_CTH : RegField := ⟨Reg.THM_MODEL, 16, 16⟩
/-- THM_COOL.TXOBJ. -/
def THM_COOL_TXOBJ : RegField := ⟨Reg.THM_COOL, 0, 7⟩
/-- THM_COOL.CTRLSEL. -/
def THM_COOL_CTRLSEL : RegField := ⟨Reg.THM_COOL, 7, 1⟩
/-- THM_COOL.RXOBJ. -/
def THM_COOL_RXOBJ : RegField := ⟨Reg.THM_COOL, 8, 7⟩
/-- THM_COOL.RXEN. -/
def THM_COOL_RXEN : RegField := ⟨Reg.THM_COOL, 15, 1⟩
/-- THM_COOL.PERIOD. -/
def THM_COOL_PERIOD : RegField := ⟨Reg.THM_COOL, 16, 8⟩
/-- THM_CSET.TSET. -/
def THM_CSET_TSET : RegField := ⟨Reg.THM_CSET, 0, 16⟩
/-- THM_CSET.TBAND. -/
def THM_CSET_TBAND : RegField := ⟨Reg.THM_CSET, 16, 8⟩
/-- THM_CSET.THEAT. -/
def THM_CSET_THEAT : RegField := ⟨Reg.THM_CSET, 24, 8⟩
/-- THM_CMD.OP. -/
def THM_CMD_OP : RegField := ⟨Reg.THM_CMD, 0, 4⟩
/-- THM_SUM.Thot. -/
def THM_SUM_Thot : RegField := ⟨Reg.THM_SUM, 0, 16⟩
/-- THM_SUM.Tcold. -/
def THM_SUM_Tcold : RegField := ⟨Reg.THM_SUM, 16, 16⟩
/-- THM_HOT.Thot. -/
def THM_HOT_Thot : RegField := ⟨Reg.THM_HOT, 0, 12⟩
/-- THM_HOT.Tcold. -/
def THM_HOT_Tcold : RegField := ⟨Reg.THM_HOT, 16, 12⟩
/-- THM_DERATE.Charge. -/
def THM_DERATE_Charge : RegField := ⟨Reg.THM_DERATE, 0, 16⟩
/-- THM_COOLSTAT.DEMAND. -/
def THM_COOLSTAT_DEMAND : RegField := ⟨Reg.THM_COOLSTAT, 0, 8⟩
/-- THM_COOLSTAT.MODE. -/
def THM_COOLSTAT_MODE : RegField := ⟨Reg.THM_COOLSTAT, 8, 2⟩
/-- THM_COOLSTAT.SEQ. -/
def THM_COOLSTAT_SEQ : RegField := ⟨Reg.THM_COOLSTAT, 16, 8⟩
/-- PWM_CFG.DEADBUS. -/
def PWM_CFG_DEADBUS : RegField := ⟨Reg.PWM_CFG, 12, 1⟩
/-- PWM_CFG.DUPD. -/
def PWM_CFG_DUPD : RegField := ⟨Reg.PWM_CFG, 10, 1⟩
/-- PWM_CFG.SPP. -/
def PWM_CFG_SPP : RegField := ⟨Reg.PWM_CFG, 8, 2⟩
/-- PWM_CFG.PHEN. -/
def PWM_CFG_PHEN : RegField := ⟨Reg.PWM_CFG, 4, 4⟩
/-- PWM_CFG.TYPE. -/
def PWM_CFG_TYPE : RegField := ⟨Reg.PWM_CFG, 0, 4⟩
/-- PWM_CAR.PER. -/
def PWM_CAR_PER : RegField := ⟨Reg.PWM_CAR, 0, 16⟩
/-- PWM_TRIG.OFS. -/
def PWM_TRIG_OFS : RegField := ⟨Reg.PWM_TRIG, 0, 16⟩
/-- PWM_DLIM.DMIN. -/
def PWM_DLIM_DMIN : RegField := ⟨Reg.PWM_DLIM, 0, 16⟩
/-- PWM_DLIM.DMAX. -/
def PWM_DLIM_DMAX : RegField := ⟨Reg.PWM_DLIM, 16, 16⟩
/-- PWM_MINPW.MINPW. -/
def PWM_MINPW_MINPW : RegField := ⟨Reg.PWM_MINPW, 0, 12⟩
/-- PWM_GDF.MASK. -/
def PWM_GDF_MASK : RegField := ⟨Reg.PWM_GDF, 0, 8⟩
/-- PWM_GDF.DGL. -/
def PWM_GDF_DGL : RegField := ⟨Reg.PWM_GDF, 8, 8⟩
/-- PWM_GDFSTAT.LATCH. -/
def PWM_GDFSTAT_LATCH : RegField := ⟨Reg.PWM_GDFSTAT, 0, 8⟩
/-- PWM_GDFSTAT.LEVEL. -/
def PWM_GDFSTAT_LEVEL : RegField := ⟨Reg.PWM_GDFSTAT, 8, 8⟩
/-- PWM_GDFSTAT.FIRST. -/
def PWM_GDFSTAT_FIRST : RegField := ⟨Reg.PWM_GDFSTAT, 16, 4⟩
/-- PWM_DTC.IBAND. -/
def PWM_DTC_IBAND : RegField := ⟨Reg.PWM_DTC, 0, 16⟩
/-- PWM_DTC.EN. -/
def PWM_DTC_EN : RegField := ⟨Reg.PWM_DTC, 16, 1⟩
/-- PWM_FCWIN.WIN. -/
def PWM_FCWIN_WIN : RegField := ⟨Reg.PWM_FCWIN, 0, 8⟩
/-- PWM_FCWIN.TMO. -/
def PWM_FCWIN_TMO : RegField := ⟨Reg.PWM_FCWIN, 16, 8⟩
/-- PWM_BSTART.VMARG. -/
def PWM_BSTART_VMARG : RegField := ⟨Reg.PWM_BSTART, 0, 16⟩
/-- PWM_BSTART.RATE. -/
def PWM_BSTART_RATE : RegField := ⟨Reg.PWM_BSTART, 16, 16⟩
/-- PWM_BTGT.TARGET. -/
def PWM_BTGT_TARGET : RegField := ⟨Reg.PWM_BTGT, 0, 16⟩
/-- PWM_BTGT.TMO. -/
def PWM_BTGT_TMO : RegField := ⟨Reg.PWM_BTGT, 16, 8⟩
/-- PWM_PHSTAT.ST0. -/
def PWM_PHSTAT_ST0 : RegField := ⟨Reg.PWM_PHSTAT, 0, 4⟩
/-- PWM_PHSTAT.ST1. -/
def PWM_PHSTAT_ST1 : RegField := ⟨Reg.PWM_PHSTAT, 4, 4⟩
/-- PWM_PHSTAT.ST2. -/
def PWM_PHSTAT_ST2 : RegField := ⟨Reg.PWM_PHSTAT, 8, 4⟩
/-- PWM_PHSTAT.ST3. -/
def PWM_PHSTAT_ST3 : RegField := ⟨Reg.PWM_PHSTAT, 12, 4⟩
/-- PWM_PHSTAT.CAUSE. -/
def PWM_PHSTAT_CAUSE : RegField := ⟨Reg.PWM_PHSTAT, 16, 4⟩
/-- PWM_CNT.MINPW. -/
def PWM_CNT_MINPW : RegField := ⟨Reg.PWM_CNT, 0, 16⟩
/-- PWM_CNT.DLIM. -/
def PWM_CNT_DLIM : RegField := ⟨Reg.PWM_CNT, 16, 16⟩
/-- PWM_PHpANG.OFS. -/
def PWM_PHANG_OFS (i : Nat) : RegField := ⟨Reg.PWM_PHANG i, 0, 16⟩
/-- PWM_PHpDTO.DTR. -/
def PWM_PHDTO_DTR (i : Nat) : RegField := ⟨Reg.PWM_PHDTO i, 0, 14⟩
/-- PWM_PHpDTO.DTF. -/
def PWM_PHDTO_DTF (i : Nat) : RegField := ⟨Reg.PWM_PHDTO i, 16, 14⟩
/-- PWM_PHpDTI.DTR. -/
def PWM_PHDTI_DTR (i : Nat) : RegField := ⟨Reg.PWM_PHDTI i, 0, 14⟩
/-- PWM_PHpDTI.DTF. -/
def PWM_PHDTI_DTF (i : Nat) : RegField := ⟨Reg.PWM_PHDTI i, 16, 14⟩
/-- LPE_CFG.SPHOST. -/
def LPE_CFG_SPHOST : RegField := ⟨Reg.LPE_CFG, 0, 1⟩
/-- LPE_ILIM.CHG. -/
def LPE_ILIM_CHG : RegField := ⟨Reg.LPE_ILIM, 0, 16⟩
/-- LPE_ILIM.DIS. -/
def LPE_ILIM_DIS : RegField := ⟨Reg.LPE_ILIM, 16, 16⟩
/-- LPE_SLEW.RATE. -/
def LPE_SLEW_RATE : RegField := ⟨Reg.LPE_SLEW, 0, 16⟩
/-- LPE_SLEW.STOP. -/
def LPE_SLEW_STOP : RegField := ⟨Reg.LPE_SLEW, 16, 16⟩
/-- LPE_LIMRAMP.RAMP. -/
def LPE_LIMRAMP_RAMP : RegField := ⟨Reg.LPE_LIMRAMP, 0, 16⟩
/-- LPE_LIMRAMP.ZBAND. -/
def LPE_LIMRAMP_ZBAND : RegField := ⟨Reg.LPE_LIMRAMP, 16, 16⟩
/-- LPE_FBEST.CHG. -/
def LPE_FBEST_CHG : RegField := ⟨Reg.LPE_FBEST, 0, 16⟩
/-- LPE_FBEST.DIS. -/
def LPE_FBEST_DIS : RegField := ⟨Reg.LPE_FBEST, 16, 16⟩
/-- LPE_FBTHM.CHG. -/
def LPE_FBTHM_CHG : RegField := ⟨Reg.LPE_FBTHM, 0, 16⟩
/-- LPE_FBTHM.DIS. -/
def LPE_FBTHM_DIS : RegField := ⟨Reg.LPE_FBTHM, 16, 16⟩
/-- LPE_VBMIN.VBMIN. -/
def LPE_VBMIN_VBMIN : RegField := ⟨Reg.LPE_VBMIN, 0, 16⟩
/-- LPE_FCBAND.FCBAND. -/
def LPE_FCBAND_FCBAND : RegField := ⟨Reg.LPE_FCBAND, 0, 16⟩
/-- LPE_CMD.OP. -/
def LPE_CMD_OP : RegField := ⟨Reg.LPE_CMD, 0, 4⟩
/-- LPE_OVR.TOTAL. -/
def LPE_OVR_TOTAL : RegField := ⟨Reg.LPE_OVR, 0, 16⟩
/-- LPE_OVR.SKIP. -/
def LPE_OVR_SKIP : RegField := ⟨Reg.LPE_OVR, 16, 16⟩
/-- LPE_TCOMP.Tcomp. -/
def LPE_TCOMP_Tcomp : RegField := ⟨Reg.LPE_TCOMP, 0, 16⟩
/-- LPE_TCOMP.Tin. -/
def LPE_TCOMP_Tin : RegField := ⟨Reg.LPE_TCOMP, 16, 16⟩
/-- LPE_LIMNOW.Lchg. -/
def LPE_LIMNOW_Lchg : RegField := ⟨Reg.LPE_LIMNOW, 0, 16⟩
/-- LPE_LIMNOW.Ldis. -/
def LPE_LIMNOW_Ldis : RegField := ⟨Reg.LPE_LIMNOW, 16, 16⟩
/-- LPE_LIMSRC.SRCC. -/
def LPE_LIMSRC_SRCC : RegField := ⟨Reg.LPE_LIMSRC, 0, 3⟩
/-- LPE_LIMSRC.SRCD. -/
def LPE_LIMSRC_SRCD : RegField := ⟨Reg.LPE_LIMSRC, 4, 3⟩
/-- LPE_SPSTAT.FREE. -/
def LPE_SPSTAT_FREE : RegField := ⟨Reg.LPE_SPSTAT, 0, 4⟩
/-- LPE_SPSTAT.PEND. -/
def LPE_SPSTAT_PEND : RegField := ⟨Reg.LPE_SPSTAT, 4, 4⟩
/-- LPE_SPSTAT.SEQ. -/
def LPE_SPSTAT_SEQ : RegField := ⟨Reg.LPE_SPSTAT, 16, 16⟩
/-- LPE_SPCNT.LATE. -/
def LPE_SPCNT_LATE : RegField := ⟨Reg.LPE_SPCNT, 0, 8⟩
/-- LPE_SPCNT.SUPERSEDED. -/
def LPE_SPCNT_SUPERSEDED : RegField := ⟨Reg.LPE_SPCNT, 8, 8⟩
/-- LPE_SPCNT.DROPPED. -/
def LPE_SPCNT_DROPPED : RegField := ⟨Reg.LPE_SPCNT, 16, 8⟩
/-- LPE_SPCNT.DISC. -/
def LPE_SPCNT_DISC : RegField := ⟨Reg.LPE_SPCNT, 24, 8⟩
/-- LPE_TEST.SEL. -/
def LPE_TEST_SEL : RegField := ⟨Reg.LPE_TEST, 16, 9⟩
/-- LPE_TEST.HOLD. -/
def LPE_TEST_HOLD : RegField := ⟨Reg.LPE_TEST, 8, 8⟩
/-- LPE_TEST.TYPE. -/
def LPE_TEST_TYPE : RegField := ⟨Reg.LPE_TEST, 0, 2⟩
/-- LPE_TLEN.TLEN. -/
def LPE_TLEN_TLEN : RegField := ⟨Reg.LPE_TLEN, 0, 16⟩
/-- LPE_CAPCFG.NCH. -/
def LPE_CAPCFG_NCH : RegField := ⟨Reg.LPE_CAPCFG, 0, 2⟩
/-- LPE_CAPCFG.DEC. -/
def LPE_CAPCFG_DEC : RegField := ⟨Reg.LPE_CAPCFG, 8, 8⟩
/-- LPE_CAPSEL0.CH0. -/
def LPE_CAPSEL0_CH0 : RegField := ⟨Reg.LPE_CAPSEL0, 0, 9⟩
/-- LPE_CAPSEL0.CH1. -/
def LPE_CAPSEL0_CH1 : RegField := ⟨Reg.LPE_CAPSEL0, 16, 9⟩
/-- LPE_CAPSEL1.CH2. -/
def LPE_CAPSEL1_CH2 : RegField := ⟨Reg.LPE_CAPSEL1, 0, 9⟩
/-- LPE_CAPSEL1.CH3. -/
def LPE_CAPSEL1_CH3 : RegField := ⟨Reg.LPE_CAPSEL1, 16, 9⟩
/-- LPE_CAPSTAT.OVR. -/
def LPE_CAPSTAT_OVR : RegField := ⟨Reg.LPE_CAPSTAT, 18, 1⟩
/-- LPE_CAPSTAT.STATE. -/
def LPE_CAPSTAT_STATE : RegField := ⟨Reg.LPE_CAPSTAT, 16, 2⟩
/-- LPE_CAPSTAT.SAMPLES. -/
def LPE_CAPSTAT_SAMPLES : RegField := ⟨Reg.LPE_CAPSTAT, 0, 13⟩
/-- LPE_LPnCFG.EN. -/
def LPE_LPCFG_EN (i : Nat) : RegField := ⟨Reg.LPE_LPCFG i, 31, 1⟩
/-- LPE_LPnCFG.BL. -/
def LPE_LPCFG_BL (i : Nat) : RegField := ⟨Reg.LPE_LPCFG i, 30, 1⟩
/-- LPE_LPnCFG.DST. -/
def LPE_LPCFG_DST (i : Nat) : RegField := ⟨Reg.LPE_LPCFG i, 24, 4⟩
/-- LPE_LPnCFG.NSEC. -/
def LPE_LPCFG_NSEC (i : Nat) : RegField := ⟨Reg.LPE_LPCFG i, 16, 4⟩
/-- LPE_LPnCFG.BASE. -/
def LPE_LPCFG_BASE (i : Nat) : RegField := ⟨Reg.LPE_LPCFG i, 8, 7⟩
/-- LPE_LPnSRC.REF. -/
def LPE_LPSRC_REF (i : Nat) : RegField := ⟨Reg.LPE_LPSRC i, 0, 6⟩
/-- LPE_LPnSRC.FB. -/
def LPE_LPSRC_FB (i : Nat) : RegField := ⟨Reg.LPE_LPSRC i, 8, 6⟩
/-- LPE_LPnSTAT.SWREJ. -/
def LPE_LPSTAT_SWREJ (i : Nat) : RegField := ⟨Reg.LPE_LPSTAT i, 9, 1⟩
/-- LPE_LPnSTAT.BANK. -/
def LPE_LPSTAT_BANK (i : Nat) : RegField := ⟨Reg.LPE_LPSTAT i, 8, 1⟩
/-- LPE_LPnSTAT.SAT. -/
def LPE_LPSTAT_SAT (i : Nat) : RegField := ⟨Reg.LPE_LPSTAT i, 0, 8⟩
/-- PRT_CFG.OVRMASK. -/
def PRT_CFG_OVRMASK : RegField := ⟨Reg.PRT_CFG, 0, 1⟩
/-- PRT_CFG.GONGEN. -/
def PRT_CFG_GONGEN : RegField := ⟨Reg.PRT_CFG, 1, 1⟩
/-- PRT_SNSTAT.ACTIVE. -/
def PRT_SNSTAT_ACTIVE : RegField := ⟨Reg.PRT_SNSTAT, 31, 1⟩
/-- PRT_SNSTAT.FIRST. -/
def PRT_SNSTAT_FIRST : RegField := ⟨Reg.PRT_SNSTAT, 24, 6⟩
/-- PRT_VBHI.START. -/
def PRT_VBHI_START : RegField := ⟨Reg.PRT_VBHI, 0, 16⟩
/-- PRT_VBHI.END. -/
def PRT_VBHI_END : RegField := ⟨Reg.PRT_VBHI, 16, 16⟩
/-- PRT_VBLO.START. -/
def PRT_VBLO_START : RegField := ⟨Reg.PRT_VBLO, 0, 16⟩
/-- PRT_VBLO.END. -/
def PRT_VBLO_END : RegField := ⟨Reg.PRT_VBLO, 16, 16⟩
/-- PRT_ILIM.ISTR. -/
def PRT_ILIM_ISTR : RegField := ⟨Reg.PRT_ILIM, 0, 16⟩
/-- PRT_ILIM.IBR. -/
def PRT_ILIM_IBR : RegField := ⟨Reg.PRT_ILIM, 16, 16⟩
/-- PRT_CELLV.OV. -/
def PRT_CELLV_OV : RegField := ⟨Reg.PRT_CELLV, 0, 16⟩
/-- PRT_CELLV.UV. -/
def PRT_CELLV_UV : RegField := ⟨Reg.PRT_CELLV, 16, 16⟩
/-- PRT_CELLCFG.CONFIRM. -/
def PRT_CELLCFG_CONFIRM : RegField := ⟨Reg.PRT_CELLCFG, 0, 4⟩
/-- PRT_CONTRIB.Lchg. -/
def PRT_CONTRIB_Lchg : RegField := ⟨Reg.PRT_CONTRIB, 0, 16⟩
/-- PRT_CONTRIB.Ldis. -/
def PRT_CONTRIB_Ldis : RegField := ⟨Reg.PRT_CONTRIB, 16, 16⟩
/-- PRT_CMPnCFG.EN. -/
def PRT_CMPCFG_EN (i : Nat) : RegField := ⟨Reg.PRT_CMPCFG i, 31, 1⟩
/-- PRT_CMPnCFG.SNARE. -/
def PRT_CMPCFG_SNARE (i : Nat) : RegField := ⟨Reg.PRT_CMPCFG i, 30, 1⟩
/-- PRT_CMPnCFG.MODE. -/
def PRT_CMPCFG_MODE (i : Nat) : RegField := ⟨Reg.PRT_CMPCFG i, 24, 2⟩
/-- PRT_CMPnCFG.FILT. -/
def PRT_CMPCFG_FILT (i : Nat) : RegField := ⟨Reg.PRT_CMPCFG i, 16, 3⟩
/-- PRT_CMPnCFG.HYST. -/
def PRT_CMPCFG_HYST (i : Nat) : RegField := ⟨Reg.PRT_CMPCFG i, 8, 3⟩
/-- PRT_CMPnCFG.INPUT. -/
def PRT_CMPCFG_INPUT (i : Nat) : RegField := ⟨Reg.PRT_CMPCFG i, 0, 5⟩
/-- PRT_CMPnTHR.LO. -/
def PRT_CMPTHR_LO (i : Nat) : RegField := ⟨Reg.PRT_CMPTHR i, 0, 10⟩
/-- PRT_CMPnTHR.HI. -/
def PRT_CMPTHR_HI (i : Nat) : RegField := ⟨Reg.PRT_CMPTHR i, 16, 10⟩
/-- PRT_CMPnSTAT.LEVEL. -/
def PRT_CMPSTAT_LEVEL (i : Nat) : RegField := ⟨Reg.PRT_CMPSTAT i, 0, 1⟩
/-- PRT_CMPnSTAT.LATCH. -/
def PRT_CMPSTAT_LATCH (i : Nat) : RegField := ⟨Reg.PRT_CMPSTAT i, 1, 1⟩
/-- PRT_CMPnSTAT.COUNT. -/
def PRT_CMPSTAT_COUNT (i : Nat) : RegField := ⟨Reg.PRT_CMPSTAT i, 16, 16⟩
/-- PRT_DLrTIME.TIME. -/
def PRT_DLTIME_TIME (i : Nat) : RegField := ⟨Reg.PRT_DLTIME i, 0, 16⟩
/-- PRT_DLrSTAT.LEVEL. -/
def PRT_DLSTAT_LEVEL (i : Nat) : RegField := ⟨Reg.PRT_DLSTAT i, 0, 1⟩
/-- PRT_DLrSTAT.LATCH. -/
def PRT_DLSTAT_LATCH (i : Nat) : RegField := ⟨Reg.PRT_DLSTAT i, 1, 1⟩
/-- PRT_DLrSTAT.INST. -/
def PRT_DLSTAT_INST (i : Nat) : RegField := ⟨Reg.PRT_DLSTAT i, 8, 4⟩
/-- CTK_CFG.BRMASK. -/
def CTK_CFG_BRMASK : RegField := ⟨Reg.CTK_CFG, 0, 8⟩
/-- CTK_CFG.PRE. -/
def CTK_CFG_PRE : RegField := ⟨Reg.CTK_CFG, 8, 1⟩
/-- CTK_CFG.COILOUT. -/
def CTK_CFG_COILOUT : RegField := ⟨Reg.CTK_CFG, 12, 2⟩
/-- CTK_CFG.COILEN. -/
def CTK_CFG_COILEN : RegField := ⟨Reg.CTK_CFG, 15, 1⟩
/-- CTK_TIME.CLOSE. -/
def CTK_TIME_CLOSE : RegField := ⟨Reg.CTK_TIME, 0, 8⟩
/-- CTK_TIME.OPEN. -/
def CTK_TIME_OPEN : RegField := ⟨Reg.CTK_TIME, 8, 8⟩
/-- CTK_PRE.DV. -/
def CTK_PRE_DV : RegField := ⟨Reg.CTK_PRE, 0, 16⟩
/-- CTK_PRE.TMO. -/
def CTK_PRE_TMO : RegField := ⟨Reg.CTK_PRE, 16, 16⟩
/-- CTK_JOIN.DV. -/
def CTK_JOIN_DV : RegField := ⟨Reg.CTK_JOIN, 0, 16⟩
/-- CTK_ZERO.ZTMO. -/
def CTK_ZERO_ZTMO : RegField := ⟨Reg.CTK_ZERO, 0, 16⟩
/-- CTK_CMD.OP. -/
def CTK_CMD_OP : RegField := ⟨Reg.CTK_CMD, 0, 4⟩
/-- CTK_CMD.BR. -/
def CTK_CMD_BR : RegField := ⟨Reg.CTK_CMD, 8, 3⟩
/-- CTK_SEQ.STATE. -/
def CTK_SEQ_STATE : RegField := ⟨Reg.CTK_SEQ, 0, 4⟩
/-- CTK_SEQ.JOINED. -/
def CTK_SEQ_JOINED : RegField := ⟨Reg.CTK_SEQ, 8, 8⟩
/-- CTK_SEQ.EXCL. -/
def CTK_SEQ_EXCL : RegField := ⟨Reg.CTK_SEQ, 16, 8⟩
/-- CTK_HOLD.HELD. -/
def CTK_HOLD_HELD : RegField := ⟨Reg.CTK_HOLD, 0, 1⟩
/-- CTK_HOLD.ADOPTED. -/
def CTK_HOLD_ADOPTED : RegField := ⟨Reg.CTK_HOLD, 1, 1⟩
/-- CTK_HOLD.DRV. -/
def CTK_HOLD_DRV : RegField := ⟨Reg.CTK_HOLD, 12, 20⟩
/-- CTK_PpBRK.COUNT. -/
def CTK_PBRK_COUNT (i : Nat) : RegField := ⟨Reg.CTK_PBRK i, 0, 16⟩
/-- CTK_PpBRK.MAX. -/
def CTK_PBRK_MAX (i : Nat) : RegField := ⟨Reg.CTK_PBRK i, 16, 16⟩
/-- ADC_CFG.KEN. -/
def ADC_CFG_KEN : RegField := ⟨Reg.ADC_CFG, 8, 1⟩
/-- ADC_CFG.REFSEL. -/
def ADC_CFG_REFSEL : RegField := ⟨Reg.ADC_CFG, 4, 2⟩
/-- ADC_CFG.INJEN. -/
def ADC_CFG_INJEN : RegField := ⟨Reg.ADC_CFG, 1, 1⟩
/-- ADC_CFG.ILV. -/
def ADC_CFG_ILV : RegField := ⟨Reg.ADC_CFG, 0, 1⟩
/-- ADC_REGPER.PER. -/
def ADC_REGPER_PER : RegField := ⟨Reg.ADC_REGPER, 0, 16⟩
/-- ADC_REFCFG.TMO. -/
def ADC_REFCFG_TMO : RegField := ⟨Reg.ADC_REFCFG, 0, 8⟩
/-- ADC_REFCFG.WIN. -/
def ADC_REFCFG_WIN : RegField := ⟨Reg.ADC_REFCFG, 8, 8⟩
/-- ADC_CALPER.PER. -/
def ADC_CALPER_PER : RegField := ⟨Reg.ADC_CALPER, 0, 16⟩
/-- ADC_CMD.OP. -/
def ADC_CMD_OP : RegField := ⟨Reg.ADC_CMD, 0, 4⟩
/-- ADC_CMD.CONV. -/
def ADC_CMD_CONV : RegField := ⟨Reg.ADC_CMD, 8, 2⟩
/-- ADC_KCFG.BRMASK. -/
def ADC_KCFG_BRMASK : RegField := ⟨Reg.ADC_KCFG, 0, 8⟩
/-- ADC_KCFG.CONFIRM. -/
def ADC_KCFG_CONFIRM : RegField := ⟨Reg.ADC_KCFG, 8, 4⟩
/-- ADC_KTOL.TOLA. -/
def ADC_KTOL_TOLA : RegField := ⟨Reg.ADC_KTOL, 0, 16⟩
/-- ADC_KTOL.TOLR. -/
def ADC_KTOL_TOLR : RegField := ⟨Reg.ADC_KTOL, 16, 8⟩
/-- ADC_KSTAT.DIFF. -/
def ADC_KSTAT_DIFF : RegField := ⟨Reg.ADC_KSTAT, 0, 16⟩
/-- ADC_KSTAT.RUN. -/
def ADC_KSTAT_RUN : RegField := ⟨Reg.ADC_KSTAT, 16, 8⟩
/-- ADC_CNT.REGLATE. -/
def ADC_CNT_REGLATE : RegField := ⟨Reg.ADC_CNT, 0, 16⟩
/-- ADC_CNT.INJMISS. -/
def ADC_CNT_INJMISS : RegField := ⟨Reg.ADC_CNT, 16, 16⟩
/-- ADC_xOFFS.Offset. -/
def ADC_XOFFS_Offset (i : Nat) : RegField := ⟨Reg.ADC_XOFFS i, 0, 16⟩
/-- ADC_INnRES.REFNOK. -/
def ADC_INRES_REFNOK (i : Nat) : RegField := ⟨Reg.ADC_INRES i, 20, 1⟩
/-- ADC_INnRES.CONV. -/
def ADC_INRES_CONV (i : Nat) : RegField := ⟨Reg.ADC_INRES i, 18, 2⟩
/-- ADC_INnRES.CLIP. -/
def ADC_INRES_CLIP (i : Nat) : RegField := ⟨Reg.ADC_INRES i, 17, 1⟩
/-- ADC_INnRES.VALID. -/
def ADC_INRES_VALID (i : Nat) : RegField := ⟨Reg.ADC_INRES i, 16, 1⟩
/-- ADC_INnRES.CODE. -/
def ADC_INRES_CODE (i : Nat) : RegField := ⟨Reg.ADC_INRES i, 0, 16⟩
/-- ISO_CFG.HALF. -/
def ISO_CFG_HALF : RegField := ⟨Reg.ISO_CFG, 0, 8⟩
/-- ISO_CFG.SETTLE. -/
def ISO_CFG_SETTLE : RegField := ⟨Reg.ISO_CFG, 8, 8⟩
/-- ISO_NET.UINJ. -/
def ISO_NET_UINJ : RegField := ⟨Reg.ISO_NET, 0, 16⟩
/-- ISO_NET.RM. -/
def ISO_NET_RM : RegField := ⟨Reg.ISO_NET, 16, 16⟩
/-- ISO_RC.RC. -/
def ISO_RC_RC : RegField := ⟨Reg.ISO_RC, 0, 16⟩
/-- ISO_LIM.WARN. -/
def ISO_LIM_WARN : RegField := ⟨Reg.ISO_LIM, 0, 16⟩
/-- ISO_LIM.TRIP. -/
def ISO_LIM_TRIP : RegField := ⟨Reg.ISO_LIM, 16, 16⟩
/-- ISO_RES.Riso. -/
def ISO_RES_Riso : RegField := ⟨Reg.ISO_RES, 0, 16⟩
/-- ISO_RES.VALID. -/
def ISO_RES_VALID : RegField := ⟨Reg.ISO_RES, 16, 1⟩
/-- ISO_RES.UNSETTLED. -/
def ISO_RES_UNSETTLED : RegField := ⟨Reg.ISO_RES, 17, 1⟩
/-- ISO_CNT.Results. -/
def ISO_CNT_Results : RegField := ⟨Reg.ISO_CNT, 0, 16⟩
/-- FLT_CFG.QUIET. -/
def FLT_CFG_QUIET : RegField := ⟨Reg.FLT_CFG, 0, 8⟩
/-- FLT_STATE.HANDLING. -/
def FLT_STATE_HANDLING : RegField := ⟨Reg.FLT_STATE, 0, 8⟩
/-- FLT_STATE.HCLASS. -/
def FLT_STATE_HCLASS : RegField := ⟨Reg.FLT_STATE, 8, 2⟩
/-- FLT_STATE.QDEPTH. -/
def FLT_STATE_QDEPTH : RegField := ⟨Reg.FLT_STATE, 16, 5⟩
/-- FLT_STATE.STORM. -/
def FLT_STATE_STORM : RegField := ⟨Reg.FLT_STATE, 24, 1⟩
/-- FLT_INFORCE.SNARE. -/
def FLT_INFORCE_SNARE : RegField := ⟨Reg.FLT_INFORCE, 0, 1⟩
/-- FLT_INFORCE.STOP. -/
def FLT_INFORCE_STOP : RegField := ⟨Reg.FLT_INFORCE, 1, 1⟩
/-- FLT_INFORCE.OPENALL. -/
def FLT_INFORCE_OPENALL : RegField := ⟨Reg.FLT_INFORCE, 2, 1⟩
/-- FLT_INFORCE.BROPEN. -/
def FLT_INFORCE_BROPEN : RegField := ⟨Reg.FLT_INFORCE, 8, 8⟩
/-- FLT_CMD.OP. -/
def FLT_CMD_OP : RegField := ⟨Reg.FLT_CMD, 0, 4⟩
/-- FLT_CLR.CAUSE. -/
def FLT_CLR_CAUSE : RegField := ⟨Reg.FLT_CLR, 0, 8⟩
/-- FLT_CLR.SNSRC. -/
def FLT_CLR_SNSRC : RegField := ⟨Reg.FLT_CLR, 8, 6⟩
/-- FLT_STORM.COUNT. -/
def FLT_STORM_COUNT : RegField := ⟨Reg.FLT_STORM, 0, 16⟩
/-- FLT_STORM.FIRST. -/
def FLT_STORM_FIRST : RegField := ⟨Reg.FLT_STORM, 16, 8⟩
/-- FLT_STORM.LAST. -/
def FLT_STORM_LAST : RegField := ⟨Reg.FLT_STORM, 24, 8⟩
/-- FLT_NSTAND.ACTIVE. -/
def FLT_NSTAND_ACTIVE : RegField := ⟨Reg.FLT_NSTAND, 0, 8⟩
/-- FLT_NSTAND.LATCHED. -/
def FLT_NSTAND_LATCHED : RegField := ⟨Reg.FLT_NSTAND, 8, 8⟩
/-- FLT_LAST.CODE. -/
def FLT_LAST_CODE : RegField := ⟨Reg.FLT_LAST, 0, 8⟩
/-- FLT_LAST.CLASS. -/
def FLT_LAST_CLASS : RegField := ⟨Reg.FLT_LAST, 8, 2⟩
/-- FLT_LAST.INST. -/
def FLT_LAST_INST : RegField := ⟨Reg.FLT_LAST, 16, 12⟩
/-- SFI_FUNC.GRANT. -/
def SFI_FUNC_GRANT : RegField := ⟨Reg.SFI_FUNC, 16, 1⟩
/-- SFI_FUNC.ISTOP. -/
def SFI_FUNC_ISTOP : RegField := ⟨Reg.SFI_FUNC, 17, 1⟩
/-- SFI_FUNC.STOP1REQ. -/
def SFI_FUNC_STOP1REQ : RegField := ⟨Reg.SFI_FUNC, 18, 1⟩
/-- SFI_INSTAT.A. -/
def SFI_INSTAT_A : RegField := ⟨Reg.SFI_INSTAT, 0, 8⟩
/-- SFI_INSTAT.B. -/
def SFI_INSTAT_B : RegField := ⟨Reg.SFI_INSTAT, 8, 8⟩
/-- SFI_INSTAT.A2. -/
def SFI_INSTAT_A2 : RegField := ⟨Reg.SFI_INSTAT, 16, 8⟩
/-- SFI_INSTAT.B2. -/
def SFI_INSTAT_B2 : RegField := ⟨Reg.SFI_INSTAT, 24, 8⟩
/-- SFI_INFLT.DISC. -/
def SFI_INFLT_DISC : RegField := ⟨Reg.SFI_INFLT, 0, 8⟩
/-- SFI_INFLT.TPF. -/
def SFI_INFLT_TPF : RegField := ⟨Reg.SFI_INFLT, 8, 8⟩
/-- SFI_OUTSTAT.A. -/
def SFI_OUTSTAT_A : RegField := ⟨Reg.SFI_OUTSTAT, 0, 4⟩
/-- SFI_OUTSTAT.B. -/
def SFI_OUTSTAT_B : RegField := ⟨Reg.SFI_OUTSTAT, 4, 4⟩
/-- SFI_OUTSTAT.A2. -/
def SFI_OUTSTAT_A2 : RegField := ⟨Reg.SFI_OUTSTAT, 8, 4⟩
/-- SFI_OUTSTAT.B2. -/
def SFI_OUTSTAT_B2 : RegField := ⟨Reg.SFI_OUTSTAT, 12, 4⟩
/-- SFI_OUTSTAT.FAULT. -/
def SFI_OUTSTAT_FAULT : RegField := ⟨Reg.SFI_OUTSTAT, 16, 4⟩
/-- SFI_CMD.OP. -/
def SFI_CMD_OP : RegField := ⟨Reg.SFI_CMD, 0, 4⟩
/-- SFI_RIMCNT.PASS. -/
def SFI_RIMCNT_PASS : RegField := ⟨Reg.SFI_RIMCNT, 0, 16⟩
/-- SFI_RIMCNT.DISC. -/
def SFI_RIMCNT_DISC : RegField := ⟨Reg.SFI_RIMCNT, 16, 8⟩
/-- SFI_RIMCNT.FAIL. -/
def SFI_RIMCNT_FAIL : RegField := ⟨Reg.SFI_RIMCNT, 24, 8⟩
/-- SFI_FAULT.CAUSE. -/
def SFI_FAULT_CAUSE : RegField := ⟨Reg.SFI_FAULT, 0, 4⟩
/-- SFI_FAULT.COUNT. -/
def SFI_FAULT_COUNT : RegField := ⟨Reg.SFI_FAULT, 8, 4⟩
/-- SFI_SLOT.ACTIVE. -/
def SFI_SLOT_ACTIVE : RegField := ⟨Reg.SFI_SLOT, 0, 1⟩
/-- SFI_SLOT.LOADED. -/
def SFI_SLOT_LOADED : RegField := ⟨Reg.SFI_SLOT, 1, 2⟩
/-- SFI_SLOT.SHADOW. -/
def SFI_SLOT_SHADOW : RegField := ⟨Reg.SFI_SLOT, 8, 8⟩
/-- SFI_SLOT.STREV. -/
def SFI_SLOT_STREV : RegField := ⟨Reg.SFI_SLOT, 16, 16⟩
/-- SFI_T1REM.T1. -/
def SFI_T1REM_T1 : RegField := ⟨Reg.SFI_T1REM, 0, 16⟩
/-- SFI_INnCFG.TP. -/
def SFI_INCFG_TP (i : Nat) : RegField := ⟨Reg.SFI_INCFG i, 8, 1⟩
/-- SFI_INnCFG.AUTO. -/
def SFI_INCFG_AUTO (i : Nat) : RegField := ⟨Reg.SFI_INCFG i, 7, 1⟩
/-- SFI_INnCFG.CAT. -/
def SFI_INCFG_CAT (i : Nat) : RegField := ⟨Reg.SFI_INCFG i, 6, 1⟩
/-- SFI_INnCFG.FORM. -/
def SFI_INCFG_FORM (i : Nat) : RegField := ⟨Reg.SFI_INCFG i, 4, 2⟩
/-- SFI_INnCFG.TYPE. -/
def SFI_INCFG_TYPE (i : Nat) : RegField := ⟨Reg.SFI_INCFG i, 0, 4⟩
/-- SFI_INnTIM.FILT. -/
def SFI_INTIM_FILT (i : Nat) : RegField := ⟨Reg.SFI_INTIM i, 0, 8⟩
/-- SFI_INnTIM.DISC. -/
def SFI_INTIM_DISC (i : Nat) : RegField := ⟨Reg.SFI_INTIM i, 16, 12⟩
/-- SFI_OUTmCFG.EN. -/
def SFI_OUTCFG_EN (i : Nat) : RegField := ⟨Reg.SFI_OUTCFG i, 31, 1⟩
/-- SFI_OUTmCFG.RIMW. -/
def SFI_OUTCFG_RIMW (i : Nat) : RegField := ⟨Reg.SFI_OUTCFG i, 16, 8⟩
/-- SFI_OUTmCFG.MAINTON. -/
def SFI_OUTCFG_MAINTON (i : Nat) : RegField := ⟨Reg.SFI_OUTCFG i, 9, 1⟩
/-- SFI_OUTmCFG.MAINTOFF. -/
def SFI_OUTCFG_MAINTOFF (i : Nat) : RegField := ⟨Reg.SFI_OUTCFG i, 8, 1⟩
/-- SFI_OUTmCFG.PERMIT. -/
def SFI_OUTCFG_PERMIT (i : Nat) : RegField := ⟨Reg.SFI_OUTCFG i, 0, 8⟩
/-- SFI_OUTmTIM.RBT. -/
def SFI_OUTTIM_RBT (i : Nat) : RegField := ⟨Reg.SFI_OUTTIM i, 0, 8⟩
/-- SFI_T1.T1. -/
def SFI_T1_T1 : RegField := ⟨Reg.SFI_T1, 0, 16⟩
/-- SFI_HAND.THAND. -/
def SFI_HAND_THAND : RegField := ⟨Reg.SFI_HAND, 0, 16⟩
/-- SFI_HAND.TDEEN. -/
def SFI_HAND_TDEEN : RegField := ⟨Reg.SFI_HAND, 16, 16⟩
/-- SCL_CMD.OP. -/
def SCL_CMD_OP : RegField := ⟨Reg.SCL_CMD, 0, 4⟩
/-- SCL_CMD.CONN. -/
def SCL_CMD_CONN : RegField := ⟨Reg.SCL_CMD, 8, 3⟩
/-- SCL_CnSTAT.STATE. -/
def SCL_CSTAT_STATE (i : Nat) : RegField := ⟨Reg.SCL_CSTAT i, 0, 4⟩
/-- SCL_CnSTAT.REASON. -/
def SCL_CSTAT_REASON (i : Nat) : RegField := ⟨Reg.SCL_CSTAT i, 8, 4⟩
/-- SCL_CnSTAT.PERMIT. -/
def SCL_CSTAT_PERMIT (i : Nat) : RegField := ⟨Reg.SCL_CSTAT i, 16, 1⟩
/-- SCL_CnSTAT.AGE. -/
def SCL_CSTAT_AGE (i : Nat) : RegField := ⟨Reg.SCL_CSTAT i, 24, 8⟩
/-- SCL_CnCNT.CRC. -/
def SCL_CCNT_CRC (i : Nat) : RegField := ⟨Reg.SCL_CCNT i, 0, 8⟩
/-- SCL_CnCNT.DUP. -/
def SCL_CCNT_DUP (i : Nat) : RegField := ⟨Reg.SCL_CCNT i, 8, 8⟩
/-- SCL_CnCNT.SINGLE. -/
def SCL_CCNT_SINGLE (i : Nat) : RegField := ⟨Reg.SCL_CCNT i, 16, 8⟩
/-- SCL_CnCNT.DISC. -/
def SCL_CCNT_DISC (i : Nat) : RegField := ⟨Reg.SCL_CCNT i, 24, 8⟩
/-- SCL_CnCFG.EN. -/
def SCL_CCFG_EN (i : Nat) : RegField := ⟨Reg.SCL_CCFG i, 31, 1⟩
/-- SCL_CnCFG.ROLE. -/
def SCL_CCFG_ROLE (i : Nat) : RegField := ⟨Reg.SCL_CCFG i, 30, 1⟩
/-- SCL_CnCFG.COMPAT. -/
def SCL_CCFG_COMPAT (i : Nat) : RegField := ⟨Reg.SCL_CCFG i, 29, 1⟩
/-- SCL_CnCFG.AUTO. -/
def SCL_CCFG_AUTO (i : Nat) : RegField := ⟨Reg.SCL_CCFG i, 28, 1⟩
/-- SCL_CnCFG.STOP. -/
def SCL_CCFG_STOP (i : Nat) : RegField := ⟨Reg.SCL_CCFG i, 27, 1⟩
/-- SCL_CnCFG.SEQWIN. -/
def SCL_CCFG_SEQWIN (i : Nat) : RegField := ⟨Reg.SCL_CCFG i, 16, 4⟩
/-- SCL_CnCFG.OUTMASK. -/
def SCL_CCFG_OUTMASK (i : Nat) : RegField := ⟨Reg.SCL_CCFG i, 8, 4⟩
/-- SCL_CnCFG.FMASK. -/
def SCL_CCFG_FMASK (i : Nat) : RegField := ⟨Reg.SCL_CCFG i, 0, 8⟩
/-- SCL_CnTIM.PERIOD. -/
def SCL_CTIM_PERIOD (i : Nat) : RegField := ⟨Reg.SCL_CTIM i, 0, 8⟩
/-- SCL_CnTIM.WDT. -/
def SCL_CTIM_WDT (i : Nat) : RegField := ⟨Reg.SCL_CTIM i, 8, 12⟩
/-- SCL_CnTIM.CMPWIN. -/
def SCL_CTIM_CMPWIN (i : Nat) : RegField := ⟨Reg.SCL_CTIM i, 20, 8⟩
/-- SCL_CnNET1.TYPE. -/
def SCL_CNET1_TYPE (i : Nat) : RegField := ⟨Reg.SCL_CNET1 i, 30, 2⟩
/-- SCL_CnNET1.ADDR. -/
def SCL_CNET1_ADDR (i : Nat) : RegField := ⟨Reg.SCL_CNET1 i, 0, 10⟩
/-- FAB_CFG.ADDR. -/
def FAB_CFG_ADDR : RegField := ⟨Reg.FAB_CFG, 0, 10⟩
/-- FAB_CFG.ZONE. -/
def FAB_CFG_ZONE : RegField := ⟨Reg.FAB_CFG, 16, 8⟩
/-- FAB_CFG.PORTEN. -/
def FAB_CFG_PORTEN : RegField := ⟨Reg.FAB_CFG, 24, 5⟩
/-- FAB_STRING.STRING. -/
def FAB_STRING_STRING : RegField := ⟨Reg.FAB_STRING, 0, 16⟩
/-- FAB_DISP.WDT. -/
def FAB_DISP_WDT : RegField := ⟨Reg.FAB_DISP, 0, 16⟩
/-- FAB_DISP.ACTION. -/
def FAB_DISP_ACTION : RegField := ⟨Reg.FAB_DISP, 16, 2⟩
/-- FAB_DISP.MAXAHEAD. -/
def FAB_DISP_MAXAHEAD : RegField := ⟨Reg.FAB_DISP, 24, 8⟩
/-- FAB_GONG.AUTOSAF. -/
def FAB_GONG_AUTOSAF : RegField := ⟨Reg.FAB_GONG, 0, 1⟩
/-- FAB_GONGSTAT.ORIGIN. -/
def FAB_GONGSTAT_ORIGIN : RegField := ⟨Reg.FAB_GONGSTAT, 0, 10⟩
/-- FAB_GONGSTAT.REASON. -/
def FAB_GONGSTAT_REASON : RegField := ⟨Reg.FAB_GONGSTAT, 8, 8⟩
/-- FAB_GONGSTAT.GSEQ. -/
def FAB_GONGSTAT_GSEQ : RegField := ⟨Reg.FAB_GONGSTAT, 16, 16⟩
/-- FAB_GONGCNT.RX. -/
def FAB_GONGCNT_RX : RegField := ⟨Reg.FAB_GONGCNT, 0, 16⟩
/-- FAB_GONGCNT.DUP. -/
def FAB_GONGCNT_DUP : RegField := ⟨Reg.FAB_GONGCNT, 16, 16⟩
/-- FAB_REP.PERIOD. -/
def FAB_REP_PERIOD : RegField := ⟨Reg.FAB_REP, 0, 8⟩
/-- FAB_REPDST.SUB0. -/
def FAB_REPDST_SUB0 : RegField := ⟨Reg.FAB_REPDST, 0, 10⟩
/-- FAB_REPDST.V0. -/
def FAB_REPDST_V0 : RegField := ⟨Reg.FAB_REPDST, 15, 1⟩
/-- FAB_REPDST.SUB1. -/
def FAB_REPDST_SUB1 : RegField := ⟨Reg.FAB_REPDST, 16, 10⟩
/-- FAB_REPDST.V1. -/
def FAB_REPDST_V1 : RegField := ⟨Reg.FAB_REPDST, 31, 1⟩
/-- FAB_CMD.OP. -/
def FAB_CMD_OP : RegField := ⟨Reg.FAB_CMD, 0, 4⟩
/-- FAB_CMD.REASON. -/
def FAB_CMD_REASON : RegField := ⟨Reg.FAB_CMD, 8, 8⟩
/-- FAB_DCNT.ACCEPTED. -/
def FAB_DCNT_ACCEPTED : RegField := ⟨Reg.FAB_DCNT, 0, 16⟩
/-- FAB_DCNT.REJECTED. -/
def FAB_DCNT_REJECTED : RegField := ⟨Reg.FAB_DCNT, 16, 16⟩
/-- FAB_DLAST.STATUS. -/
def FAB_DLAST_STATUS : RegField := ⟨Reg.FAB_DLAST, 0, 8⟩
/-- FAB_DLAST.SRC. -/
def FAB_DLAST_SRC : RegField := ⟨Reg.FAB_DLAST, 16, 10⟩
/-- FAB_TOPO.NODES. -/
def FAB_TOPO_NODES : RegField := ⟨Reg.FAB_TOPO, 0, 11⟩
/-- FAB_TOPO.RECOMP. -/
def FAB_TOPO_RECOMP : RegField := ⟨Reg.FAB_TOPO, 16, 16⟩
/-- FAB_AUTHCNT.AUTH. -/
def FAB_AUTHCNT_AUTH : RegField := ⟨Reg.FAB_AUTHCNT, 0, 16⟩
/-- FAB_AUTHCNT.REPLAY. -/
def FAB_AUTHCNT_REPLAY : RegField := ⟨Reg.FAB_AUTHCNT, 16, 16⟩
/-- FAB_RKEYV.VALID. -/
def FAB_RKEYV_VALID : RegField := ⟨Reg.FAB_RKEYV, 1, 3⟩
/-- FPn_CFG.COST. -/
def FP_CFG_COST (x : Nat) : RegField := ⟨Reg.FP_CFG x, 0, 8⟩
/-- FPn_CFG.AUTOISO. -/
def FP_CFG_AUTOISO (x : Nat) : RegField := ⟨Reg.FP_CFG x, 8, 1⟩
/-- FPn_STATE.STATE. -/
def FP_STATE_STATE (x : Nat) : RegField := ⟨Reg.FP_STATE x, 0, 4⟩
/-- FPn_STATE.LABEL. -/
def FP_STATE_LABEL (x : Nat) : RegField := ⟨Reg.FP_STATE x, 8, 8⟩
/-- FPn_STATE.PEER. -/
def FP_STATE_PEER (x : Nat) : RegField := ⟨Reg.FP_STATE x, 16, 10⟩
/-- FPn_KEYCTL.LABEL0. -/
def FP_KEYCTL_LABEL0 (x : Nat) : RegField := ⟨Reg.FP_KEYCTL x, 0, 8⟩
/-- FPn_KEYCTL.LABEL1. -/
def FP_KEYCTL_LABEL1 (x : Nat) : RegField := ⟨Reg.FP_KEYCTL x, 8, 8⟩
/-- FPn_KEYCTL.VALID0. -/
def FP_KEYCTL_VALID0 (x : Nat) : RegField := ⟨Reg.FP_KEYCTL x, 16, 1⟩
/-- FPn_KEYCTL.VALID1. -/
def FP_KEYCTL_VALID1 (x : Nat) : RegField := ⟨Reg.FP_KEYCTL x, 17, 1⟩
/-- FPn_KEYCTL.TXKEY. -/
def FP_KEYCTL_TXKEY (x : Nat) : RegField := ⟨Reg.FP_KEYCTL x, 24, 1⟩
/-- FPn_KEYCTL.CLR0. -/
def FP_KEYCTL_CLR0 (x : Nat) : RegField := ⟨Reg.FP_KEYCTL x, 28, 1⟩
/-- FPn_KEYCTL.CLR1. -/
def FP_KEYCTL_CLR1 (x : Nat) : RegField := ⟨Reg.FP_KEYCTL x, 29, 1⟩
/-- FPn_CRED.C1. -/
def FP_CRED_C1 (x : Nat) : RegField := ⟨Reg.FP_CRED x, 0, 8⟩
/-- FPn_CRED.C2. -/
def FP_CRED_C2 (x : Nat) : RegField := ⟨Reg.FP_CRED x, 8, 8⟩
/-- FPn_CRED.C3. -/
def FP_CRED_C3 (x : Nat) : RegField := ⟨Reg.FP_CRED x, 16, 8⟩
/-- FPn_RXOCC.C1. -/
def FP_RXOCC_C1 (x : Nat) : RegField := ⟨Reg.FP_RXOCC x, 0, 8⟩
/-- FPn_RXOCC.C2. -/
def FP_RXOCC_C2 (x : Nat) : RegField := ⟨Reg.FP_RXOCC x, 8, 8⟩
/-- FPn_RXOCC.C3. -/
def FP_RXOCC_C3 (x : Nat) : RegField := ⟨Reg.FP_RXOCC x, 16, 8⟩
/-- FPn_CMD.OP. -/
def FP_CMD_OP (x : Nat) : RegField := ⟨Reg.FP_CMD x, 0, 4⟩
/-- TIM_CFG.PREF. -/
def TIM_CFG_PREF : RegField := ⟨Reg.TIM_CFG, 0, 1⟩
/-- TIM_CFG.AUTOSW. -/
def TIM_CFG_AUTOSW : RegField := ⟨Reg.TIM_CFG, 1, 1⟩
/-- TIM_CFG.REVERT. -/
def TIM_CFG_REVERT : RegField := ⟨Reg.TIM_CFG, 2, 1⟩
/-- TIM_SLEW.PPM. -/
def TIM_SLEW_PPM : RegField := ⟨Reg.TIM_SLEW, 0, 16⟩
/-- TIM_SLEW.STEP. -/
def TIM_SLEW_STEP : RegField := ⟨Reg.TIM_SLEW, 16, 16⟩
/-- TIM_HOLD.TIME. -/
def TIM_HOLD_TIME : RegField := ⟨Reg.TIM_HOLD, 0, 16⟩
/-- TIM_LAT.TXLAT. -/
def TIM_LAT_TXLAT : RegField := ⟨Reg.TIM_LAT, 0, 16⟩
/-- TIM_LAT.RXLAT. -/
def TIM_LAT_RXLAT : RegField := ⟨Reg.TIM_LAT, 16, 16⟩
/-- TIM_STATE.D1ST. -/
def TIM_STATE_D1ST : RegField := ⟨Reg.TIM_STATE, 8, 3⟩
/-- TIM_STATE.D0ST. -/
def TIM_STATE_D0ST : RegField := ⟨Reg.TIM_STATE, 4, 3⟩
/-- TIM_STATE.SLEWING. -/
def TIM_STATE_SLEWING : RegField := ⟨Reg.TIM_STATE, 2, 1⟩
/-- TIM_STATE.SYNC. -/
def TIM_STATE_SYNC : RegField := ⟨Reg.TIM_STATE, 1, 1⟩
/-- TIM_STATE.ACTIVE. -/
def TIM_STATE_ACTIVE : RegField := ⟨Reg.TIM_STATE, 0, 1⟩
/-- TIM_UTC.OFFSET. -/
def TIM_UTC_OFFSET : RegField := ⟨Reg.TIM_UTC, 0, 16⟩
/-- TIM_UTC.VALID. -/
def TIM_UTC_VALID : RegField := ⟨Reg.TIM_UTC, 16, 1⟩
/-- TIM_CNT.STEPS. -/
def TIM_CNT_STEPS : RegField := ⟨Reg.TIM_CNT, 0, 16⟩
/-- TIM_CNT.SWITCHES. -/
def TIM_CNT_SWITCHES : RegField := ⟨Reg.TIM_CNT, 16, 16⟩
/-- TIM_CMD.OP. -/
def TIM_CMD_OP : RegField := ⟨Reg.TIM_CMD, 0, 4⟩
/-- TIM_CMD.DOM. -/
def TIM_CMD_DOM : RegField := ⟨Reg.TIM_CMD, 8, 1⟩
/-- TIM_PTPCNT.RX. -/
def TIM_PTPCNT_RX : RegField := ⟨Reg.TIM_PTPCNT, 0, 16⟩
/-- TIM_PTPCNT.DISC. -/
def TIM_PTPCNT_DISC : RegField := ⟨Reg.TIM_PTPCNT, 16, 16⟩
/-- TIM_DdCFG.EN. -/
def TIM_DCFG_EN (i : Nat) : RegField := ⟨Reg.TIM_DCFG i, 31, 1⟩
/-- TIM_DdCFG.SRC. -/
def TIM_DCFG_SRC (i : Nat) : RegField := ⟨Reg.TIM_DCFG i, 24, 2⟩
/-- TIM_DdCFG.GMCAP. -/
def TIM_DCFG_GMCAP (i : Nat) : RegField := ⟨Reg.TIM_DCFG i, 20, 1⟩
/-- TIM_DdCFG.LOGSYNC. -/
def TIM_DCFG_LOGSYNC (i : Nat) : RegField := ⟨Reg.TIM_DCFG i, 16, 4⟩
/-- TIM_DdCFG.PRIO1. -/
def TIM_DCFG_PRIO1 (i : Nat) : RegField := ⟨Reg.TIM_DCFG i, 8, 8⟩
/-- TIM_DdCFG.DOMAIN. -/
def TIM_DCFG_DOMAIN (i : Nat) : RegField := ⟨Reg.TIM_DCFG i, 0, 8⟩
/-- TIM_DdLOCK.LOCKWIN. -/
def TIM_DLOCK_LOCKWIN (i : Nat) : RegField := ⟨Reg.TIM_DLOCK i, 0, 16⟩
/-- TIM_DdLOCK.LOCKN. -/
def TIM_DLOCK_LOCKN (i : Nat) : RegField := ⟨Reg.TIM_DLOCK i, 16, 8⟩
/-- TIM_DdSTAT.STATE. -/
def TIM_DSTAT_STATE (i : Nat) : RegField := ⟨Reg.TIM_DSTAT i, 0, 3⟩
/-- TIM_DdSTAT.SLAVE. -/
def TIM_DSTAT_SLAVE (i : Nat) : RegField := ⟨Reg.TIM_DSTAT i, 4, 3⟩
/-- TIM_DdSTAT.STEPS. -/
def TIM_DSTAT_STEPS (i : Nat) : RegField := ⟨Reg.TIM_DSTAT i, 16, 16⟩
/-- TIM_DdSAGE.SYNCAGE. -/
def TIM_DSAGE_SYNCAGE (i : Nat) : RegField := ⟨Reg.TIM_DSAGE i, 0, 16⟩
/-- TIM_DdSAGE.HOLDAGE. -/
def TIM_DSAGE_HOLDAGE (i : Nat) : RegField := ⟨Reg.TIM_DSAGE i, 16, 16⟩
/-- TIM_FLsCTL.EN. -/
def TIM_FLCTL_EN (i : Nat) : RegField := ⟨Reg.TIM_FLCTL i, 31, 1⟩
/-- TIM_FLsCTL.LEN. -/
def TIM_FLCTL_LEN (i : Nat) : RegField := ⟨Reg.TIM_FLCTL i, 0, 9⟩
/-- TIM_FLsSTAT.SENT. -/
def TIM_FLSTAT_SENT (i : Nat) : RegField := ⟨Reg.TIM_FLSTAT i, 0, 16⟩
/-- TIM_FLsSTAT.LATE. -/
def TIM_FLSTAT_LATE (i : Nat) : RegField := ⟨Reg.TIM_FLSTAT i, 16, 8⟩
/-- TIM_FLsSTAT.MISSED. -/
def TIM_FLSTAT_MISSED (i : Nat) : RegField := ⟨Reg.TIM_FLSTAT i, 24, 8⟩
/-- TIM_CLsCTL.EN. -/
def TIM_CLCTL_EN (i : Nat) : RegField := ⟨Reg.TIM_CLCTL i, 31, 1⟩
/-- TIM_CLsCTL.CTRLSEL. -/
def TIM_CLCTL_CTRLSEL (i : Nat) : RegField := ⟨Reg.TIM_CLCTL i, 8, 1⟩
/-- TIM_CLsCTL.OBJ. -/
def TIM_CLCTL_OBJ (i : Nat) : RegField := ⟨Reg.TIM_CLCTL i, 0, 7⟩
/-- TPO_kCFG.MODE. -/
def TPO_KCFG_MODE (i : Nat) : RegField := ⟨Reg.TPO_KCFG i, 0, 2⟩
/-- TPO_kCFG.POL. -/
def TPO_KCFG_POL (i : Nat) : RegField := ⟨Reg.TPO_KCFG i, 4, 1⟩
/-- TPO_kSTAT.LEVEL. -/
def TPO_KSTAT_LEVEL (i : Nat) : RegField := ⟨Reg.TPO_KSTAT i, 0, 1⟩
/-- TPO_kSTAT.LATE. -/
def TPO_KSTAT_LATE (i : Nat) : RegField := ⟨Reg.TPO_KSTAT i, 1, 1⟩
/-- TPO_kSTAT.PULSES. -/
def TPO_KSTAT_PULSES (i : Nat) : RegField := ⟨Reg.TPO_KSTAT i, 16, 16⟩
/-- CNx_CFG.PXE. -/
def CN_CFG_PXE (x : Nat) : RegField := ⟨Reg.CN_CFG x, 6, 1⟩
/-- CNx_CFG.ONESHOT. -/
def CN_CFG_ONESHOT (x : Nat) : RegField := ⟨Reg.CN_CFG x, 5, 1⟩
/-- CNx_CFG.AUTOREC. -/
def CN_CFG_AUTOREC (x : Nat) : RegField := ⟨Reg.CN_CFG x, 4, 1⟩
/-- CNx_CFG.MODE. -/
def CN_CFG_MODE (x : Nat) : RegField := ⟨Reg.CN_CFG x, 0, 2⟩
/-- CNx_NTIM.NBIT. -/
def CN_NTIM_NBIT (x : Nat) : RegField := ⟨Reg.CN_NTIM x, 0, 9⟩
/-- CNx_NTIM.NSP. -/
def CN_NTIM_NSP (x : Nat) : RegField := ⟨Reg.CN_NTIM x, 9, 9⟩
/-- CNx_NTIM.RJW. -/
def CN_NTIM_RJW (x : Nat) : RegField := ⟨Reg.CN_NTIM x, 18, 8⟩
/-- CNx_NTIM.QPRE. -/
def CN_NTIM_QPRE (x : Nat) : RegField := ⟨Reg.CN_NTIM x, 26, 5⟩
/-- CNx_DTIM.DBIT. -/
def CN_DTIM_DBIT (x : Nat) : RegField := ⟨Reg.CN_DTIM x, 0, 7⟩
/-- CNx_DTIM.DSP. -/
def CN_DTIM_DSP (x : Nat) : RegField := ⟨Reg.CN_DTIM x, 8, 7⟩
/-- CNx_DTIM.DRJW. -/
def CN_DTIM_DRJW (x : Nat) : RegField := ⟨Reg.CN_DTIM x, 16, 5⟩
/-- CNx_DTIM.DQPRE. -/
def CN_DTIM_DQPRE (x : Nat) : RegField := ⟨Reg.CN_DTIM x, 24, 5⟩
/-- CNx_SSP.EN. -/
def CN_SSP_EN (x : Nat) : RegField := ⟨Reg.CN_SSP x, 0, 1⟩
/-- CNx_SSP.OFS. -/
def CN_SSP_OFS (x : Nat) : RegField := ⟨Reg.CN_SSP x, 8, 7⟩
/-- CNx_SSP.WIN. -/
def CN_SSP_WIN (x : Nat) : RegField := ⟨Reg.CN_SSP x, 16, 7⟩
/-- CNx_STATE.TEC. -/
def CN_STATE_TEC (x : Nat) : RegField := ⟨Reg.CN_STATE x, 0, 8⟩
/-- CNx_STATE.REC. -/
def CN_STATE_REC (x : Nat) : RegField := ⟨Reg.CN_STATE x, 8, 7⟩
/-- CNx_STATE.RXPASS. -/
def CN_STATE_RXPASS (x : Nat) : RegField := ⟨Reg.CN_STATE x, 15, 1⟩
/-- CNx_STATE.PSTATE. -/
def CN_STATE_PSTATE (x : Nat) : RegField := ⟨Reg.CN_STATE x, 16, 3⟩
/-- CNx_STATE.LASTERR. -/
def CN_STATE_LASTERR (x : Nat) : RegField := ⟨Reg.CN_STATE x, 20, 3⟩
/-- CNx_CMD.OP. -/
def CN_CMD_OP (x : Nat) : RegField := ⟨Reg.CN_CMD x, 0, 4⟩
/-- CNx_CMD.OBJ. -/
def CN_CMD_OBJ (x : Nat) : RegField := ⟨Reg.CN_CMD x, 8, 7⟩
/-- CNx_CNT.TXOK. -/
def CN_CNT_TXOK (x : Nat) : RegField := ⟨Reg.CN_CNT x, 0, 16⟩
/-- CNx_CNT.RXOK. -/
def CN_CNT_RXOK (x : Nat) : RegField := ⟨Reg.CN_CNT x, 16, 16⟩
/-- CNx_ECNT.BUSOFF. -/
def CN_ECNT_BUSOFF (x : Nat) : RegField := ⟨Reg.CN_ECNT x, 0, 8⟩
/-- CNx_ECNT.PASSIVE. -/
def CN_ECNT_PASSIVE (x : Nat) : RegField := ⟨Reg.CN_ECNT x, 8, 8⟩
/-- CNx_ECNT.RXDROP. -/
def CN_ECNT_RXDROP (x : Nat) : RegField := ⟨Reg.CN_ECNT x, 16, 8⟩
/-- CNx_ECNT.REMOTE. -/
def CN_ECNT_REMOTE (x : Nat) : RegField := ⟨Reg.CN_ECNT x, 24, 8⟩
/-- CNx_REF.OBJ. -/
def CN_REF_OBJ (x : Nat) : RegField := ⟨Reg.CN_REF x, 0, 7⟩
/-- CNx_REF.PER. -/
def CN_REF_PER (x : Nat) : RegField := ⟨Reg.CN_REF x, 8, 16⟩
/-- CNx_REF.EN. -/
def CN_REF_EN (x : Nat) : RegField := ⟨Reg.CN_REF x, 31, 1⟩
/-- CNx_TXNEXT.OBJ. -/
def CN_TXNEXT_OBJ (x : Nat) : RegField := ⟨Reg.CN_TXNEXT x, 0, 7⟩
/-- CNx_TXNEXT.VALID. -/
def CN_TXNEXT_VALID (x : Nat) : RegField := ⟨Reg.CN_TXNEXT x, 7, 1⟩
/-- CNx_TXNEXT.KEEP. -/
def CN_TXNEXT_KEEP (x : Nat) : RegField := ⟨Reg.CN_TXNEXT x, 8, 1⟩
/-- TWN_CFG.RINGSPLIT. -/
def TWN_CFG_RINGSPLIT : RegField := ⟨Reg.TWN_CFG, 5, 1⟩
/-- TWN_CFG.MIRROR. -/
def TWN_CFG_MIRROR : RegField := ⟨Reg.TWN_CFG, 4, 1⟩
/-- TWN_CFG.PWREN. -/
def TWN_CFG_PWREN : RegField := ⟨Reg.TWN_CFG, 3, 1⟩
/-- TWN_CFG.RSTEN. -/
def TWN_CFG_RSTEN : RegField := ⟨Reg.TWN_CFG, 2, 1⟩
/-- TWN_CFG.REVERT. -/
def TWN_CFG_REVERT : RegField := ⟨Reg.TWN_CFG, 1, 1⟩
/-- TWN_CFG.HOME. -/
def TWN_CFG_HOME : RegField := ⟨Reg.TWN_CFG, 0, 1⟩
/-- TWN_TOLL.TMO. -/
def TWN_TOLL_TMO : RegField := ⟨Reg.TWN_TOLL, 0, 8⟩
/-- TWN_TOLL.KILL. -/
def TWN_TOLL_KILL : RegField := ⟨Reg.TWN_TOLL, 8, 8⟩
/-- TWN_CMP.DTOL. -/
def TWN_CMP_DTOL : RegField := ⟨Reg.TWN_CMP, 0, 16⟩
/-- TWN_CMP.ITOL. -/
def TWN_CMP_ITOL : RegField := ⟨Reg.TWN_CMP, 16, 8⟩
/-- TWN_CMP.CMPN. -/
def TWN_CMP_CMPN : RegField := ⟨Reg.TWN_CMP, 24, 8⟩
/-- TWN_PWR.OFF. -/
def TWN_PWR_OFF : RegField := ⟨Reg.TWN_PWR, 0, 8⟩
/-- TWN_PWR.MAXRST. -/
def TWN_PWR_MAXRST : RegField := ⟨Reg.TWN_PWR, 8, 4⟩
/-- TWN_STATE.PELIG. -/
def TWN_STATE_PELIG : RegField := ⟨Reg.TWN_STATE, 13, 1⟩
/-- TWN_STATE.ELIG. -/
def TWN_STATE_ELIG : RegField := ⟨Reg.TWN_STATE, 12, 1⟩
/-- TWN_STATE.OWNIN. -/
def TWN_STATE_OWNIN : RegField := ⟨Reg.TWN_STATE, 11, 1⟩
/-- TWN_STATE.OWNOUT. -/
def TWN_STATE_OWNOUT : RegField := ⟨Reg.TWN_STATE, 10, 1⟩
/-- TWN_STATE.PSTATE. -/
def TWN_STATE_PSTATE : RegField := ⟨Reg.TWN_STATE, 8, 2⟩
/-- TWN_STATE.TSTATE. -/
def TWN_STATE_TSTATE : RegField := ⟨Reg.TWN_STATE, 0, 4⟩
/-- TWN_CMD.OP. -/
def TWN_CMD_OP : RegField := ⟨Reg.TWN_CMD, 0, 4⟩
/-- TWN_CNT.HANDOVERS. -/
def TWN_CNT_HANDOVERS : RegField := ⟨Reg.TWN_CNT, 0, 8⟩
/-- TWN_CNT.TAKEOVERS. -/
def TWN_CNT_TAKEOVERS : RegField := ⟨Reg.TWN_CNT, 8, 8⟩
/-- TWN_CNT.MISMATCH. -/
def TWN_CNT_MISMATCH : RegField := ⟨Reg.TWN_CNT, 16, 8⟩
/-- TWN_CNT.RESETS. -/
def TWN_CNT_RESETS : RegField := ⟨Reg.TWN_CNT, 24, 8⟩
/-- TWN_TOLLCNT.SENT. -/
def TWN_TOLLCNT_SENT : RegField := ⟨Reg.TWN_TOLLCNT, 0, 16⟩
/-- TWN_TOLLCNT.MISSED. -/
def TWN_TOLLCNT_MISSED : RegField := ⟨Reg.TWN_TOLLCNT, 16, 16⟩
/-- EVR_CFG.WALL. -/
def EVR_CFG_WALL : RegField := ⟨Reg.EVR_CFG, 0, 1⟩
/-- EVR_CFG.AUTOFRZ. -/
def EVR_CFG_AUTOFRZ : RegField := ⟨Reg.EVR_CFG, 1, 1⟩
/-- EVR_CFG.FRZMAX. -/
def EVR_CFG_FRZMAX : RegField := ⟨Reg.EVR_CFG, 8, 8⟩
/-- EVR_CFG.MINSEV. -/
def EVR_CFG_MINSEV : RegField := ⟨Reg.EVR_CFG, 16, 3⟩
/-- EVR_CFG.IRQSEV. -/
def EVR_CFG_IRQSEV : RegField := ⟨Reg.EVR_CFG, 20, 3⟩
/-- EVR_PCC.PCC. -/
def EVR_PCC_PCC : RegField := ⟨Reg.EVR_PCC, 0, 24⟩
/-- EVR_OPFRAC.Fraction. -/
def EVR_OPFRAC_Fraction : RegField := ⟨Reg.EVR_OPFRAC, 0, 16⟩
/-- EVR_HOLD.DROP. -/
def EVR_HOLD_DROP : RegField := ⟨Reg.EVR_HOLD, 24, 8⟩
/-- EVR_CNT.RECLAIM. -/
def EVR_CNT_RECLAIM : RegField := ⟨Reg.EVR_CNT, 0, 12⟩
/-- EVR_CNT.BELOW. -/
def EVR_CNT_BELOW : RegField := ⟨Reg.EVR_CNT, 12, 12⟩
/-- EVR_CNT.IDROP. -/
def EVR_CNT_IDROP : RegField := ⟨Reg.EVR_CNT, 24, 8⟩
/-- EVR_CMD.OP. -/
def EVR_CMD_OP : RegField := ⟨Reg.EVR_CMD, 0, 4⟩
/-- AUD_CNT.ACCEPTED. -/
def AUD_CNT_ACCEPTED : RegField := ⟨Reg.AUD_CNT, 0, 16⟩
/-- AUD_CNT.REJECTED. -/
def AUD_CNT_REJECTED : RegField := ⟨Reg.AUD_CNT, 16, 16⟩
/-- AUD_LAST.ORIGIN. -/
def AUD_LAST_ORIGIN : RegField := ⟨Reg.AUD_LAST, 0, 3⟩
/-- AUD_LAST.ROLE. -/
def AUD_LAST_ROLE : RegField := ⟨Reg.AUD_LAST, 4, 2⟩
/-- AUD_LAST.NOROLE. -/
def AUD_LAST_NOROLE : RegField := ⟨Reg.AUD_LAST, 6, 1⟩
/-- AUD_LAST.KIND. -/
def AUD_LAST_KIND : RegField := ⟨Reg.AUD_LAST, 8, 8⟩
/-- AUD_LAST.PAGE. -/
def AUD_LAST_PAGE : RegField := ⟨Reg.AUD_LAST, 16, 8⟩
/-- AUD_LASTNODE.Node. -/
def AUD_LASTNODE_Node : RegField := ⟨Reg.AUD_LASTNODE, 0, 10⟩
/-- UPD_CFG.RELAY. -/
def UPD_CFG_RELAY : RegField := ⟨Reg.UPD_CFG, 0, 1⟩
/-- UPD_CFG.TESTLOAD. -/
def UPD_CFG_TESTLOAD : RegField := ⟨Reg.UPD_CFG, 1, 1⟩
/-- UPD_CFG.TWINGAP. -/
def UPD_CFG_TWINGAP : RegField := ⟨Reg.UPD_CFG, 8, 8⟩
/-- UPD_LOCK.HELD. -/
def UPD_LOCK_HELD : RegField := ⟨Reg.UPD_LOCK, 31, 1⟩
/-- UPD_LOCK.ORIGIN. -/
def UPD_LOCK_ORIGIN : RegField := ⟨Reg.UPD_LOCK, 24, 3⟩
/-- UPD_LOCK.IDLE. -/
def UPD_LOCK_IDLE : RegField := ⟨Reg.UPD_LOCK, 16, 8⟩
/-- UPD_LOCK.NODE. -/
def UPD_LOCK_NODE : RegField := ⟨Reg.UPD_LOCK, 0, 10⟩
/-- UPD_BANKS.ACTIVE. -/
def UPD_BANKS_ACTIVE : RegField := ⟨Reg.UPD_BANKS, 0, 1⟩
/-- UPD_BANKS.TRIAL. -/
def UPD_BANKS_TRIAL : RegField := ⟨Reg.UPD_BANKS, 1, 1⟩
/-- UPD_BANKS.STAGED. -/
def UPD_BANKS_STAGED : RegField := ⟨Reg.UPD_BANKS, 2, 1⟩
/-- UPD_RESULT.REASON. -/
def UPD_RESULT_REASON : RegField := ⟨Reg.UPD_RESULT, 0, 8⟩
/-- UPD_RESULT.KIND. -/
def UPD_RESULT_KIND : RegField := ⟨Reg.UPD_RESULT, 8, 8⟩
/-- UPD_CMD.OP. -/
def UPD_CMD_OP : RegField := ⟨Reg.UPD_CMD, 0, 4⟩
/-- UPD_CNT.ACTIVATIONS. -/
def UPD_CNT_ACTIVATIONS : RegField := ⟨Reg.UPD_CNT, 0, 16⟩
/-- UPD_CNT.ROLLBACKS. -/
def UPD_CNT_ROLLBACKS : RegField := ⟨Reg.UPD_CNT, 16, 8⟩
/-- UPD_CNT.REJECTS. -/
def UPD_CNT_REJECTS : RegField := ⟨Reg.UPD_CNT, 24, 8⟩
/-- AGE_CFG.WINDOW. -/
def AGE_CFG_WINDOW : RegField := ⟨Reg.AGE_CFG, 0, 16⟩
/-- AGE_CFG.HORIZON. -/
def AGE_CFG_HORIZON : RegField := ⟨Reg.AGE_CFG, 16, 16⟩
/-- AGE_CTKREF.IREF. -/
def AGE_CTKREF_IREF : RegField := ⟨Reg.AGE_CTKREF, 0, 16⟩
/-- AGE_CTKRATE.OPS. -/
def AGE_CTKRATE_OPS : RegField := ⟨Reg.AGE_CTKRATE, 0, 16⟩
/-- AGE_CTKRATE.BRK. -/
def AGE_CTKRATE_BRK : RegField := ⟨Reg.AGE_CTKRATE, 16, 16⟩
/-- AGE_CMD.OP. -/
def AGE_CMD_OP : RegField := ⟨Reg.AGE_CMD, 0, 4⟩
/-- AGE_CMD.PAIR. -/
def AGE_CMD_PAIR : RegField := ⟨Reg.AGE_CMD, 8, 4⟩
/-- AGE_SUM.M. -/
def AGE_SUM_M : RegField := ⟨Reg.AGE_SUM, 0, 16⟩
/-- AGE_SUM.OUT. -/
def AGE_SUM_OUT : RegField := ⟨Reg.AGE_SUM, 24, 8⟩
/-- AGE_ACT.VSTEP. -/
def AGE_ACT_VSTEP : RegField := ⟨Reg.AGE_ACT, 0, 4⟩
/-- AGE_ACT.REFTRIM. -/
def AGE_ACT_REFTRIM : RegField := ⟨Reg.AGE_ACT, 8, 8⟩
/-- AGE_MiVAL.M. -/
def AGE_MVAL_M (i : Nat) : RegField := ⟨Reg.AGE_MVAL i, 0, 16⟩
/-- AGE_MiVAL.STATE. -/
def AGE_MVAL_STATE (i : Nat) : RegField := ⟨Reg.AGE_MVAL i, 16, 2⟩
/-- DBG_SESSION.ACTIVE. -/
def DBG_SESSION_ACTIVE : RegField := ⟨Reg.DBG_SESSION, 0, 1⟩
/-- DBG_SESSION.HALTED. -/
def DBG_SESSION_HALTED : RegField := ⟨Reg.DBG_SESSION, 1, 1⟩
/-- DBG_SESSION.RSTHELD. -/
def DBG_SESSION_RSTHELD : RegField := ⟨Reg.DBG_SESSION, 2, 1⟩
/-- DBG_SESSION.IDLE. -/
def DBG_SESSION_IDLE : RegField := ⟨Reg.DBG_SESSION, 16, 16⟩
/-- DBG_AUTHCNT.OK. -/
def DBG_AUTHCNT_OK : RegField := ⟨Reg.DBG_AUTHCNT, 0, 16⟩
/-- DBG_AUTHCNT.FAIL. -/
def DBG_AUTHCNT_FAIL : RegField := ⟨Reg.DBG_AUTHCNT, 16, 16⟩
/-- DBG_JTAG.IR. -/
def DBG_JTAG_IR : RegField := ⟨Reg.DBG_JTAG, 0, 8⟩
/-- DBG_JTAG.BLOCKED. -/
def DBG_JTAG_BLOCKED : RegField := ⟨Reg.DBG_JTAG, 8, 1⟩
/-- DBG_JTAG.LOCKOUT. -/
def DBG_JTAG_LOCKOUT : RegField := ⟨Reg.DBG_JTAG, 9, 1⟩
/-- DBG_CMD.OP. -/
def DBG_CMD_OP : RegField := ⟨Reg.DBG_CMD, 0, 4⟩
/-- TMX_CFG.OUTEN. -/
def TMX_CFG_OUTEN : RegField := ⟨Reg.TMX_CFG, 0, 5⟩
/-- TMX_DSELk.CODE. -/
def TMX_DSEL_CODE (i : Nat) : RegField := ⟨Reg.TMX_DSEL i, 0, 9⟩
/-- TMX_ASEL.CODE. -/
def TMX_ASEL_CODE : RegField := ⟨Reg.TMX_ASEL, 0, 9⟩

end Sys2Proof.Fld

namespace Sys2Proof.Irq

/-- IRQ bit BOOTFAIL of the RST page. -/
def RST_BOOTFAIL : Nat := 0
/-- IRQ bit RECOVERY of the RST page. -/
def RST_RECOVERY : Nat := 1
/-- IRQ bit CMDREJ of the RST page. -/
def RST_CMDREJ : Nat := 2
/-- IRQ bit UNLOCK of the CLK page. -/
def CLK_UNLOCK : Nat := 0
/-- IRQ bit REFLOSS of the CLK page. -/
def CLK_REFLOSS : Nat := 1
/-- IRQ bit RELOCK of the CLK page. -/
def CLK_RELOCK : Nat := 2
/-- IRQ bit WARN of the PWR page. -/
def PWR_WARN : Nat := 0
/-- IRQ bit HUFALL of the PWR page. -/
def PWR_HUFALL : Nat := 1
/-- IRQ bit HURISE of the PWR page. -/
def PWR_HURISE : Nat := 2
/-- IRQ bit DIEWARN of the PWR page. -/
def PWR_DIEWARN : Nat := 3
/-- IRQ bit VIOLOW of the PWR page. -/
def PWR_VIOLOW : Nat := 4
/-- IRQ bit CORR of the AON page. -/
def AON_CORR : Nat := 0
/-- IRQ bit UNCORR of the AON page. -/
def AON_UNCORR : Nat := 1
/-- IRQ bit RETLOST of the AON page. -/
def AON_RETLOST : Nat := 2
/-- IRQ bit SERVICE of the HST page. -/
def HST_SERVICE : Nat := 0
/-- IRQ bit BREAK of the SR page. -/
def SR_BREAK : Nat := 0
/-- IRQ bit REFORMED of the SR page. -/
def SR_REFORMED : Nat := 1
/-- IRQ bit HEALED of the SR page. -/
def SR_HEALED : Nat := 2
/-- IRQ bit ALARM of the SR page. -/
def SR_ALARM : Nat := 3
/-- IRQ bit QUARANTINE of the SR page. -/
def SR_QUARANTINE : Nat := 4
/-- IRQ bit MISSING of the SR page. -/
def SR_MISSING : Nat := 5
/-- IRQ bit ENUM_DONE of the SR page. -/
def SR_ENUM_DONE : Nat := 6
/-- IRQ bit HOSTILE of the SR page. -/
def SR_HOSTILE : Nat := 7
/-- IRQ bit CMDREJ of the SR page. -/
def SR_CMDREJ : Nat := 8
/-- IRQ bit EXTRA of the SR page. -/
def SR_EXTRA : Nat := 9
/-- IRQ bit LEVEL of the SRQ page. -/
def SRQ_LEVEL : Nat := 0
/-- IRQ bit SCAN_DONE of the SRQ page. -/
def SRQ_SCAN_DONE : Nat := 4
/-- IRQ bit SCAN_INCOMPLETE of the SRQ page. -/
def SRQ_SCAN_INCOMPLETE : Nat := 5
/-- IRQ bit ALIGN_LOST of the SRQ page. -/
def SRQ_ALIGN_LOST : Nat := 6
/-- IRQ bit TEMP_DONE of the SRQ page. -/
def SRQ_TEMP_DONE : Nat := 7
/-- IRQ bit DCAL_DONE of the SRQ page. -/
def SRQ_DCAL_DONE : Nat := 8
/-- IRQ bit SKIPPED of the SRQ page. -/
def SRQ_SKIPPED : Nat := 9
/-- IRQ bit WINDOW_END of the CHM page. -/
def CHM_WINDOW_END : Nat := 0
/-- IRQ bit RESULT of the CHM page. -/
def CHM_RESULT : Nat := 1
/-- IRQ bit DISCARD of the CHM page. -/
def CHM_DISCARD : Nat := 2
/-- IRQ bit SCALED of the CHM page. -/
def CHM_SCALED : Nat := 3
/-- IRQ bit AMBIENT of the CHM page. -/
def CHM_AMBIENT : Nat := 4
/-- IRQ bit LATE of the CHM page. -/
def CHM_LATE : Nat := 5
/-- IRQ bit CONFIG_ERR of the CHM page. -/
def CHM_CONFIG_ERR : Nat := 6
/-- IRQ bit ZREADY of the CHM page. -/
def CHM_ZREADY : Nat := 7
/-- IRQ bit UPDATE of the EST page. -/
def EST_UPDATE : Nat := 0
/-- IRQ bit ANCHOR of the EST page. -/
def EST_ANCHOR : Nat := 1
/-- IRQ bit LEARNED of the EST page. -/
def EST_LEARNED : Nat := 2
/-- IRQ bit LDWRITE of the EST page. -/
def EST_LDWRITE : Nat := 3
/-- IRQ bit LDTORN of the EST page. -/
def EST_LDTORN : Nat := 4
/-- IRQ bit CHEMERR of the EST page. -/
def EST_CHEMERR : Nat := 5
/-- IRQ bit USOC_STEP of the EST page. -/
def EST_USOC_STEP : Nat := 6
/-- IRQ bit PLANNED of the BAL page. -/
def BAL_PLANNED : Nat := 0
/-- IRQ bit DIELIMIT of the BAL page. -/
def BAL_DIELIMIT : Nat := 1
/-- IRQ bit MISMATCH of the BAL page. -/
def BAL_MISMATCH : Nat := 2
/-- IRQ bit DONE of the BAL page. -/
def BAL_DONE : Nat := 3
/-- IRQ bit NOREF of the BAL page. -/
def BAL_NOREF : Nat := 4
/-- IRQ bit SCAN of the THM page. -/
def THM_SCAN : Nat := 0
/-- IRQ bit DERATE of the THM page. -/
def THM_DERATE : Nat := 1
/-- IRQ bit OTLATCH of the THM page. -/
def THM_OTLATCH : Nat := 2
/-- IRQ bit SENSOR of the THM page. -/
def THM_SENSOR : Nat := 3
/-- IRQ bit CHILLER_LOST of the THM page. -/
def THM_CHILLER_LOST : Nat := 4
/-- IRQ bit OT_CLEARED of the THM page. -/
def THM_OT_CLEARED : Nat := 5
/-- IRQ bit GDF of the PWM page. -/
def PWM_GDF : Nat := 0
/-- IRQ bit SAFE of the PWM page. -/
def PWM_SAFE : Nat := 1
/-- IRQ bit START_DONE of the PWM page. -/
def PWM_START_DONE : Nat := 2
/-- IRQ bit START_FAIL of the PWM page. -/
def PWM_START_FAIL : Nat := 3
/-- IRQ bit MINPW of the PWM page. -/
def PWM_MINPW : Nat := 4
/-- IRQ bit DLIMIT of the PWM page. -/
def PWM_DLIMIT : Nat := 5
/-- IRQ bit CONFIG_ERR of the PWM page. -/
def PWM_CONFIG_ERR : Nat := 6
/-- IRQ bit OVERRUN of the LPE page. -/
def LPE_OVERRUN : Nat := 0
/-- IRQ bit OVR_TRIP of the LPE page. -/
def LPE_OVR_TRIP : Nat := 1
/-- IRQ bit SKIP of the LPE page. -/
def LPE_SKIP : Nat := 2
/-- IRQ bit SWAPPED of the LPE page. -/
def LPE_SWAPPED : Nat := 3
/-- IRQ bit SWAPREJ of the LPE page. -/
def LPE_SWAPREJ : Nat := 4
/-- IRQ bit SAT of the LPE page. -/
def LPE_SAT : Nat := 5
/-- IRQ bit SPAPPLIED of the LPE page. -/
def LPE_SPAPPLIED : Nat := 6
/-- IRQ bit SPLATE of the LPE page. -/
def LPE_SPLATE : Nat := 7
/-- IRQ bit SPDISC of the LPE page. -/
def LPE_SPDISC : Nat := 8
/-- IRQ bit SPDROP of the LPE page. -/
def LPE_SPDROP : Nat := 9
/-- IRQ bit FALLBACK of the LPE page. -/
def LPE_FALLBACK : Nat := 10
/-- IRQ bit TEST_DONE of the LPE page. -/
def LPE_TEST_DONE : Nat := 11
/-- IRQ bit CAP_DONE of the LPE page. -/
def LPE_CAP_DONE : Nat := 12
/-- IRQ bit CONFIG_ERR of the LPE page. -/
def LPE_CONFIG_ERR : Nat := 13
/-- IRQ bit CMDREJ of the LPE page. -/
def LPE_CMDREJ : Nat := 14
/-- IRQ bit NAN of the LPE page. -/
def LPE_NAN : Nat := 15
/-- IRQ bit SNARE of the PRT page. -/
def PRT_SNARE : Nat := 0
/-- IRQ bit CMP of the PRT page. -/
def PRT_CMP : Nat := 1
/-- IRQ bit DLIM of the PRT page. -/
def PRT_DLIM : Nat := 2
/-- IRQ bit CELLV of the PRT page. -/
def PRT_CELLV : Nat := 3
/-- IRQ bit DERATE of the PRT page. -/
def PRT_DERATE : Nat := 4
/-- IRQ bit CONNECTED of the CTK page. -/
def CTK_CONNECTED : Nat := 0
/-- IRQ bit OPENED of the CTK page. -/
def CTK_OPENED : Nat := 1
/-- IRQ bit FAIL of the CTK page. -/
def CTK_FAIL : Nat := 2
/-- IRQ bit HOLDOVER of the CTK page. -/
def CTK_HOLDOVER : Nat := 3
/-- IRQ bit CMDREJ of the CTK page. -/
def CTK_CMDREJ : Nat := 4
/-- IRQ bit CAL_DONE of the ADC page. -/
def ADC_CAL_DONE : Nat := 0
/-- IRQ bit CLIP of the ADC page. -/
def ADC_CLIP : Nat := 1
/-- IRQ bit REF_FAULT of the ADC page. -/
def ADC_REF_FAULT : Nat := 2
/-- IRQ bit KIRCHHOFF of the ADC page. -/
def ADC_KIRCHHOFF : Nat := 3
/-- IRQ bit INJMISS of the ADC page. -/
def ADC_INJMISS : Nat := 4
/-- IRQ bit REGLATE of the ADC page. -/
def ADC_REGLATE : Nat := 5
/-- IRQ bit CONFIG_ERR of the ADC page. -/
def ADC_CONFIG_ERR : Nat := 6
/-- IRQ bit CMDREJ of the ADC page. -/
def ADC_CMDREJ : Nat := 7
/-- IRQ bit RUNNING of the ADC page. -/
def ADC_RUNNING : Nat := 8
/-- IRQ bit RESULT of the ISO page. -/
def ISO_RESULT : Nat := 0
/-- IRQ bit WARN of the ISO page. -/
def ISO_WARN : Nat := 1
/-- IRQ bit TRIP of the ISO page. -/
def ISO_TRIP : Nat := 2
/-- IRQ bit UNSETTLED of the ISO page. -/
def ISO_UNSETTLED : Nat := 3
/-- IRQ bit CONFIG_ERR of the ISO page. -/
def ISO_CONFIG_ERR : Nat := 4
/-- IRQ bit RAISED of the FLT page. -/
def FLT_RAISED : Nat := 0
/-- IRQ bit PREEMPT of the FLT page. -/
def FLT_PREEMPT : Nat := 1
/-- IRQ bit STORM of the FLT page. -/
def FLT_STORM : Nat := 2
/-- IRQ bit CLEARED of the FLT page. -/
def FLT_CLEARED : Nat := 3
/-- IRQ bit CLRREJ of the FLT page. -/
def FLT_CLRREJ : Nat := 4
/-- IRQ bit STOP of the SFI page. -/
def SFI_STOP : Nat := 0
/-- IRQ bit PERMIT of the SFI page. -/
def SFI_PERMIT : Nat := 1
/-- IRQ bit DISCREPANCY of the SFI page. -/
def SFI_DISCREPANCY : Nat := 2
/-- IRQ bit INFAULT of the SFI page. -/
def SFI_INFAULT : Nat := 3
/-- IRQ bit OUTFAULT of the SFI page. -/
def SFI_OUTFAULT : Nat := 4
/-- IRQ bit CONFIRMED of the SFI page. -/
def SFI_CONFIRMED : Nat := 5
/-- IRQ bit MISMATCH of the SFI page. -/
def SFI_MISMATCH : Nat := 6
/-- IRQ bit MAINT of the SFI page. -/
def SFI_MAINT : Nat := 7
/-- IRQ bit HANDOVER_READY of the SFI page. -/
def SFI_HANDOVER_READY : Nat := 8
/-- IRQ bit HANDOVER_DONE of the SFI page. -/
def SFI_HANDOVER_DONE : Nat := 9
/-- IRQ bit HANDOVER_FAIL of the SFI page. -/
def SFI_HANDOVER_FAIL : Nat := 10
/-- IRQ bit ISLAND_FAULT of the SFI page. -/
def SFI_ISLAND_FAULT : Nat := 11
/-- IRQ bit CONFIG_ERR of the SFI page. -/
def SFI_CONFIG_ERR : Nat := 12
/-- IRQ bit UP of the SCL page. -/
def SCL_UP : Nat := 0
/-- IRQ bit FAIL of the SCL page. -/
def SCL_FAIL : Nat := 1
/-- IRQ bit MISMATCH of the SCL page. -/
def SCL_MISMATCH : Nat := 2
/-- IRQ bit DISAGREE of the SCL page. -/
def SCL_DISAGREE : Nat := 3
/-- IRQ bit CONFIG_ERR of the SCL page. -/
def SCL_CONFIG_ERR : Nat := 4
/-- IRQ bit DISPATCH of the FAB page. -/
def FAB_DISPATCH : Nat := 0
/-- IRQ bit DREJECT of the FAB page. -/
def FAB_DREJECT : Nat := 1
/-- IRQ bit GONG of the FAB page. -/
def FAB_GONG : Nat := 2
/-- IRQ bit ROUTE of the FAB page. -/
def FAB_ROUTE : Nat := 3
/-- IRQ bit CONFLICT of the FAB page. -/
def FAB_CONFLICT : Nat := 4
/-- IRQ bit AUTH of the FAB page. -/
def FAB_AUTH : Nat := 5
/-- IRQ bit HOSTILE of the FAB page. -/
def FAB_HOSTILE : Nat := 6
/-- IRQ bit DLOST of the FAB page. -/
def FAB_DLOST : Nat := 7
/-- IRQ bit CONFIG_ERR of the FAB page. -/
def FAB_CONFIG_ERR : Nat := 8
/-- IRQ bit UP of the FP page. -/
def FP_UP : Nat := 0
/-- IRQ bit DOWN of the FP page. -/
def FP_DOWN : Nat := 1
/-- IRQ bit AUTHFAIL of the FP page. -/
def FP_AUTHFAIL : Nat := 2
/-- IRQ bit STALL of the FP page. -/
def FP_STALL : Nat := 3
/-- IRQ bit HOSTILE of the FP page. -/
def FP_HOSTILE : Nat := 4
/-- IRQ bit KEYINST of the FP page. -/
def FP_KEYINST : Nat := 5
/-- IRQ bit STEP of the TIM page. -/
def TIM_STEP : Nat := 0
/-- IRQ bit SWITCH of the TIM page. -/
def TIM_SWITCH : Nat := 1
/-- IRQ bit UNSYNC of the TIM page. -/
def TIM_UNSYNC : Nat := 2
/-- IRQ bit LOCK of the TIM page. -/
def TIM_LOCK : Nat := 3
/-- IRQ bit LAUNCH of the TIM page. -/
def TIM_LAUNCH : Nat := 4
/-- IRQ bit LREJ of the TIM page. -/
def TIM_LREJ : Nat := 5
/-- IRQ bit CMDREJ of the TIM page. -/
def TIM_CMDREJ : Nat := 6
/-- IRQ bit RX of the CN page. -/
def CN_RX : Nat := 0
/-- IRQ bit TX of the CN page. -/
def CN_TX : Nat := 1
/-- IRQ bit COLLISION of the CN page. -/
def CN_COLLISION : Nat := 2
/-- IRQ bit HOLD of the CN page. -/
def CN_HOLD : Nat := 3
/-- IRQ bit BUSOFF of the CN page. -/
def CN_BUSOFF : Nat := 4
/-- IRQ bit PASSIVE of the CN page. -/
def CN_PASSIVE : Nat := 5
/-- IRQ bit RECOVERED of the CN page. -/
def CN_RECOVERED : Nat := 6
/-- IRQ bit CONFIG_ERR of the CN page. -/
def CN_CONFIG_ERR : Nat := 7
/-- IRQ bit CMDREJ of the CN page. -/
def CN_CMDREJ : Nat := 8
/-- IRQ bit TXERR of the CN page. -/
def CN_TXERR : Nat := 9
/-- IRQ bit TAKEOVER of the TWN page. -/
def TWN_TAKEOVER : Nat := 0
/-- IRQ bit HANDOVER of the TWN page. -/
def TWN_HANDOVER : Nat := 1
/-- IRQ bit PARTNER_LOST of the TWN page. -/
def TWN_PARTNER_LOST : Nat := 2
/-- IRQ bit MISMATCH of the TWN page. -/
def TWN_MISMATCH : Nat := 3
/-- IRQ bit ELIGIBLE of the TWN page. -/
def TWN_ELIGIBLE : Nat := 4
/-- IRQ bit REVERT_DUE of the TWN page. -/
def TWN_REVERT_DUE : Nat := 5
/-- IRQ bit CMDREJ of the TWN page. -/
def TWN_CMDREJ : Nat := 6
/-- IRQ bit RECORD of the EVR page. -/
def EVR_RECORD : Nat := 0
/-- IRQ bit FROZEN of the EVR page. -/
def EVR_FROZEN : Nat := 1
/-- IRQ bit RELEASED of the EVR page. -/
def EVR_RELEASED : Nat := 2
/-- IRQ bit HOLDFULL of the EVR page. -/
def EVR_HOLDFULL : Nat := 3
/-- IRQ bit MEDIA of the EVR page. -/
def EVR_MEDIA : Nat := 4
/-- IRQ bit CLEARED of the EVR page. -/
def EVR_CLEARED : Nat := 5
/-- IRQ bit RECLAIM of the EVR page. -/
def EVR_RECLAIM : Nat := 6
/-- IRQ bit CMDREJ of the EVR page. -/
def EVR_CMDREJ : Nat := 7
/-- IRQ bit CHANGE of the AUD page. -/
def AUD_CHANGE : Nat := 0
/-- IRQ bit REJECT of the AUD page. -/
def AUD_REJECT : Nat := 1
/-- IRQ bit SAFETY of the AUD page. -/
def AUD_SAFETY : Nat := 2
/-- IRQ bit STAGED of the UPD page. -/
def UPD_STAGED : Nat := 0
/-- IRQ bit REJECTED of the UPD page. -/
def UPD_REJECTED : Nat := 1
/-- IRQ bit ACTIVATED of the UPD page. -/
def UPD_ACTIVATED : Nat := 2
/-- IRQ bit ROLLBACK of the UPD page. -/
def UPD_ROLLBACK : Nat := 3
/-- IRQ bit LOCK of the UPD page. -/
def UPD_LOCK : Nat := 4
/-- IRQ bit CMDREJ of the UPD page. -/
def UPD_CMDREJ : Nat := 5
/-- IRQ bit EVALUATED of the AGE page. -/
def AGE_EVALUATED : Nat := 0
/-- IRQ bit LOW of the AGE page. -/
def AGE_LOW : Nat := 1
/-- IRQ bit OUT of the AGE page. -/
def AGE_OUT : Nat := 2
/-- IRQ bit ACTION of the AGE page. -/
def AGE_ACTION : Nat := 3
/-- IRQ bit REFRESH of the AGE page. -/
def AGE_REFRESH : Nat := 4
/-- IRQ bit CMDREJ of the AGE page. -/
def AGE_CMDREJ : Nat := 5
/-- IRQ bit OPEN of the DBG page. -/
def DBG_OPEN : Nat := 0
/-- IRQ bit END of the DBG page. -/
def DBG_END : Nat := 1
/-- IRQ bit AUTHFAIL of the DBG page. -/
def DBG_AUTHFAIL : Nat := 2
/-- IRQ bit BLOCKED of the DBG page. -/
def DBG_BLOCKED : Nat := 3
/-- IRQ bit CMDREJ of the DBG page. -/
def DBG_CMDREJ : Nat := 4
/-- IRQ bit SELERR of the TMX page. -/
def TMX_SELERR : Nat := 0

end Sys2Proof.Irq
end

