-- ==== Sys2Proof/Machine/State.lean ====
section
/-! DEFINITION. The state of the module as plain data: every register and window word in `regs` (sparse, canonical),
and the state that no register shows, block by block. -/

namespace Sys2Proof.Machine

/-! ### Sparse tables -/

/-- The entry of a sparse table, its default where none is listed. -/
def smGet {α : Type} (dflt : Nat → α) : List (Nat × α) → Nat → α
  | [], k => dflt k
  | (a, v) :: t, k => if a = k then v else smGet dflt t k

/-- Insert or replace an entry, keys rising. -/
def smInsert {α : Type} (k : Nat) (v : α) : List (Nat × α) → List (Nat × α)
  | [] => [(k, v)]
  | (a, w) :: t => if k < a then (k, v) :: (a, w) :: t else if a = k then (k, v) :: t else (a, w) :: smInsert k v t

/-- Remove an entry. -/
def smErase {α : Type} (k : Nat) : List (Nat × α) → List (Nat × α)
  | [] => []
  | (a, w) :: t => if a = k then smErase k t else (a, w) :: smErase k t

/-- Set an entry; an entry equal to its default is not listed. -/
def smSet {α : Type} [DecidableEq α] (dflt : Nat → α) (m : List (Nat × α)) (k : Nat) (v : α) : List (Nat × α) :=
  if v = dflt k then smErase k m else smInsert k v m

/-- The canonical form: keys strictly rising and no entry equal to its default. -/
def smWf {α : Type} [DecidableEq α] (dflt : Nat → α) (m : List (Nat × α)) : Bool :=
  decide (m.Pairwise (fun a b => a.1 < b.1)) && m.all (fun e => decide (e.2 ≠ dflt e.1))

/-! ### The register space at reset -/

/-- Page index of an address that lies on a page (R31). -/
def pageAt (a : Nat) : Option Nat := pageBases.findIdx? (fun b => a / 0x1000 * 0x1000 == b)

/-- The kind of page `p`. -/
def kindOf (p : Nat) : PageKind := pageKinds.getD p .dev

/-- Bytes from one item of a row to the next: a 64-bit quantity takes two words (R34). -/
def Row.step (r : Row) : Nat := max r.stride (4 * r.words)

/-- `off` lies in one of the words of a row. -/
def Row.hits (r : Row) (off : Nat) : Bool :=
  decide (r.off ≤ off) && decide ((off - r.off) / r.step < r.count) && decide ((off - r.off) % r.step < 4 * r.words)

/-- The row of a block register offset. -/
def rowAt (k : PageKind) (off : Nat) : Option Row := k.rows.find? (fun r => r.hits off)

/-- Pages whose block cannot be disabled (R37). -/
def alwaysOn (p : Nat) : Bool := [0, 1, 2, 3, 4, 5, 35, 36, 38].contains p

/-- PID.VERSION of a page: 0x02 on the ring pages, 0x01 elsewhere (R36 and the chapter of each block). -/
def pageVersion (k : PageKind) : Nat := if k = .sr then 2 else 1

/-- Reset value of a common header word (R35 to R37); CLK_STAT and PWR_STAT show a module whose clocks and supplies are good
(R649, R654; log 24). -/
def headerReset (p off : Nat) : Nat :=
  if off = 0 then pageBases.getD p 0 / 0x1000 * 0x10000 + pageVersion (kindOf p) * 0x100 + pageInstances.getD p 0
  else if off = 8 then bitNat (alwaysOn p)
  else if off = 12 then bitNat (alwaysOn p) + (if p = 2 then 0x3F00 else if p = 3 then 0x100 else 0)
  else if off = 4 then ((rowAt (kindOf p) 4).map Row.reset).getD 0
  else 0

/-- What a register or window word reads as when nothing has written it: its reset value (R35 and the register tables;
window words 0). -/
def resetNat (a : Nat) : Nat :=
  match pageAt a with
  | none => 0
  | some p =>
    let off := a % 0x1000
    if off < 0x40 then headerReset p off
    else if p = Pg.FLT && decide (0x100 ≤ off) && decide (off < 0x140) then fltClassReset.getD ((off - 0x100) / 4) 0
    else match rowAt (kindOf p) off with
      | some r => r.reset
      | none => 0

/-- The reset word of an address. -/
def resetWord (a : Nat) : Word := BitVec.ofNat 32 (resetNat a)

/-! ### What the module sends -/

/-- What the module has sent or driven, as the model's outbox lists it (log 5). -/
inductive Out where
  /-- Host port response: status, count byte, data, and the CRC-32C over them (R57). -/
  | hostResponse (status count : Nat) (data : List Word) (crc : Word)
  /-- Answer to a service message (R502, R503). -/
  | answer (q : Req) (svc status : Nat) (body : List Byte)
  /-- Ring frame sent: ring, port, the bytes between SOF and EOF, and the SLOT characters behind EOF, 0 for IDLE alone (R77, R79,
  R82). -/
  | ring (r : Nat) (port : Side) (frame : List Byte) (slot : Nat)
  /-- TICK sent: ring, port, kind, sequence (R71, R126). -/
  | tick (r : Nat) (port : Side) (kind seq : Nat)
  /-- A stop of every transmission but IDLE on a ring (R69, R93). -/
  | ringIdle (r : Nat)
  /-- Fabric frame sent on a lane, with its tag (R480, R482). -/
  | fab (lane : Nat) (f : FabFrame)
  /-- The frame being sent on a lane is ended with an invalid code group (R496). -/
  | fabEnded (lane : Nat)
  /-- A PTP message on a lane: messageType and domainNumber (R540). -/
  | ptp (lane msg domain : Nat) (values : List Int)
  /-- A CAN object handed to the bus. -/
  | can (x obj : Nat) (words : List Word)
  /-- A PWM sample trigger, at a master count in units of 1.25 ns (R278). -/
  | trigger (count : Nat)
  /-- Switching edges of a PWM cell: for each, the lower switch or the upper, on or off, and its instant on the master count in units
  of 156.25 ps (R270 to R273). -/
  | edges (cell : Nat) (l : List (Bool × Bool × Nat))
  /-- A safety PDU toward a peer: network type, peer or object, bytes (R457). -/
  | safetyPdu (net peer : Nat) (pdu : List Byte)
  /-- A pulse or a level on a ball, by the ball's name. -/
  | ball (name : String) (level : Bool)
  /-- The value that a register read returns to its origin (R33). -/
  | word (o : Origin) (a : Nat) (w : Word)
  /-- Bytes shifted out at the TAP (R719, R720). -/
  | tap (value : Nat)
  deriving DecidableEq, Repr

/-! ### Register access -/

/-- A class L write that waits for the page's natural boundary (R39), by its origin: a value under the word's writable bits,
or the bits of a command, of CTRL or of a word that is cleared by writing 1. -/
structure PendWrite where
  page : Nat
  addr : Nat
  value : Nat
  mask : Nat
  origin : Origin
  deriving DecidableEq, Repr

/-- A run of identical rejections (R55). -/
structure RejectRun where
  origin : Origin
  code : Nat
  addr : Nat
  extra : Nat
  seq : Nat
  deriving DecidableEq, Repr

/-- A value latched for one origin (R34, R159, R552, R566); a sticky latch serves every read until it is renewed. -/
structure Latch where
  origin : Origin
  addr : Nat
  value : Word
  sticky : Bool
  deriving DecidableEq, Repr

/-- The host port's last read response (R61). -/
structure ReadResponse where
  status : Nat
  data : List Word
  deriving DecidableEq, Repr

/-- Hidden state of register access: shadows, class L writes that wait, owners of shadows, latched words, the host's last
read response, page locks restored, rejection runs, the stored configuration (R642; log 9). -/
structure AccessState where
  shadow : List (Nat × Word)
  pendL : List PendWrite
  claims : List (Nat × Origin)
  latches : List Latch
  lastRead : ReadResponse
  locksRestored : Bool
  runs : List RejectRun
  stored : List (Nat × Word)
  deriving DecidableEq, Repr

/-! ### Service state -/

/-- Service states of R21, and transport mode, which is not reportable (R22). -/
inductive ServiceState where
  | recovery | unconfigured | ready | precharge | connected | running | stopping | tripped | maintenance | transport
  deriving DecidableEq, Repr

/-- Why the string is stopping: HALT (a failed start and a clearing of PWM_CTRL.EN act as HALT), a category 1 stop,
a class C fault of string scope, or one of branch scope (R22, R403). -/
inductive StopCause where
  | halt | cat1 | classC | classCBranch
  deriving DecidableEq, Repr

/-- Hidden state of the service state machine. -/
structure ServiceFields where
  state : ServiceState
  role : Nat
  branches : Nat
  stopCause : Option StopCause
  startDone : Bool
  appPaused : Bool
  deriving DecidableEq, Repr

/-- Outputs that follow the state without a step of their own: IRQ_N asserted, and its ball driven and not released (R62);
DISPATCH_OPEN; PWM outputs that carry pulses; TMX_D0 to TMX_D3, and the code whose signal TMX_A presents, none at high impedance
(R722); the balls that boundary cells hold, with no level at high impedance (R717, R718). -/
structure Pins where
  irqN : Bool
  irqDriven : Bool
  dispatchOpen : Bool
  pwmOut : Nat
  tmxOut : Nat
  tmxA : Option Nat
  cells : List (String × Option Bool)
  deriving DecidableEq, Repr

/-! ### Recorder -/

/-- A record that has been raised and not yet stamped (R612, R614); `run` names the rejection run it opens. -/
structure RawRec where
  sev : Nat
  type : Nat
  page : Nat
  code : Nat
  body : List Byte
  run : Option (Origin × Nat × Nat)
  deriving DecidableEq, Repr

/-- A stamped record (R608). -/
structure Rec where
  sev : Nat
  type : Nat
  page : Nat
  code : Nat
  seq : Nat
  opsec : Nat
  opfrac : Nat
  pcc : Nat
  wall : Option (Nat × Nat)
  body : List Byte
  fwd : Bool
  lastGasp : Bool
  nor : Bool
  deriving DecidableEq, Repr

/-- A segment of the log: its header fields and records (R614). -/
structure Segment where
  serial : Nat
  firstSeq : Nat
  pcc : Nat
  maxSev : Nat
  chain : Word
  recs : List Rec
  deriving DecidableEq, Repr

/-- Hidden state of the recorder. -/
structure RecorderState where
  arriving : List RawRec
  intake : List Rec
  holding : List Rec
  lastGasp : List Rec
  forwarded : List Rec
  main : List Segment
  reserve : List Segment
  norRegion : List Segment
  serial : Nat
  chain : Word
  opTime : Nat
  savedSec : Nat
  savedSeq : Nat
  marker : Option (Nat × Nat)
  releasing : Bool
  deriving DecidableEq, Repr

/-! ### Faults, contactors, insulation -/

/-- A raised fault: code, instance, class 0 to 3 for A to D, raising page. -/
structure FaultItem where
  code : Nat
  inst : Nat
  cls : Nat
  page : Nat
  deriving DecidableEq, Repr

/-- Hidden state of the fault manager. -/
structure FaultState where
  handling : Option FaultItem
  queue : List FaultItem
  eventCodes : List Nat
  instances : List (Nat × Nat)
  deriving DecidableEq, Repr

/-- What a controlled opening is for: the service state it ends in and the pairs it opens (R392). -/
structure Opening where
  branches : Nat
  mains : Bool
  waitZero : Bool
  toReady : Bool
  deriving DecidableEq, Repr

/-- Hidden state of the contactor unit; `breakDuty` the breaking duty B of each pair (R692), `istr` the latest four ISTR results, newest first, none for a result without
VALID 1; `coilOff` the last instant at which the output of COILOUT was off. -/
structure ContactorState where
  opening : Option Opening
  commanded : Nat
  istr : List (Option Rat)
  coilOff : Option Instant
  breakDuty : List (Nat × Rat)
  deriving DecidableEq, Repr

/-- Hidden state of protection: failed instances of each digital row, runs of each cell, cells standing in CELL_OV and
CELL_UV, the run of each instance of a digital row by 8 times the row plus the instance (whether its results lie beyond, since
when), and the comparators that crossed their high threshold (R381, R385, R386). -/
structure ProtState where
  failed : List (Nat × Nat)
  ovRun : List (Nat × Nat)
  uvRun : List (Nat × Nat)
  ovIn : List (Nat × Nat)
  uvIn : List (Nat × Nat)
  rowRuns : List (Nat × (Bool × Nat))
  cmpHigh : Nat
  deriving DecidableEq, Repr

/-- Hidden state of the insulation monitor: the previous V, the level of the injection, the instant at which the half-period
began, sum and number of the VISO results in its last tenth and in the tenth before (R397), runs of R398. -/
structure IsoState where
  prevV : Option Rat
  startAt : Nat
  last : Rat × Nat
  earlier : Rat × Nat
  high : Bool
  below : Nat
  belowWarn : Nat
  above : Nat
  aboveWarn : Nat
  unsettled : Nat
  deriving DecidableEq, Repr

/-- The insulation monitor before its first half-period. -/
def isoReset : IsoState := ⟨none, 0, (0, 0), (0, 0), true, 0, 0, 0, 0, 0⟩

/-! ### PWM, ADC, loop engine -/

/-- What an output does in a period (R276): the pulse as timed, suppressed, or held high. -/
inductive Pulse where
  | normal | suppressed | filled
  deriving DecidableEq, Repr

/-- One cell of a phase: duty received (R279), whether new, whether switching (R287), compare value in 1/8 counts with
the widening of R282 in 156.25 ps, the dead times, DLIM, MINPW and DTC in force (R296), and the pulses of R276. -/
structure PwmCell where
  duty : Option Rat
  fresh : Bool
  switching : Bool
  cmp8 : Nat
  widen : Rat
  dtr : Nat
  dtf : Nat
  dlim : Nat
  minpw : Nat
  dtc : Nat
  upper : Pulse
  lower : Pulse
  deriving DecidableEq, Repr

/-- Hidden state of the PWM unit: the cells; carrier offsets as they slide (R295); a start on a live bus, under way,
waiting for its first valley; a failed start waiting for its valley; EN cleared while a stop runs (R290); the last trigger
(R297) and how many have left since the last phase-0 valley (R278). -/
structure PwmState where
  cells : List PwmCell
  offsets : List Nat
  liveBus : Bool
  starting : Bool
  waitValley : Bool
  failing : Bool
  disabling : Bool
  lastTrig : Option Nat
  trigs : Nat
  deriving DecidableEq, Repr

/-- Hidden state of the acquisition: instants of the latest results, reference comparisons within the window, waiting
calibrations, slots left in the regular and injected sequences of each converter, deferred starts, sums of the Kirchhoff
intervals by 32 times the interval plus the input, passing intervals in a row, converters whose initial calibration is still to
end, the selected reference as last measured (microvolts), converters with a regular conversion in progress at the trigger,
and the converter of the last stream result. -/
structure AdcState where
  instants : List (Nat × Instant)
  refGood : Nat
  calQueue : List Nat
  regLeft : List (List Nat)
  regDeferred : Nat
  injLeft : List (List Nat)
  kSum : List (Nat × (Rat × Nat))
  kPass : Nat
  initialCal : Nat
  refUv : Nat
  midway : Nat
  streamBy : Option Nat
  deriving DecidableEq, Repr

/-- The acquisition with nothing converted; the internal reference stands at its nominal value until it is measured (log 15). -/
def adcReset : AdcState := ⟨[], 0, [], [[], [], [], []], 0, [[], [], [], []], [], 0, 0, 2500000, 0, none⟩

/-- A setpoint frame waiting in the queue (R337); `sub` is its submission instant. -/
structure SpFrame where
  imm : Bool
  seq : Nat
  act : Instant
  iset : Word
  ramp : Word
  sub : Instant
  deriving DecidableEq, Repr

/-- States of one section (R332). -/
structure SectionState where
  s1 : Word
  s2 : Word
  xp : Word
  yp : Word
  deriving DecidableEq, Repr

/-- Hidden state of the loop engine: pending frames, active setpoint with its ramp in A/ms, ISET_r, IREF of the previous
sample, VRAMP, applied limits in A (none for unlimited), contributions in A (none for a fallback; for protection none for no
limit), requested swaps and who asked last, generator index and register, capture running, with a test, its control
samples, what starts or stops at the next sample, samples in the zero band, the sample that is open with its instant and
injected results, whether it lacks inputs, a sample abandoned, the stop complete. -/
structure LoopState where
  frames : List SpFrame
  active : Option (Word × Word)
  isetR : Word
  irefPrev : Word
  vramp : Word
  limC : Option Rat
  limD : Option Rat
  est : Option (Rat × Rat)
  thm : Option (Rat × Rat)
  prtC : Option Rat
  prtD : Option Rat
  swapReq : Nat
  swapBy : Origin
  testK : Nat
  prbs : Nat
  capRun : Bool
  capTest : Bool
  capIdx : Nat
  capArmed : Bool
  testArmed : Bool
  testStop : Bool
  zeroRun : Nat
  sampleOpen : Bool
  sampleAt : Nat
  inj : List (Nat × Word)
  abandoned : Bool
  stopDone : Bool
  deriving DecidableEq, Repr

/-! ### Time -/

/-- One fabric port's peer delay measurement: Pdelay_Req sent, response and follow-up seen (R539). -/
structure PdelayState where
  seq : Nat
  t1 : Int
  t2 : Option Int
  t4 : Option Int
  delay : Option Int
  deriving DecidableEq, Repr

/-- A PTP domain's servo and master selection (R532, R533, R539): consecutive Sync within LOCKWIN, consecutive beyond
4 x LOCKWIN, the selected master's Announce and its port, a two-step Sync waiting for its Follow_Up, the instants of the last
Sync and of the entry into HOLDOVER (`TIM_DdSAGE`), own sequences. -/
structure DomState where
  good : Nat
  bad : Nat
  best : Option (Nat × PtpMsg)
  sync : Option (Nat × PtpMsg × Int)
  syncAt : Option Nat
  heldAt : Option Nat
  seq : Nat
  deriving DecidableEq, Repr

/-- A time pulse output (R545, R546): next leading edge in plant nanoseconds, previous leading edge, whether the
single pulse has been given, whether plant time stepped since the last edge. -/
structure TpoState where
  next : Option Nat
  prev : Option Nat
  given : Bool
  stepped : Bool
  deriving DecidableEq, Repr

/-- Hidden state of the time unit: domain clocks, plant time and MONO in 2^-28 ns, plant time at MONO 0 (R528, R529). -/
structure TimState where
  d0 : Nat
  d1 : Nat
  pt : Nat
  mono : Nat
  p0 : Int
  dom : List DomState
  pdelay : List PdelayState
  ptpSeen : List (Nat × Nat)
  tpo : List TpoState
  deriving DecidableEq, Repr

/-! ### Reset, clocks, power -/

/-- Hidden state of the reset, clock and power units (R634 to R659): outputs held low by the clock monitor, asserted sources
with the reset's causes and widest level, domains in reset, domains whose clock is lost, fuse table waiting for a release,
boot-failure record, start under way, die latch, lost reference, adoption still to come, transport waiting, level of SOFTWARE,
a failed start since the last one, recovery at the next start, retained blocks found bad since the last release, learned data
to load. -/
structure ClkState where
  pwmHeld : Bool
  asserted : Nat
  causes : Nat
  widest : Nat
  held : List Nat
  waitPll : List Nat
  fuseNext : Option (Nat × Nat)
  failTimes : List Nat
  startPending : Bool
  dieLatch : Bool
  refLost : Bool
  adoptPending : Bool
  transportDue : Bool
  softLevel : Nat
  failedStart : Bool
  recoverNext : Bool
  retDue : Nat
  loadDue : Bool
  deriving DecidableEq, Repr

/-! ### Sense rings and telemetry -/

/-- What a ring request is for; the last five pass their responses through the queue (R145). -/
inductive Purpose where
  /-- RESET broadcast (R93). -/
  | reset
  /-- ENUM that assigns a position, from the north or the south (R93). -/
  | enumN (p : Nat)
  | enumS (q lastNorth : Nat)
  /-- OPEN that follows an ENUM. -/
  | openN (p : Nat)
  | openS (q lastNorth : Nat)
  /-- ECHO that tests the primary path after an enumeration. -/
  | path
  /-- Probe for an extra supervisor (R100). -/
  | probe
  /-- FOLD of a neighbour of an isolated position (R113). -/
  | isolate
  /-- Identity read of a position (R106, R111). -/
  | identity (p : Nat)
  /-- ECHO to the end of a half (R106). -/
  | echo
  /-- LINKLOST_ACK (R106). -/
  | ack
  /-- OPEN of a folded supervisor, and the ECHO over the primary path (R111). -/
  | healOpen
  | healPath
  /-- FOLD after a failed healing (R111). -/
  | refold
  /-- SAMPLE_WAIT of a position (R136). -/
  | wait
  | alarm
  | scan
  | phasor (tone : Nat)
  | temp
  | firmware
  deriving DecidableEq, Repr

/-- A ring request: kind, destination, side mask or other payload, expected payload length, repeats left; `south` and
`half` stand for a procedure's own choice, none for the route of the mode at issue (R80, R90). -/
structure RingReq where
  purpose : Purpose
  kind : Nat
  dst : Nat
  route : Option (Bool × Nat)
  payload : List Byte
  expect : Nat
  left : Nat
  deriving DecidableEq, Repr

/-- An issued transaction (R86): its tag, request as issued, reservation in words and issue instant. -/
structure RingTxn where
  tag : Nat
  req : RingReq
  south : Bool
  half : Nat
  resv : Nat
  at_ : Nat
  deriving DecidableEq, Repr

/-- The procedure that a ring runs. -/
inductive RingProc where
  | none
  | enumerating
  | isolating
  | reading
  | echoing
  | acking
  | opening
  | pathing
  | rereading
  | refolding
  deriving DecidableEq, Repr

/-- Hidden state of one ring. `folds` lists the folded positions with the lost side (true south); `muted` the module
ports that stand in for an isolated neighbour (R113); `failed` the transactions recorded against a position with their
KIND and error code; `through` that the south port receives the north port's traffic (R93); `broken` a break that came while the
ring was in no service mode; `mism` the positions whose unique ID no longer is the enumerated one (R106, R111); `extraUid` the
identity of R100; `delays` the one-way path delays that the ECHOs of R106 measured; `scanBad` positions whose report bore a wrong
SEQ (R129); `fresh` positions that Chime's writes of R181 still await, true for one just enumerated. -/
structure RingState where
  free : List Nat
  txns : List RingTxn
  waiting : List RingReq
  backoff : List RingReq
  stalled : List RingReq
  proc : RingProc
  linkN : Bool
  linkS : Bool
  mutedN : Bool
  mutedS : Bool
  through : Bool
  lastNorth : Nat
  firstSouth : Nat
  got : Nat
  left : Nat
  folds : List (Nat × Bool)
  seen : Nat
  badClass : Nat
  healDue : Bool
  silent : List (Nat × Nat)
  failed : List (Nat × Nat × Nat)
  unsol : List (Nat × Nat)
  isolatedAt : Option Nat
  alarmLeft : Nat
  alarmNamed : Bool
  scanDue : List Nat
  tempDue : List Nat
  calLaunch : Option Nat
  calPorts : Nat
  calWrites : Nat
  calBad : Bool
  calDone : Option Nat
  waits : List (Nat × Nat)
  broken : Bool
  mism : Nat
  extraUid : Nat
  delays : List (Nat × Nat)
  scanBad : List Nat
  fresh : List (Nat × Bool)
  deriving DecidableEq, Repr

/-- A packet of a telemetry queue: class and words (R146). -/
structure Packet where
  cls : Nat
  words : List Word
  deriving DecidableEq, Repr

/-- Hidden state of one telemetry queue. -/
structure QueueState where
  packets : List Packet
  reading : Option (Packet × Nat)
  gap : Bool
  flush : Nat
  deriving DecidableEq, Repr

/-- A temperature report as accepted: sample instant of its scan, die temperature, valid inputs (R143). -/
structure TempReport where
  at_ : Nat
  die : Int
  temps : List (Option Int)
  deriving DecidableEq, Repr

/-- Voltage data of a cell from the running scan (R157). -/
structure CellSample where
  bleed : Bool
  aligned : Bool
  volt : Option Nat
  deriving DecidableEq, Repr

/-- Hidden state of scans and the cell state table: tick sequences of the four kinds, the running scan and its rings,
the inactive bank of group V, the history behind VAVG, the latest temperature reports by 32 x ring + position - 1, and whether
the collections of the scan and of the temperatures have begun. -/
structure TelState where
  tick : List Nat
  scanS : Nat
  scanOn : Bool
  scanRings : Nat
  alignLost : Nat
  tempS : Nat
  tempOn : Bool
  bank : List (Nat × CellSample)
  history : List (Nat × List Nat)
  temps : List (Nat × TempReport)
  queues : List QueueState
  scanColl : Bool
  tempColl : Bool
  deriving DecidableEq, Repr

/-- A ring at reset: every tag free, no transaction, links up (log 1). -/
def ringReset : RingState :=
  ⟨List.range 16, [], [], [], [], .none, true, true, false, false, false, 0, 0, 0, 0, [], 0, 0, false, [], [], [], none, 0,
    false, [], [], none, 0, 0, false, none, [], false, 0, 0, [], [], []⟩

/-- A queue at reset (R155). -/
def queueReset : QueueState := ⟨[], none, false, 0⟩

/-- Scans and the cell state table at reset. -/
def telReset : TelState := ⟨[0, 0, 0, 0, 0], 0, false, 0, 0, 0, false, [], [], [], List.replicate 4 queueReset, false, false⟩

/-! ### Chime and the estimator -/

/-- What a discard reason of R187 covers. -/
inductive ChmScope where
  | cell (i : Nat)
  | pos (r p : Nat)
  | ring (r : Nat)
  | branch (b : Nat)
  | all
  deriving DecidableEq, Repr

/-- A Chime window (R164 to R167): origin, sequence, count at its opening; reasons so far; current samples keyed
65536 x branch + n and reference samples by n, each sum and count; cells monitored in every scan so far; scans in which
a cell's bleed switch was closed; tones injected; then its phasors keyed 8 x branch or cell + tone and the mean branch currents;
TCELL of every cell summed over `tempN` scans, and SOC at its end (R190). -/
structure ChmWindow where
  t0 : Nat
  seq : Nat
  count : Nat
  measured : Bool
  reasons : List (ChmScope × Nat)
  cur : List (Nat × (Rat × Nat))
  ref : List (Nat × (Rat × Nat))
  monitored : Option (List Nat)
  scans : Nat
  closed : List (Nat × Nat)
  injected : Nat
  scaled : Bool
  curPh : List (Nat × (Rat × Rat))
  voltPh : List (Nat × (Int × Int))
  means : List (Nat × Rat)
  temps : List Int
  tempN : Nat
  socs : List Nat
  deriving DecidableEq, Repr

/-- A record of the impedance table (R190). -/
structure ZRec where
  zre : Word
  zim : Word
  zreAvg : Word
  zimAvg : Word
  zvar : Word
  wcount : Word
  tmeas : Int
  socmeas : Nat
  icur : Int
  navg : Nat
  refRe : Word
  refIm : Word
  reason : Nat
  amb : Bool
  scaled : Bool
  refOk : Bool
  lastw : Word
  deriving DecidableEq, Repr

/-- A record of the impedance table that holds no result. -/
def zrecReset : ZRec := ⟨0, 0, 0, 0, 0, 0, 0, 0, 0, 0, 0, 0, 0, false, false, false, 0⟩

/-- Hidden state of Chime. `due` lists ring, position and tone still to report; `table` is keyed 8 x cell + tone; the
step accumulators hold sum and count of each branch in the present scan period and the mean of the one before; `pend` is the
T0 of the window whose tick has been launched and which has not begun (R165); `windows` counts the windows begun since power-up;
`ctrl` is the CTRL last written to each position and `ctrlOn` the one its supervisor applies, keyed 32 x ring + position - 1
(R179, R180). -/
structure ChimeState where
  run : Option ChmWindow
  coll : Option ChmWindow
  span : List ChmWindow
  tref : Option Nat
  removed : Bool
  since : Nat
  gapLeft : Nat
  due : List (Nat × Nat × Nat)
  zsel : Bool
  vdelay : List (Nat × Nat)
  stepAcc : List (Nat × (Rat × Nat))
  stepPrev : List (Nat × Rat)
  table : List (Nat × ZRec)
  pend : Option Nat
  windows : Nat
  ctrl : List (Nat × Nat)
  ctrlOn : List (Nat × Nat)
  deriving DecidableEq, Repr

/-- Chime at reset. -/
def chimeReset : ChimeState := ⟨none, none, [], none, true, 0, 0, [], false, [], [], [], [], none, 0, [], []⟩

/-- Learning-cycle record of a cell (R219 to R221): a1, sigma_1, charge since opening in Ah, seconds open, out of the
temperature limits and unmonitored. -/
structure LearnRec where
  isOpen : Bool
  a1 : Rat
  sig1 : Rat
  charge : Rat
  seconds : Rat
  hot : Rat
  dark : Rat
  nlearn : Nat
  cause : Nat
  deriving DecidableEq, Repr

/-- Estimator state of a cell (R202): capacity and SOC with their uncertainties, polarisation voltage, equivalent full
cycles, total charge in Ah, learning cycle; the last rest anchor (instant, VAVG); the reserves last computed and the
seconds since MON became 0; what the next update takes as the previous one's current, temperature, resistance and
polarisation (R214) with the reserves of its UA; and the bleed charge still to be spread, with its updates left (R200). -/
structure EstCell where
  q : Rat
  sq : Rat
  soc : Rat
  ss : Rat
  vp : Rat
  efc : Rat
  cum : Rat
  learn : LearnRec
  rest : Option (Nat × Nat)
  reserves : Option (Rat × Rat)
  reservesA : Rat × Rat
  dark : Rat
  prev : Option (Rat × Rat × Rat × Rat)
  bleedSeen : Nat
  bleedShare : Rat
  bleedLeft : Nat
  deriving DecidableEq, Repr

/-- A learned-data copy (R223): the words of its header, the words of its 3,072 cell records in entry order and its impedance
table, keyed 8 x cell + tone, records that hold no result left out. -/
structure LdCopy where
  magic : Nat
  format : Nat
  seq : Nat
  length : Nat
  opsec : Nat
  pcc : Nat
  rated : Nat
  bodyCrc : Word
  headCrc : Word
  cells : List Word
  table : List (Nat × ZRec)
  deriving DecidableEq, Repr

/-- A write-back under way (R225): its target, true for B, the snapshot, and that HUGOOD has fallen since it began. -/
structure Writeback where
  toB : Bool
  snap : LdCopy
  low : Bool
  deriving DecidableEq, Repr

/-- What Chime hands the estimator for a cell and span: a differential capacity with its uncertainty in Ah/V, the mid-instant and
the temperature, or a notice with the reason why there is none (R186, R188); reason 0 is a slope b that is not positive. -/
structure DqdvIn where
  cell : Nat
  notice : Option Nat
  value : Rat
  sigma : Rat
  mid : Nat
  temp : Rat
  deriving DecidableEq, Repr

/-- Hidden state of the estimator: exact branch charge in mAs with each branch input's last regular conversion, rest
since (R210), a history of branch and cell charge by update instant, the knot of R214, learned-data copies, records of the
partner that the next update takes (R595). -/
structure EstState where
  qacc : List (Nat × Rat)
  lastConv : List (Nat × (Nat × Rat))
  restSince : List (Nat × Nat)
  cells : List (Nat × EstCell)
  hist : List (Nat × List (Nat × Rat) × List (Nat × Rat))
  qaccSeen : List (Nat × Rat)
  lastUpdate : Option Nat
  fresh : Bool
  knot : Rat × Rat
  usoc : Rat
  efcStr : Rat
  dqdv : List DqdvIn
  copyA : LdCopy
  copyB : LdCopy
  writing : Option Writeback
  held : Bool
  incoming : List (Nat × List Word)
  deriving DecidableEq, Repr

/-- A learned-data copy of a module as delivered (log 1). -/
def ldBlank : LdCopy := ⟨0, 0, 0, 0, 0, 0, 0, 0, 0, [], []⟩

/-- The estimator at reset. -/
def estReset : EstState := ⟨[], [], [], [], [], [], none, true, (0, 0), 0, 0, [], ldBlank, ldBlank, none, false, []⟩

/-! ### Balancing and cell temperature -/

/-- Hidden state of the balancing planner: remaining targets in mC, cells commanded closed and those in force for the
running scan, the number of windows at each cell's opening, mismatch runs, stuck cells, the last ONCOUNT of each position with
its instant, residues below 1 mC; the mask last written to each position with its instant, and the ONCOUNT reads answered since
the last scan, both keyed 32 x ring + position - 1. -/
structure BalState where
  targets : List (Nat × Rat)
  closed : List Nat
  inForce : List Nat
  opened : List (Nat × Nat)
  mismatch : List (Nat × Nat)
  stuck : List Nat
  counts : List (Nat × (Nat × List Nat))
  residue : List (Nat × Rat)
  stopAll : Bool
  planDue : Bool
  masks : List (Nat × (Nat × List Nat))
  reads : List (Nat × List Nat)
  deriving DecidableEq, Repr

/-- A temperature point (R250 to R254): last accepted value with its instant, model temperature, runs of implausible and
plausible scans. -/
structure TempPoint where
  accepted : Option (Rat × Nat)
  model : Rat
  bad : Nat
  good : Nat
  deriving DecidableEq, Repr

/-- Hidden state of the thermal manager: points, over-temperature runs, cells without a valid temperature since, TH and
TL of the last scan in 0.1 °C, its instant, a contribution below IBASE, the chiller's last frame. -/
structure ThermState where
  points : List (Nat × TempPoint)
  otRun : List (Nat × Nat)
  noneSince : List (Nat × Nat)
  protect : List (Nat × (Rat × Rat))
  lastScan : Option Nat
  derating : Bool
  chillerAt : Option Nat
  deriving DecidableEq, Repr

/-! ### Safety island -/

/-- A Rimshot pulse of one output channel (R437 to R439): ended, read low before its end, verdict discarded. -/
structure RimPulse where
  ended : Bool
  low : Bool
  disc : Bool
  deriving DecidableEq, Repr

/-- Hidden state of the safety island: a confirmation to take at the next cycle; runs of test-pulse misses and channels that
followed their pulse since a fault, keyed 4 x input + 2 x channel + kind; inputs seen safe since their fault; stuck reset
devices; functions whose STOPPED asserts the stop line; milliseconds of T1 left; hand pairs released together, the cycle
of each pair's first actuation, pairs granted; MAINTOFF outputs off for TDEEN; mismatch runs, cycle of the last commanded
change and Rimshot pulse of each output channel 2m + channel; the two stored copies with the confirmed value; stored EN;
images of the slots (declared range, own revision); start slot and a switch of it still due; shadow running; a commit to take
at the end of the next cycle; operating seconds of the faults within 1 h; the island OK line; cycle in which each reset device
was pressed, and the cycles for which one that was released had been. -/
structure IslandState where
  confirmDue : Option Origin
  miss : List (Nat × Nat)
  followed : Nat
  seenSafe : Nat
  stuck : Nat
  lineBy : Nat
  t1Left : List (Nat × Nat)
  handsUp : Nat
  handAt : List (Nat × Nat)
  grants : Nat
  deenDone : Bool
  wrong : List (Nat × Nat)
  changed : List (Nat × Nat)
  rim : List (Nat × RimPulse)
  copyA : Option (List Word × Option Word)
  copyB : Option (List Word × Option Word)
  storedEn : Bool
  images : List (Nat × (Nat × Nat × Nat))
  startSlot : Nat
  switchDue : Bool
  shadowing : Bool
  commitDue : Option Origin
  faultTimes : List Nat
  okLine : Bool
  pressedAt : List (Nat × Nat)
  pressedFor : List (Nat × Nat)
  deriving DecidableEq, Repr

/-- The island at reset (log 1). -/
def islandReset : IslandState :=
  ⟨none, [], 0, 0, 0, 0, [], 0, [], 0, false, [], [], [], none, none, false, [], 0, false, false, none, [], true, [], []⟩

/-- A connection of the safety layer (R457 to R471): last accepted SEQ, STAMP last accepted from the partner, TEXP of the
latest accepted DATA, own SEQ, own cycle count when the partner was last heard, SDATA last sent, the copy held in
compatibility mode, operating seconds of CRC failures within 1 h. -/
structure SclConn where
  lastSeq : Nat
  stamp : Nat
  texp : Nat
  ownSeq : Nat
  heard : Nat
  sent : Nat
  held : Option (List Byte)
  crcTimes : List Nat
  deriving DecidableEq, Repr

/-- A connection at reset. -/
def sclConnReset : SclConn := ⟨0, 0, 0, 0, 0, 0, none, []⟩

/-- Hidden state of the safety layer: connections, PDUs from the SYS domain, PDUs toward it with network type and address. -/
structure SclState where
  conns : List SclConn
  rxq : List (List Byte)
  txq : List (Nat × Nat × List Byte)
  deriving DecidableEq, Repr


/-! ### Fabric and dispatch -/

/-- A frame that waits at an egress port (R496), with the lane, class and blocks it holds at the receiver it came by. -/
structure QueuedFrame where
  frame : FabFrame
  src : Option (Nat × Nat × Nat)
  deriving DecidableEq, Repr

/-- A lane (R482 to R501): the two key slots and the words written of each, PCS synchronisation, session key, own and
peer nonce, counters sent and accepted, blocks sent and reported freed, blocks held and freed for classes 1 to 3, the egress
queue, instants of the discards within 1 s. -/
structure LaneState where
  keys : List (Option (BitVec 128))
  keyWords : List (List Word)
  sync : Bool
  session : Option (BitVec 128)
  nonce : Nat
  peerNonce : Nat
  txCtr : Nat
  rxCtr : Nat
  sent : List Nat
  freedSeen : List Nat
  held : List Nat
  freed : List Nat
  queue : List QueuedFrame
  discards : List Nat
  hello : Option FabFrame
  peerMac : BitVec 48
  sending : Option (FabFrame × Nat)
  deriving DecidableEq, Repr

/-- A lane at reset, with no key. -/
def laneReset : LaneState := ⟨[none, none], [[0, 0, 0, 0], [0, 0, 0, 0]], false, none, 0, 0, 0, 0, [0, 0, 0], [0, 0, 0], [0, 0, 0], [0, 0, 0], [], [],
  none, 0, none⟩

/-- A stored LSA (R489): links are neighbour, cost and port. -/
structure LsaRec where
  origin : Nat
  uid : Nat
  seq : Nat
  links : List (Nat × Nat × Nat)
  at_ : Nat
  deriving DecidableEq, Repr

/-- Hidden state of the fabric: lanes, stored LSAs, own LSASEQ, addresses in conflict, Gong pairs (newest first), own GSEQ,
role keys and words written of them, the challenge with its instant, report sequence. -/
structure FabState where
  lanes : List LaneState
  lsas : List LsaRec
  ownSeq : Nat
  conflicts : List Nat
  pairs : List (Nat × Nat)
  gseq : Nat
  roleKeys : List (Option (BitVec 128))
  roleWords : List (List Word)
  challenge : Option (BitVec 128 × Nat)
  reportSeq : Nat
  deriving DecidableEq, Repr

/-- The fabric at reset (log 1). -/
def fabReset : FabState :=
  ⟨List.replicate 5 laneReset, [], 0, [], [], 0, [none, none, none, none], [[0, 0, 0, 0], [0, 0, 0, 0], [0, 0, 0, 0], [0, 0, 0, 0]], none, 0⟩

/-- Dispatch (R511 to R517): last accepted command and its instant, answers that a standby holds with their arrival, commands
to notify by setpoint SEQ. -/
structure DispState where
  last : Option DispatchBody
  lastAt : Nat
  held : List (Req × Nat × Nat × List Byte)
  notify : List (Nat × Nat × Req)
  deriving DecidableEq, Repr

/-! ### CAN -/

/-- Hidden state of a CAN controller: error counters; the object on the bus with its words as its arbitration took them;
receive interrupts pending; reference SEQ, the plant time of the previous message's SOF in 2^-28 ns with SYNC, whether plant
time stepped since; failover already reported. -/
structure CanState where
  tec : Nat
  rec_ : Nat
  onBus : Option (Nat × List Word)
  stamps : List Nat
  refSeq : Nat
  refSof : Option (Nat × Bool)
  refStepped : Bool
  reported : Bool
  deriving DecidableEq, Repr

/-- A controller at reset. -/
def canReset : CanState := ⟨0, 0, none, [], 0, none, false, false⟩

/-! ### Twin -/

/-- Hidden state of the twin unit: partner as last told, own TSEQ, a handover with its instant H, whether this module goes out
and whether it is acknowledged, a takeover armed, runs of differing and agreeing samples, refused mirror writes, instants of
partner resets, self-test running, own assertion of PARTNER_RST_N, PARTNER_PWR_EN, the enable that the die holds, delegated rings,
last NaN and last uncorrectable error, healthy Toll periods of the running second, ring mastership still to pass, since when OWN_IN is low, the
moves of the own master count toward the duty's (R589). -/
structure TwinState where
  partner : Option TollMsg
  tseq : Nat
  handover : Option (Nat × Bool × Bool)
  armed : Bool
  bad : Nat
  good : Nat
  refused : List (Nat × Word)
  resets : List Nat
  testing : Bool
  resetOut : Bool
  powerOut : Bool
  seen : Bool
  delegates : Nat
  nanAt : Option Nat
  eccAt : Option Nat
  ticks : Nat
  masterDue : Bool
  lowAt : Nat
  shift : Int
  deriving DecidableEq, Repr

/-- The twin unit at reset. -/
def twinReset : TwinState := ⟨none, 0, none, false, 0, 0, [], [], false, false, true, false, 0, none, none, 0, false, 0, 0⟩

/-! ### Update -/

/-- A NOR bank or region (R665 to R669): written pieces, newest first; verified; version, security version, length, identity;
images by KIND with IFREV, REQMIN, REQMAX, STEPMASK and digest; the fabric lane that it came by. -/
structure BankState where
  pieces : List (Nat × List Byte)
  verified : Bool
  version : Nat
  svn : Nat
  length : Nat
  bid : Nat
  images : List (Nat × (Nat × Nat × Nat × Nat × Nat))
  via : Option Nat
  deriving DecidableEq, Repr

/-- An empty bank. -/
def bankReset : BankState := ⟨[], false, 0, 0, 0, 0, [], none⟩

/-- Hidden state of the update service: banks A and B and the recovery region, bytes received, fetch in progress (lane,
bundle identity, offset wanted, LENGTH offered), armed, the images that run by KIND and by island slot, single images loaded, instant of the holder's last service. -/
structure UpdState where
  banks : List BankState
  received : Nat
  fetch : Option (Nat × Nat × Nat × Nat)
  armed : Bool
  running : List (Nat × (Nat × Nat × Nat × Nat × Nat))
  mixed : List Nat
  lastAt : Nat
  deriving DecidableEq, Repr

/-- The update service at reset (log 1). -/
def updReset : UpdState := ⟨[bankReset, bankReset, bankReset], 0, none, false, [], [], 0⟩

/-! ### Ageing -/

/-- Hidden state of the ledger: measured quantity of each margin, daily samples newest first, baselines of operations of each
pair, interval of each converter in hours, state, action and operating second of the last record of each margin, reference
trim and the one in effect, sum and number of the reference's differences of the day in %, comparator trims waiting. -/
structure AgeState where
  measured : List (Nat × Rat)
  history : List (Nat × List Nat)
  opsBase : List (Nat × Nat)
  intervals : List (Nat × Nat)
  records : List (Nat × (Nat × Nat × Nat))
  refTrim : Int
  trimApplied : Int
  refSum : Rat
  refCount : Nat
  trims : List (Nat × Int)
  deriving DecidableEq, Repr

/-! ### Debug -/

/-- Hidden state of the TAP and the debug session: a boundary instruction in force, the levels preloaded for the balls that boundary cells drive, the challenge
with its counter and instant, sessions opened, instants of failures, captured value of DBGACC, instant of the last TAP
activity. -/
structure DbgState where
  acting : Bool
  pattern : List (String × Bool)
  challenge : Option (BitVec 128 × BitVec 128 × Nat)
  counter : Nat
  failures : List Nat
  capture : Nat
  lastAt : Nat
  deriving DecidableEq, Repr


/-- No meaning of this model ends in a fault: the spec gives every command of the table an effect, and an operand or a
state that a rule turns away has the effect that the rule gives it. `unreachable` is raised by nothing (safe). -/
inductive Fault where
  /-- Raised by no meaning; safe. -/
  | unreachable
  deriving DecidableEq, Repr

/-- Why a command has no meaning here. -/
inductive Refusal where
  /-- The command has no meaning in the model; no arm of `exec` answers it; safe. -/
  | notModelled (mnemonic : String)
  deriving DecidableEq, Repr

/-- The state of the module. -/
structure State where
  /-- Active value of every register and window word, sparse over `resetWord` (R31, R35; log 1). -/
  regs : List (Nat × Word)
  /-- Commands that wait, first in first out (log 3). -/
  pending : List Instr
  /-- Number of free values drawn so far (log 4). -/
  free : Nat
  /-- What the module has sent, newest first (log 5). -/
  outbox : List Out
  /-- Register access (R34, R39 to R61). -/
  acc : AccessState
  /-- Service state (R20 to R23). -/
  svc : ServiceFields
  /-- Outputs that follow the state (R23, R62, R291). -/
  pins : Pins
  /-- Event recorder (R612 to R628). -/
  evr : RecorderState
  /-- Fault manager (R400 to R407). -/
  flt : FaultState
  /-- Contactor unit (R387 to R396). -/
  ctk : ContactorState
  /-- Protection (R377 to R386). -/
  prt : ProtState
  /-- Insulation monitor (R397, R398). -/
  iso : IsoState
  /-- PWM unit (R267 to R297). -/
  pwm : PwmState
  /-- Analog acquisition (R301 to R324). -/
  adc : AdcState
  /-- Loop engine (R328 to R370). -/
  lpe : LoopState
  /-- Time unit (R528 to R550). -/
  tim : TimState
  /-- Reset, clocks, power (R634 to R659). -/
  clk : ClkState
  /-- Sense rings (R69 to R113). -/
  rings : List RingState
  /-- Scans, queues, cell state table (R122 to R163). -/
  tel : TelState
  /-- Chime (R164 to R198). -/
  chm : ChimeState
  /-- Estimator (R199 to R233). -/
  est : EstState
  /-- Balancing planner (R234 to R246). -/
  bal : BalState
  /-- Thermal manager (R249 to R261). -/
  thm : ThermState
  /-- Safety island (R417 to R449). -/
  isl : IslandState
  /-- Safety layer (R457 to R471). -/
  scl : SclState
  /-- Fabric (R478 to R527). -/
  fab : FabState
  /-- Dispatch (R509 to R518). -/
  dsp : DispState
  /-- CAN controllers (R557 to R582). -/
  can : List CanState
  /-- Twin unit (R583 to R606). -/
  twn : TwinState
  /-- Update service (R665 to R684). -/
  upd : UpdState
  /-- Margin ledger (R686 to R698). -/
  age : AgeState
  /-- TAP and debug session (R716 to R724). -/
  dbg : DbgState
  deriving DecidableEq, Repr

/-- The module right after its reset of level L0: every register at its reset value, the state behind them at the
values of INVENTORY.md (log 1). -/
def State.reset : State where
  regs := []
  pending := []
  free := 0
  outbox := []
  acc := ⟨[], [], [], [], ⟨0, []⟩, false, [], []⟩
  svc := ⟨.unconfigured, 0, 0, none, false, false⟩
  pins := ⟨false, false, false, 0, 0, none, []⟩
  evr := ⟨[], [], [], [], [], [], [], [], 0, 0, 0, 0, 0, none, false⟩
  flt := ⟨none, [], [], []⟩
  ctk := ⟨none, 0, [], none, []⟩
  prt := ⟨[], [], [], [], [], [], 0⟩
  iso := { isoReset with high := false }
  pwm := ⟨List.replicate 8 ⟨none, false, false, 0, 0, 0, 0, 0, 0, 0, .normal, .normal⟩, [0, 0, 0, 0], false, false, false, false, false, none, 0⟩
  adc := adcReset
  lpe := ⟨[], none, 0, 0, 0, some 0, some 0, none, none, none, none, 0, .firmware, 0, 1, false, false, 0, false, false, false, 0, false, 0, [], false, false⟩
  tim := ⟨0, 0, 0, 0, 0, List.replicate 2 ⟨0, 0, none, none, none, none, 0⟩, List.replicate 4 ⟨0, 0, none, none, none⟩, [], List.replicate 8 ⟨none, none, false, false⟩⟩
  clk := ⟨false, 0, 0, 3, [], [], none, [], true, false, false, false, false, 3, false, false, 0, true⟩
  rings := List.replicate 4 ringReset
  tel := telReset
  chm := chimeReset
  est := estReset
  bal := ⟨[], [], [], [], [], [], [], [], false, false, [], []⟩
  thm := ⟨[], [], [], [], none, false, none⟩
  isl := islandReset
  scl := ⟨List.replicate 8 sclConnReset, [], []⟩
  fab := fabReset
  dsp := ⟨none, 0, [], []⟩
  can := [canReset, canReset]
  twn := twinReset
  upd := updReset
  age := ⟨[], [], [], [], [], 0, 0, 0, 0, []⟩
  dbg := ⟨false, [], none, 0, [], 0, 0⟩

end Sys2Proof.Machine
end

