-- ==== Sys2Proof/Machine/Ops.lean ====
section
/-! DEFINITION. The named operations over the register space and the outputs that follow the state. -/

namespace Sys2Proof.Machine

/-! ### Words and fields -/

/-- The active word at an address. -/
def State.word (s : State) (a : Nat) : Word := smGet resetWord s.regs a

/-- Set the active word at an address. -/
def State.setWord (s : State) (a : Nat) (w : Word) : State := { s with regs := smSet resetWord s.regs a w }

/-- The active word as a number. -/
def State.rd (s : State) (a : Nat) : Nat := (s.word a).toNat

/-- Set the active word from a number. -/
def State.wr (s : State) (a n : Nat) : State := s.setWord a (BitVec.ofNat 32 n)

/-- A field's active value. -/
def State.get (s : State) (f : RegField) : Nat := bitsOf (s.rd f.addr) f.lo f.width

/-- A field as a signed number. -/
def State.geti (s : State) (f : RegField) : Int := toSigned f.width (s.get f)

/-- Set a field. -/
def State.put (s : State) (f : RegField) (v : Nat) : State := s.wr f.addr (putBits (s.rd f.addr) f.lo f.width v)

/-- A field is not 0. -/
def State.on (s : State) (f : RegField) : Bool := s.get f != 0

/-- Set a one-bit field. -/
def State.setOn (s : State) (f : RegField) (b : Bool) : State := s.put f (bitNat b)

/-- Add to a field, saturating at its largest value. -/
def State.bumpBy (s : State) (f : RegField) (n : Nat) : State := s.put f (min (2 ^ f.width - 1) (s.get f + n))

/-- Count one, saturating. -/
def State.bump (s : State) (f : RegField) : State := s.bumpBy f 1

/-- A whole word as a field. -/
def whole (a : Nat) : RegField := ⟨a, 0, 32⟩

/-- Bit n of the word at `a`. -/
def State.bit (s : State) (a n : Nat) : Bool := bitOf (s.rd a) n

/-- Set bit n of the word at `a`. -/
def State.setBit (s : State) (a n : Nat) (b : Bool) : State := s.wr a (putBit (s.rd a) n b)

/-- A 64-bit quantity, high word at the lower address (R34). -/
def State.rd64 (s : State) (a : Nat) : Nat := s.rd a * 2 ^ 32 + s.rd (a + 4)

/-- Set a 64-bit quantity (R34). -/
def State.wr64 (s : State) (a n : Nat) : State := (s.wr a (n / 2 ^ 32 % 2 ^ 32)).wr (a + 4) (n % 2 ^ 32)

/-- An event sets its IRQR bit, whatever IRQE holds (R38). -/
def State.irq (s : State) (p b : Nat) : State := s.setBit (Reg.irqr p) b true

/-- STAT.ENS of page `p`. -/
def State.ens (s : State) (p : Nat) : Bool := s.on (Fld.ens p)

/-- The block of page `p` is enabled or disabled: CTRL.EN and STAT.ENS. -/
def State.setEns (s : State) (p : Nat) (b : Bool) : State := (s.setOn (Fld.ctrlEn p) b).setOn (Fld.ens p) b

/-- Apply an update for each index below `n`, in rising order. -/
def State.each (s : State) (n : Nat) (f : State → Nat → State) : State := (List.range n).foldl f s

/-- Send something: the outbox lists the newest first (log 5). -/
def State.emit (s : State) (o : Out) : State := { s with outbox := o :: s.outbox }

/-- Draw a free word (log 4). -/
def State.drawWord (s : State) : Word × State := (Config.freeWord s.free, { s with free := s.free + 1 })

/-- Draw a free exact number (log 4). -/
def State.drawRat (s : State) : Rat × State := (Config.freeRat s.free, { s with free := s.free + 1 })

/-- Draw a fresh random 128-bit value (log 6). -/
def State.drawNonce (s : State) : BitVec 128 × State := (Config.freeNonce s.free, { s with free := s.free + 1 })

/-- The exact number of a binary32 word (log 7). -/
def ratOf (w : Word) : Rat := if fpIsNan w || fpIsInf w then Config.nonFinite w else fpVal w

/-- A quotient of exact numbers (log 7). -/
def ratDiv (a b : Rat) : Rat := if b = 0 then Config.divZero a else a / b

/-- Element `i` of a list changed. -/
def updAt {α : Type} (l : List α) (i : Nat) (f : α → α) : List α := l.modify i f

/-! ### Clocks -/

/-- One nanosecond in the units of the clocks, 2^-28 ns (R528). -/
def nsUnit : Nat := 2 ^ 28

/-- The monotonic count in compare units (R528). -/
def State.nowNat (s : State) : Nat := s.tim.mono / nsUnit % 2 ^ 64

/-- The present instant in compare units. -/
def State.now (s : State) : Instant := BitVec.ofNat 64 s.nowNat

/-- Operating seconds of the AON counter (R612). -/
def State.opsec (s : State) : Nat := s.evr.opTime / (1000000000 * nsUnit) % 2 ^ 32

/-- Operating-second fraction in 2^-16 s (R612). -/
def State.opfrac (s : State) : Nat :=
  s.evr.opTime % (1000000000 * nsUnit) * 65536 / (1000000000 * nsUnit)

/-! ### Outputs that follow the state -/

/-- IRQS of a page (R38). -/
def State.irqs (s : State) (p : Nat) : Nat := Nat.land (s.rd (Reg.irqr p)) (s.rd (Reg.irqe p))

/-- `HST_IRQMASK` bit of a page (R62). -/
def State.irqMasked (s : State) (p : Nat) : Bool :=
  if p < 32 then s.bit Reg.HST_IRQMASK0 p else s.bit Reg.HST_IRQMASK1 (p - 32)

/-- IRQ_N is asserted: some page whose mask bit is set has a non-zero IRQS (R62). -/
def State.irqLine (s : State) : Bool :=
  (List.range 41).any (fun p => s.irqMasked p && s.irqs p != 0)

/-- Snare is active (R19, `PRT_SNSTAT.ACTIVE`). -/
def State.snare (s : State) : Bool := s.on Fld.PRT_SNSTAT_ACTIVE

/-- Phase `p` is enabled (R268). -/
def State.phaseEn (s : State) (p : Nat) : Bool := bitOf (s.get Fld.PWM_CFG_PHEN) p

/-- Phase `p` is a three-level phase (R267). -/
def State.threeLevel (s : State) (p : Nat) : Bool := bitOf (s.get Fld.PWM_CFG_TYPE) p

/-- Cell `c` exists: the outer cell of an enabled phase, or the inner cell of an enabled three-level one (R267, R268). -/
def State.cellEn (s : State) (c : Nat) : Bool := s.phaseEn (c / 2) && (c % 2 == 0 || s.threeLevel (c / 2))

/-- The module drives its outputs: the twin enable that the mixed-signal die holds is 0, or its OWN_OUT is high (R584, R585,
R587). -/
def State.owns (s : State) : Bool := !s.twn.seen || s.on Fld.TWN_STATE_OWNOUT

/-- Output `k` of a cell carries pulses or stays high: the cell switches and the output is not suppressed (R276). -/
def PwmCell.live (x : PwmCell) (lower : Bool) : Bool := x.switching && (if lower then x.lower else x.upper) != .suppressed

/-- Outputs of the switching cells of the PWM unit, ahead of the output stage. -/
def State.pwmAhead (s : State) : Nat :=
  maskOf 16 (fun k => s.cellEn (k / 2) && ((s.pwm.cells[k / 2]?).map (fun x => x.live (k % 2 == 1))).getD false)

/-- The PWM outputs that carry pulses; every other output is low. None does while Snare is active (R291), while the
clock monitor holds the outputs low (R649), while VIO is low (R651), nor does a module drive its balls that does not own
(R584). -/
def State.pwmDriven (s : State) : Nat :=
  if s.snare || s.clk.pwmHeld || s.on Fld.PWR_STAT_VIOLOW || !s.owns then 0 else s.pwmAhead

/-- Level of a digital signal of R722, for the signals that are a level of this state; a PWM output stands for its pulses. -/
def State.tmxSignal (s : State) (c : Nat) : Bool :=
  if c < 0x10 then bitOf s.pwmAhead c
  else if c < 0x18 then bitOf (s.get Fld.PWM_GDFSTAT_LEVEL) (c - 0x10)
  else if c = 0x18 then s.snare
  else if c < 0x25 then s.on (Fld.PRT_CMPSTAT_LEVEL (c - 0x19))
  else if c = 0x35 then s.lpe.sampleOpen
  else if c = 0x36 then decide (0 < s.get Fld.LPE_STAT_OVRC)
  else if 0x48 ≤ c ∧ c < 0x50 then s.on (Fld.TPO_KSTAT_LEVEL (c - 0x48))
  else if c = 0x50 then s.on Fld.SFI_STAT_ISTOP
  else if c = 0x51 then s.bit Reg.SFI_FUNC 18
  else if c = 0x52 then s.isl.okLine
  else false

/-- TMX_D0 to TMX_D3: an output presents its signal while EN and its OUTEN bit are 1 and its code is digital (R722). -/
def State.tmxLevels (s : State) : Nat :=
  if !s.ens Pg.TMX then 0 else
  maskOf 4 (fun k => bitOf (s.get Fld.TMX_CFG_OUTEN) k && s.tmxSignal (s.get (Fld.TMX_DSEL_CODE k)))

/-- TMX_A: the code of the analog signal that it presents, none at high impedance (R722). -/
def State.tmxAnalog (s : State) : Option Nat :=
  let c := s.get Fld.TMX_ASEL_CODE
  if s.ens Pg.TMX && bitOf (s.get Fld.TMX_CFG_OUTEN) 4 && decide (0x180 ≤ c ∧ c < 0x1BA) then some c else none

/-- IRQ_N's ball is driven: low while asserted, and high as well with push-pull (R62). -/
def State.irqBall (s : State) : Bool := s.irqLine || s.on Fld.HST_CFG_IRQPP

/-- Balls that boundary cells hold while EXTEST or CLAMP acts, at high impedance while HIGHZ acts; Snare and a reset that reaches the
PWM unit keep the PWM balls low in every instruction (R717, R718). -/
def State.boundaryPins (s : State) : List (String × Option Bool) :=
  if !s.dbg.acting then [] else
  let low := s.snare || s.clk.held.contains 6
  let pwm := (List.range 16).map (fun i => "PWM_OUT" ++ toString i)
  let l := if s.get Fld.DBG_JTAG_IR = 5 then drivenBalls.map (fun n => (n, none)) else s.dbg.pattern.map (fun x => (x.1, some x.2))
  l.map (fun x => if low && pwm.contains x.1 then (x.1, some false) else x)

/-- Dispatch commands are accepted: only in RUNNING, with role single or duty, once the start has completed, and
outside a firmware activation pause (R23, R284). -/
def State.dispatchOpenNow (s : State) : Bool :=
  decide (s.svc.state = .running) && decide (s.svc.role ≤ 1) && s.svc.startDone && !s.svc.appPaused

/-- Reset domain `d` of the release order runs: neither in reset nor without its clock (R637, R649). -/
def State.domUp (s : State) (d : Nat) : Bool := !s.clk.held.contains d && !s.clk.waitPll.contains d

/-- The application cluster runs: out of reset, neither paused by an activation nor halted by a debug session. -/
def State.appUp (s : State) : Bool :=
  !s.svc.appPaused && s.domUp 10 && !s.on Fld.DBG_SESSION_HALTED

/-- Bring the outputs that follow the state up to date. -/
def settle (s : State) : State :=
  { s with pins := ⟨s.irqLine, s.irqBall, s.dispatchOpenNow, s.pwmDriven, s.tmxLevels, s.tmxAnalog, s.boundaryPins⟩ }

/-- The end of every command: its effect, with the outputs that follow the state. -/
def done (s : State) : Host.Outcome State Fault Refusal := .next (settle s)

/-- Words of a page are kept in the configuration area of the MRAM, to be restored at a start (R314, R642, AGE page; log 9). -/
def State.keepWords (s : State) (l : List Nat) : State :=
  { s with acc := { s.acc with stored := l.foldl (fun (m : List (Nat × Word)) a => smInsert a (s.word a) m) s.acc.stored } }

/-- The tone sum is removed (R174). -/
def State.removeTones (s : State) : State := { s with chm := { s.chm with removed := true } }

/-- A discard reason in the running window (R187). -/
def State.chmNote (s : State) (scope : ChmScope) (code : Nat) : State :=
  { s with chm := { s.chm with run := s.chm.run.map (fun (w : ChmWindow) =>
    if w.reasons.contains (scope, code) then w else { w with reasons := (scope, code) :: w.reasons }) } }

end Sys2Proof.Machine
end

