-- ==== Sys2Proof/Machine/Records.lean ====
section
/-! DEFINITION. Records: their bytes, raising, stamping, the intake queue, the holding buffer and the freeze
(Event recorder and audit, R608 to R621). -/

namespace Sys2Proof.Machine

/-! ### Bytes of a record -/

/-- LEN of a record (R608). -/
def Rec.len (r : Rec) : Nat := 24 + (if r.wall.isSome then 12 else 0) + r.body.length

/-- The header of a record with FLAGS.FWD taken as 0 (R608). -/
def Rec.header (r : Rec) : List Byte :=
  beBytes 2 r.len ++
  beBytes 1 (r.sev % 8 + 8 * bitNat r.wall.isSome + 32 * bitNat r.lastGasp + 64 * bitNat r.nor) ++
  beBytes 1 r.type ++ beBytes 4 r.seq ++ beBytes 4 r.opsec ++ beBytes 2 r.opfrac ++ beBytes 3 r.pcc ++
  beBytes 1 r.page ++ beBytes 2 r.code

/-- The optional wall-time field (R608). -/
def Rec.wallBytes (r : Rec) : List Byte :=
  match r.wall with
  | none => []
  | some (sec, ns) => beBytes 6 sec ++ beBytes 4 ns ++ beBytes 2 0

/-- The whole record with its CRC-32C (R608). -/
def Rec.bytes (r : Rec) : List Byte :=
  let b := r.header ++ r.wallBytes ++ r.body
  let out := beBytes 2 r.len ++
    beBytes 1 (r.sev % 8 + 8 * bitNat r.wall.isSome + 16 * bitNat r.fwd + 32 * bitNat r.lastGasp + 64 * bitNat r.nor)
  out ++ b.drop 3 ++ beBytes 4 (crc32c b).toNat

/-- Bytes held by a list of records. -/
def recsBytes (l : List Rec) : Nat := (l.map Rec.len).sum

/-- `a` comes before `b` in the order of R613. -/
def Rec.before (a b : Rec) : Bool :=
  if a.pcc ≠ b.pcc then decide (a.pcc < b.pcc)
  else if a.opsec ≠ b.opsec then decide (a.opsec < b.opsec)
  else if a.opfrac ≠ b.opfrac then decide (a.opfrac < b.opfrac)
  else decide (a.seq < b.seq)

/-- Insert a record into a list ordered by R613. -/
def insertRec (r : Rec) : List Rec → List Rec
  | [] => [r]
  | a :: t => if r.before a then r :: a :: t else a :: insertRec r t

/-! ### Raising -/

/-- A record is on its way to the intake (R614). -/
def State.raiseRec (s : State) (r : RawRec) : State := { s with evr := { s.evr with arriving := s.evr.arriving ++ [r] } }

/-- An EVENT record of the originating block (R609). -/
def State.event (s : State) (sev page code : Nat) (body : List Byte) : State :=
  s.raiseRec ⟨sev, 5, page, code, body, none⟩

/-- Origin code of `ERRA.ORIGIN` (Pages, fields and access). -/
def originCode : Origin → Nat
  | .host => 0
  | .fabric _ => 1
  | .firmware => 2
  | .safety => 3
  | .twin => 4
  | .debug => 5

/-- Node address of a FABRIC origin, 0 otherwise. -/
def originNode : Origin → Nat
  | .fabric n => n.toNat
  | _ => 0

/-- The role of an origin: `HST_ROLE`, the grant of `FAB_ROLE` (R505, R506), Sahric Service for DEBUG (R729); FIRMWARE,
SAFETY and TWIN carry none, and a node without a grant has none. -/
def State.roleOf (s : State) : Origin → Option Nat
  | .host => some (s.rd Reg.HST_ROLE % 4)
  | .fabric n =>
    let e := bitsOf (s.rd (Reg.FAB_ROLE (n.toNat / 8))) (4 * (n.toNat % 8)) 4
    if bitOf e 3 then some (e % 4) else none
  | .debug => some 3
  | _ => none

/-- ROLE byte of an audit body: 0xFF where the origin carries no role (R615). -/
def State.roleByte (s : State) (o : Origin) : Nat := (s.roleOf o).getD 0xFF

/-- Audit body bytes 0 to 23, CHAIN still 0, and further triples (R615). -/
def auditBody (origin role node addr old new : Nat) (more : List (Nat × Nat × Nat)) : List Byte :=
  beBytes 1 origin ++ beBytes 1 role ++ beBytes 2 node ++ beBytes 4 addr ++ beBytes 4 old ++ beBytes 4 new ++
  beBytes 2 1 ++ beBytes 2 0 ++ beBytes 4 0 ++
  more.flatMap (fun t => beBytes 4 t.1 ++ beBytes 4 t.2.1 ++ beBytes 4 t.2.2)

/-- Page index whose registers an address belongs to, windows with their owning page (R32). -/
def ownerPage (a : Nat) : Option Nat :=
  match pageAt a with
  | some p => some p
  | none =>
    if 0x20000 ≤ a ∧ a < 0x50000 then some Pg.SRQ
    else if 0x68000 ≤ a ∧ a < 0x70000 then some Pg.LPE
    else if 0x88000 ≤ a ∧ a < 0x90000 then some Pg.FAB
    else if 0xA8000 ≤ a ∧ a < 0xAA000 then some Pg.CNA
    else if 0xAA000 ≤ a ∧ a < 0xAC000 then some Pg.CNB
    else none

/-- The base of the page or window of an address (R32). -/
def regionOf (a : Nat) : Option Nat :=
  match pageAt a with
  | some _ => some (a / 0x1000 * 0x1000)
  | none =>
    if 0x20000 ≤ a ∧ a < 0x50000 then some 0x20000
    else if 0x68000 ≤ a ∧ a < 0x70000 then some 0x68000
    else if 0x88000 ≤ a ∧ a < 0x90000 then some 0x88000
    else if 0xA8000 ≤ a ∧ a < 0xAA000 then some 0xA8000
    else if 0xAA000 ≤ a ∧ a < 0xAC000 then some 0xAA000
    else none

/-- Severity of an audit record of an accepted change: 5 for SFI and SCL writes, safety confirmations and key
installations, 2 otherwise (R610). -/
def auditSev (kind page : Nat) : Nat := if page = Pg.SFI ∨ page = Pg.SCL ∨ kind = 7 ∨ kind = 9 then 5 else 2

/-- An audit record of `kind` by an origin (R55, R615). -/
def State.audit (s : State) (kind : Nat) (o : Origin) (addr old new : Nat) : State :=
  let p := (ownerPage addr).getD 0xFF
  s.raiseRec ⟨auditSev kind p, 2, p, kind, auditBody (originCode o) (s.roleByte o) (originNode o) addr old new [], none⟩

/-- A further triple of an audit body gives the offset in its page or window (R615; log 18). -/
def auditOffset (t : Nat × Nat × Nat) : Nat × Nat × Nat := (t.1 - (regionOf t.1).getD 0, t.2)

/-- Triples beyond the first, at most 16 in a record; the rest follow in further records with the same CODE (R615). -/
def State.auditMany (s : State) (kind : Nat) (o : Origin) : Nat → List (Nat × Nat × Nat) → State
  | 0, _ => s
  | _, [] => s
  | n + 1, (a, old, new) :: t =>
    let p := (ownerPage a).getD 0xFF
    (s.raiseRec ⟨auditSev kind p, 2, p, kind, auditBody (originCode o) (s.roleByte o) (originNode o) a old new ((t.take 16).map auditOffset), none⟩).auditMany
      kind o n (t.drop 16)

/-- Severity of an audited rejection: 4 for AUTH, 3 otherwise (R610). -/
def rejectSev (code : Nat) : Nat := if code = 0xC then 4 else 3

/-- A string command or page command audited as COMMAND (R615). -/
def State.auditCommand (s : State) (o : Origin) (addr old new : Nat) : State := s.audit 8 o addr old new

/-- A RECORDER record (R609): origin, role, node, first and last SEQ, count. -/
def State.recorderRaw (s : State) (sev code : Nat) (o : Origin) (first last count : Nat) : RawRec :=
  ⟨sev, 7, Pg.EVR, code,
    beBytes 1 (originCode o) ++ beBytes 1 (s.roleByte o) ++ beBytes 2 (originNode o) ++ beBytes 4 first ++ beBytes 4 last ++
      beBytes 4 count, none⟩

/-! ### Stamping -/

/-- Plant time as seconds and nanoseconds from a clock in 2^-28 ns (R528). -/
def clockSec (t : Nat) : Nat := t / (1000000000 * nsUnit) % 2 ^ 48

/-- Nanoseconds of a clock in 2^-28 ns (R528). -/
def clockNs (t : Nat) : Nat := t / nsUnit % 1000000000

/-- A TYPE that MINSEV never drops (R611). -/
def keptAlways (type : Nat) : Bool := !(type == 1 || type == 4 || type == 5)

/-- Put CHAIN into bytes 20 to 23 of an audit body (R615, R616). -/
def withChain (body : List Byte) (chain : Word) : List Byte := body.take 20 ++ beBytes 4 chain.toNat ++ body.drop 24

/-- Stamp a raw record: SEQ, operating time, power-cycle count, WALL (R612, R613). -/
def State.stampOf (s : State) (r : RawRec) : Rec :=
  let wall := if s.on Fld.EVR_CFG_WALL && s.on Fld.TIM_STATE_SYNC
    then some (clockSec s.tim.pt, clockNs s.tim.pt) else none
  let c : Rec := ⟨r.sev, r.type, r.page, r.code, s.rd Reg.EVR_SEQ, s.opsec, s.opfrac, s.rd Reg.EVR_PCC, wall, r.body,
    false, false, false⟩
  if r.type = 2 then
    { c with body := withChain r.body (crc32c (beBytes 4 (s.rd Reg.AUD_CHAIN) ++ r.body.take 20 ++ c.header)) }
  else c

/-- What the AUD page and the SEQ counter take from a stamped record (R612, R616, R632). -/
def State.noteStamped (s : State) (r : RawRec) (c : Rec) : State :=
  let s := s.wr Reg.EVR_SEQ ((c.seq + 1) % 2 ^ 32)
  let s := if s.get Fld.EVR_CFG_IRQSEV ≤ c.sev then s.irq Pg.EVR Irq.EVR_RECORD else s
  if c.type ≠ 2 then s else
  let s := s.wr Reg.AUD_CHAIN (beAt c.body 20 4)
  let s := s.bump (if c.code = 4 then Fld.AUD_CNT_REJECTED else Fld.AUD_CNT_ACCEPTED)
  let s := s.irq Pg.AUD (if c.code = 4 then Irq.AUD_REJECT else Irq.AUD_CHANGE)
  let s := if c.sev = 5 then s.irq Pg.AUD Irq.AUD_SAFETY else s
  let role := beAt c.body 1 1
  let s := s.wr Reg.AUD_LAST (beAt c.body 0 1 % 8 + (if role = 0xFF then 0x40 else role % 4 * 0x10) +
    c.code % 256 * 0x100 + c.page * 0x10000)
  let s := s.wr Reg.AUD_LASTADDR (beAt c.body 4 4)
  let s := s.wr Reg.AUD_LASTNODE (beAt c.body 2 2)
  let s := s.wr Reg.AUD_LASTSEQ c.seq
  match r.run with
  | none => s
  | some (o, code, addr) =>
    { s with acc := { s.acc with runs := s.acc.runs.map (fun x =>
      if x.origin = o ∧ x.code = code ∧ x.addr = addr then { x with seq := c.seq } else x) } }

/-! ### Bounded queues -/

/-- The list without its newest (last) record of severity below `sev`, none when there is none. -/
def dropNewestBelow (sev : Nat) (l : List Rec) : Option (List Rec) :=
  match l.reverse.findIdx? (fun r => decide (r.sev < sev)) with
  | none => none
  | some k => some (l.reverse.eraseIdx k).reverse

/-- Put a record at the back of a queue of `cap` bytes: the newest queued records of lower severity make room, and the
arriving record is dropped when there are none. Answers the queue and how many records were lost (R614, R620). -/
def insertBounded (cap : Nat) (r : Rec) : Nat → List Rec → List Rec × Nat
  | 0, q => if recsBytes q + r.len ≤ cap then (q ++ [r], 0) else (q, 1)
  | n + 1, q =>
    if recsBytes q + r.len ≤ cap then (q ++ [r], 0) else
    match dropNewestBelow r.sev q with
    | none => (q, 1)
    | some q' => let x := insertBounded cap r n q'; (x.1, x.2 + 1)

/-- EVR_HOLD and EVR_MEDIA follow the buffers they count. -/
def State.evrFills (s : State) : State :=
  let s := s.put ⟨Reg.EVR_HOLD, 0, 17⟩ (recsBytes s.evr.holding)
  let s := s.put ⟨Reg.EVR_MEDIA, 0, 13⟩ (recsBytes s.evr.lastGasp)
  let kib := fun (l : List Segment) => (((l.map (fun g => 32 + recsBytes g.recs)).sum) + 1023) / 1024
  let s := s.put ⟨Reg.EVR_MEDIA, 16, 11⟩ (kib s.evr.norRegion)
  let s := s.put ⟨Reg.EVR_FILL, 0, 13⟩ (kib s.evr.main)
  let s := s.put ⟨Reg.EVR_FILL, 16, 9⟩ (kib s.evr.reserve)
  s.wr Reg.EVR_OLDEST (((s.evr.main.flatMap Segment.recs).map Rec.seq).head?.getD 0)

/-- A record enters the holding buffer (R619, R620, R728); answers how many records were lost. -/
def State.hold (s : State) (c : Rec) : State × Nat :=
  let x := insertBounded 65536 c s.evr.holding.length s.evr.holding
  let s := { s with evr := { s.evr with holding := x.1
                                        marker := s.evr.marker.map (fun (m : Nat × Nat) => (m.1, s.rd Reg.EVR_SEQ)) } }
  let s := if x.2 = 0 then s else (s.bumpBy Fld.EVR_HOLD_DROP x.2).irq Pg.EVR Irq.EVR_HOLDFULL
  (s.evrFills, x.2)

/-- A freeze begins: FROZEN, and a RECORDER record of CODE 0x02 enters the holding buffer first; a freeze that begins
while frozen changes nothing (R619, R728); its losses count from 0 (log 18). -/
def State.beginFreeze (s : State) (o : Origin) : State :=
  if s.on Fld.EVR_STAT_FROZEN then s else
  let raw := s.recorderRaw 2 2 o 0 0 0
  let c := s.stampOf raw
  let s := ((s.noteStamped raw c).setOn Fld.EVR_STAT_FROZEN true).put Fld.EVR_HOLD_DROP 0
  let s := { s with evr := { s.evr with releasing := false, marker := some (c.seq, s.rd Reg.EVR_SEQ) } }
  (s.hold c).1.irq Pg.EVR Irq.EVR_FROZEN

end Sys2Proof.Machine
end

