-- ==== Sys2Proof/Machine/Trip.lean ====
section
/-! DEFINITION. Snare, the service state, contactor pairs and openings, and the raising and handling of faults (R17 to
R22, R376 to R379, R388 to R393, R400 to R408). -/

namespace Sys2Proof.Machine

/-! ### Measured values -/

/-- Input `n` has a result since RUNNING (R319). -/
def State.inValid (s : State) (n : Nat) : Bool := s.on (Fld.ADC_INRES_VALID n)

/-- VAL of input `n`, a binary32 word; 0 until its first conversion (R303, R319). -/
def State.inWord (s : State) (n : Nat) : Word := s.word (Reg.ADC_INVAL n)

/-- VAL of input `n` as an exact number. -/
def State.inVal (s : State) (n : Nat) : Rat := ratOf (s.inWord n)

/-- ZBAND in amperes (`LPE_LIMRAMP.ZBAND`, 0.1 A). -/
def State.zband (s : State) : Rat := (s.get Fld.LPE_LIMRAMP_ZBAND : Rat) / 10

/-! ### Service state -/

/-- Set the service state (R20, R22). -/
def State.setSvc (s : State) (st : ServiceState) : State := { s with svc := { s.svc with state := st } }

/-- The code of a service state in `DEV_SSTATE.STATE` (R21); transport mode is not reportable. -/
def ServiceState.code : ServiceState → Nat
  | .recovery => 0
  | .unconfigured => 1
  | .ready => 2
  | .precharge => 3
  | .connected => 4
  | .running => 5
  | .stopping => 6
  | .tripped => 7
  | .maintenance => 8
  | .transport => 2

/-! ### Phases -/

/-- State of phase `p` in PWM_PHSTAT (R298). -/
def phaseField (p : Nat) : RegField := ⟨Reg.PWM_PHSTAT, 4 * p, 4⟩

/-- Phase `p` switches: BUSRAMP or RUN (R298). -/
def State.phaseSwitching (s : State) (p : Nat) : Bool := s.get (phaseField p) == 3 || s.get (phaseField p) == 4

/-- Some enabled phase is in a state that satisfies `f`. -/
def State.anyPhase (s : State) (f : Nat → Bool) : Bool := (List.range 4).any (fun p => s.phaseEn p && f (s.get (phaseField p)))

/-- Some phase is in BUSRAMP or RUN. -/
def State.switching (s : State) : Bool := s.anyPhase (fun v => v == 3 || v == 4)

/-- Put every enabled phase that is not DISABLED into a state. -/
def State.setPhases (s : State) (v : Nat) : State :=
  s.each 4 (fun s p => if s.phaseEn p && s.get (phaseField p) != 0 then s.put (phaseField p) v else s)

/-- Every cell stops switching; its outputs stand low. -/
def State.stopCells (s : State) : State :=
  { s with pwm := { s.pwm with cells := s.pwm.cells.map (fun c => { c with switching := false, duty := none, fresh := false }) } }

/-- A capture that runs with a test ends ABORTED and the test signal stops (R370). -/
def State.abortTest (s : State) : State :=
  if s.on Fld.LPE_STAT_TEST then
    let s := s.setOn Fld.LPE_STAT_TEST false
    let s := if s.lpe.capRun then (s.put Fld.LPE_CAPSTAT_STATE 3).irq Pg.LPE Irq.LPE_CAP_DONE else s
    { s with lpe := { s.lpe with capRun := false, capTest := false } }
  else s

/-! ### Snare -/

/-- A CONNECT under way ends with its pairs as they stand, since TRIPPED is left only by CLEAR_TRIP (DEDUCED from R22 and
R389, log 16). -/
def State.endConnect (s : State) : State :=
  let seq := s.get Fld.CTK_SEQ_STATE
  if 1 ≤ seq && seq ≤ 4 then s.put Fld.CTK_SEQ_STATE 0 else s

/-- What Snare does on becoming active: outputs low, enabled phases SAFE, service state TRIPPED except in RECOVERY; a
start under way fails with cause TRIPPED, which the answer's second part tells (R22, R288, R291). -/
def State.trip (s : State) : State × Bool :=
  let failed := s.pwm.starting
  let s := (s.stopCells.setPhases 5).setOn Fld.PWM_STAT_SAFE true
  let s := (s.irq Pg.PWM Irq.PWM_SAFE).abortTest
  let s := { s with pwm := { s.pwm with starting := false, waitValley := false } }
  let s := s.endConnect
  let s := if failed then (s.put Fld.PWM_PHSTAT_CAUSE 6).irq Pg.PWM Irq.PWM_START_FAIL else s
  let s := { s with svc := { s.svc with
    state := if s.svc.state = .recovery then .recovery else .tripped
    stopCause := none, startDone := false } }
  (s, failed)

/-- An unmasked source asserts (R377): Snare becomes active with FIRST, or the source's latch bit is added. -/
def State.snareAssert (s : State) (src : Nat) : State × Bool :=
  if s.snare then (s.setBit Reg.PRT_SNLATCH src true, false) else
  let s := (s.setOn Fld.PRT_SNSTAT_ACTIVE true).put Fld.PRT_SNSTAT_FIRST src
  ((s.setBit Reg.PRT_SNLATCH src true).irq Pg.PRT Irq.PRT_SNARE).trip

/-! ### Contactor pairs -/

/-- State of pair `p` in CTK_PSTAT (R411). -/
def pairField (p : Nat) : RegField := ⟨Reg.CTK_PSTAT, 3 * p, 3⟩

/-- Pair `p` reads open: AUXp is 1 (R387). -/
def State.pairOpen (s : State) (p : Nat) : Bool := s.bit Reg.CTK_AUX p

/-- Pair `p` is commanded closed. -/
def State.pairDriven (s : State) (p : Nat) : Bool := bitOf s.ctk.commanded p

/-- Drive both outputs of a pair (R387); a module that does not own holds them inactive (R585). -/
def State.drivePair (s : State) (p : Nat) (b : Bool) : State :=
  let s := (s.setBit Reg.CTK_DRIVE (2 * p) (b && s.owns)).setBit Reg.CTK_DRIVE (2 * p + 1) (b && s.owns)
  { s with ctk := { s.ctk with commanded := putBit s.ctk.commanded p b } }

/-- Close a pair (R390). -/
def State.closePair (s : State) (p : Nat) : State :=
  (s.drivePair p true).put (pairField p) (if s.pairOpen p then 1 else 2)

/-- Count an opening: operations, and breaks under load with their greatest current (R393), and the breaking duty
handed to the ledger (R692). -/
def State.countOpening (s : State) (p : Nat) : State :=
  let i := ratAbs (s.inVal 4)
  let s := s.bumpBy (whole (Reg.CTK_POPS p)) 1
  if i > s.zband then
    let s := s.bump (Fld.CTK_PBRK_COUNT p)
    let a := satNat 16 (ratRound i)
    let s := if a > s.get (Fld.CTK_PBRK_MAX p) then s.put (Fld.CTK_PBRK_MAX p) a else s
    let ref := s.get Fld.AGE_CTKREF_IREF
    if ref = 0 then s else
    let q := i / (ref : Rat)
    let b := smGet (fun _ => (0 : Rat)) s.ctk.breakDuty p
    { s with ctk := { s.ctk with breakDuty := smSet (fun _ => 0) s.ctk.breakDuty p (b + q * q) } }
  else s

/-- Command a pair open; a pair that read closed is counted and stands OPENING, a welded one stays WELDED. -/
def State.openPair (s : State) (p : Nat) : State :=
  let st := s.get (pairField p)
  let s := s.drivePair p false
  if st = 4 then s
  else if s.pairOpen p || st = 0 then s.put (pairField p) 0
  else (s.countOpening p).put (pairField p) 3

/-- Set the sequencer state (R411). -/
def State.setSeq (s : State) (v : Nat) : State := s.put Fld.CTK_SEQ_STATE v

/-- Immediate opening: every pair is commanded open in one cycle (R392). -/
def State.openAllNow (s : State) : State :=
  let s := s.each 10 State.openPair
  ({ s with ctk := { s.ctk with opening := none } }).setSeq 6

/-- Mask of the branch pairs commanded closed. -/
def State.drivenBranches (s : State) : Nat := s.ctk.commanded % 256

/-- Begin a controlled opening (R392): it waits for zero current first. One of branch pairs alone leaves a CONNECT under way
(R403; log 16). -/
def State.beginOpening (s : State) (branches : Nat) (mains toReady : Bool) : State :=
  let o : Opening := match s.ctk.opening with
    | none => ⟨branches, mains, true, toReady⟩
    | some o => ⟨Nat.lor o.branches branches, o.mains || mains, o.waitZero, o.toReady || toReady⟩
  let seq := s.get Fld.CTK_SEQ_STATE
  let s := { s with ctk := { s.ctk with opening := some o } }
  if !o.mains && 1 ≤ seq && seq ≤ 4 then s else s.setSeq 6

/-- Open the branch pairs of an opening. -/
def State.openBranches (s : State) (mask : Nat) : State :=
  s.each 8 (fun s b => if bitOf mask b && s.pairDriven b then s.openPair b else s)

/-- Every pair of an opening reads open, or has raised CTK_WELD. -/
def State.openingDone (s : State) (o : Opening) : Bool :=
  (List.range 8).all (fun b => !bitOf o.branches b || s.pairOpen b || s.get (pairField b) == 4) &&
  (!o.mains || (s.pairOpen 8 || s.get (pairField 8) == 4) && (s.pairOpen 9 || s.get (pairField 9) == 4))

/-- Advance an opening that has begun to open: the branch pairs follow once the main pair reads open, and the end sets
the service state, TRIPPED while Snare stands (R392, R404). -/
def State.advanceOpening (s : State) : State :=
  match s.ctk.opening with
  | none => s
  | some o =>
    if o.waitZero then s else
    let s := if !o.mains || s.pairOpen 8 then s.openBranches o.branches else s
    if s.openingDone o && s.drivenBranches &&& o.branches == 0 then
      let s := { s with ctk := { s.ctk with opening := none } }
      let s := if s.get Fld.CTK_SEQ_STATE = 6 then s.setSeq (if o.mains || !s.pairDriven 8 then 0 else 5) else s
      let s := s.irq Pg.CTK Irq.CTK_OPENED
      if s.snare then s
      else if o.toReady then { (s.setSvc .ready) with svc := { s.svc with state := .ready, stopCause := none } }
      else if s.svc.state = .stopping then { s with svc := { s.svc with state := .connected, stopCause := none } }
      else s
    else s

/-- Zero current reached, or its time over: the main and precharge pairs open, then the branch pairs (R392). -/
def State.openingGo (s : State) : State :=
  match s.ctk.opening with
  | none => s
  | some o =>
    let s := if o.mains then (s.openPair 8).openPair 9 else s
    ({ s with ctk := { s.ctk with opening := some { o with waitZero := false } } }).advanceOpening

/-! ### Faults -/

/-- A code's field in FLT_STAND (FLT page). -/
def standField (c : Nat) : RegField := ⟨Reg.FLT_STAND (c / 16), 2 * (c % 16), 2⟩

/-- A code's field in FLT_CLASS. -/
def classField (c : Nat) : RegField := ⟨Reg.FLT_CLASS (c / 16), 2 * (c % 16), 2⟩

/-- A code's field in FLT_HCLASS. -/
def hclassField (c : Nat) : RegField := ⟨Reg.FLT_HCLASS (c / 16), 2 * (c % 16), 2⟩

/-- Standing state of a code: 0 NONE, 1 ACTIVE, 2 LATCHED. -/
def State.standing (s : State) (c : Nat) : Nat := s.get (standField c)

/-- Set a code's standing state, with the counts of FLT_NSTAND. -/
def State.setStanding (s : State) (c v : Nat) : State :=
  let old := s.standing c
  let f : Nat → RegField := fun x => if x = 1 then Fld.FLT_NSTAND_ACTIVE else Fld.FLT_NSTAND_LATCHED
  let s := if old = 1 ∨ old = 2 then s.put (f old) (s.get (f old) - 1) else s
  let s := if v = 1 ∨ v = 2 then s.bump (f v) else s
  s.put (standField c) v

/-- Scope of a raised fault: none for string scope, a branch for branch scope (R409). -/
def faultBranch (code inst : Nat) : Option Nat :=
  match (faultRow code).map FaultRow.scope with
  | some .branch => some (inst % 8)
  | some .pair => if inst < 8 then some inst else none
  | _ => none

/-- The class in which a raise is handled (R402): A while FLT is disabled, D for a masked Snare source, FLT_CLASS
otherwise. -/
def State.handledClass (s : State) (code : Nat) (masked : Bool) : Nat :=
  if !s.ens Pg.FLT then 0 else if masked then 3 else s.get (classField code)

/-- A FAULT record (R403, R609). -/
def State.faultRec (s : State) (page code cls st inst value : Nat) : State :=
  s.raiseRec ⟨6 - cls, 1, page, code,
    beBytes 1 cls ++ beBytes 1 st ++ beBytes 2 inst ++ beBytes 4 value ++ beBytes 8 s.nowNat, none⟩

/-- Class C, string scope (R403, R404): a controlled stop while running, then the controlled opening of every pair; a
stop that finds Snare active proceeds at once to its opening. -/
def State.reactC (s : State) : State :=
  let s1 := s.setOn Fld.FLT_INFORCE_STOP true
  if s.svc.state = .running ∨ s.svc.state = .stopping then
    { s1 with svc := { s1.svc with state := .stopping, stopCause := some .classC, startDone := false }
              pwm := { s1.pwm with starting := false, waitValley := false } }
  else if s.on Fld.FLT_INFORCE_OPENALL then s1
  else if s.ctk.commanded = 0 then s1
  else (s1.setOn Fld.FLT_INFORCE_OPENALL true).beginOpening s.drivenBranches true (!s.snare)

/-- Class C, branch scope (R403): the stop, then the opening of that branch pair only; when no other branch is
joined, of the main pair as well (R22). -/
def State.reactCBranch (s : State) (b : Nat) : State :=
  let s1 := (s.setOn Fld.FLT_INFORCE_STOP true).setBit Reg.FLT_INFORCE (8 + b) true
  if s.svc.state = .running ∨ s.svc.state = .stopping then
    let c := if s.svc.stopCause = some .cat1 ∨ s.svc.stopCause = some .classC then s.svc.stopCause else some .classCBranch
    { s1 with svc := { s1.svc with state := .stopping, stopCause := c, startDone := false }
              pwm := { s1.pwm with starting := false, waitValley := false } }
  else if !s.pairDriven b then s1
  else
    let last := s.drivenBranches == 2 ^ b
    s1.beginOpening (2 ^ b) last (last && !s.snare)

/-- Carry out the reaction of a fault's class, leaving out what is already in force (R403 to R405); the second part
tells of a start that Snare ended. -/
def State.react (s : State) (i : FaultItem) : State × Bool :=
  if i.cls = 0 then
    let x := (s.setOn Fld.FLT_INFORCE_SNARE true).snareAssert 0x1F
    ((x.1.setOn Fld.FLT_INFORCE_OPENALL true).openAllNow, x.2)
  else if i.cls = 1 then (s.setOn Fld.FLT_INFORCE_SNARE true).snareAssert 0x1F
  else if i.cls = 2 then
    match faultBranch i.code i.inst with
    | none => (s.reactC, false)
    | some b => (s.reactCBranch b, false)
  else (s, false)

/-- FLT_STATE follows the queue and the fault being handled. -/
def State.fltShow (s : State) : State :=
  let s := s.put Fld.FLT_STATE_QDEPTH s.flt.queue.length
  match s.flt.handling with
  | none => (s.put Fld.FLT_STATE_HANDLING 0).put Fld.FLT_STATE_HCLASS 0
  | some i => (s.put Fld.FLT_STATE_HANDLING i.code).put Fld.FLT_STATE_HCLASS i.cls

/-- Handle a fault: its reaction is carried out (R403). -/
def State.handle (s : State) (i : FaultItem) : State × Bool :=
  let x := ({ s with flt := { s.flt with handling := some i } }).react i
  (x.1.fltShow, x.2)

/-- A fault storm starts (R407): the class A reaction, STORM, and FAULT_STORM turns ACTIVE without a record of its own. -/
def State.startStorm (s : State) (code : Nat) : State × Bool :=
  let s := (s.setOn Fld.FLT_STATE_STORM true).irq Pg.FLT Irq.FLT_STORM
  let s := ((s.put Fld.FLT_STORM_COUNT 1).put Fld.FLT_STORM_FIRST code).put Fld.FLT_STORM_LAST code
  let s := (s.setStanding Flt.FAULT_STORM 1).put (hclassField Flt.FAULT_STORM) 0
  s.react ⟨Flt.FAULT_STORM, 0, 0, Pg.FLT⟩

/-- The queue's part of a raise: handled at once, pre-empting, queued, or the start of a storm (R405 to R407). -/
def State.queueFault (s : State) (i : FaultItem) : State × Bool :=
  match s.flt.handling with
  | none => s.handle i
  | some h =>
    if s.flt.queue.length ≥ 16 then s.startStorm i.code
    else if i.cls < h.cls then
      (({ s with flt := { s.flt with queue := h :: s.flt.queue } }).irq Pg.FLT Irq.FLT_PREEMPT).handle i
    else (({ s with flt := { s.flt with queue := s.flt.queue ++ [i] } }).fltShow, false)

/-- A code that stands ACTIVE already: a new instance still appears in the records (R400). -/
def State.raiseAgain (s : State) (page code inst value : Nat) : State :=
  if s.flt.instances.contains (code, inst) then s else
  let s := { s with flt := { s.flt with instances := (code, inst) :: s.flt.instances } }
  if s.on Fld.FLT_STATE_STORM then s else s.faultRec page code (s.get (hclassField code)) 1 inst value

/-- What FLT_STAND, FLT_HCLASS and the FLT_LAST registers take from a raise (R400, R402). -/
def State.noteRaise (s : State) (code inst value cls : Nat) : State :=
  let s := (s.setStanding code 1).put (hclassField code) cls
  let s := { s with flt := { s.flt with instances :=
    (code, inst) :: s.flt.instances.filter (fun x => x.1 != code) } }
  let s := ((s.put Fld.FLT_LAST_CODE code).put Fld.FLT_LAST_CLASS cls).put Fld.FLT_LAST_INST inst
  ((s.wr Reg.FLT_LASTVAL value).wr64 Reg.FLT_LASTTIME s.nowNat).irq Pg.FLT Irq.FLT_RAISED

/-- Raise a fault (R400, R403 to R408); the second part tells of a start that Snare ended. -/
def State.raiseOne (s : State) (page code inst value : Nat) (masked : Bool) : State × Bool :=
  if s.standing code = 1 then (s.raiseAgain page code inst value, false) else
  let cls := s.handledClass code masked
  let s := s.noteRaise code inst value cls
  if s.on Fld.FLT_STATE_STORM then
    ((s.bump Fld.FLT_STORM_COUNT).put Fld.FLT_STORM_LAST code, false)
  else
    let s := s.faultRec page code cls 1 inst value
    let s := if cls = 0 && s.on Fld.EVR_CFG_AUTOFRZ then s.beginFreeze .firmware else s
    s.queueFault ⟨code, inst, cls, page⟩

/-- Mark a code as an event code of the present cycle (R731). -/
def State.markEvent (s : State) (code : Nat) : State :=
  if s.standing code = 1 ∧ ¬ s.flt.eventCodes.contains code then
    { s with flt := { s.flt with eventCodes := code :: s.flt.eventCodes } }
  else s

/-- A start that Snare ended raises CONV_START_FAIL (R288). -/
def State.afterTrip (x : State × Bool) : State :=
  if x.2 then ((x.1.raiseOne Pg.PWM Flt.CONV_START_FAIL 6 0 false).1).markEvent Flt.CONV_START_FAIL else x.1

/-- Raise a fault whose condition lasts (R400). -/
def State.fault (s : State) (page code inst : Nat) (value : Word := 0) (masked : Bool := false) : State :=
  State.afterTrip (s.raiseOne page code inst value.toNat masked)

/-- Raise a fault whose condition is an event (R731). -/
def State.faultEvent (s : State) (page code inst : Nat) (value : Word := 0) : State :=
  (s.fault page code inst value).markEvent code

/-- A Snare source asserts, unmasked (R377), with the failed start it may end. -/
def State.snareBy (s : State) (src : Nat) : State := State.afterTrip (s.snareAssert src)

/-- A code's condition has ended: ACTIVE turns LATCHED, with a record (R400, R609). -/
def State.latchFault (s : State) (page code : Nat) : State :=
  if s.standing code = 1 then
    let s := s.setStanding code 2
    if s.on Fld.FLT_STATE_STORM then s else s.faultRec page code (s.get (hclassField code)) 2 0 0
  else s

/-- One instance of a code has ended; the code turns LATCHED when it was the last. -/
def State.endInstance (s : State) (page code inst : Nat) : State :=
  let left := s.flt.instances.filter (fun x => !(x.1 == code && x.2 == inst))
  if left.any (fun x => x.1 == code) then { s with flt := { s.flt with instances := left } }
  else s.latchFault page code

/-- A LATCHED code returns to NONE (R401); a digital row's LATCH clears with it. -/
def State.clearFault (s : State) (code : Nat) : State :=
  if s.standing code = 2 then
    let s := (s.setStanding code 0).faultRec Pg.FLT code (s.get (hclassField code)) 3 0 0
    let s := { s with flt := { s.flt with instances := s.flt.instances.filter (fun x => x.1 != code) } }
    if 0x10 ≤ code ∧ code ≤ 0x15 then s.setOn (Fld.PRT_DLSTAT_LATCH (code - 0x10)) false else s
  else s

/-- Every LATCHED code but CTK_WELD returns to NONE (R401). -/
def State.clearLatched (s : State) : State :=
  s.each 256 (fun s c => if c = Flt.CTK_WELD then s else s.clearFault c)

/-- Some fault that is not branch-scoped stands with handled class A, B or C (R402). -/
def State.standingBars (s : State) : Bool :=
  (List.range 256).any (fun c => s.standing c != 0 && s.get (hclassField c) ≤ 2 &&
    (s.flt.instances.any (fun x => x.1 == c && (faultBranch c x.2).isNone) ||
      !s.flt.instances.any (fun x => x.1 == c)))

/-- A branch-scoped fault of branch `b` stands (R390, R402). -/
def State.branchBarred (s : State) (b : Nat) : Bool :=
  s.flt.instances.any (fun x => s.standing x.1 != 0 && faultBranch x.1 x.2 == some b)

end Sys2Proof.Machine
end

