-- ==== Sys2Proof/Machine/Queue.lean ====
section
/-! DEFINITION. The telemetry queues (R145 to R155): reservation, commit, reading, flushing and their registers. -/

namespace Sys2Proof.Machine

/-- Hidden state of ring `r`. -/
def State.ring (s : State) (r : Nat) : RingState := (s.rings[r]?).getD ringReset

/-- Change the hidden state of ring `r`. -/
def State.modRing (s : State) (r : Nat) (f : RingState → RingState) : State := { s with rings := updAt s.rings r f }

/-- Hidden state of queue `q`. -/
def State.que (s : State) (q : Nat) : QueueState := (s.tel.queues[q]?).getD queueReset

/-- Change the hidden state of queue `q`. -/
def State.modQue (s : State) (q : Nat) (f : QueueState → QueueState) : State :=
  { s with tel := { s.tel with queues := updAt s.tel.queues q f } }

/-- Words of the committed packets, the one being read among them (R150, R151). -/
def QueueState.committed (q : QueueState) : Nat :=
  (q.packets.map (fun p => p.words.length)).sum + (q.reading.map (fun x => x.1.words.length)).getD 0

/-- Words reserved by the issued requests of queue `q` (R147). -/
def State.resvWords (s : State) (q : Nat) : Nat := ((s.ring q).txns.map RingTxn.resv).sum

/-- FREE of queue `q` (R150). -/
def State.freeWords (s : State) (q : Nat) : Nat := 8192 - s.resvWords q - (s.que q).committed

/-- The oldest committed packet of the lowest-numbered non-empty class (R151). -/
def QueueState.next (q : QueueState) : Option Packet :=
  (q.packets.find? (fun p => p.cls == 0)).orElse fun _ =>
  (q.packets.find? (fun p => p.cls == 1)).orElse fun _ =>
  (q.packets.find? (fun p => p.cls == 2)).orElse fun _ => q.packets.head?

/-- FILL, FREE and PEEK follow the queue; once a packet's reading has begun, PEEK shows header word 0 of that packet (R150, R151;
DESIGN CHOICE, log 12). -/
def State.queShow (s : State) (q : Nat) : State :=
  let x := s.que q
  let s := (s.put (Fld.SRQ_QFILL_COMMITTED q) x.committed).put (Fld.SRQ_QFILL_RESV q) (s.resvWords q)
  let s := s.put (Fld.SRQ_QFREE_FREE q) (s.freeWords q)
  let s := s.put (Fld.SRQ_QFREE_NPKT q) (x.packets.length + bitNat x.reading.isSome)
  let w : Word := match x.reading with
    | some (p, _) => p.words.headD 0
    | none => (x.next.map (fun p => p.words.headD 0)).getD 0
  s.setWord (Reg.SRQ_QPEEK q) w

/-- Payload bytes padded with zeros to whole words (R146). -/
def packWords : Nat → List Byte → List Word
  | 0, _ => []
  | n + 1, l => BitVec.ofNat 32 (beAt l 0 4) :: packWords n (l.drop 4)

/-- Header word 0 of a packet (R146). -/
def packetHead (cls kind pos : Nat) (gap : Bool) (seq lenb : Nat) : Word :=
  BitVec.ofNat 32 (cls * 2 ^ 30 + kind * 2 ^ 26 + pos % 64 * 2 ^ 20 + bitNat gap * 2 ^ 19 + seq % 256 * 2 ^ 11 + lenb % 2048)

/-- A packet is committed, and LEVEL tested (R149, R154); the first scan packet after a skip carries GAP (R148). -/
def State.commitPacket (s : State) (q cls kind pos seq time : Nat) (payload : List Byte) : State :=
  if !s.ens Pg.SRQ then s else
  let gap := cls = 2 && (s.que q).gap
  let words := packetHead cls kind pos gap seq payload.length :: BitVec.ofNat 32 (time / 2 ^ 32) ::
    BitVec.ofNat 32 time :: packWords ((payload.length + 3) / 4) payload
  let before := (s.que q).committed
  let s := s.modQue q (fun x => { x with packets := x.packets ++ [⟨cls, words⟩], gap := x.gap && !gap })
  let level := s.get (Fld.SRQ_QLEVEL_LEVEL q)
  let s := if level ≠ 0 ∧ before < level ∧ level ≤ (s.que q).committed then s.irq Pg.SRQ (Irq.SRQ_LEVEL + q) else s
  s.queShow q

/-- A read of SRQ_QqDATA by its reader: the next word; the last word removes the packet (R151). -/
def State.queueRead (s : State) (q : Nat) : Word × State :=
  let x := s.que q
  let cur : Option (Packet × Nat × List Packet) := match x.reading with
    | some (p, k) => some (p, k, x.packets)
    | none => x.next.map (fun p => (p, 0, x.packets.erase p))
  match cur with
  | none => (0, s)
  | some (p, k, rest) =>
    let left := if k + 1 < p.words.length then some (p, k + 1) else none
    (p.words.getD k 0, (s.modQue q (fun x => { x with packets := rest, reading := left })).queShow q)

/-- The flush acts at a packet boundary on the write side (R153). -/
def State.flushQueue (s : State) (q : Nat) : State :=
  let x := s.que q
  let gone := (x.packets.filter (fun p => bitOf x.flush p.cls)).length
  let s := s.modQue q (fun x => { x with packets := x.packets.filter (fun p => !bitOf x.flush p.cls), flush := 0 })
  (s.bumpBy (Fld.SRQ_QCNT_FLUSHED q) gone).queShow q

/-- Queues emptied, reservations returned, counts cleared but for the saturating counters (R155). -/
def State.emptyQueues (s : State) : State :=
  s.each 4 (fun s q =>
    ((s.modQue q (fun _ => queueReset)).modRing q (fun g => { g with
      txns := g.txns.map (fun t => { t with resv := 0 }), stalled := [] })).queShow q)

end Sys2Proof.Machine
end

