-- ==== Sys2Proof/Machine/Ring.lean ====
section
/-! DEFINITION. The sense rings (R66 to R121): requests, tags and retries, enumeration, re-forming, healing, isolation,
position checks and misbehaving partners. -/

namespace Sys2Proof.Machine

/-! ### Ring fields -/

/-- MODE of ring `r` (R118). -/
def State.mode (s : State) (r : Nat) : Nat := s.get (Fld.SR_STATE_MODE r)

/-- Supervisors configured on ring `r`. -/
def State.nsup (s : State) (r : Nat) : Nat := s.get (Fld.SR_CFG_NSUP r)

/-- The ring is in RING, HALVES or DEGRADED. -/
def State.inService (s : State) (r : Nat) : Bool := s.mode r == 3 || s.mode r == 5 || s.mode r == 7

/-- Position `p` is reachable. -/
def State.reach (s : State) (r p : Nat) : Bool := 1 ≤ p && s.bit (Reg.SR_REACH r) (p - 1)

/-- Position `p` is quarantined. -/
def State.quar (s : State) (r p : Nat) : Bool := 1 ≤ p && s.bit (Reg.SR_QUAR r) (p - 1)

/-- Position `p` is in service: reachable and not quarantined (R98). -/
def State.posIn (s : State) (r p : Nat) : Bool := s.reach r p && !s.quar r p

/-- Positions 1 to NSUP that satisfy a test. -/
def State.positions (s : State) (r : Nat) (f : Nat → Bool) : List Nat :=
  ((List.range (s.nsup r)).map (· + 1)).filter f

/-- Mask of a list of positions. -/
def posMask (l : List Nat) : Nat := maskOf 32 (fun k => l.contains (k + 1))

/-- Instance of a ring fault: 64 x ring + position, position 0 for the ring (log 23). -/
def ringInst (r p : Nat) : Nat := 64 * r + p

/-- TAGS shows the pool (R87). -/
def State.tagShow (s : State) (r : Nat) : State :=
  (s.put (Fld.SR_TAGS_FREE r) (s.ring r).free.length).put (Fld.SR_TAGS_ISSUED r) (s.ring r).txns.length

/-! ### Requests -/

/-- Order of issue on a port (R128); the ring unit's own procedures come first. -/
def Purpose.order : Purpose → Nat
  | .alarm => 1
  | .scan => 2
  | .phasor _ => 3
  | .temp => 4
  | .firmware => 5
  | .wait => 5
  | _ => 0

/-- Queue class of a purpose whose response passes through the queue (R145). -/
def Purpose.cls : Purpose → Option Nat
  | .alarm => some 0
  | .phasor _ => some 1
  | .scan => some 2
  | .temp => some 2
  | .firmware => some 3
  | _ => none

/-- Insert behind every request of the same or an earlier order. -/
def insertReq (q : RingReq) : List RingReq → List RingReq
  | [] => [q]
  | a :: t => if q.purpose.order < a.purpose.order then q :: a :: t else a :: insertReq q t

/-- A request waits for a tag. -/
def State.enqueue (s : State) (r : Nat) (q : RingReq) : State :=
  s.modRing r (fun g => { g with waiting := insertReq q g.waiting })

/-- A new request, with the repeats of R90. -/
def State.request (s : State) (r : Nat) (why : Purpose) (kind dst : Nat) (route : Option (Bool × Nat))
    (payload : List Byte) (expect : Nat) : State :=
  s.enqueue r ⟨why, kind, dst, route, payload, expect, s.get (Fld.SR_RETRY_N r)⟩

/-- Port and HALF by which position `p` is reached in the present mode: true for the south port. -/
def State.routeTo (s : State) (r p : Nat) : Bool × Nat :=
  if s.mode r = 3 then (false, 0)
  else if p ≤ s.get (Fld.SR_BREAK_NORTHEND r) then (false, 1) else (true, 2)

/-- Bytes of a request between SOF and EOF: its header with RSP, ERR, the reserved bits and SRC 0, its payload, and the check, most
significant byte first (R77, R79). -/
def RingReq.frame (q : RingReq) (half tag epoch : Nat) : List Byte :=
  let b := [BitVec.ofNat 8 (q.kind * 16), BitVec.ofNat 8 (tag * 16 + epoch * 4 + half), BitVec.ofNat 8 q.dst, 0] ++
    beBytes 2 q.payload.length ++ q.payload
  b ++ beBytes 2 (crc16 0xFFFF b).toNat

/-- Reply slot of a request in characters: the expected response with its 10 characters and 4 more; a broadcast has IDLE only
(R82). -/
def RingReq.slot (q : RingReq) : Nat := if q.dst = 0xFF then 0 else q.expect + 14

/-- A standby of twins that share their rings listens on a ring: it accepts reports and transmits nothing, but where it
runs the far half as delegate (R602). -/
def State.listens (s : State) (r : Nat) : Bool :=
  s.ens Pg.TWN && s.on Fld.TWN_CFG_RINGSPLIT && !s.on Fld.TWN_STATE_OWNOUT && !bitOf s.twn.delegates r

/-- Issue a request under the next free tag (R86); a listener issues none (R602). -/
def State.issue (s : State) (r : Nat) (q : RingReq) (resv : Nat) : State :=
  if s.listens r then s else
  match (s.ring r).free with
  | [] => s
  | t :: rest =>
    let way := q.route.getD (s.routeTo r q.dst)
    let s := s.modRing r (fun g => { g with free := rest, txns := g.txns ++ [⟨t, q, way.1, way.2, resv, s.tim.mono⟩] })
    let muted := if way.1 then (s.ring r).mutedS else (s.ring r).mutedN
    let s := if muted then s else
      s.emit (.ring r (if way.1 then .south else .north) (q.frame way.2 t (s.get (Fld.SR_STATE_EPOCH r))) q.slot)
    (s.tagShow r).queShow r

/-- Words to reserve for a request (R147). -/
def RingReq.need (q : RingReq) : Nat := 3 + (q.expect + 3) / 4

/-- Words a class may still reserve (R147). -/
def State.roomFor (s : State) (r cls : Nat) : Nat :=
  s.freeWords r - (if cls = 0 then 0 else s.get (Fld.SRQ_QCFG_ALMRES r))

/-- A request that Chime or the firmware makes of a supervisor: none goes to a position out of service (R98). -/
def Purpose.ofService : Purpose → Bool
  | .phasor _ => true
  | .firmware => true
  | _ => false

/-- A waiting request is still wanted: its position serves it, or for a collection is reachable (R98, R128). -/
def State.wanted (s : State) (r : Nat) (q : RingReq) : Bool :=
  if q.purpose.ofService then s.posIn r q.dst
  else match q.purpose with
    | .scan => s.ens Pg.SRQ && s.reach r q.dst
    | .temp => s.ens Pg.SRQ && s.reach r q.dst
    | _ => true

/-- The next waiting request to issue: the first of the port with the fewer transactions on their way, so that two halves are
served side by side (R128; DESIGN CHOICE log 12: the pool has one count for both); the requests of R128 wait while the ring is
out of service (R106). -/
def State.nextReq (s : State) (r : Nat) : Option RingReq :=
  let may := (s.ring r).waiting.filter (fun q => q.purpose.order == 0 || s.inService r)
  let way := fun (q : RingReq) => (q.route.getD (s.routeTo r q.dst)).1
  let busy := fun (b : Bool) => ((s.ring r).txns.filter (fun t => t.south == b)).length
  let first := fun (b : Bool) => may.find? (fun q => way q == b)
  let b := decide (busy true < busy false)
  (first b).orElse (fun _ => first (!b))

/-- Issue waiting requests while tags are free; one that is no longer wanted is dropped, and one that cannot reserve queue space
waits without a tag, but for scan requests, which go out without a reservation (R98, R147, R148). While SRQ is disabled nothing
is reserved (R155). -/
def State.pump (s : State) (r : Nat) : Nat → State
  | 0 => s
  | n + 1 =>
    match s.nextReq r, (s.ring r).free with
    | some q, _ :: _ =>
      let s := s.modRing r (fun g => { g with waiting := g.waiting.erase q })
      if !s.wanted r q then s.pump r n else
      match q.purpose.cls with
      | none => (s.issue r q 0).pump r n
      | some c =>
        if !s.ens Pg.SRQ then (s.issue r q 0).pump r n
        else if q.need ≤ s.roomFor r c then (s.issue r q q.need).pump r n
        else if c = 2 then (s.issue r q 0).pump r n
        else ((s.modRing r (fun g => { g with stalled := g.stalled ++ [q] })).bump ⟨Reg.SRQ_QSTALL, 8 * r, 8⟩).pump r n
    | _, _ => s

/-- Issue what can be issued. -/
def State.flow (s : State) (r : Nat) : State := s.pump r ((s.ring r).waiting.length)

/-- READ of a supervisor address for the firmware (R80). -/
def State.ringRead (s : State) (r p addr count : Nat) : State :=
  if s.posIn r p then (s.request r .firmware 4 p none (beBytes 2 addr ++ beBytes 2 count) count).flow r else s

/-- WRITE of supervisor addresses for the firmware (R80). -/
def State.ringWrite (s : State) (r p addr : Nat) (data : List Byte) : State :=
  if s.posIn r p then (s.request r .firmware 5 p none (beBytes 2 addr ++ data) 0).flow r else s

/-- Responses that the epoch change cuts off are rewound: how many of the reserved ones were arriving is a free value (R149;
log 12). -/
def State.cutOff (s : State) (r : Nat) : State :=
  let n := ((s.ring r).txns.filter (fun t => t.resv != 0)).length
  if n = 0 then s else
  let x := s.drawWord
  x.2.bumpBy (Fld.SRQ_QCNT_REWIND r) (x.1.toNat % (n + 1))

/-- The epoch increments and every issued tag returns to the pool, with its reservation (R86, R149). -/
def State.newEpoch (s : State) (r : Nat) : State :=
  let s := (s.cutOff r).put (Fld.SR_STATE_EPOCH r) (s.get (Fld.SR_STATE_EPOCH r) + 1)
  let s := s.modRing r (fun g => { g with free := g.free ++ g.txns.map RingTxn.tag, txns := [] })
  (s.tagShow r).queShow r

/-- A request that outlasts a re-forming or healing: not those of a procedure, nor a SAMPLE_WAIT of the old mode. -/
def RingReq.lasts (q : RingReq) : Bool := q.purpose.order != 0 && q.purpose != .wait

/-- Requests of a procedure end with it, and SAMPLE_WAITs with their mode; those of R128, on their way at the epoch change or
waiting, wait for service (R106, R109). -/
def State.keepRequests (s : State) (r : Nat) : State :=
  let g := s.ring r
  let sent := g.txns.map RingTxn.req
  let lost := ((sent ++ g.waiting ++ g.backoff).filter (fun q => q.purpose == .wait)).map RingReq.dst
  let s := s.modRing r (fun g => { g with
    waiting := g.waiting.filter RingReq.lasts, backoff := g.backoff.filter RingReq.lasts
    waits := g.waits.filter (fun w => !lost.contains w.1) })
  (sent.filter RingReq.lasts).foldl (fun (s : State) q => s.enqueue r q) s

/-- Remove an issued tag; it returns to the pool. -/
def State.retire (s : State) (r tag : Nat) : State :=
  let s := s.modRing r (fun g => { g with free := g.free ++ [tag], txns := g.txns.filter (fun t => t.tag != tag) })
  (s.tagShow r).queShow r

/-! ### Identity and quarantine -/

/-- Enumerated unique ID of a position. -/
def State.uidAt (s : State) (r p : Nat) : Nat := s.rd64 (Reg.SR_SEEN r (2 * (p - 1)))

/-- Roster entry of a position. -/
def State.rosterAt (s : State) (r p : Nat) : Nat := s.rd64 (Reg.SR_ROSTER r (2 * (p - 1)))

/-- Position `p` has been enumerated. -/
def State.enumerated (s : State) (r p : Nat) : Bool := 1 ≤ p && bitOf (s.ring r).seen (p - 1)

/-- Record the identity block of a position in SEEN and PINFO (R93, R115). -/
def State.noteIdentity (s : State) (r p : Nat) (b : List Byte) : State :=
  let s := s.wr64 (Reg.SR_SEEN r (2 * (p - 1))) (beAt b 0 8)
  let s := s.put (Fld.SR_PINFO_IFREV r (p - 1)) (beAt b 10 1 % 16 * 16 + beAt b 11 1 % 16)
  let s := (s.put (Fld.SR_PINFO_CELLS r (p - 1)) (beAt b 12 1)).put (Fld.SR_PINFO_TEMPS r (p - 1)) (beAt b 13 1)
  let bad := beAt b 8 2 / 4096 ≠ 1 ∨ beAt b 10 1 ≠ 1
  s.modRing r (fun g => { g with seen := putBit g.seen (p - 1) true, badClass := putBit g.badClass (p - 1) (decide bad) })

/-- The unique ID equals that of another enumerated position of any ring, and is not the position's own roster entry
(R96, R97). -/
def State.duplicate (s : State) (r p : Nat) : Bool :=
  s.uidAt r p != s.rosterAt r p &&
  (List.range 4).any (fun r' => (s.positions r' (s.enumerated r')).any (fun p' =>
    (r' != r || p' != p) && s.uidAt r' p' == s.uidAt r p))

/-- Why a position fails the checks of R96, R101 and R117, the lowest code first (log 23), a unique ID that no longer is the
enumerated one like one that is not the roster's (R107); 0 for none. -/
def State.causeOf (s : State) (r p : Nat) : Nat :=
  if (s.on (Fld.SR_CFG_ROSTEREN r) && s.uidAt r p != s.rosterAt r p) || bitOf (s.ring r).mism (p - 1) then 1
  else if s.duplicate r p then 2
  else if bitOf (s.ring r).badClass (p - 1) then 3
  else if s.get (Fld.SR_PINFO_CELLS r (p - 1)) ≠ s.get (Fld.SR_PMAP_CELLS r (p - 1)) then 4
  else 0

/-- Quarantine a position with its cause. -/
def State.quarantine (s : State) (r p cause : Nat) : State :=
  if s.quar r p then s else
  let s := (s.setBit (Reg.SR_QUAR r) (p - 1) true).put (Fld.SR_PINFO_CAUSE r (p - 1)) cause
  (s.put (Fld.SR_STATE_NQUAR r) (popCount 32 (s.rd (Reg.SR_QUAR r)))).irq (Pg.SR r) Irq.SR_QUARANTINE

/-- A position leaves quarantine. -/
def State.unquarantine (s : State) (r p : Nat) : State :=
  let s := if s.bit (Reg.SR_QUAR r) (p - 1) then s.modRing r (fun g => { g with fresh := g.fresh ++ [(p, false)] }) else s
  let s := (s.setBit (Reg.SR_QUAR r) (p - 1) false).put (Fld.SR_PINFO_CAUSE r (p - 1)) 0
  s.put (Fld.SR_STATE_NQUAR r) (popCount 32 (s.rd (Reg.SR_QUAR r)))

/-- First entry index of a position's cells (R156). -/
def State.firstCell (s : State) (r p : Nat) : Nat :=
  s.get (Fld.SR_PMAP_BRANCH r (p - 1)) * 384 + s.get (Fld.SR_PMAP_FIRST r (p - 1))

/-- Cells of a position by its map. -/
def State.cellsOf (s : State) (r p : Nat) : Nat := s.get (Fld.SR_PMAP_CELLS r (p - 1))

/-- Every position in service, with its ring. -/
def State.allPositions (s : State) : List (Nat × Nat) :=
  (List.range 4).flatMap (fun r => (s.positions r (s.posIn r)).map (fun p => (r, p)))

/-- A position's map conflicts: it runs past the branch, or shares an entry with another in-service position (R102). -/
def State.mapConflict (s : State) (r p : Nat) : Bool :=
  s.get (Fld.SR_PMAP_FIRST r (p - 1)) + s.cellsOf r p > 384 ||
  s.allPositions.any (fun x => (x.1 != r || x.2 != p) &&
    decide (s.firstCell r p < s.firstCell x.1 x.2 + s.cellsOf x.1 x.2) &&
    decide (s.firstCell x.1 x.2 < s.firstCell r p + s.cellsOf r p))

/-- The map check of R102 over every ring. -/
def State.checkMaps (s : State) : State :=
  let bad := s.allPositions.filter (fun x => s.mapConflict x.1 x.2)
  bad.foldl (fun s x => (s.quarantine x.1 x.2 6).faultEvent (Pg.SR x.1) Flt.MAP_CONFLICT (ringInst x.1 x.2)) s

/-- The checks of R96, R97, R101 and R102 after ring `r` has read its identities: its own positions afresh but for
isolated ones, those of the other rings for a duplicate. -/
def State.checkPositions (s : State) (r : Nat) : State :=
  let own := s.positions r (fun p => s.enumerated r p && s.get (Fld.SR_PINFO_CAUSE r (p - 1)) != 5)
  let causes := own.map (fun p => (p, s.causeOf r p))
  let s := causes.foldl (fun s x => if x.2 = 0 then s.unquarantine r x.1 else (s.unquarantine r x.1).quarantine r x.1 x.2) s
  let others := (List.range 4).flatMap (fun r' => (s.positions r' (fun p => s.posIn r' p && s.duplicate r' p)).map (fun p => (r', p)))
  (others.foldl (fun s x => s.quarantine x.1 x.2 2) s).checkMaps

/-! ### Modes -/

/-- Enter a mode; a change clears the ring's calibration (R136), ENUMERATING, REFORMING and HEALING mark the running Chime window
(R187), and a ring that leaves DEGRADED is no longer split. -/
def State.enterMode (s : State) (r m : Nat) : State :=
  let old := s.mode r
  let s := s.put (Fld.SR_STATE_MODE r) m
  let s := if m = 2 ∨ m = 4 ∨ m = 6 then s.chmNote (.ring r) 3 else s
  let s := if old = m then s else
    (s.setBit Reg.SRQ_SCANSTAT (24 + r) false).modRing r (fun g => { g with calPorts := 0, calWrites := 0, calLaunch := none })
  if old = 7 && m ≠ 7 then s.endInstance (Pg.SR r) Flt.RING_SPLIT (ringInst r 0) else s

/-- REACH and its count. -/
def State.setReach (s : State) (r mask : Nat) : State :=
  (s.wr (Reg.SR_REACH r) mask).put (Fld.SR_STATE_NREACH r) (popCount 32 mask)

/-- BREAK of a ring. -/
def State.setBreak (s : State) (r north south : Nat) : State :=
  ((s.setOn (Fld.SR_BREAK_VALID r) true).put (Fld.SR_BREAK_NORTHEND r) north).put (Fld.SR_BREAK_SOUTHEND r) south

/-- A request of a purpose to a position is under way. -/
def State.asking (s : State) (r : Nat) (why : Purpose) (p : Nat) : Bool :=
  let g := s.ring r
  (g.waiting ++ g.backoff ++ g.stalled ++ g.txns.map RingTxn.req).any (fun q => q.purpose == why && q.dst == p)

/-- HALVES, or DEGRADED when more than one position is out of reach, with RING_SPLIT (R108). -/
def State.enterHalves (s : State) (r north south : Nat) : State :=
  let s := s.setBreak r north south
  if south - north ≤ 2 then s.enterMode r 5
  else (s.enterMode r 7).fault (Pg.SR r) Flt.RING_SPLIT (ringInst r 0)

/-- Reports of the running scan and temperature scan that the ring has not delivered are asked for, again after a re-forming
(R109, R128, R131). -/
def State.recollect (s : State) (r : Nat) : State :=
  let scan := if s.tel.scanColl then (s.ring r).scanDue.filter (fun p => s.reach r p && !s.asking r .scan p) else []
  let temp := if s.tel.tempColl then (s.ring r).tempDue.filter (fun p => s.reach r p && !s.asking r .temp p) else []
  let s := scan.foldl (fun s p => s.request r .scan 6 p none [] (8 + 2 * s.cellsOf r p)) s
  temp.foldl (fun s p => s.request r .temp 7 p none [] (6 + 2 * s.get (Fld.SR_PINFO_TEMPS r (p - 1)))) s

/-! ### Enumeration -/

/-- Ask for position `p` from the north, `q` from the south (R93). -/
def State.askNorth (s : State) (r p : Nat) : State := s.request r (.enumN p) 1 0xFE (some (false, 1)) (beBytes 1 p) 16

/-- ENUM from the south. -/
def State.askSouth (s : State) (r q lastNorth : Nat) : State :=
  s.request r (.enumS q lastNorth) 1 0xFE (some (true, 2)) (beBytes 1 q) 16

/-- RESET broadcasts from both ports (R93). -/
def State.resetRing (s : State) (r : Nat) : State :=
  (s.request r .reset 0xB 0xFF (some (false, 1)) [] 0).request r .reset 0xB 0xFF (some (true, 2)) [] 0

/-- RESET clears what the module has written to the supervisors of a ring (R114): no mask, no demodulation. -/
def State.supervisorsClear (s : State) (r : Nat) : State :=
  let gone := ((s.bal.masks.filter (fun x => x.1 / 32 == r)).flatMap (fun x => x.2.2))
  { s with bal := { s.bal with masks := s.bal.masks.filter (fun x => x.1 / 32 != r)
                               inForce := s.bal.inForce.filter (fun i => !gone.contains i) }
           chm := { s.chm with ctrl := s.chm.ctrl.filter (fun x => x.1 / 32 != r)
                               ctrlOn := s.chm.ctrlOn.filter (fun x => x.1 / 32 != r) } }

/-- Enumeration begins (R93); a listener sees the ring in RING with every configured position (R602; log 17). -/
def State.beginEnum (s : State) (r : Nat) : State :=
  let s := (s.newEpoch r).enterMode r 2
  let s := s.modRing r (fun g => { g with
    waiting := [], backoff := [], stalled := [], proc := .enumerating, through := false, folds := [], seen := 0,
    badClass := 0, healDue := false, alarmLeft := 0, scanDue := [], tempDue := [], waits := [], isolatedAt := none,
    broken := false, mism := 0, delays := [], scanBad := [] })
  let s := ((s.setReach r 0).wr (Reg.SR_QUAR r) 0).wr (Reg.SR_MISS r) 0
  let s := (s.put (Fld.SR_STATE_NQUAR r) 0).wr (Reg.SR_BREAK r) 0
  let s := s.each 64 (fun s k => s.wr (Reg.SR_SEEN r k) 0)
  let s := s.each 32 (fun s k => s.wr (Reg.SR_PINFO r k) 0)
  if s.listens r then (s.setReach r (2 ^ s.nsup r - 1)).enterMode r 3 else (((s.supervisorsClear r).resetRing r).askNorth r 1).flow r

/-- Cells of ring `r` marked stuck return to planning (R242). -/
def State.dropStuck (s : State) (r : Nat) : State :=
  let left := s.bal.stuck.filter (fun i => bitsOf (s.rd (0x20000 + 64 * i)) 22 2 != r)
  ({ s with bal := { s.bal with stuck := left } }).put Fld.BAL_LIMITED_NSTUCK left.length

/-- Enumeration ends with positions 1 to `north` and `south` to NSUP (R93, R96 to R102). DESIGN CHOICE (log 23): the value of
SUP_EXTRA, 4 bytes by R609, is bits [31:0] of the extra unique ID, which the ring keeps whole. -/
def State.endEnum (s : State) (r north south : Nat) (ring extra : Bool) (extraUid : Nat) : State :=
  let found := s.positions r (fun p => p ≤ north || south ≤ p)
  let miss := posMask (s.positions r (fun p => !(p ≤ north || south ≤ p)))
  let s := (s.setReach r (posMask found)).wr (Reg.SR_MISS r) miss
  let s := s.modRing r (fun g => { g with
    proc := .none, left := 0, lastNorth := north, firstSouth := south, extraUid := if extra then extraUid else 0
    fresh := found.map (fun p => (p, true)) })
  let s := if ring then s.enterMode r 3 else s.enterHalves r north south
  let s := if miss = 0 then s else
    (s.irq (Pg.SR r) Irq.SR_MISSING).faultEvent (Pg.SR r) Flt.SUP_MISSING (ringInst r 0) (BitVec.ofNat 32 miss)
  let s := s.setOn (Fld.SR_STATE_EXTRA r) extra
  let s := if extra then
    (s.irq (Pg.SR r) Irq.SR_EXTRA).faultEvent (Pg.SR r) Flt.SUP_EXTRA (ringInst r 0) (BitVec.ofNat 32 extraUid) else s
  (((s.checkPositions r).dropStuck r).irq (Pg.SR r) Irq.SR_ENUM_DONE)

/-- What an answer to an enumeration request, or its failure, leads to (R93, R100). -/
def State.enumStep (s : State) (r : Nat) (why : Purpose) (ok south : Bool) (b : List Byte) : State :=
  let n := s.nsup r
  match why with
  | .enumN p =>
    if ok then (s.noteIdentity r p b).request r (.openN p) 2 p (some (false, 1)) (beBytes 1 2) 0
    else s.askSouth r n (p - 1)
  | .openN p =>
    if p < n then s.askNorth r (p + 1) else s.request r .path 0xA n (some (false, 0)) [] 0
  | .path =>
    if ok && (south || (s.ring r).through) then s.endEnum r n (n + 1) true false 0
    else s.request r .probe 1 0xFE (some (true, 2)) (beBytes 1 0) 16
  | .probe =>
    if ok then s.endEnum r n (n + 1) false true (beAt b 0 8)
    else (s.endEnum r n (n + 1) false false 0).faultEvent (Pg.SR r) Flt.RING_BREAK (ringInst r 0)
      (BitVec.ofNat 32 (s.rd (Reg.SR_BREAK r)))
  | .enumS q ln =>
    if ok then (s.noteIdentity r q b).request r (.openS q ln) 2 q (some (true, 2)) (beBytes 1 1) 0
    else s.endEnum r ln (q + 1) false false 0
  | .openS q ln =>
    if ln + 1 < q then s.askSouth r (q - 1) ln else s.endEnum r ln q false false 0
  | _ => s

/-! ### Re-forming, healing, isolation -/

/-- Last position reachable from the north and first from the south, as the folds and the ports show (R106). -/
def State.halves (s : State) (r : Nat) : Nat × Nat :=
  let g := s.ring r
  let n := s.nsup r
  let lostS := (g.folds.filter (fun f => f.2)).map Prod.fst
  let lostN := (g.folds.filter (fun f => !f.2)).map Prod.fst
  let p := lostS.foldl min (n + 1)
  let q := lostN.foldl max 0
  let north := if !g.linkN || g.mutedN then 0 else if p ≤ n then p else if q ≥ 1 then q - 1 else n
  let south := if !g.linkS || g.mutedS then n + 1 else if q ≥ 1 then max q (north + 1) else north + 1
  (min north n, south)

/-- Read the identity block of a position over one half (R106). -/
def State.readIdentity (s : State) (r p : Nat) (south : Bool) (half : Nat) : State :=
  s.request r (.identity p) 4 p (some (south, half)) (beBytes 2 0 ++ beBytes 2 16) 16

/-- Re-forming begins (R106). -/
def State.beginReform (s : State) (r : Nat) : State :=
  let s := (((s.keepRequests r).enterMode r 4).irq (Pg.SR r) Irq.SR_BREAK).newEpoch r
  let h := s.halves r
  let north := s.positions r (fun p => p ≤ h.1)
  let south := s.positions r (fun p => h.2 ≤ p)
  let s := s.modRing r (fun g => { g with
    proc := .reading, got := 0, left := north.length + south.length, lastNorth := h.1, firstSouth := h.2, healDue := false,
    broken := false })
  let s := north.foldl (fun s p => s.readIdentity r p false 1) s
  south.foldl (fun s p => s.readIdentity r p true 2) s

/-- The ring may heal of itself: in HALVES or DEGRADED with AUTOHEAL, while neither an extra supervisor nor an isolation stands
(R100, R110, R113). -/
def State.mayHeal (s : State) (r : Nat) : Bool :=
  (s.mode r == 5 || s.mode r == 7) && s.on (Fld.SR_CFG_AUTOHEAL r) && !s.on (Fld.SR_STATE_EXTRA r) &&
  (s.positions r (fun p => s.get (Fld.SR_PINFO_CAUSE r (p - 1)) == 5)).isEmpty

/-- Healing begins: OPEN to the folded supervisors (R111). -/
def State.beginHeal (s : State) (r : Nat) : State :=
  let folds := (s.ring r).folds.filter (fun f => s.reach r f.1)
  let ways := folds.map (fun f => (f, s.routeTo r f.1))
  let s := ((s.keepRequests r).enterMode r 6).newEpoch r
  let s := s.modRing r (fun g => { g with proc := .opening, left := ways.length, healDue := false, through := false })
  ways.foldl (fun s x => s.request r .healOpen 2 x.1.1 (some x.2) (beBytes 1 (if x.1.2 then 2 else 1)) 0) s

/-- Longest run of answering positions from the north end up to the north half's end. -/
def runNorth (got : Nat) : Nat → Nat → Nat
  | 0, k => k
  | n + 1, k => if bitOf got k then runNorth got n (k + 1) else k

/-- The next step of a procedure once its requests are answered or have failed; a break that has come meanwhile re-forms the ring
once it is in service (R106). -/
def State.procStep (s : State) (r : Nat) : Nat → State
  | 0 => s
  | fuel + 1 =>
    let g := s.ring r
    let n := s.nsup r
    if g.left ≠ 0 then s else
    match g.proc with
    | .none => if g.broken && s.inService r then (s.beginReform r).procStep r fuel else s
    | .isolating => (s.beginReform r).procStep r fuel
    | .reading =>
      let north := runNorth g.got g.lastNorth 0
      let south := (((List.range n).map (· + 1)).find? (fun p => g.firstSouth ≤ p &&
        ((List.range n).all (fun k => decide (k + 1 < p) || bitOf g.got k)))).getD (n + 1)
      let s := s.modRing r (fun g => { g with proc := .echoing, lastNorth := north, firstSouth := south,
                                              left := bitNat (north ≠ 0) + bitNat (decide (south ≤ n)) })
      let s := if north = 0 then s else s.request r .echo 0xA north (some (false, 1)) [] 0
      let s := if south > n then s else s.request r .echo 0xA south (some (true, 2)) [] 0
      s.procStep r fuel
    | .echoing =>
      let folds := g.folds.filter (fun f => bitOf g.got (f.1 - 1))
      let s := s.modRing r (fun g => { g with proc := .acking, left := folds.length })
      let s := folds.foldl (fun s f => s.request r .ack 5 f.1 (some (if f.1 ≤ g.lastNorth then (false, 1) else (true, 2)))
        (beBytes 2 0x19 ++ beBytes 1 1) 0) s
      s.procStep r fuel
    | .acking =>
      let s := (s.modRing r (fun g => { g with proc := .none })).setReach r g.got
      let s := (s.enterHalves r g.lastNorth g.firstSouth).irq (Pg.SR r) Irq.SR_REFORMED
      let s := if s.mode r = 5 then
        s.faultEvent (Pg.SR r) Flt.RING_BREAK (ringInst r 0) (BitVec.ofNat 32 (s.rd (Reg.SR_BREAK r))) else s
      ((s.checkMaps).recollect r).procStep r fuel
    | .opening =>
      (s.modRing r (fun g => { g with proc := .pathing, left := 1 })).request r .healPath 0xA n (some (false, 0)) [] 0
    | .rereading =>
      let s := s.modRing r (fun g => { g with proc := .none, folds := [] })
      let s := ((s.setReach r g.got).wr (Reg.SR_BREAK r) 0).enterMode r 3
      (((s.checkPositions r).irq (Pg.SR r) Irq.SR_HEALED).recollect r).procStep r fuel
    | .refolding =>
      let s := (s.modRing r (fun g => { g with proc := .none })).enterMode r 5
      ((s.faultEvent (Pg.SR r) Flt.RING_HEAL_FAILED (ringInst r 0)).recollect r).procStep r fuel
    | _ => s

/-- One request of a procedure is over. -/
def State.oneLess (s : State) (r : Nat) : State :=
  (s.modRing r (fun g => { g with left := g.left - 1 })).procStep r 12

/-- Round trip of an ECHO in 10 ns, from the instant of issue less its 24 characters of 200 ns (log 23). -/
def State.roundTrip (s : State) (t : RingTxn) : Nat := min 65535 (((s.tim.mono - t.at_) / nsUnit - 4800) / 10)

/-- What an answer to a request of a procedure, or its failure, leads to (R106, R111). -/
def State.procAnswer (s : State) (r : Nat) (t : RingTxn) (ok south : Bool) (b : List Byte) : State :=
  match t.req.purpose with
  | .identity p =>
    let s := if !ok then s else
      let s := s.modRing r (fun g => { g with got := putBit g.got (p - 1) true })
      let bad := s.enumerated r p && s.uidAt r p != beAt b 0 8
      let s := s.modRing r (fun g => { g with mism := putBit g.mism (p - 1) bad })
      if bad then s.quarantine r p 1 else if s.enumerated r p then s else s.noteIdentity r p b
    s.oneLess r
  | .echo =>
    let s := if ok then
      (s.put (if t.south then Fld.SR_RTT_SOUTH r else Fld.SR_RTT_NORTH r) (s.roundTrip t)).modRing r
        (fun g => { g with delays := smInsert t.req.dst (20 * s.roundTrip t) g.delays }) else s
    s.oneLess r
  | .ack => s.oneLess r
  | .isolate => s.oneLess r
  | .healOpen => s.oneLess r
  | .refold => s.oneLess r
  | .healPath =>
    if ok && (south || (s.ring r).through) then
      let all := s.positions r (fun _ => true)
      let s := s.put (Fld.SR_RTT_NORTH r) (s.roundTrip t)
      let s := s.modRing r (fun g => { g with proc := .rereading, got := 0, left := all.length })
      all.foldl (fun s p => s.readIdentity r p false 0) s
    else
      let folds := (s.ring r).folds.filter (fun f => s.reach r f.1)
      let s := s.modRing r (fun g => { g with proc := .refolding, left := folds.length })
      let s := folds.foldl (fun s f => s.request r .refold 3 f.1 (some (s.routeTo r f.1)) (beBytes 1 (if f.2 then 2 else 1)) 0) s
      s.procStep r 12
  | why =>
    let s := if why = .path && ok then s.put (Fld.SR_RTT_NORTH r) (s.roundTrip t) else s
    (s.enumStep r why ok south b).procStep r 12

/-- Isolate position `p`: its neighbours fold on their sides facing it, a module port stands in at an end, and the ring
re-forms (R113). -/
def State.isolatePos (s : State) (r p : Nat) : State :=
  let n := s.nsup r
  let north := 1 < p && s.reach r (p - 1)
  let south := p < n && s.reach r (p + 1)
  let wayN := s.routeTo r (p - 1)
  let wayS := s.routeTo r (p + 1)
  let s := if s.quar r p then s.put (Fld.SR_PINFO_CAUSE r (p - 1)) 5 else s.quarantine r p 5
  let s := s.modRing r (fun g => { g with
    proc := .isolating, left := bitNat north + bitNat south, isolatedAt := some s.tim.mono, healDue := false
    mutedN := g.mutedN || p == 1, mutedS := g.mutedS || p == n
    folds := (if north then [(p - 1, true)] else []) ++ (if south then [(p + 1, false)] else []) ++
      g.folds.filter (fun f => !(f == (p - 1, true) || f == (p + 1, false))) })
  let s := if north then s.request r .isolate 3 (p - 1) (some (if s.mode r = 3 then (false, 1) else wayN)) (beBytes 1 2) 0 else s
  let s := if south then s.request r .isolate 3 (p + 1) (some (if s.mode r = 3 then (true, 2) else wayS)) (beBytes 1 1) 0 else s
  (s.procStep r 12).flow r

/-! ### Failures, repeats and misbehaving partners -/

/-- A frame names `src` without being wanted: counted for the window of R112, with isolation or HOSTILE beyond 8, and
RING_HOSTILE within 10 ms of an isolation, once the ring has re-formed (R113; log 12). DESIGN CHOICE (log 12): with AUTOISO 1 an
SRC that is no position of the ring, or a ring out of service, is neither isolated nor shown by IRQ HOSTILE. -/
def State.unwanted (s : State) (r src : Nat) : State :=
  let k := smGet (fun _ => (0 : Nat)) (s.ring r).unsol src + 1
  let s := s.modRing r (fun g => { g with unsol := smSet (fun _ => 0) g.unsol src k })
  let s := match (s.ring r).isolatedAt with
    | some t => if s.inService r && s.tim.mono ≤ t + 10000000 * nsUnit then
        ((s.modRing r (fun g => { g with isolatedAt := none })).enterMode r 7).faultEvent
          (Pg.SR r) Flt.RING_HOSTILE (ringInst r 0) else s
    | none => s
  if k ≠ 9 then s else
  let s := s.fault (Pg.SR r) Flt.SUP_HOSTILE (ringInst r (src % 64))
  if s.on (Fld.SR_CFG_AUTOISO r) then
    (if s.inService r && 1 ≤ src && src ≤ s.nsup r then s.isolatePos r src else s)
  else s.irq (Pg.SR r) Irq.SR_HOSTILE

/-- A repeat goes out under a new tag (R90). -/
def State.repeatReq (s : State) (r : Nat) (q : RingReq) : State :=
  (s.enqueue r { q with left := q.left - 1 }).bump (whole (Reg.SR_CNT_RETRY r))

/-- A transaction is recorded against its position (R90, R91). -/
def State.recordFailed (s : State) (r : Nat) (q : RingReq) (code : Nat) : State :=
  s.modRing r (fun g => { g with failed := (q.dst, q.kind, code) :: g.failed })

/-- The module disables: every transaction stops, every tag returns, IDLE only (R121). -/
def State.ringOff (s : State) (r : Nat) : State :=
  let s := ((s.newEpoch r).enterMode r 0).setReach r 0
  let s := s.modRing r (fun g => { ringReset with
    free := g.free, linkN := g.linkN, linkS := g.linkS, failed := g.failed, unsol := g.unsol, silent := g.silent })
  ((s.setOn (Fld.ens (Pg.SR r)) false).queShow r).emit (.ringIdle r)

/-- EN is set: both ports train (R121). -/
def State.ringOn (s : State) (r : Nat) : State := (s.setOn (Fld.ens (Pg.SR r)) true).enterMode r 1

/-- A command of SRx_CMD (R119). DESIGN CHOICE (log 12): RELEASE of a position that is not isolated, or while EXTRA is 1, heals the
ring all the same. -/
def State.ringCommand (s : State) (r op pos : Nat) : State :=
  let reject := s.irq (Pg.SR r) Irq.SR_CMDREJ
  let legal := 1 ≤ pos && pos ≤ s.nsup r
  if op = 0 then s
  else if !s.inService r || op > 5 then reject
  else if op = 1 then s.beginEnum r
  else if op = 2 then (if s.on (Fld.SR_STATE_EXTRA r) then reject else (s.beginHeal r).procStep r 12 |>.flow r)
  else if op = 3 then (if legal then s.isolatePos r pos else reject)
  else if op = 4 then
    (if !legal then reject else
      let s := if s.get (Fld.SR_PINFO_CAUSE r (pos - 1)) = 5 then s.unquarantine r pos else s
      let s := s.modRing r (fun g => { g with mutedN := g.mutedN && pos != 1, mutedS := g.mutedS && pos != s.nsup r,
                                              isolatedAt := none })
      ((s.beginHeal r).procStep r 12).flow r)
  else ((s.resetRing r).flow r).beginEnum r

end Sys2Proof.Machine
end

