-- ==== Sys2Proof/Machine/Telemetry.lean ====
section
/-! DEFINITION. Scans, alignment, reports and the cell state table (R122 to R163). -/

namespace Sys2Proof.Machine

/-! ### The cell state table -/

/-- Address of word `k` of entry `i` (R156). -/
def cellWord (i k : Nat) : Nat := 0x20000 + 64 * i + 4 * k

/-- A field of a cell's entry (R157). -/
def cellField (i k lo width : Nat) : RegField := ⟨cellWord i k, lo, width⟩

/-- MON of a cell. -/
def State.cellMon (s : State) (i : Nat) : Bool := s.bit (cellWord i 0) 31

/-- STALE of a cell. -/
def State.cellStale (s : State) (i : Nat) : Bool := s.bit (cellWord i 0) 30

/-- VCELL of a cell, 100 µV. -/
def State.vcell (s : State) (i : Nat) : Nat := s.get (cellField i 1 16 16)

/-- VAVG of a cell. -/
def State.vavg (s : State) (i : Nat) : Nat := s.get (cellField i 1 0 16)

/-- Ring and position of a cell's entry. -/
def State.cellPos (s : State) (i : Nat) : Nat × Nat := (s.get (cellField i 0 22 2), s.get (cellField i 0 16 6))

/-- A group's publish count steps (R158). -/
def State.publish (s : State) (group : RegField) : State := s.put group (s.get group + 1)

/-- Requests of a collection, by its order in R128, that wait for a tag, for their backoff or for queue space end with it (R131,
R163, R189). -/
def State.dropCollects (s : State) (r order : Nat) : State :=
  let stays := fun (q : RingReq) => q.purpose.order != order
  s.modRing r (fun g => { g with
    waiting := g.waiting.filter stays, backoff := g.backoff.filter stays, stalled := g.stalled.filter stays })

/-- Group V publishes: every entry that no position in service names takes MON 0, a reported cell its sample, any other
STALE, with ALIGNED 0 on a ring that lost its alignment (R130, R136, R157, R163). DESIGN CHOICE (log 23): a STALE entry keeps
BLEED of its sample beside VCELL and STAMP. -/
def State.publishV (s : State) : State :=
  let s := s.each 3072 (fun s i => if s.cellMon i then s.setBit (cellWord i 0) 31 false else s)
  let seq := s.tel.tick.getD 1 0
  let here := s.allPositions.filter (fun x => s.inService x.1 && bitOf s.tel.scanRings x.1 &&
    smGet (fun _ => (0 : Nat)) (s.ring x.1).silent x.2 < 3)
  let s := here.foldl (fun s x =>
    s.each (s.cellsOf x.1 x.2) (fun s c =>
      let i := s.firstCell x.1 x.2 + c
      let place := x.1 * 2 ^ 22 + x.2 * 2 ^ 16 + c * 2 ^ 8
      match (smGet (fun _ => (⟨false, false, none⟩ : CellSample)) s.tel.bank i).volt with
      | some v =>
        let d := smGet (fun _ => (⟨false, false, none⟩ : CellSample)) s.tel.bank i
        let h := (v :: smGet (fun _ => []) s.tel.history i).take 10
        let s := { s with tel := { s.tel with history := smSet (fun _ => []) s.tel.history i h } }
        let s := s.wr (cellWord i 0) (2 ^ 31 + bitNat d.bleed * 2 ^ 29 + bitNat d.aligned * 2 ^ 28 + place + seq)
        (s.wr (cellWord i 1) (v * 65536 + (2 * h.sum + h.length) / (2 * h.length))).wr64 (cellWord i 14) s.tel.scanS
      | none =>
        let old := s.rd (cellWord i 0)
        let aligned := bitOf old 28 && !bitOf s.tel.alignLost x.1
        s.wr (cellWord i 0) (2 ^ 31 + 2 ^ 30 + bitNat (bitOf old 29) * 2 ^ 29 + bitNat aligned * 2 ^ 28 + place + old % 256))) s
  ({ s with tel := { s.tel with bank := [] } }).publish Fld.SRQ_CSTSEQ_V

/-! ### Scans -/

/-- A scan runs on ring `r` (R163). -/
def State.scans (s : State) (r : Nat) : Bool :=
  s.ens Pg.SRQ && bitOf (s.get Fld.SRQ_CFG_RINGS) r && s.inService r

/-- Next sequence of a tick kind (R126). -/
def State.nextTick (s : State) (kind : Nat) : State :=
  { s with tel := { s.tel with tick := updAt s.tel.tick kind (fun v => (v + 1) % 256) } }

/-- Send a TICK on a ring: from the north port in RING, from both otherwise (R126, R109); a listener sends none (R602). -/
def State.sendTick (s : State) (r kind : Nat) : State :=
  if s.listens r then s else
  let seq := s.tel.tick.getD kind 0
  let s := if (s.ring r).mutedN then s else s.emit (.tick r .north kind seq)
  if s.mode r = 3 || (s.ring r).mutedS then s else s.emit (.tick r .south kind seq)

/-- The ring is not aligned for a scan launched now with sample instant `at_` (R136, R139). -/
def State.alignLostNow (s : State) (r at_ : Nat) : Bool :=
  let g := s.ring r
  !bitOf (s.get Fld.SRQ_SCANSTAT_DCALOK) r || g.calPorts != 0 || g.calWrites != 0 || g.calBad ||
  match g.calDone with
  | none => true
  | some t => decide (at_ > t / nsUnit + 2000000000)

/-- Reachable positions that have not reported in the scan (R129, R130). -/
def State.owing (s : State) (r : Nat) : List Nat := ((s.ring r).scanDue ++ (s.ring r).scanBad).filter (s.reach r)

/-- End of a cell scan: failed collections counted, group V published, SCANSTAT and SCANTIME set (R112, R130). -/
def State.publishScan (s : State) : State :=
  let rings := (List.range 4).filter (fun r => s.inService r && bitOf s.tel.scanRings r)
  let s := rings.foldl (fun s r =>
    (s.positions r (s.reach r)).foldl (fun s p =>
      let due := (s.ring r).scanDue.contains p || (s.ring r).scanBad.contains p
      let k := if due then smGet (fun _ => (0 : Nat)) (s.ring r).silent p + 1 else 0
      let s := s.modRing r (fun g => { g with silent := smSet (fun _ => 0) g.silent p k })
      if k = 0 then s.endInstance (Pg.SR r) Flt.SUP_SILENT (ringInst r p)
      else if k = 3 then s.fault (Pg.SR r) Flt.SUP_SILENT (ringInst r p) else s) s) s
  let inc := maskOf 4 (fun r => rings.contains r && !(s.owing r).isEmpty)
  let s := s.publishV
  let s := (s.put Fld.SRQ_SCANSTAT_SEQ (s.tel.tick.getD 1 0)).put Fld.SRQ_SCANSTAT_INCOMPLETE inc
  let s := (s.put Fld.SRQ_SCANSTAT_ALIGNLOST s.tel.alignLost).wr64 Reg.SRQ_SCANTIME s.tel.scanS
  let s := s.irq Pg.SRQ Irq.SRQ_SCAN_DONE
  let s := if inc = 0 then s else s.irq Pg.SRQ Irq.SRQ_SCAN_INCOMPLETE
  let s := s.each 4 (fun s r => (s.modRing r (fun g => { g with scanDue := [], scanBad := [] })).dropCollects r 2)
  { s with tel := { s.tel with scanOn := false, scanColl := false } }

/-- The scan may be published: all reachable positions have reported, or the deadline has passed (R130). -/
def State.scanReady (s : State) (deadline : Bool) : Bool :=
  s.tel.scanOn && (deadline || (List.range 4).all (fun r => (s.owing r).isEmpty))

/-- Plant time at an instant from now, in units of 10 ms, rounded (R122, R125). -/
def State.gridAt (s : State) (ns : Nat) : Nat := (s.tim.pt / nsUnit + ns + 5000000) / 10000000

/-- The ring ticks of a cell scan: kind 0x01 on every scanned ring, with kind 0x02 after it at a whole second (R122,
R125). -/
def State.scanTick (s : State) : State :=
  if !s.ens Pg.SRQ then s else
  let rings := (List.range 4).filter (fun r => bitOf (s.get Fld.SRQ_CFG_RINGS) r && (s.inService r || s.mode r == 4))
  let off := s.get Fld.SRQ_ALIGN_OFFSET
  let at_ := s.nowNat + off
  let lost := maskOf 4 (fun r => rings.contains r && s.alignLostNow r at_)
  let s := if lost = 0 then s else s.irq Pg.SRQ Irq.SRQ_ALIGN_LOST
  let s := { s with tel := { s.tel with
    scanS := at_, scanOn := true, scanRings := posMask (rings.map (· + 1)), alignLost := lost, bank := [], scanColl := false } }
  let s := rings.foldl (fun s r => s.sendTick r 1) (s.nextTick 1)
  let s := rings.foldl (fun s r => s.modRing r (fun g => { g with scanDue := s.positions r (s.reach r), scanBad := [] })) s
  if s.on Fld.SRQ_CFG_TSCAN && s.gridAt off % 100 == 0 then
    let s := { s with tel := { s.tel with tempS := at_ + 600, tempOn := true, tempColl := false } }
    let s := rings.foldl (fun s r => s.sendTick r 2) (s.nextTick 2)
    rings.foldl (fun s r => s.modRing r (fun g => { g with tempDue := s.positions r (s.reach r) })) s
  else s

/-- The rings that wait for the new scan period heal (R110). -/
def State.startHeals (s : State) : State :=
  s.each 4 (fun s r => if (s.ring r).healDue && s.mayHeal r then
    ((s.beginHeal r).procStep r 12).flow r else s)

/-- The collection of the scan begins: COLLECT_SCAN to every reachable position that owes a report (R128). -/
def State.collectScan (s : State) : State :=
  if !s.tel.scanOn then s else
  let s := { s with tel := { s.tel with scanColl := true } }
  s.each 4 (fun s r => if s.scans r then (s.recollect r).flow r else s)

/-- ONCOUNT of every position in service is read at a temperature scan (R244, R248). -/
def State.askCounts (s : State) : State :=
  if !s.appUp then s else
  s.allPositions.foldl (fun s x => s.ringRead x.1 x.2 0x1008 48) { s with bal := { s.bal with reads := [] } }

/-- The collection of the temperatures begins (R131), and with it the reads of the bleed ledger. -/
def State.collectTemp (s : State) : State :=
  if !s.tel.tempOn then s else
  let s := { s with tel := { s.tel with tempColl := true } }
  (s.each 4 (fun s r => if s.scans r then (s.recollect r).flow r else s)).askCounts

/-- End of a temperature collection (R131). -/
def State.endTemp (s : State) : State :=
  if !s.tel.tempOn then s else
  let s := s.each 4 (fun s r => (s.modRing r (fun g => { g with tempDue := [] })).dropCollects r 4)
  let s := { s with tel := { s.tel with tempOn := false, tempColl := false } }
  (s.put Fld.SRQ_SCANSTAT_TSEQ (s.tel.tick.getD 2 0)).irq Pg.SRQ Irq.SRQ_TEMP_DONE

/-- The collection ends once every reachable position has reported (R131). -/
def State.tempCheck (s : State) : State :=
  if s.tel.tempColl && (List.range 4).all (fun r => ((s.ring r).tempDue.filter (s.reach r)).isEmpty) then s.endTemp else s

/-- A cell scan report of a position: accepted under its sequence, its cells written into the inactive bank; a channel
that reads 0xFFFF has no sample, and one of a quarantined position is not used (R98, R129, R142; log 23). -/
def State.takeScan (s : State) (r p : Nat) (b : List Byte) : State :=
  if !s.tel.scanOn || !(s.ring r).scanDue.contains p then s else
  let s := s.modRing r (fun g => { g with scanDue := g.scanDue.filter (· != p) })
  if beAt b 0 1 ≠ s.tel.tick.getD 1 0 then s.modRing r (fun g => { g with scanBad := p :: g.scanBad }) else
  if !s.posIn r p then s else
  let status := beAt b 2 2
  let aligned := bitOf status 15 && !bitOf s.tel.alignLost r
  s.each (min (s.cellsOf r p) (beAt b 1 1)) (fun s c =>
    let v := beAt b (8 + 2 * c) 2
    let d : CellSample := ⟨bitOf (beAt b 4 3) c, aligned, if v = 0xFFFF then none else some v⟩
    { s with tel := { s.tel with bank := smInsert (s.firstCell r p + c) d s.tel.bank } })

/-- A temperature report of a position (R98, R131, R143). -/
def State.takeTemp (s : State) (r p : Nat) (b : List Byte) : State :=
  if !s.tel.tempOn || beAt b 0 1 ≠ s.tel.tick.getD 2 0 || !(s.ring r).tempDue.contains p then s else
  let s := s.modRing r (fun g => { g with tempDue := g.tempDue.filter (· != p) })
  if !s.posIn r p then s else
  let status := beAt b 4 2
  let temps := (List.range (min 8 (beAt b 1 1))).map (fun n =>
    let v := beAt b (6 + 2 * n) 2
    if bitOf status n || v = 0x8000 then none else some (toSigned 16 v))
  { s with tel := { s.tel with temps := smInsert (32 * r + p - 1) ⟨s.tel.tempS, toSigned 16 (beAt b 2 2), temps⟩ s.tel.temps } }

/-- One of the ALARM_STATUS reads of an ALARM is over (R112). -/
def State.takeAlarm (s : State) (r : Nat) (named : Bool) : State :=
  let s := s.modRing r (fun g => { g with alarmLeft := g.alarmLeft - 1, alarmNamed := g.alarmNamed || named })
  if (s.ring r).alarmLeft = 0 && !(s.ring r).alarmNamed then
    s.faultEvent (Pg.SR r) Flt.ALARM_UNATTRIBUTED (ringInst r 0) else s

/-! ### Delay calibration -/

/-- A calibration ends once its ticks have returned and its writes are made (R136). -/
def State.calCheck (s : State) (r : Nat) : State :=
  let g := s.ring r
  match g.calLaunch with
  | none => s
  | some t =>
    if g.calPorts = 0 && g.calWrites = 0 then
      let s := s.modRing r (fun g => { g with calLaunch := none, calDone := if g.calBad then g.calDone else some t })
      if g.calBad then s else (s.setBit Reg.SRQ_SCANSTAT (24 + r) true).irq Pg.SRQ Irq.SRQ_DCAL_DONE
    else s

/-- A delay calibration tick is launched from each transmitting port of an enabled ring (R133); in RING it is still to be turned
back at the south port, bit 2 of `calPorts` (R134). -/
def State.launchCal (s : State) (r : Nat) : State :=
  if !s.scans r then s else
  let g := s.ring r
  let ports := if s.mode r = 3 then 5 else bitNat (!g.mutedN) + 2 * bitNat (!g.mutedS)
  let s := (s.nextTick 4).sendTick r 4
  s.modRing r (fun g => { g with calLaunch := some s.tim.mono, calPorts := ports, calWrites := 0, calBad := false })

/-- The calibration tick is retransmitted at the south port of a ring in RING (R134); its return to the north port shows that it
has been, where nothing told of its arrival at the south port (log 12). -/
def State.turnTick (s : State) (r : Nat) : State :=
  if !bitOf (s.ring r).calPorts 2 then s else
  let s := s.modRing r (fun g => { g with calPorts := putBit g.calPorts 2 false })
  if s.listens r then s else s.emit (.tick r .south 4 (s.tel.tick.getD 4 0))

/-- The tick returns to its port: T_ret, path delays and the SAMPLE_WAIT writes that have changed by more than 0.5 ns
(R135, R136, R139). In RING its arrival at the south port turns it back (R134). A position in service whose report is missing
leaves the calibration incomplete. -/
def State.calReturn (s : State) (r : Nat) (south : Bool) (tret : Nat) (reports : List DcalReport) : State :=
  let bit := if south then 1 else 0
  if (s.ring r).calLaunch.isNone then s else
  if s.mode r = 3 && south then s.turnTick r else
  if !bitOf (s.ring r).calPorts bit then s else
  let s := s.turnTick r
  let asked := s.positions r (fun p => s.posIn r p && (s.routeTo r p).1 == south)
  let s := if asked.all (fun p => reports.any (fun x => x.pos == p)) then s
    else s.modRing r (fun g => { g with calBad := true })
  let dl := fun (f : RegField) => (⟨f.addr + 4 * r, f.lo, f.width⟩ : RegField)
  let s := s.put (dl (if south then Fld.SRQ_DLOOPA_SOUTH else Fld.SRQ_DLOOPA_NORTH)) (min 65535 tret)
  let s := if s.mode r = 3 then s.put (dl Fld.SRQ_DLOOPA_SOUTH) 0 else s
  let s := s.modRing r (fun g => { g with calPorts := putBit g.calPorts bit false })
  let s := reports.foldl (fun s x =>
    if !s.posIn r x.pos then s else
    match x.delta with
    | none => s.modRing r (fun g => { g with calBad := true })
    | some d =>
      let wait := ratRound (((4 * s.get Fld.SRQ_ALIGN_OFFSET : Nat) : Rat) - (((tret : Int) - d - (x.fwd : Int) : Int) : Rat) / 2)
      let s := if wait < 0 then s.modRing r (fun g => { g with calBad := true }) else s
      let w := wait.toNat
      let far := match (s.ring r).waits.find? (fun y => y.1 == x.pos) with
        | none => true
        | some y => decide (y.2 > w + 2 ∨ w > y.2 + 2)
      if !far then s else
      let s := s.modRing r (fun g => { g with waits := smInsert x.pos w g.waits, calWrites := g.calWrites + 1 })
      s.request r .wait 5 x.pos none (beBytes 2 0x408 ++ beBytes 4 w) 0) s
  (s.calCheck r).flow r

end Sys2Proof.Machine
end

