-- ==== Sys2Proof/Machine/Chime.lean ====
section
/-! DEFINITION. Chime (R164 to R198): windows, tones, phasors, impedance results and their table. -/

namespace Sys2Proof.Machine

/-! ### Complex numbers -/

/-- Product of two complex numbers. -/
def cmul (a b : Rat × Rat) : Rat × Rat := (a.1 * b.1 - a.2 * b.2, a.1 * b.2 + a.2 * b.1)

/-- Sum of two complex numbers. -/
def cadd (a b : Rat × Rat) : Rat × Rat := (a.1 + b.1, a.2 + b.2)

/-- A complex number scaled. -/
def cscale (k : Rat) (a : Rat × Rat) : Rat × Rat := (k * a.1, k * a.2)

/-- Squared magnitude. -/
def cmag2 (a : Rat × Rat) : Rat := a.1 * a.1 + a.2 * a.2

/-- Quotient of two complex numbers. -/
def cdiv (a b : Rat × Rat) : Rat × Rat := cscale (1 / cmag2 b) (cmul a (b.1, -b.2))

/-- exp(j 2 pi x). -/
def cturn (x : Rat) : Rat × Rat := ratTurn x

/-! ### Tones -/

/-- A tone is enabled. -/
def State.toneEn (s : State) (k : Nat) : Bool := s.on (Fld.CHM_TFREQ_EN k)

/-- LEN in seconds. -/
def State.chmLen (s : State) : Rat := (s.get Fld.CHM_WIN_LEN : Rat) / 100

/-- Frequency of tone `k` in Hz (R168). -/
def State.toneFreq (s : State) (k : Nat) : Rat :=
  (s.get (Fld.CHM_TFREQ_N k) : Rat) / ((s.get Fld.CHM_WIN_NSPAN : Rat) * s.chmLen)

/-- Insert a tone by rising frequency. -/
def State.insertTone (s : State) (k : Nat) : List Nat → List Nat
  | [] => [k]
  | a :: t => if s.get (Fld.CHM_TFREQ_N k) < s.get (Fld.CHM_TFREQ_N a) then k :: a :: t else a :: s.insertTone k t

/-- The enabled tones in ascending frequency. -/
def State.tones (s : State) : List Nat := ((List.range 8).filter s.toneEn).foldl (fun l k => s.insertTone k l) []

/-- Branches joined (R172). -/
def State.joined (s : State) : Nat := popCount 8 s.svc.branches

/-- Chime produces windows. -/
def State.chmRuns (s : State) : Bool := s.ens Pg.CHM && decide (1 ≤ s.get Fld.CHM_STAT_STATE) && decide (s.get Fld.CHM_STAT_STATE ≤ 3)

/-- Sum of the applied amplitudes in mA. -/
def State.appliedSum (s : State) : Nat := ((List.range 8).map (fun k => s.get (Fld.CHM_TSTAT_APPLIED k))).sum

/-- Both applied limits are at least the peak bound P of the given amplitude sum (R173); an unlimited direction is. -/
def State.limitsHold (s : State) (sumMa : Nat) : Bool :=
  let ok := fun (l : Option Rat) => match l with
    | none => true
    | some a => decide (0 ≤ a) && decide (2 * ((sumMa : Rat) / 1000) * ((sumMa : Rat) / 1000) ≤ a * a)
  ok s.lpe.limC && ok s.lpe.limD

/-- Amplitudes for the present branches: the requested ones of the injected tones, scaled to 2 A rms per branch and
rounded down to 1 mA (R172); the second part tells of scaling. -/
def State.amplitudes (s : State) : List Nat × Bool :=
  let req := (List.range 8).map (fun k =>
    if s.toneEn k && !s.on (Fld.CHM_TSTAT_AMB k) then s.rd (Reg.CHM_TAMP k) % 65536 else 0)
  let sq := (req.map (fun a => a * a)).sum
  let cap := 2000 * s.joined
  if sq ≤ cap * cap then (req, false) else (req.map (fun a => Nat.sqrt (a * a * (cap * cap) / sq)), true)

/-- Set the applied amplitudes. -/
def State.setApplied (s : State) (l : List Nat) : State := s.each 8 (fun s k => s.put (Fld.CHM_TSTAT_APPLIED k) (l.getD k 0))

/-- The amplitudes are scaled in the running window (R172). -/
def State.markScaled (s : State) : State :=
  let s := (s.setOn Fld.CHM_STAT_SCALED true).irq Pg.CHM Irq.CHM_SCALED
  { s with chm := { s.chm with run := s.chm.run.map (fun (w : ChmWindow) => { w with scaled := true }) } }

/-- The amplitudes that fewer joined branches give, while tones are applied (R172). -/
def State.chmRescale (s : State) : State :=
  if s.chmRuns && !s.chm.removed && s.appliedSum ≠ 0 then
    let a := s.amplitudes
    let s := s.setApplied a.1
    if a.2 then s.markScaled else s
  else s

/-- A control sample removes a tone sum that may not stay: with a limit below the peak bound, outside RUNNING, under an active
Snare (R173, R174); after EN was cleared, every APPLIED reads 0 from then (R174). -/
def State.toneGuard (s : State) : State :=
  if !s.ens Pg.CHM then (if s.appliedSum = 0 then s else s.setApplied []) else
  if s.appliedSum != 0 && (s.snare || s.svc.state != .running || !s.limitsHold s.appliedSum) then s.removeTones else s

/-- Tones are on the reference now. -/
def State.tonesOn (s : State) : Bool :=
  s.chmRuns && !s.chm.removed && s.appliedSum != 0 && decide (s.svc.state = .running) && !s.snare

/-- The tone sum of R171 at an instant, in A. -/
def State.toneSum (s : State) (t : Nat) : Rat :=
  match s.chm.tref with
  | none => 0
  | some t0 =>
    let ks := s.tones
    let kk : Rat := ks.length
    (((List.range ks.length).map (fun j =>
      let k := ks.getD j 0
      let phase := - ((j * (j + 1) : Nat) : Rat) / (2 * kk) + (s.get Fld.CHM_PHOFS_PHOFS : Rat) / 256
      ratSqrt 2 * ((s.get (Fld.CHM_TSTAT_APPLIED k) : Rat) / 1000) *
        ratCos (s.toneFreq k * ((((t : Int) - (t0 : Int) : Int) : Rat) / 1000000000) + phase))).sum)

/-! ### Reasons -/

/-- Rings that re-form, heal or enumerate, and a string that does not run, as they stand now (R187). -/
def State.chmWatch (s : State) : State :=
  let s := s.each 4 (fun s r => if s.mode r == 2 || s.mode r == 4 || s.mode r == 6 then s.chmNote (.ring r) 3 else s)
  if s.svc.state ≠ .running || s.snare then s.chmNote .all 8 else s

/-- Mean of a sum and count. -/
def meanOf (x : Rat × Nat) : Rat := if x.2 = 0 then 0 else x.1 / (x.2 : Rat)

/-- TCELL of every cell added to sums (R190). -/
def State.addTemps (s : State) (l : List Int) : List Int :=
  (List.range 3072).map (fun i => l.getD i 0 + s.geti (cellField i 2 16 16))

/-- What a scan publication tells the running window: cells monitored, bleed switches closed, rings not aligned, and with
STEPDISC the step of each branch's mean current between scan periods (R187). -/
def State.chmScanned (s : State) : State :=
  let s := s.chmWatch
  let s := s.each 4 (fun s r => if bitOf s.tel.alignLost r then s.chmNote (.ring r) 4 else s)
  let step : Rat := ((s.rd Reg.CHM_STEP % 65536 : Nat) : Rat) / 10
  let means := s.chm.stepAcc.map (fun x => (x.1, meanOf x.2))
  let far := means.filter (fun x => match s.chm.stepPrev.find? (fun y => y.1 == x.1) with
    | none => false
    | some y => decide (ratAbs (x.2 - y.2) > step))
  let s := if s.on Fld.CHM_CFG_STEPDISC then far.foldl (fun s x => s.chmNote (.branch x.1) 0xD) s else s
  let mon := (List.range 3072).filter s.cellMon
  let bleeding := mon.filter (fun i => s.bit (cellWord i 0) 29)
  let run := s.chm.run.map (fun (w : ChmWindow) => { w with
    monitored := some (match w.monitored with | none => mon | some l => l.filter (fun i => mon.contains i))
    scans := w.scans + 1
    temps := s.addTemps w.temps
    tempN := w.tempN + 1
    closed := bleeding.foldl (fun l i => smInsert i (smGet (fun _ => (0 : Nat)) l i + 1) l) w.closed })
  { s with chm := { s.chm with run := run, stepAcc := [], stepPrev := means } }

/-- A regular conversion of a branch current enters the interval mean of its instant (R166, R183). -/
def State.chmSampled (s : State) (b : Nat) (amps : Rat) (at_ : Nat) : State :=
  let add := fun (x : Rat × Nat) => (x.1 + amps, x.2 + 1)
  let acc := s.chm.stepAcc
  let s := { s with chm := { s.chm with stepAcc := smInsert b (add (smGet (fun _ => ((0 : Rat), (0 : Nat))) acc b)) acc } }
  { s with chm := { s.chm with run := s.chm.run.map (fun (w : ChmWindow) =>
    if at_ < w.t0 then w else
    let key := 65536 * b + (at_ - w.t0) / 250000
    { w with cur := smInsert key (add (smGet (fun _ => ((0 : Rat), (0 : Nat))) w.cur key)) w.cur }) } }

/-- The dispatch reference before the tone sum enters the window's reference means (R177). -/
def State.chmRef (s : State) (amps : Rat) (at_ : Nat) : State :=
  { s with chm := { s.chm with run := s.chm.run.map (fun (w : ChmWindow) =>
    if at_ < w.t0 then w else
    let n := (at_ - w.t0) / 250000
    let x := smGet (fun _ => ((0 : Rat), (0 : Nat))) w.ref n
    { w with ref := smInsert n (x.1 + amps, x.2 + 1) w.ref }) } }

/-! ### Windows -/

/-- Samples in a window (R166). -/
def State.chmSamples (s : State) : Nat := s.get Fld.CHM_WIN_LEN * 40

/-- Window phasor of a sampled quantity at a frequency (R167); an interval without a sample is a free number drawn from
`free + n` (log 7). -/
def windowPhasor (samples : List (Nat × (Rat × Nat))) (base n free : Nat) (f : Rat) : Rat × Rat :=
  cscale (ratSqrt 2 / (n : Rat)) ((List.range n).foldl (fun a i =>
    let x := smGet (fun _ => ((0 : Rat), (0 : Nat))) samples (base + i)
    let v := if x.2 = 0 then Config.freeRat (free + i) else meanOf x
    cadd a (cscale v (cturn (- f * (((2 * i + 1 : Nat) : Rat) / 8000))))) (0, 0))

/-- Mean of a branch over a window. -/
def windowMean (samples : List (Nat × (Rat × Nat))) (b n : Nat) : Rat :=
  meanOf ((List.range n).foldl (fun a i =>
    let x := smGet (fun _ => ((0 : Rat), (0 : Nat))) samples (65536 * b + i)
    (a.1 + x.1, a.2 + x.2)) ((0 : Rat), (0 : Nat)))

/-- The running window ends: its current phasors are formed and it waits for the supervisors' reports. -/
def State.chmClose (s : State) : State :=
  match s.chm.run with
  | none => s
  | some w0 =>
    let s := s.chmWatch
    let w := s.chm.run.getD w0
    let n := s.chmSamples
    let ks := s.tones
    let ph := (List.range 8).flatMap (fun b => ks.map (fun k => (8 * b + k, windowPhasor w.cur (65536 * b) n s.free (s.toneFreq k))))
    let means := (List.range 8).map (fun b => (b, windowMean w.cur b n))
    let w := if w.tempN = 0 then { w with temps := s.addTemps [], tempN := 1 } else w
    let w := { w with curPh := ph, means := means, cur := [], socs := (List.range 3072).map (fun i => s.get (cellField i 3 16 16)) }
    let s := s.irq Pg.CHM Irq.CHM_WINDOW_END
    { s with free := s.free + n, chm := { s.chm with run := none, coll := if w.measured then some w else none, due := [] } }

/-- Injected or ambient for the next window: by MODE, and in auto mode by the reference content of the window just ended
(R176, R177). -/
def State.chooseAmbient (s : State) (ended : Option ChmWindow) : State :=
  let mode := s.get Fld.CHM_CFG_MODE
  let s := s.tones.foldl (fun s k =>
    let was := s.on (Fld.CHM_TSTAT_AMB k)
    let min : Rat := s.get Fld.CHM_AMB_MIN
    let will := if mode = 0 then false else if mode = 1 then true else
      match ended with
      | none => was
      | some w =>
        let m2 := cmag2 (windowPhasor w.ref 0 s.chmSamples s.free (s.toneFreq k))
        let j : Rat := s.joined
        let lim := min / 1000 * j
        if was then decide (4 * m2 ≥ lim * lim) else decide (m2 ≥ lim * lim)
    if was = will then s else (s.setOn (Fld.CHM_TSTAT_AMB k) will).irq Pg.CHM Irq.CHM_AMBIENT) s
  s.setOn Fld.CHM_STAT_AMBIENT (s.tones.any (fun k => s.on (Fld.CHM_TSTAT_AMB k)))

/-- Amplitudes at a window start (R172 to R174). -/
def State.windowAmplitudes (s : State) : State :=
  let a := s.amplitudes
  let ok := s.svc.state = .running && !s.snare && s.limitsHold a.1.sum
  let s := s.setApplied (if ok then a.1 else List.replicate 8 0)
  let s := if a.2 then s.markScaled else s.setOn Fld.CHM_STAT_SCALED false
  { s with chm := { s.chm with removed := !ok } }

/-- CTRL of the supervisors: DEMOD, and BLEEDPAUSE in pause mode (R180). -/
def State.chmCtrl (s : State) (demod : Bool) : Nat := bitNat demod + 2 * bitNat (s.on Fld.CHM_CFG_BLEED)

/-- CTRL of a position is written, with the bytes that follow it (R180 to R182). -/
def State.writeCtrlAt (s : State) (r p ctrl : Nat) (more : List Byte) : State :=
  let s := if s.posIn r p then { s with chm := { s.chm with ctrl := smInsert (32 * r + p - 1) ctrl s.chm.ctrl } } else s
  s.ringWrite r p 0xC00 (beBytes 1 ctrl ++ more)

/-- CTRL of every in-service position of the selected rings is written (R182). -/
def State.chmWriteAll (s : State) (ctrl : Nat) : State :=
  (s.allPositions.filter (fun x => bitOf (s.get Fld.CHM_CFG_RINGS) x.1)).foldl
    (fun s x => s.writeCtrlAt x.1 x.2 ctrl []) s

/-- At a window start tick the supervisors of a ring apply what was written before it (R179). -/
def State.applyCtrl (s : State) (r : Nat) : State :=
  let mine := s.chm.ctrl.filter (fun x => x.1 / 32 == r)
  { s with chm := { s.chm with ctrlOn := mine.foldl (fun l x => smInsert x.1 x.2 l) s.chm.ctrlOn } }

/-- CTRL that a position's supervisor applies. -/
def State.ctrlAt (s : State) (r p : Nat) : Nat := smGet (fun _ => (0 : Nat)) s.chm.ctrlOn (32 * r + p - 1)

/-- PHSTEP of a tone, 2^-32 turn (R181). -/
def State.phstep (s : State) (k : Nat) : Nat := (ratRound (s.toneFreq k * 4294967296 / 4000)).toNat

/-- The writes of R181 to one position. -/
def State.chmConfigure (s : State) (r p : Nat) : State :=
  if !(s.chmRuns && bitOf (s.get Fld.CHM_CFG_RINGS) r) then s else
  let s := s.ringWrite r p 0xC10 ((List.range 8).flatMap (fun k => beBytes 4 (s.phstep k)))
  s.writeCtrlAt r p (s.chmCtrl true) (beBytes 1 (maskOf 8 s.toneEn) ++ beBytes 2 (s.get Fld.CHM_WIN_LEN))

/-- Words of an impedance record (R190). -/
def ZRec.words (z : ZRec) : List Word :=
  [z.zre, z.zim, z.zreAvg, z.zimAvg, z.zvar, z.wcount,
   BitVec.ofNat 32 (ofSigned 16 z.tmeas * 65536 + z.socmeas), BitVec.ofNat 32 (ofSigned 16 z.icur * 65536 + z.navg),
   z.refRe, z.refIm,
   BitVec.ofNat 32 (z.reason + 16 * bitNat z.amb + 32 * bitNat z.scaled + 64 * bitNat z.refOk), z.lastw]

/-- Impedance record of a cell at a tone. -/
def State.zrec (s : State) (i k : Nat) : ZRec := smGet (fun _ => zrecReset) s.chm.table (8 * i + k)

/-- Set an impedance record. -/
def State.setZrec (s : State) (i k : Nat) (z : ZRec) : State :=
  { s with chm := { s.chm with table := smSet (fun _ => zrecReset) s.chm.table (8 * i + k) z } }

/-- The copy that ZSEL asked for, at a window start (R194). -/
def State.copyZ (s : State) : State :=
  let b := s.get Fld.CHM_ZSEL_BLOCK
  let s := s.each 64 (fun s n => (List.range 12).foldl (fun s j =>
    s.setWord (Reg.CHM_ZDATA (12 * n + j)) ((s.zrec (8 * b + n / 8) (n % 8)).words.getD j 0)) s)
  ({ s with chm := { s.chm with zsel := false } }).irq Pg.CHM Irq.CHM_ZREADY

/-- A window opens at `t0` (R164, R165, R169, R182). -/
def State.chmOpen (s : State) (t0 : Nat) : State :=
  let ended := s.chm.run
  let s := (s.chmClose).chooseAmbient ended
  let span := s.get Fld.CHM_WIN_NSPAN
  let gap := s.get Fld.CHM_WIN_GAP
  let pause := s.on Fld.CHM_CFG_BLEED
  let inGap := pause && s.chm.gapLeft != 0
  let since := if inGap then s.chm.since else s.chm.since + bitNat ended.isSome
  let state := if inGap then 3 else if since < span then 1 else 2
  let s := s.bumpBy (whole Reg.CHM_WCOUNT) 1
  let s := (s.wr64 Reg.CHM_WSTART t0).put Fld.CHM_STAT_STATE state
  let s := (s.windowAmplitudes)
  let inj := maskOf 8 (fun k => s.toneEn k && !s.on (Fld.CHM_TSTAT_AMB k) && !s.chm.removed)
  let w : ChmWindow := ⟨t0, s.tel.tick.getD 3 0, s.rd Reg.CHM_WCOUNT, !inGap, [], [], [], none, 0, [], inj,
    s.on Fld.CHM_STAT_SCALED, [], [], [], [], 0, []⟩
  let measured := s.chm.span.length + bitNat s.chm.coll.isSome + 1
  let lastMeasured := pause && !inGap && measured % span == 0
  let gapLeft := if inGap then s.chm.gapLeft - 1 else if lastMeasured then gap else 0
  let s := { s with chm := { s.chm with run := some w, tref := s.chm.tref.orElse (fun _ => some t0)
                                        since := since, gapLeft := gapLeft, windows := s.chm.windows + 1 } }
  let s := if lastMeasured && gap != 0 then s.chmWriteAll (s.chmCtrl false) else s
  let s := if inGap && gapLeft = 0 then s.chmWriteAll (s.chmCtrl true) else s
  let s := s.chmWatch
  if s.chm.zsel then s.copyZ else s

/-- The window whose tick was launched opens once its T0 has come (R165, R183). -/
def State.chmAdvance (s : State) (now : Nat) : State :=
  match s.chm.pend with
  | none => s
  | some t0 => if t0 ≤ now then ({ s with chm := { s.chm with pend := none } }).chmOpen t0 else s

/-- A regular conversion of a branch current reaches Chime (R166, R183). -/
def State.chmSample (s : State) (b : Nat) (amps : Rat) (at_ : Nat) : State := (s.chmAdvance at_).chmSampled b amps at_

/-- A scan publication reaches Chime (R187). -/
def State.chmScan (s : State) : State := (s.chmAdvance s.nowNat).chmScanned

/-- A window is opened at this cell scan when its instant is a whole multiple of LEN: its tick follows the scan's on every
selected ring (R164, R165). -/
def State.chmTick (s : State) : State :=
  let s := s.chmAdvance s.nowNat
  if !(s.ens Pg.SRQ && s.chmRuns && s.gridAt (s.get Fld.SRQ_ALIGN_OFFSET) % (max 1 (s.get Fld.CHM_WIN_LEN)) == 0) then s else
  let t0 := s.tel.scanS + (if s.tel.tempOn && s.tel.tempS == s.tel.scanS + 600 then 1200 else 600)
  let s := (List.range 4).foldl (fun s r =>
    if bitOf (s.get Fld.CHM_CFG_RINGS) r && (s.inService r || s.mode r == 4) then (s.sendTick r 3).applyCtrl r else s) (s.nextTick 3)
  { s with chm := { s.chm with pend := some t0 } }

/-! ### Collection and results -/

/-- COLLECT_PHASOR per enabled tone and in-service position (R189). -/
def State.collectPhasors (s : State) : State :=
  let s := s.chmAdvance s.nowNat
  match s.chm.coll with
  | none => s
  | some _ =>
    let ps := s.allPositions.filter (fun x => bitOf (s.get Fld.CHM_CFG_RINGS) x.1)
    let due := s.tones.flatMap (fun k => ps.map (fun x => (x.1, x.2, k)))
    let s := { s with chm := { s.chm with due := due } }
    let s := due.foldl (fun s x => s.request x.1 (.phasor x.2.2) 8 x.2.1 none (beBytes 1 x.2.2) (8 + 8 * s.cellsOf x.1 x.2.1)) s
    s.each 4 (fun s r => s.flow r)

/-- A reason in the window being collected. -/
def State.collNote (s : State) (scope : ChmScope) (code : Nat) : State :=
  { s with chm := { s.chm with coll := s.chm.coll.map (fun (w : ChmWindow) =>
    if w.reasons.contains (scope, code) then w else { w with reasons := (scope, code) :: w.reasons }) } }

/-- A phasor report arrives (R144, R187, R189). -/
def State.takePhasor (s : State) (r p tone : Nat) (b : List Byte) : State :=
  match s.chm.coll with
  | none => s
  | some w =>
    if !s.chm.due.contains (r, p, tone) || beAt b 1 1 ≠ tone then s else
    let st := beAt b 3 1
    if beAt b 0 1 ≠ w.seq then s else
    let s := { s with chm := { s.chm with due := s.chm.due.filter (fun x => x != (r, p, tone)) } }
    let s := if bitOf st 4 then s.collNote (.ring r) 3 else s
    if !bitOf st 7 then s.collNote (.pos r p) 2 else
    let s := if bitOf st 6 then s.collNote (.pos r p) 6 else s
    let n := min (s.cellsOf r p) (beAt b 2 1)
    let ph := (List.range n).map (fun c =>
      (8 * (s.firstCell r p + c) + tone, (toSigned 32 (beAt b (8 + 8 * c) 4), toSigned 32 (beAt b (12 + 8 * c) 4))))
    { s with chm := { s.chm with coll := s.chm.coll.map (fun (w : ChmWindow) =>
      { w with voltPh := ph.foldl (fun l x => smInsert x.1 x.2 l) w.voltPh }) } }

/-- The reasons of a span's windows that cover a cell at a tone (R187); a window without its phasor has no acceptable report. -/
def spanReasons (ws : List ChmWindow) (i k r p : Nat) : List Nat :=
  let b := i / 384
  ws.flatMap (fun w =>
    (if w.voltPh.any (fun x => x.1 == 8 * i + k) then [] else [2]) ++
    (w.reasons.filter (fun x => x.1 == .all || x.1 == .cell i || x.1 == .pos r p || x.1 == .ring r || x.1 == .branch b)).map Prod.snd ++
    (match w.monitored with
     | none => []
     | some l => if l.contains i then [] else [1]))

/-- The lowest of several reason codes, 0 for none (R187). -/
def lowestCode (codes : List Nat) : Nat := codes.foldl (fun m c => if m = 0 || c < m then c else m) 0

/-- Span phasor of a quantity given per window (R167); windows oldest first. -/
def spanPhasor (ws : List ChmWindow) (f : Rat) (x : ChmWindow → Rat × Rat) : Rat × Rat :=
  match ws with
  | [] => (0, 0)
  | w0 :: _ =>
    cscale (1 / (ws.length : Rat)) (ws.foldl (fun a w =>
      cadd a (cmul (x w) (cturn (- f * ((((w.t0 : Int) - (w0.t0 : Int) : Int) : Rat) / 1000000000))))) (0, 0))

/-- Voltage and current phasors of a cell over a span, each corrected for its delay (R184). -/
def State.spanVI (s : State) (ws : List ChmWindow) (i k r p : Nat) : (Rat × Rat) × (Rat × Rat) :=
  let f := s.toneFreq k
  let b := i / 384
  let v := spanPhasor ws f (fun w =>
    let x := smGet (fun _ => ((0 : Int), (0 : Int))) w.voltPh (8 * i + k)
    ((x.1 : Rat) / 1000000000, (x.2 : Rat) / 1000000000))
  let c := spanPhasor ws f (fun w => smGet (fun _ => ((0 : Rat), (0 : Rat))) w.curPh (8 * b + k))
  let vns : Nat := smGet (fun _ => (0 : Nat)) s.chm.vdelay (32 * r + p - 1)
  let vd : Rat := (vns : Rat) / 1000000000
  let cd : Rat := ((toSigned 16 (s.rd (Reg.CHM_IDLY b)) : Int) : Rat) / 1000000000
  (cmul v (cturn (f * vd)), cmul c (cturn (f * cd)))

/-- Result of a cell at a tone: the reason, 0 when valid, and Z in ohms (R184, R185, R187). -/
def State.spanResult (s : State) (ws : List ChmWindow) (i k r p : Nat) : Nat × (Rat × Rat) :=
  let vi := s.spanVI ws i k r p
  let closed := (ws.map (fun w => smGet (fun _ => (0 : Nat)) w.closed i)).sum
  let scans := (ws.map ChmWindow.scans).sum
  let pause := s.on Fld.CHM_CFG_BLEED
  let floor : Rat := (s.get Fld.CHM_AMB_FLOOR : Rat) / 1000
  let reason := lowestCode (spanReasons ws i k r p ++
    (if !pause && closed ≠ 0 && closed ≠ scans then [0xC] else []) ++ (if cmag2 vi.2 < floor * floor then [0xE] else []))
  let rb : Rat := ((s.rd Reg.CHM_RBLEED % 65536 : Nat) : Rat) / 100
  let den := if !pause && closed ≠ 0 && closed = scans && rb ≠ 0 then cadd vi.2 (cscale (-1 / rb) vi.1) else vi.2
  let z := if cmag2 den = 0 then (Config.freeRat (s.free + 2 * (8 * i + k)), Config.freeRat (s.free + 2 * (8 * i + k) + 1)) else cdiv vi.1 den
  (reason, z)

/-- A valid result enters a record (R190, R191); Z in microohms. -/
def ZRec.update (z : ZRec) (re im : Rat) (wcount : Word) (t : Int) (soc : Nat) (icur : Int) (amb scaled : Bool) : ZRec :=
  let ar := fpVal z.zreAvg
  let ai := fpVal z.zimAvg
  let d2 := (re - ar) * (re - ar) + (im - ai) * (im - ai)
  let first := z.navg = 0
  { z with
    zre := fpOf re, zim := fpOf im
    zvar := if first then 0 else fpOf (fpVal z.zvar + (d2 - fpVal z.zvar) / 16)
    zreAvg := if first then fpOf re else fpOf (ar + (re - ar) / 16)
    zimAvg := if first then fpOf im else fpOf (ai + (im - ai) / 16)
    wcount := wcount, tmeas := t, socmeas := soc, icur := icur, navg := min 65535 (z.navg + 1)
    reason := 0, amb := amb, scaled := scaled, lastw := wcount }

/-- Differential capacity from the imaginary parts of the two tones in ohms, Ah/V (R186). -/
def dqdvOf (xl xd fl fd : Rat) : Option Rat :=
  let den := 1 / ratSqrt fl - 1 / ratSqrt fd
  let b := (xd * ratSqrt fd - xl * ratSqrt fl) / den
  if b > 0 then some (1 / (2 * ratPi * b * 3600)) else none

/-- Mean of the cell's TCELL over the scans of a span, 0.1 °C (R190). -/
def spanTemp (ws : List ChmWindow) (i : Nat) : Rat :=
  ((ws.map (fun w => w.temps.getD i 0)).sum : Int) / (max 1 (ws.map ChmWindow.tempN).sum : Nat)

/-- What Chime hands the running estimator for a cell (R186, R188). -/
def State.tellEst (s : State) (d : DqdvIn) : State :=
  if s.get Fld.EST_STAT_STATE = 1 then { s with est := { s.est with dqdv := s.est.dqdv ++ [d] } } else s

/-- The result of one cell at every enabled tone (R188, R190). -/
def State.cellResult (s : State) (ws : List ChmWindow) (i : Nat) : State :=
  let rp := s.cellPos i
  if rp.2 = 0 then s else
  match ws.getLast? with
  | none => s
  | some wl =>
    let count : Word := BitVec.ofNat 32 wl.count
    let t := spanTemp ws i
    let amps := (ws.map (fun w => smGet (fun _ => (0 : Rat)) w.means (i / 384))).sum / (ws.length : Rat)
    let soc := wl.socs.getD i 0
    let res := s.tones.map (fun k => (k, s.spanResult ws i k rp.1 rp.2))
    let s := res.foldl (fun s x =>
      let z := s.zrec i x.1
      if x.2.1 ≠ 0 then s.setZrec i x.1 { z with reason := x.2.1, lastw := count }
      else s.setZrec i x.1 (z.update (x.2.2.1 * 1000000) (x.2.2.2 * 1000000) count (ratRound t) soc (ratRound (amps * 10))
        (ws.any (fun w => !bitOf w.injected x.1)) (ws.any ChmWindow.scaled))) s
    let find := fun (k : Nat) => res.find? (fun x => x.1 == k)
    let s := match find (s.get Fld.CHM_CFG_SUMTONE) with
      | none => s
      | some x =>
        if x.2.1 ≠ 0 then (s.bumpBy (whole (Reg.CHM_DISC (x.2.1 - 1))) 1).irq Pg.CHM Irq.CHM_DISCARD
        else
          let s := s.wr (cellWord i 7) (satNat 16 (ratRound (x.2.2.1 * 10000000)) * 65536 + satSigned 16 (ratRound (x.2.2.2 * 10000000)))
          s.put (cellField i 8 16 16) wl.seq
    let kl := s.get Fld.CHM_CFG_LOWTONE
    let kd := s.get Fld.CHM_CFG_DIFFTONE
    let fl := s.toneFreq kl
    let fd := s.toneFreq kd
    let mid := match ws.head? with
      | none => wl.t0
      | some w0 => (w0.t0 + wl.t0 + (ratRound (s.chmLen * 1000000000)).toNat) / 2
    match find kl, find kd with
    | some l, some d =>
      let code := lowestCode ([l.2.1, d.2.1].filter (· != 0))
      if code ≠ 0 then s.tellEst ⟨i, some code, 0, 0, mid, t⟩ else
      match (if decide (fl < fd) && decide (fd ≤ 2) then dqdvOf l.2.2.2 d.2.2.2 fl fd else none) with
      | none => s.tellEst ⟨i, some 0, 0, 0, mid, t⟩
      | some v =>
        let s := s.put (cellField i 6 16 16) (satNat 16 (ratRound (v * 10)))
        let den := 1 / ratSqrt fl - 1 / ratSqrt fd
        let varB := (fd * fpVal (s.zrec i kd).zvar + fl * fpVal (s.zrec i kl).zvar) / 2 / (den * den) / 1000000000000
        s.tellEst ⟨i, none, v, v * v * (2 * ratPi * 3600) * ratSqrt varB, mid, t⟩
    | _, _ => s.tellEst ⟨i, some 0, 0, 0, mid, t⟩

/-- The deadline of a window's collection: missing reports discard their positions, and a span result is computed once
NSPAN windows stand (R169, R187 to R189). -/
def State.phasorDeadline (s : State) : State :=
  let s := s.chmAdvance s.nowNat
  match s.chm.coll with
  | none => s
  | some _ =>
    let s := if s.chm.due.isEmpty then s else s.irq Pg.CHM Irq.CHM_LATE
    let s := s.chm.due.foldl (fun s x => s.collNote (.pos x.1 x.2.1) 2) s
    let w := s.chm.coll.toList
    let span := s.get Fld.CHM_WIN_NSPAN
    let pause := s.on Fld.CHM_CFG_BLEED
    let ws := (w ++ s.chm.span).take span
    let s := s.each 4 (fun s r => s.dropCollects r 3)
    let s := { s with chm := { s.chm with coll := none, due := [], span := ws } }
    if ws.length < span then s else
    let s := s.each 3072 (fun s i => s.cellResult ws.reverse i)
    let s := { s with free := s.free + 49152 }
    let s := (s.bumpBy (whole Reg.CHM_RCOUNT) 1).publish Fld.SRQ_CSTSEQ_Z
    let s := if pause then { s with chm := { s.chm with span := [] } } else s
    s.irq Pg.CHM Irq.CHM_RESULT

/-! ### Enabling and commands -/

/-- Slot byte of a converter's regular sequence. -/
def State.regSlot (s : State) (k n : Nat) : Nat := bitsOf (s.rd (Reg.ADC_XSEQR0 k + 4 * (n / 4))) (24 - 8 * (n % 4)) 8

/-- Times an input occurs in the regular sequence of a converter, while its slot is enabled (R306). -/
def State.regCount (s : State) (k input : Nat) : Nat :=
  ((List.range 16).filter (fun n => s.regSlot k n ≥ 128 && s.regSlot k n % 32 == input)).length

/-- Rate of a branch-current input in the regular sequences is at least 100 kHz (R170). -/
def State.branchRateOk (s : State) (b : Nat) : Bool :=
  let n := ((List.range 4).map (fun k => s.regCount k (5 + b))).sum
  decide (n * 100 ≥ s.get Fld.ADC_REGPER_PER)

/-- The configuration is valid by R170. -/
def State.chmValid (s : State) : Bool :=
  let ks := s.tones
  !ks.isEmpty && ks.contains (s.get Fld.CHM_CFG_SUMTONE) &&
  ks.all (fun k => decide (s.toneFreq k ≥ 1 / 10) && decide (s.toneFreq k ≤ 1000)) &&
  ks.all (fun k => ks.all (fun m => m == k || s.get (Fld.CHM_TFREQ_N m) != s.get (Fld.CHM_TFREQ_N k))) &&
  (List.range 8).all (fun b => !bitOf s.svc.branches b || s.branchRateOk b)

/-- Chime's windows start afresh (R170, R197). -/
def State.chmRestart (s : State) : State :=
  let s := s.put Fld.CHM_STAT_STATE 1
  { s with chm := { s.chm with run := none, coll := none, span := [], tref := none, since := 0, gapLeft := 0, due := [], pend := none } }

/-- CHM_CTRL.EN is set (R170, R181). -/
def State.chmOn (s : State) : State :=
  let s := s.setOn (Fld.ens Pg.CHM) true
  if s.chmValid then
    let s := ((s.chmRestart).wr Reg.CHM_WCOUNT 0).wr Reg.CHM_RCOUNT 0
    s.allPositions.foldl (fun s x => s.chmConfigure x.1 x.2) s
  else (s.put Fld.CHM_STAT_STATE 4).irq Pg.CHM Irq.CHM_CONFIG_ERR

/-- CHM_CTRL.EN is cleared (R174): tones on the reference leave it with the next control sample; a copy that ZSEL asked for is
made (R40, R194). -/
def State.chmOff (s : State) : State :=
  let live := s.tonesOn
  let s := ((s.chmRestart).put Fld.CHM_STAT_STATE 0).setOn (Fld.ens Pg.CHM) false
  let s := (if live then s else s.setApplied []).setOn Fld.CHM_STAT_SCALED false
  let s := if s.chm.zsel then s.copyZ else s
  s.removeTones

/-- A write of CHM_ZSEL: the copy comes at the next window start, with the block disabled at once (R40, R194). -/
def State.zselWritten (s : State) : State :=
  if s.ens Pg.CHM then { s with chm := { s.chm with zsel := true } } else s.copyZ

/-- A command of CHM_CMD by an origin (R191, R192, R197). -/
def State.chmCommand (s : State) (o : Origin) (op : Nat) : State :=
  let mapZ := fun (s : State) (f : ZRec → ZRec) =>
    { s with chm := { s.chm with table := (s.chm.table.map (fun x => (x.1, f x.2))).filter (fun x => x.2 != zrecReset) } }
  if op = 1 then
    (mapZ s (fun z => if z.navg ≥ 16 then { z with refRe := z.zreAvg, refIm := z.zimAvg, refOk := true }
      else { z with refOk := false })).auditCommand o Reg.CHM_CMD 0 1
  else if op = 2 then (if s.chmRuns then s.chmRestart else s)
  else if op = 3 then mapZ s (fun z => { z with navg := 0 })
  else s

end Sys2Proof.Machine
end

