-- ==== Sys2Proof/Machine/Estimator.lean ====
section
/-! DEFINITION. The estimator (R199 to R233): coulomb counting, anchors, usable state of charge, limits, capacity learning
and the learned data. -/

namespace Sys2Proof.Machine

/-! ### Chemistry table -/

/-- Halfword at an offset of the EST page (R231). -/
def State.chem16 (s : State) (off : Nat) : Nat := bitsOf (s.rd (0x51000 + off / 4 * 4)) (if off % 4 = 0 then 16 else 0) 16

/-- Columns used. -/
def State.chemNt (s : State) : Nat := s.rd (Reg.EST_CHEM 0) % 16

/-- Temperature breakpoint of a column, 0.1 °C. -/
def State.chemT (s : State) (t : Nat) : Int := toSigned 16 (s.chem16 (0x404 + 2 * t))

/-- Column below a temperature and the share of the next one; the end columns apply outside (R232). -/
def State.chemCol (s : State) (temp : Rat) : Nat × Rat :=
  let n := s.chemNt
  if temp ≤ (s.chemT 0 : Rat) then (0, 0)
  else if temp ≥ (s.chemT (n - 1) : Rat) then (n - 1, 0)
  else match (List.range (n - 1)).find? (fun t => decide ((s.chemT t : Rat) ≤ temp) && decide (temp < (s.chemT (t + 1) : Rat))) with
    | none => (n - 1, 0)
    | some t => (t, (temp - s.chemT t) / ((s.chemT (t + 1) : Rat) - s.chemT t))

/-- A value per column, interpolated in temperature. -/
def State.chemAt (s : State) (off : Nat → Nat) (temp : Rat) : Rat :=
  let c := s.chemCol temp
  let a : Rat := s.chem16 (off c.1)
  if c.2 = 0 then a else a + c.2 * ((s.chem16 (off (c.1 + 1)) : Rat) - a)

/-- OCV at a whole SOC point, in V. -/
def State.ocvPoint (s : State) (temp : Rat) (p : Nat) : Rat := s.chemAt (fun t => 0x410 + 2 * (101 * t + p)) temp / 10000

/-- SOC point below an SOC. -/
def socPoint (x : Rat) : Nat := min 99 (ratFloor x).toNat

/-- OCV(s, T) in V. -/
def State.ocv (s : State) (x temp : Rat) : Rat :=
  let p := socPoint x
  let a := s.ocvPoint temp p
  a + (x - p) * (s.ocvPoint temp (p + 1) - a)

/-- OCV slope at an SOC, V per %. -/
def State.ocvSlope (s : State) (x temp : Rat) : Rat :=
  let p := socPoint x
  s.ocvPoint temp (p + 1) - s.ocvPoint temp p

/-- OCV^-1: the SOC at which the OCV equals a voltage, none outside the table (log 7). -/
def State.ocvInv (s : State) (v temp : Rat) : Option Rat :=
  match (List.range 100).find? (fun p => decide (s.ocvPoint temp p ≤ v) && decide (v ≤ s.ocvPoint temp (p + 1))) with
  | none => none
  | some p =>
    let a := s.ocvPoint temp p
    some ((p : Rat) + (v - a) / (s.ocvPoint temp (p + 1) - a))

/-- The SOC for a voltage; a free number where the table states none. -/
def State.socFor (s : State) (v temp : Rat) : Rat × State :=
  match s.ocvInv v temp with
  | some x => (x, s)
  | none => s.drawRat

/-- Fingerprint G(s, T) in 1/V. -/
def State.fingerprint (s : State) (x temp : Rat) : Rat :=
  let p := socPoint x
  let at_ := fun (p : Nat) => s.chemAt (fun t => 0x8CC + 2 * (101 * t + p)) temp / 100
  at_ p + (x - p) * (at_ (p + 1) - at_ p)

/-- The chemistry table passes its check (R232). -/
def State.chemOk (s : State) : Bool :=
  let n := s.chemNt
  let bytes := (List.range 616).flatMap (fun i => beBytes 4 (s.rd (Reg.EST_CHEM i)))
  s.word (Reg.EST_CHEM 616) == crc32c bytes && decide (2 ≤ n) && decide (n ≤ 6) &&
  (List.range (n - 1)).all (fun t => decide (s.chemT t < s.chemT (t + 1))) &&
  (List.range n).all (fun t => (List.range 100).all (fun p =>
    decide (s.chem16 (0x410 + 2 * (101 * t + p)) < s.chem16 (0x410 + 2 * (101 * t + p + 1)))))

/-! ### Cells -/

/-- EST_RATED in Ah. -/
def State.rated (s : State) : Rat := ((s.rd Reg.EST_RATED % 65536 : Nat) : Rat) / 100

/-- A learning-cycle record that has never opened. -/
def learnReset : LearnRec := ⟨false, 0, 0, 0, 0, 0, 0, 0, 0⟩

/-- A cell's defaults (R227). -/
def State.estDefault (s : State) : EstCell :=
  ⟨s.rated, s.rated / 20, 50, 50, 0, 0, 0, learnReset, none, none, (0, 0), 0, none, 0, 0, 0⟩

/-- Estimator state of a cell. -/
def State.estCell (s : State) (i : Nat) : EstCell := smGet (fun _ => s.estDefault) s.est.cells i

/-- Set the estimator state of a cell. -/
def State.setEst (s : State) (i : Nat) (c : EstCell) : State := { s with est := { s.est with cells := smInsert i c s.est.cells } }

/-- A position names the cell's entry. -/
def State.cellKnown (s : State) (i : Nat) : Bool := (s.cellPos i).2 != 0

/-- Branch `b` is joined. -/
def State.branchIn (s : State) (b : Nat) : Bool := bitOf s.svc.branches b

/-- TQUAL of a cell. -/
def State.tqual (s : State) (i : Nat) : Nat := s.get (cellField i 2 10 2)

/-- Temperature the estimator interpolates at, 0.1 °C: the lowest column where TQUAL is 0b00 (R206). -/
def State.estTemp (s : State) (i : Nat) : Rat := if s.tqual i = 0 then s.chemT 0 else s.geti (cellField i 2 16 16)

/-- ZRE_AVG at a tone in ohms. -/
def State.zreAvg (s : State) (i k : Nat) : Rat := fpVal (s.zrec i k).zreAvg / 1000000

/-- R_c of a cell (R211). -/
def State.cellR (s : State) (i : Nat) : Rat := s.zreAvg i (s.get Fld.EST_CFG_RTONE)

/-- R_c has a result behind it (R216). -/
def State.cellRknown (s : State) (i : Nat) : Bool := (s.zrec i (s.get Fld.EST_CFG_RTONE)).navg != 0

/-- FLOOR of an anchor's uncertainty, %. -/
def State.anchFloor (s : State) : Rat := (s.get Fld.EST_ANCH_FLOOR : Rat) / 100

/-! ### Fusion and learning -/

/-- Fuse an observation (R204). -/
def EstCell.fuse (c : EstCell) (a sa : Rat) : EstCell :=
  let d := c.ss * c.ss + sa * sa
  { c with soc := c.soc + ratDiv (c.ss * c.ss) d * (a - c.soc), ss := ratSqrt (ratDiv (c.ss * c.ss * sa * sa) d) }

/-- Close an open cycle uncounted with a cause (R221). -/
def State.disqualify (s : State) (i cause : Nat) : State :=
  let c := s.estCell i
  if !c.learn.isOpen then s else
  (s.setEst i { c with learn := { c.learn with isOpen := false, cause := cause } }).bump (whole (Reg.EST_LDISQ (cause - 1)))

/-- Every open cycle of the cells that satisfy a test is disqualified. -/
def State.disqualifyAll (s : State) (cause : Nat) (f : Nat → Bool) : State :=
  (s.est.cells.map Prod.fst).foldl (fun s i => if f i then s.disqualify i cause else s) s

/-- An anchor meets the learning cycle of its cell (R219 to R221); the second part tells of a counted cycle. -/
def State.learnAnchor (s : State) (i : Nat) (a sa : Rat) : State × Bool :=
  let c := s.estCell i
  let l := c.learn
  let opened := { l with isOpen := true, a1 := a, sig1 := sa, charge := 0, seconds := 0, hot := 0, dark := 0 }
  if sa > (s.get Fld.EST_LEARN_MAXSIG : Rat) / 10 then (s, false)
  else if !l.isOpen then (s.setEst i { c with learn := opened }, false)
  else
    let d := ratAbs (a - l.a1)
    if d < (s.get Fld.EST_LEARN_MINDSOC : Rat) then (s, false) else
    let qm := ratDiv (ratAbs l.charge * 100) d
    if qm < s.rated / 2 ∨ qm > s.rated * 12 / 10 then (s.disqualify i 6, false) else
    let sm := ratDiv (qm * ratSqrt (l.sig1 * l.sig1 + sa * sa)) d
    let den := c.sq * c.sq + sm * sm
    let q := c.q + ratDiv (c.sq * c.sq) den * (qm - c.q)
    let sq := ratSqrt (ratDiv (c.sq * c.sq * sm * sm) den)
    let c := { c with q := q, sq := sq, learn := { opened with nlearn := min 65535 (l.nlearn + 1) } }
    (((s.setEst i c).bumpBy (whole Reg.EST_LCNT) 1).irq Pg.EST Irq.EST_LEARNED, true)

/-! ### Reserves -/

/-- Discharge and charge reserve of a cell for an SOC, current, temperature, resistance and polarisation (R212). -/
def State.reserve (s : State) (c : EstCell) (x cur temp r vp : Rat) : (Rat × Rat) × State :=
  let iref := fun (f : RegField) => if s.get f = 0 then s.rated / 2 else (s.get f : Rat) / 10
  let idis := if cur < 0 then cur else - iref Fld.EST_IREF_DIS
  let ichg := if cur > 0 then cur else iref Fld.EST_IREF_CHG
  let lo := s.socFor ((s.get Fld.EST_VLIM_VSHUT : Rat) / 10000 - idis * r - vp) temp
  let hi := lo.2.socFor ((s.get Fld.EST_VLIM_VCUT : Rat) / 10000 - ichg * r - vp) temp
  ((max 0 (c.q * (x - lo.1) / 100), max 0 (c.q * (hi.1 - x) / 100)), hi.2)

/-- Current limits of a cell in A (R216). -/
def State.cellLimits (s : State) (i : Nat) (c : EstCell) (temp r : Rat) : (Rat × Rat) × State :=
  let rate := fun (base : Nat) => s.chemAt (fun t => base + 2 * t) temp / 100 * s.rated
  let v := s.ocv c.soc temp
  let head := if r = 0 then
      let a := s.drawRat
      let b := a.2.drawRat
      ((a.1, b.1), b.2)
    else (((((s.get Fld.EST_VLIM_VCUT : Rat) / 10000 - v - c.vp) / r), ((v + c.vp - (s.get Fld.EST_VLIM_VSHUT : Rat) / 10000) / r)), s)
  let chg := rate 0xD88
  let dis := rate 0xD94
  if s.cellRknown i then ((max 0 (min chg head.1.1), max 0 (min dis head.1.2)), head.2) else ((max 0 chg, max 0 dis), s)

/-! ### Update of one cell -/

/-- Bleed charge taken in this update in mC, spread over the ten updates after its publication (R200). -/
def State.bleedStep (s : State) (i : Nat) (c : EstCell) : Rat × EstCell :=
  let now := s.rd (cellWord i 9)
  let c := if now = c.bleedSeen then c else
    let d : Nat := (now + 2 ^ 32 - c.bleedSeen) % 2 ^ 32
    { c with bleedSeen := now, bleedShare := ((d : Rat) + c.bleedShare * (c.bleedLeft : Rat)) / 10, bleedLeft := 10 }
  if c.bleedLeft = 0 then (0, c) else (c.bleedShare, { c with bleedLeft := c.bleedLeft - 1 })

/-- Coulomb counting and polarisation (R203): the cell and its current. -/
def State.coulomb (s : State) (i : Nat) (c0 : EstCell) (branchMas dt : Rat) : EstCell × Rat × Rat :=
  let b := s.bleedStep i c0
  let c := b.2
  let dq := (branchMas - b.1) / 3600000
  let cur := if dt = 0 then 0 else dq * 3600 / dt
  let gain : Rat := (s.get Fld.EST_ISENS_GAIN : Rat) / 10000
  let offs : Rat := (s.get Fld.EST_ISENS_OFFS : Rat) / 100
  let drift : Rat := ((s.rd Reg.EST_DRIFT % 65536 : Nat) : Rat) / 1000 / 3600
  let tau : Rat := s.get Fld.EST_VOBS_TAU
  let rp := max 0 (s.zreAvg i (s.get Fld.CHM_CFG_LOWTONE) - s.zreAvg i (s.get Fld.EST_CFG_RTONE))
  let e := ratExp (ratDiv (- dt) tau)
  let move := ratDiv (100 * dq) c.q
  let grow := ratDiv (100 * (gain * ratAbs dq + offs * dt / 3600)) c.q + ratDiv (ratAbs move * c.sq) c.q
  let l := c.learn
  let seen := s.cellMon i && !s.cellStale i
  let t : Int := s.geti (cellField i 2 16 16)
  let hot := t < s.geti Fld.EST_LTEMP_TMIN ∨ t > s.geti Fld.EST_LTEMP_TMAX ∨ ¬ (s.tqual i = 1 ∨ s.tqual i = 2)
  ({ c with
    soc := c.soc + move
    ss := c.ss + grow + drift * dt
    vp := c.vp * e + cur * rp * (1 - e)
    cum := c.cum + dq
    efc := if s.rated = 0 then c.efc else c.efc + ratAbs dq / (2 * s.rated)
    dark := if s.cellMon i then 0 else c.dark + dt
    learn := if l.isOpen then { l with charge := l.charge + dq, seconds := l.seconds + dt,
                                       hot := if hot then l.hot + dt else l.hot
                                       dark := if seen then l.dark else l.dark + dt } else l }, cur, dq)

/-- Causes that disqualify an open cycle at an update (R221). -/
def State.learnCause (s : State) (c : EstCell) (cur : Rat) : Nat :=
  let l := c.learn
  if !l.isOpen then 0
  else if l.hot > 60 then 1
  else if ratAbs cur > (s.get Fld.EST_LEARN_MAXRATE : Rat) / 100 * s.rated then 2
  else if l.seconds > (s.get Fld.EST_LEARN_MAXHOURS : Rat) * 3600 then 3
  else if l.dark > 10 then 4 else 0

/-- The cell's branch has been below EST_REST.I for EST_REST.T (R210). -/
def State.atRest (s : State) (b : Nat) : Bool :=
  match s.est.restSince.find? (fun x => x.1 == b) with
  | none => false
  | some x => decide (s.nowNat ≥ x.2 + s.get Fld.EST_REST_T * 1000000000)

/-- Rest anchor (R210); the last part tells of a counted cycle. -/
def State.restAnchor (s : State) (i : Nat) : State × Bool :=
  let c := s.estCell i
  if !s.atRest (i / 384) then (s, false) else
  let sigma := s.get Fld.EST_VOBS_SIGMA
  let moved := match c.rest with
    | none => true
    | some (t, v) => decide (s.nowNat ≥ t + s.get Fld.EST_REST_T * 1000000000) &&
        decide (10 * sigma < (if v ≤ s.vavg i then s.vavg i - v else v - s.vavg i))
  if !(s.on Fld.EST_CFG_ANCHREST && moved) then (s, false) else
  let temp := s.estTemp i
  let x := s.socFor ((s.vavg i : Rat) / 10000) temp
  let s := x.2
  let slope := s.ocvSlope x.1 temp
  let sa := max s.anchFloor (ratDiv ((sigma : Rat) / 1000) slope)
  let c := { (({ c with vp := 0 } : EstCell).fuse x.1 sa) with rest := some (s.nowNat, s.vavg i) }
  ((s.setEst i c).irq Pg.EST Irq.EST_ANCHOR).learnAnchor i x.1 sa

/-- SOC points in 0.01 % that a differential capacity allows (R207). -/
def State.candidates (s : State) (gm sg mid ss temp : Rat) : List Nat :=
  (List.range 10001).filter (fun k =>
    decide (ratAbs ((k : Rat) / 100 - mid) ≤ 3 * ss) && decide (ratAbs (s.fingerprint ((k : Rat) / 100) temp - gm) ≤ 2 * sg))

/-- Charge of a cell at an instant (R207): between two updates it flows evenly, as the cell current of R200 has it; before the
first update on record it is that one's (DESIGN CHOICE log 13). -/
def State.cumAt (s : State) (i t : Nat) (last : Rat) : Rat :=
  let at_ := fun (h : Nat × List (Nat × Rat) × List (Nat × Rat)) => smGet (fun _ => last) h.2.2 i
  let after := match (s.est.hist.filter (fun h => decide (t < h.1))).getLast? with
    | none => (s.nowNat, last)
    | some h => (h.1, at_ h)
  match s.est.hist.find? (fun h => decide (h.1 ≤ t)) with
  | none => if s.est.hist.isEmpty then last else after.2
  | some h => at_ h + ratDiv ((after.2 - at_ h) * ((t - h.1 : Nat) : Rat)) ((after.1 - h.1 : Nat) : Rat)

/-- Differential-capacity anchor (R207, R208); a notice forms none and changes nothing (R209). -/
def State.dqdvAnchor (s : State) (d : DqdvIn) : State × Bool :=
  let c := s.estCell d.cell
  if !s.on Fld.EST_CFG_ANCHDQDV || d.notice.isSome then (s, false) else
  let moved := ratDiv (100 * (c.cum - s.cumAt d.cell d.mid c.cum)) c.q
  let mid := c.soc - moved
  let l := s.candidates (ratDiv d.value c.q) (ratDiv d.sigma c.q) mid c.ss d.temp
  let lo := l.headD 0
  let hi := l.getLastD 0
  let w : Rat := ((hi - lo : Nat) : Rat) / 100
  let one := !l.isEmpty && hi - lo + 1 == l.length
  if !one || w > (s.get Fld.EST_ANCH_MAXW : Rat) / 10 then (s.bump Fld.EST_ACNT_AMBIG, false) else
  let a : Rat := ((lo + hi : Nat) : Rat) / 200
  let sa := max (w / 4) s.anchFloor
  let f := ({ c with soc := mid } : EstCell).fuse a sa
  (((s.setEst d.cell { f with soc := f.soc + moved }).bump Fld.EST_ACNT_DQDV).irq Pg.EST Irq.EST_ANCHOR).learnAnchor d.cell a sa

/-- Voltage observation (R211). -/
def State.voltObs (s : State) (i : Nat) (cur : Rat) : State :=
  let c := s.estCell i
  let temp := s.estTemp i
  let slope := s.ocvSlope c.soc temp
  if !(s.on Fld.EST_CFG_ANCHVOLT && !s.atRest (i / 384) && s.bit (cellWord i 0) 28 && decide (slope ≠ 0) &&
      decide (slope * 10000 ≥ (s.get Fld.EST_VOBS_MINSLOPE : Rat))) then s else
  let a := c.soc + ((s.vavg i : Rat) / 10000 - s.ocv c.soc temp - cur * s.cellR i - c.vp) / slope
  s.setEst i (c.fuse a (max ((s.get Fld.EST_VOBS_SIGMA : Rat) / 1000 / slope) s.anchFloor))

/-- Publish a cell's group E (R157, R205). -/
def State.publishCell (s : State) (i : Nat) (c : EstCell) (lim : Rat × Rat) : State :=
  let conf := satNat 8 (255 - ratRound (c.ss * 25))
  let s := s.wr (cellWord i 3) (satNat 16 (ratRound (c.soc * 100)) * 65536 + conf * 256)
  let soh := if s.rated = 0 then 0 else 10000 * c.q / s.rated
  let s := s.wr (cellWord i 4) (satNat 16 (ratRound (c.q * 100)) * 65536 + satNat 16 (ratRound soh))
  let s := s.wr (cellWord i 5) (satNat 16 (ratRound (lim.1 * 10)) * 65536 + satNat 16 (ratRound (lim.2 * 10)))
  s.wr (cellWord i 11) (satNat 16 (ratRound (c.efc * 10)) * 65536)

/-- The update of one cell (R203 to R216); the second part tells of a counted learning cycle. -/
def State.updateCell (s : State) (i : Nat) (branchMas dt : Rat) : State × Bool :=
  let c0 := s.estCell i
  let st := s.coulomb i c0 branchMas dt
  let c := st.1
  let cur := st.2.1
  let s := s.setEst i c
  let cause := s.learnCause c cur
  let s := if cause = 0 then s else s.disqualify i cause
  let s := if s.atRest (i / 384) then s else s.setEst i { (s.estCell i) with rest := none }
  let seen := s.cellMon i && !s.cellStale i
  let prev := c0.prev.getD (cur, s.estTemp i, s.cellR i, c.vp)
  let ra := s.reserve c (ratClamp 0 100 c.soc) prev.1 prev.2.1 prev.2.2.1 prev.2.2.2
  let s := ra.2
  let x := if !seen then (s, false) else
    let a := s.restAnchor i
    let b := (s.est.dqdv.filter (fun d => d.cell == i)).foldl (fun (y : State × Bool) d =>
      let z := y.1.dqdvAnchor d
      (z.1, y.2 || z.2)) a
    (b.1.voltObs i cur, b.2)
  let s := x.1
  let c := s.estCell i
  let c := { c with soc := ratClamp 0 100 c.soc }
  let temp := s.estTemp i
  let r := s.cellR i
  let lim := if s.cellMon i then s.cellLimits i c temp r
    else (((s.get (cellField i 5 16 16) : Rat) / 10, (s.get (cellField i 5 0 16) : Rat) / 10), s)
  let s := lim.2
  let rb := s.reserve c c.soc cur temp r c.vp
  let keep := c.dark ≤ (s.get Fld.EST_CFG_UNMON : Rat)
  let c := { c with
    reserves := if s.cellMon i then some rb.1 else if keep then c.reserves else none
    reservesA := if s.cellMon i then ra.1 else c.reserves.getD (0, 0)
    prev := some (cur, temp, r, c.vp) }
  (((if s.cellMon i then rb.2 else s).setEst i c).publishCell i c lim.1, x.2)

/-! ### String values -/

/-- Least reserve over cells with the cell that sets it, by a choice of reserve. -/
def leastOf (l : List (Nat × Rat)) : Option (Nat × Rat) :=
  l.foldl (fun m x => match m with
    | none => some x
    | some y => if x.2 < y.2 then some x else m) none

/-- UT from two reserves (R213). -/
def utOf (d c : Rat) : Rat := if d + c = 0 then 0 else 100 * d / (d + c)

/-- The map F with one knot (R214). -/
def mapF (k : Rat × Rat) (u : Rat) : Rat :=
  if u ≤ k.1 then (if k.1 = 0 then k.2 else u * k.2 / k.1)
  else if k.1 = 100 then k.2 else k.2 + (u - k.1) * (100 - k.2) / (100 - k.1)

/-- USOC and its knot for this update (R214, R215); the last part tells of USOC_STEP, recorded at every update whose
target is 0 or 100. -/
def stepUsoc (fresh : Bool) (k : Rat × Rat) (ua ub slew : Rat) : Rat × (Rat × Rat) × Bool :=
  if fresh then (ub, (ub, ub), false) else
  let u := mapF k ua
  if ub = 0 ∨ ub = 100 then (ub, (ub, ub), true) else
  let kr := if u < ub then min ub (u + slew) else max ub (u - slew)
  (kr, (ub, kr), false)

/-- Share of each branch in the string current over the last second (R217). -/
def State.branchShare (s : State) (b : Nat) : Rat :=
  let now := s.nowNat
  let j : Rat := max 1 s.joined
  match s.est.hist.find? (fun h => decide (h.1 + 1000000000 ≤ now)) with
  | none => 1 / j
  | some h =>
    let move := fun (b : Nat) => (smGet (fun _ => (0 : Rat)) s.est.qacc b) - smGet (fun _ => (0 : Rat)) h.2.1 b
    let total := ((List.range 8).map move).sum
    let secs : Rat := ((now - h.1 : Nat) : Rat) / 1000000000
    if ratAbs total / 1000 / secs < j * s.rated / 20 then 1 / j else move b / total

/-- L_chg and L_dis of the string (R217). -/
def State.stringLimits (s : State) : (Rat × Rat) × State :=
  let bs := (List.range 8).filter s.branchIn
  let per := bs.map (fun b =>
    let cells := ((List.range 384).map (fun c => 384 * b + c)).filter s.cellKnown
    let dead := cells.any (fun i => decide ((s.estCell i).dark > (s.get Fld.EST_CFG_UNMON : Rat)))
    let least := fun (lo : Nat) => ((cells.map (fun i => s.get (cellField i 5 lo 16))).foldl (fun m v => match m with
      | none => some v
      | some y => some (min y v)) (none : Option Nat)).getD 0
    (s.branchShare b, dead, (least 16 : Rat) / 10, (least 0 : Rat) / 10))
  let free := s.drawRat
  let div := fun (x : Rat × Bool × Rat × Rat) (a : Rat) => if x.2.1 then 0 else if x.1 = 0 then free.1 else a / x.1
  let minOf := fun (l : List Rat) => (l.foldl (fun m v => match m with
    | none => some v
    | some y => some (min y v)) (none : Option Rat)).getD 0
  ((minOf (per.map (fun x => div x x.2.2.1)), minOf (per.map (fun x => div x x.2.2.2))),
   if per.any (fun x => !x.2.1 && decide (x.1 = 0)) then free.2 else s)

/-- Words of a cell's learned record (R223). -/
def EstCell.words (c : EstCell) : List Word :=
  [fpOf c.q, fpOf c.sq, fpOf c.soc, fpOf c.ss, BitVec.ofNat 32 (satNat 32 (ratRound (c.efc * 100))),
   BitVec.ofNat 32 (c.learn.nlearn * 65536 + bitNat c.learn.isOpen * 32768 + c.learn.cause * 4096),
   BitVec.ofNat 32 (satNat 16 (ratRound (c.learn.a1 * 100)) * 65536 + satNat 16 (ratRound (c.learn.sig1 * 100))),
   fpOf c.learn.charge]

/-! ### Learned data -/

/-- Body of a copy: 98,304 bytes of cell records, then the impedance table in the order of R194 (R223). -/
def LdCopy.body (c : LdCopy) : List Byte :=
  (List.range 24576).flatMap (fun n => beBytes 4 (c.cells.getD n 0).toNat) ++
  (List.range 24576).flatMap (fun n => (smGet (fun _ => zrecReset) c.table n).words.flatMap (fun w => beBytes 4 w.toNat))

/-- Bytes 0x00 to 0x1F of a copy (R223). -/
def LdCopy.head (c : LdCopy) : List Byte :=
  [c.magic, c.format, c.seq, c.length, c.opsec, c.pcc, c.rated, c.bodyCrc.toNat].flatMap (beBytes 4)

/-- MAGIC of a copy (R223). -/
def ldMagic : Nat := 0x4C444154

/-- Body bytes of a copy (R223). -/
def ldLength : Nat := 1277952

/-- MAGIC, both CRCs and LENGTH of a copy are correct (R227). -/
def LdCopy.intact (c : LdCopy) : Bool :=
  c.magic == ldMagic && c.length == ldLength && c.headCrc == crc32c c.head && c.bodyCrc == crc32c c.body

/-- A copy with its two CRCs (R223, R225). -/
def LdCopy.sealed (c : LdCopy) : LdCopy :=
  let c := { c with bodyCrc := crc32c c.body }
  { c with headCrc := crc32c c.head }

/-- The active learned-data copy. -/
def State.activeCopy (s : State) : LdCopy := if s.on Fld.EST_STAT_ACTIVE then s.est.copyB else s.est.copyA

/-- A write-back targets copy B: the copy that is not active, or the invalid one (R225, R226). -/
def State.targetB (s : State) : Bool :=
  let act := s.on Fld.EST_STAT_ACTIVE
  let other := if act then s.est.copyA else s.est.copyB
  if !s.activeCopy.intact && other.intact then act else !act

/-- Set a learned-data copy, true for B. -/
def State.setCopy (s : State) (b : Bool) (f : LdCopy → LdCopy) : State :=
  { s with est := if b then { s.est with copyB := f s.est.copyB } else { s.est with copyA := f s.est.copyA } }

/-- The snapshot of a write-back: group E state of every cell and the impedance table (R223, R225). -/
def State.ldSnapshot (s : State) : LdCopy :=
  ⟨ldMagic, 1, (s.activeCopy.seq + 1) % 2 ^ 32, ldLength, s.opsec, s.rd Reg.EVR_PCC % 2 ^ 24, s.rd Reg.EST_RATED % 65536, 0, 0,
    (List.range 3072).flatMap (fun i => (s.estCell i).words), s.chm.table⟩

/-- A write-back is torn (R226): the target stays invalid, every open cycle is disqualified. -/
def State.ldTorn (s : State) : State :=
  let s := (s.bump Fld.EST_LDCNT_TORN).irq Pg.EST Irq.EST_LDTORN
  (s.faultEvent Pg.EST Flt.LD_TORN 0).disqualifyAll 4 (fun _ => true)

/-- A write-back starts, or is held while one runs (R224, R225): MAGIC of the target is cleared; with HUGOOD 0 the first block is
not written. -/
def State.startWriteback (s : State) : State :=
  if s.est.writing.isSome then { s with est := { s.est with held := true } } else
  let b := s.targetB
  let snap := s.ldSnapshot
  let s := s.setCopy b (fun c => { c with magic := 0 })
  if !s.on Fld.PWR_STAT_HUGOOD then s.ldTorn else
  ({ s with est := { s.est with writing := some ⟨b, snap, false⟩ } }).setOn Fld.EST_STAT_LDBUSY true

/-- A write-back is complete: CRCs and MAGIC are written and the target becomes active (R225). -/
def State.ldWritten (s : State) (w : Writeback) : State :=
  let s := ((s.setCopy w.toB (fun _ => w.snap.sealed)).setOn Fld.EST_STAT_ACTIVE w.toB).wr Reg.EST_LDSEQ w.snap.seq
  (s.bump Fld.EST_LDCNT_WRITES).irq Pg.EST Irq.EST_LDWRITE

/-- A write-back ends verified or torn; a held one then starts (R224 to R226). -/
def State.endWriteback (s : State) (good : Bool) : State :=
  match s.est.writing with
  | none => s
  | some w =>
    let s := ({ s with est := { s.est with writing := none } }).setOn Fld.EST_STAT_LDBUSY false
    let s := if good then s.ldWritten w else s.ldTorn
    if s.est.held then ({ s with est := { s.est with held := false } }).startWriteback else s

/-- A write-back that ends as `how` tells is good (R225): the loss of HUGOOD tears it only when HUGOOD has been 0. DESIGN CHOICE
(log 13): the command says which block was the last before the loss, and that the read-back was wrong. -/
def State.endsGood (s : State) (how : WritebackEnd) : Bool :=
  match how with
  | .verified => true
  | .hugoodLost => !(s.est.writing.any Writeback.low)
  | .readbackWrong => false

/-- HUGOOD falls while a write-back runs (R225). -/
def State.writebackLow (s : State) : State :=
  { s with est := { s.est with writing := s.est.writing.map (fun w => { w with low := true }) } }

/-- A learned record replaces what is known of a cell; its charge accumulators stay (R223, R595). -/
def takeRecord (c : EstCell) (ws : List Word) : EstCell :=
  let w := fun (k : Nat) => (ws.getD k 0)
  let n := fun (k : Nat) => (ws.getD k 0).toNat
  { c with
    q := ratOf (w 0), sq := ratOf (w 1), soc := ratOf (w 2), ss := ratOf (w 3), efc := (n 4 : Rat) / 100
    learn := { c.learn with
      nlearn := bitsOf (n 5) 16 16, isOpen := bitOf (n 5) 15, cause := bitsOf (n 5) 12 3
      a1 := (bitsOf (n 6) 16 16 : Rat) / 100, sig1 := (bitsOf (n 6) 0 16 : Rat) / 100, charge := ratOf (w 7) } }

/-- Records of the partner are taken into the estimator (R595). -/
def State.takeIncoming (s : State) : State :=
  s.est.incoming.foldl (fun (s : State) (x : Nat × List Word) => s.setEst x.1 (takeRecord (s.estCell x.1) x.2))
    { s with est := { s.est with incoming := [] } }

/-- A cell as a load leaves it, with BLEEDQ as it stands (R200, R227). -/
def State.loadedCell (s : State) (i : Nat) (ws : List Word) : EstCell :=
  { (takeRecord s.estDefault ws) with bleedSeen := s.rd (cellWord i 9) }

/-- Learned data is loaded from the valid newer copy (R227, R228); with none valid, every cell takes its defaults. -/
def State.loadLearned (s : State) : State :=
  let ok := fun (c : LdCopy) => c.rated == s.rd Reg.EST_RATED % 65536 && c.intact
  let a := s.est.copyA
  let b := s.est.copyB
  let pickB := ok b && (!ok a || decide (0 < toSigned 32 ((b.seq + 2 ^ 32 - a.seq) % 2 ^ 32)))
  if !ok a && !ok b then
    let cells := (List.range 3072).map (fun i => (i, { s.estDefault with bleedSeen := s.rd (cellWord i 9) }))
    let s := { s with est := { s.est with cells := cells }, chm := { s.chm with table := [] } }
    s.faultEvent Pg.EST Flt.LD_NONE 0
  else
    let c := if pickB then b else a
    let widen : Rat := (s.get Fld.EST_ANCH_RESTORE : Rat) / 100
    let cells := (List.range 3072).map (fun i =>
      let x := s.loadedCell i ((c.cells.drop (8 * i)).take 8)
      (i, { x with ss := ratSqrt (x.ss * x.ss + widen * widen) }))
    let s := { s with est := { s.est with cells := cells }, chm := { s.chm with table := c.table } }
    ((s.setOn Fld.EST_STAT_ACTIVE pickB).wr Reg.EST_LDSEQ c.seq).disqualifyAll 4 (fun _ => true)

/-! ### The update -/

/-- The 100 ms update of every cell (R203 to R218); each counted learning cycle starts a write-back, of which one is held (R224). -/
def State.estimate (s : State) : State :=
  if !(s.ens Pg.EST && s.get Fld.EST_STAT_STATE == 1 && s.appUp) then s else
  let s := s.takeIncoming
  let now := s.nowNat
  let dt : Rat := match s.est.lastUpdate with
    | none => 0
    | some t => ((now - t : Nat) : Rat) / 1000000000
  let moves := (List.range 8).map (fun b =>
    smGet (fun _ => (0 : Rat)) s.est.qacc b - smGet (fun _ => (0 : Rat)) s.est.qaccSeen b)
  let x := (List.range 3072).foldl (fun (y : State × Nat) i =>
    let z := y.1.updateCell i (moves.getD (i / 384) 0) dt
    (z.1, y.2 + bitNat z.2)) (s, 0)
  let s := x.1
  let ids := (List.range 3072).filter s.cellKnown
  let total := ratAbs moves.sum / 3600000
  let j : Rat := s.joined
  let efc := if s.rated = 0 ∨ j = 0 then s.est.efcStr else s.est.efcStr + total / (2 * j * s.rated)
  let cells := (ids.filter (fun i => s.branchIn (i / 384))).filterMap (fun i =>
    (s.estCell i).reserves.map (fun r => (i, r, (s.estCell i).reservesA)))
  let dd := leastOf (cells.map (fun c => (c.1, c.2.1.1)))
  let cc := leastOf (cells.map (fun c => (c.1, c.2.1.2)))
  let d := (dd.map Prod.snd).getD 0
  let c := (cc.map Prod.snd).getD 0
  let da := ((leastOf (cells.map (fun c => (c.1, c.2.2.1)))).map Prod.snd).getD 0
  let ca := ((leastOf (cells.map (fun c => (c.1, c.2.2.2)))).map Prod.snd).getD 0
  let ut := utOf d c
  let u := stepUsoc s.est.fresh s.est.knot (utOf da ca) ut (((s.rd Reg.EST_USLEW % 65536 : Nat) : Rat) / 1000 * dt)
  let s := if u.2.2 then (s.irq Pg.EST Irq.EST_USOC_STEP).event 1 Pg.EST Irq.EST_USOC_STEP [] else s
  let lim := s.stringLimits
  let s := lim.2
  let s := s.wr Reg.EST_USOC (satNat 16 (ratRound (u.1 * 100)) + satNat 16 (ratRound (ut * 100)) * 65536)
  let s := s.wr Reg.EST_UCAP (satNat 16 (ratRound (j * d * 10)) + satNat 16 (ratRound (j * c * 10)) * 65536)
  let s := s.wr Reg.EST_SLIM (satNat 16 (ratRound (lim.1.1 * 10)) + satNat 16 (ratRound (lim.1.2 * 10)) * 65536)
  let s := s.wr Reg.EST_WEAK ((dd.map Prod.fst).getD 0 + (cc.map Prod.fst).getD 0 * 65536)
  let confs := (ids.filter s.cellMon).map (fun i => (i, s.get (cellField i 3 8 8)))
  let cmin := leastOf (confs.map (fun x => (x.1, (x.2 : Rat))))
  let mean := if confs.isEmpty then 0 else (confs.map Prod.snd).sum / confs.length
  let s := s.wr Reg.EST_CONFSTAT ((cmin.map (fun x => (ratRound x.2).toNat)).getD 0 + mean * 256 + (cmin.map Prod.fst).getD 0 * 65536)
  let s := s.wr Reg.EST_EFCSTR (satNat 32 (ratRound (efc * 100)))
  let sel := (s.estCell (s.get Fld.EST_CSEL_CELL)).words
  let s := s.each 8 (fun s k => s.setWord (Reg.EST_CDATA k) (sel.getD k 0))
  let hist := (now, s.est.qacc, (List.range 3072).map (fun i => (i, (s.estCell i).cum))) :: s.est.hist.filter (fun h => decide (h.1 + 400000000000 ≥ now))
  let s := { s with
    est := { s.est with lastUpdate := some now, qaccSeen := s.est.qacc, dqdv := [], fresh := false, knot := u.2.1,
                        usoc := u.1, efcStr := efc, hist := hist }
    lpe := { s.lpe with est := some lim.1 } }
  let s := ((s.wr64 Reg.EST_UPDTIME now).publish Fld.SRQ_CSTSEQ_E).irq Pg.EST Irq.EST_UPDATE
  s.each (min 2 x.2) (fun s _ => s.startWriteback)

/-! ### Branch charge -/

/-- Show a branch's charge in EST_QACCb. -/
def State.showQacc (s : State) (b : Nat) : State :=
  s.wr64 (Reg.EST_QACC b) (ofSigned 64 (ratFloor (smGet (fun _ => (0 : Rat)) s.est.qacc b)))

/-- Conversion interval of a branch-current input by the regular sequences, in ns: what the first conversion counts (R199). -/
def State.branchInterval (s : State) (b : Nat) : Rat :=
  ratDiv ((s.get Fld.ADC_REGPER_PER : Rat) * 100) (((List.range 4).map (fun k => s.regCount k (5 + b))).sum : Nat)

/-- A regular conversion of a branch current: charge over the conversion interval, and the rest timing (R199, R210). -/
def State.addCharge (s : State) (b : Nat) (amps : Rat) (at_ : Nat) : State :=
  let gap : Rat := match s.est.lastConv.find? (fun x => x.1 == b) with
    | none => s.branchInterval b
    | some x => ((at_ - x.2.1 : Nat) : Rat)
  let q := smGet (fun _ => (0 : Rat)) s.est.qacc b + amps * gap / 1000000
  let quiet := decide (ratAbs amps < (s.get Fld.EST_REST_I : Rat) / 10)
  let rest := if !quiet then smErase b s.est.restSince
    else if s.est.restSince.any (fun x => x.1 == b) then s.est.restSince else smInsert b at_ s.est.restSince
  let s := { s with est := { s.est with qacc := smSet (fun _ => 0) s.est.qacc b q, restSince := rest,
                                        lastConv := smInsert b (at_, amps) s.est.lastConv } }
  s.showQacc b

/-- A conversion that a self-calibration displaces: the last converted value stands in (R199). -/
def State.standInCharge (s : State) (b : Nat) : State :=
  match s.est.lastConv.find? (fun x => x.1 == b) with
  | none => s
  | some x => s.addCharge b x.2.2 s.nowNat

/-! ### Enabling and commands -/

/-- The conversions end: the next one has no predecessor, and no branch is known to rest (R199, R210). -/
def State.chargeGap (s : State) : State := { s with est := { s.est with lastConv := [], restSince := [] } }

/-- EST_CTRL.EN is set (R215, R229). The first update counts from here; a later one goes on from the update before it, whatever
stopped the estimator between them (R200, R201). -/
def State.estOn (s : State) : State :=
  let s := s.setOn (Fld.ens Pg.EST) true
  if s.rated = 0 || !s.chemOk then (s.put Fld.EST_STAT_STATE 2).irq Pg.EST Irq.EST_CHEMERR
  else
    let s := s.put Fld.EST_STAT_STATE 1
    let s := { s with est := { s.est with fresh := true, dqdv := [] } }
    if s.est.lastUpdate.isSome then s else
    { s with est := { s.est with
      qaccSeen := s.est.qacc, lastUpdate := some s.nowNat
      cells := (List.range 3072).map (fun i =>
        (i, { (s.estCell i) with bleedSeen := s.rd (cellWord i 9), bleedShare := 0, bleedLeft := 0 })) } }

/-- EST_CTRL.EN is cleared; what Chime handed over and was not used is gone. -/
def State.estOff (s : State) : State :=
  let s := (s.setOn (Fld.ens Pg.EST) false).put Fld.EST_STAT_STATE 0
  { s with est := { s.est with dqdv := [] } }

/-- A command of EST_CMD (R230). -/
def State.estCommand (s : State) (op : Nat) : State :=
  if op = 1 then s.startWriteback
  else if op = 2 then (if s.get Fld.EST_STAT_STATE = 0 then s.loadLearned else s)
  else if op = 3 then s.disqualifyAll 5 (fun _ => true)
  else s

end Sys2Proof.Machine
end

