-- ==== Sys2Proof/Machine/Pwm.lean ====
section
/-! DEFINITION. The PWM unit (R267 to R300): duty loads, starts and stops, gate-driver faults. -/

namespace Sys2Proof.Machine

/-! ### Configuration -/

/-- PER of the carriers. -/
def State.per (s : State) : Nat := s.get Fld.PWM_CAR_PER

/-- Triggers per period (R278). -/
def State.spp (s : State) : Nat := 2 ^ s.get Fld.PWM_CFG_SPP

/-- DTR of a cell in 156.25 ps (R273). -/
def State.cellDtr (s : State) (c : Nat) : Nat :=
  s.get (if c % 2 = 0 then Fld.PWM_PHDTO_DTR (c / 2) else Fld.PWM_PHDTI_DTR (c / 2))

/-- DTF of a cell in 156.25 ps (R273). -/
def State.cellDtf (s : State) (c : Nat) : Nat :=
  s.get (if c % 2 = 0 then Fld.PWM_PHDTO_DTF (c / 2) else Fld.PWM_PHDTI_DTF (c / 2))

/-- The configuration is rejected (R280): by any cell, of a phase that is enabled or not. -/
def State.pwmBad (s : State) : Bool :=
  decide (2000 * s.spp > s.per) || s.get Fld.PWM_CFG_PHEN == 0 ||
  (List.range 8).any (fun c => (c % 2 == 0 || s.threeLevel (c / 2)) &&
    decide (s.cellDtr c + s.cellDtf c + 16 * s.get Fld.PWM_MINPW_MINPW > 8 * s.per))

/-- Put every enabled phase into a state, whatever it is in. -/
def State.allPhases (s : State) (v : Nat) : State :=
  s.each 4 (fun s p => if s.phaseEn p then s.put (phaseField p) v else s)

/-- PWM_CTRL.EN is set: the configuration is checked and the carriers start at their offsets (R270, R280); under an active Snare
the phases are SAFE (R291). -/
def State.pwmOn (s : State) : State :=
  let run := s.ens Pg.PWM
  let s := (s.setOn (Fld.ens Pg.PWM) true).setOn Fld.PWM_STAT_SAFE s.snare
  let offsets := if run then s.pwm.offsets else (List.range 4).map (fun p => s.get (Fld.PWM_PHANG_OFS p))
  let s := { s with pwm := { s.pwm with disabling := false, offsets := offsets } }
  if s.pwmBad then (s.allPhases 0).irq Pg.PWM Irq.PWM_CONFIG_ERR
  else if s.switching || s.anyPhase (fun v => v == 2) then s
  else s.allPhases (if s.snare then 5 else 1)

/-- The block stands disabled: outputs low, phases DISABLED. -/
def State.pwmDead (s : State) : State :=
  let s := ((s.stopCells).each 4 (fun s p => s.put (phaseField p) 0)).setOn (Fld.ens Pg.PWM) false
  { s with pwm := { s.pwm with disabling := false, starting := false, waitValley := false, failing := false } }

/-! ### Stops -/

/-- The string command HALT in RUNNING: a stop toward CONNECTED (R22, R289). -/
def State.halt (s : State) : State :=
  { s with svc := { s.svc with state := .stopping, stopCause := some .halt, startDone := false }
           pwm := { s.pwm with starting := false, waitValley := false } }

/-- PWM_CTRL.EN is cleared (R290). -/
def State.pwmOff (s : State) : State :=
  let s := s.setOn (Fld.ctrlEn Pg.PWM) false
  if s.svc.state = .running then
    let s := s.halt
    { s with pwm := { s.pwm with disabling := true } }
  else if s.svc.state = .stopping then { s with pwm := { s.pwm with disabling := true } }
  else s.pwmDead

/-- The outputs go low and the phases enter IDLE; a block whose EN has been cleared stands disabled (R288, R289, R290). -/
def State.phasesIdle (s : State) : State :=
  let s := (s.abortTest.stopCells).setPhases (if s.snare then 5 else 1)
  if s.pwm.disabling then s.pwmDead else s

/-- A stop that HALT caused is over. -/
def State.haltOver (s : State) : State :=
  if s.svc.state = .stopping ∧ s.svc.stopCause = some .halt then
    { s with svc := { s.svc with state := .connected, stopCause := none } }
  else s

/-- A failed start has reached its valley: the service state passes through STOPPING to CONNECTED (R288). -/
def State.failEnd (s : State) : State :=
  let s := s.phasesIdle
  ({ s with pwm := { s.pwm with failing := false } }).haltOver

/-- A start fails with a cause (R288). -/
def State.failStart (s : State) (cause : Nat) : State :=
  let s := (s.put Fld.PWM_PHSTAT_CAUSE cause).irq Pg.PWM Irq.PWM_START_FAIL
  let live := s.switching
  let s := s.halt
  let s := { s with pwm := { s.pwm with failing := live } }
  let s := s.faultEvent Pg.PWM Flt.CONV_START_FAIL cause
  if live then s else s.failEnd

/-! ### Carriers and duty loads -/

/-- A cell of the unit. -/
def State.pwmCell (s : State) (c : Nat) : PwmCell :=
  (s.pwm.cells[c]?).getD ⟨none, false, false, 0, 0, 0, 0, 0, 0, 0, .normal, .normal⟩

/-- Set a cell. -/
def State.setCell (s : State) (c : Nat) (x : PwmCell) : State :=
  { s with pwm := { s.pwm with cells := updAt s.pwm.cells c (fun _ => x) } }

/-- OFS of a cell's carrier: its phase's, and half a period more for an inner cell (R270). -/
def State.cellOfs (s : State) (c : Nat) : Nat :=
  (s.pwm.offsets.getD (c / 2) 0 + (if c % 2 = 1 then s.per else 0)) % max 1 (2 * s.per)

/-- The carrier of a cell at a master count (R270): 0 at its valley, PER at its peak. -/
def State.carrier (s : State) (c m : Nat) : Nat :=
  let n := max 1 (2 * s.per)
  let x := (m + n - s.cellOfs c) % n
  if x ≤ s.per then x else n - x

/-- The carrier of a phase slides toward its offset by at most PER / 8 (R295). -/
def slideOffset (per from_ goal : Nat) : Nat :=
  let n := 2 * per
  if n = 0 then goal else
  let ahead := (goal + n - from_ % n) % n
  let step := per / 8
  if ahead = 0 then goal
  else if ahead ≤ per then (from_ + min step ahead) % n
  else (from_ + n - min step (n - ahead)) % n

/-- Dead-time widening of a cell from its phase current (R282). -/
def State.widenOf (s : State) (p : Nat) (x : PwmCell) : Rat :=
  if !bitOf x.dtc 16 then 0 else
  let r := ratClamp (-1) 1 (ratDiv (s.inVal p) (((max 1 (x.dtc % 65536) : Nat) : Rat) / 10))
  (1 + r) / 2 * x.dtr - (1 - r) / 2 * x.dtf

/-- The minimum pulse rule (R276): what the upper output does in its next pulse, what the lower one does in its, and whether the
gap of the upper output before its next pulse is filled. -/
def pulsesOf (per : Nat) (x : PwmCell) : Pulse × Pulse × Bool :=
  let width : Rat := 2 * (x.cmp8 : Rat) + x.widen
  let upperOn := width - x.dtr
  let lowerOn := 16 * (per : Rat) - width - x.dtf
  let least : Rat := 8 * (x.minpw : Rat)
  let filled := decide (least ≤ upperOn) && decide (16 * (per : Rat) - upperOn < least)
  (if upperOn < least then .suppressed else if filled then .filled else .normal,
   if filled || decide (lowerOn < least) then .suppressed else .normal, filled)

/-- The edges that a load times (R271 to R273, R282): behind a valley the end of the upper pulse in progress, which keeps the
widening it started with, and the lower switch's start; ahead of the next valley the lower switch's end and the upper one's
start. Half of the widening goes to each edge, on the grid of 156.25 ps (R272). -/
def State.cellEdges (s : State) (c : Nat) (old x : PwmCell) (behind ahead : Bool) : List (Bool × Bool × Nat) :=
  let n : Int := 16 * (s.per : Int)
  let at_ := fun (d : Int) => ((8 * (s.cellOfs c : Int) + d) % max 1 n).toNat
  let half := fun (w : Rat) => (x.cmp8 : Int) + ratRound (w / 2)
  let low := x.lower == .normal
  let high := x.upper == .normal
  (if behind && old.upper == .normal then [(false, false, at_ (half old.widen))] else []) ++
  (if behind && low then [(true, true, at_ (half old.widen + x.dtf))] else []) ++
  (if ahead && low then [(true, false, at_ (n - half x.widen))] else []) ++
  (if ahead && high then [(false, true, at_ (n - half x.widen + x.dtr))] else [])

/-- A cell's duty is clamped, converted and shown (R275, R277, R279): at every load, of a new duty or of the one it keeps. -/
def State.convertDuty (s : State) (c : Nat) (x : PwmCell) (d : Rat) : State × PwmCell :=
  let lo : Rat := ((x.dlim % 65536 : Nat) : Rat) / 65536
  let hi : Rat := ((x.dlim / 65536 : Nat) : Rat) / 65536
  let d' := min hi (max lo d)
  let s := if d' = d then s else (s.bump Fld.PWM_CNT_DLIM).irq Pg.PWM Irq.PWM_DLIMIT
  let s := s.put ⟨Reg.PWM_PHDUTY (c / 2), if c % 2 = 0 then 0 else 16, 16⟩ (satNat 16 (ratRound (d' * 65536)))
  let x := { x with duty := some d', fresh := false, cmp8 := (ratRound (d' * s.per * 8)).toNat }
  (s, { x with widen := s.widenOf (c / 2) x })

/-- A cell loads its latest duty (R277, R279). -/
def State.loadCell (s : State) (c : Nat) (x : PwmCell) : State × PwmCell :=
  match x.duty with
  | none => (s, x)
  | some d => s.convertDuty c x d

/-- The pulses that follow a carrier point of a switching cell (R276): a valley decides the lower switch's pulse and the gap it
lies in, the load point before the next valley the upper switch's; each suppressed pulse or filled gap counts once. -/
def State.timePulses (s : State) (c : Nat) (old x : PwmCell) (lower upper : Bool) : State :=
  let p := pulsesOf s.per x
  let x := { x with upper := if upper then p.1 else x.upper, lower := if lower then p.2.1 else x.lower }
  let n := bitNat (lower && (p.2.2 || p.2.1 == .suppressed)) + bitNat (upper && p.1 == .suppressed)
  let s := if n = 0 then s else (s.bumpBy Fld.PWM_CNT_MINPW n).irq Pg.PWM Irq.PWM_MINPW
  let l := s.cellEdges c old x lower upper
  (if l.isEmpty then s else s.emit (.edges c l)).setCell c x

/-! ### Starts -/

/-- The inputs that a start needs have results (R319). -/
def State.startInputs (s : State) : Bool :=
  s.inValid 13 && s.inValid 14 &&
  (List.range 4).all (fun p => !s.phaseEn p || (s.inValid p && (!s.threeLevel p || s.inValid (15 + p))))

/-- The converter's part of an accepted RUN (R284, R319, R364). -/
def State.startConverter (s : State) : State :=
  let s := ((s.put Fld.PWM_PHSTAT_CAUSE 0).chmNote .all 8).removeTones
  let s := { s with svc := { s.svc with state := .running, startDone := false } }
  let ready := s.get Fld.PWM_CFG_PHEN != 0 && (List.range 4).all (fun p => !s.phaseEn p || s.get (phaseField p) == 1)
  if !(ready && s.startInputs && s.get Fld.LPE_STAT_STATE == 1) then s.failStart 1
  else
    let vbus := s.inVal 13
    let vstr := s.inVal 14
    let live := decide (vbus > vstr + (s.get Fld.PWM_BSTART_VMARG : Rat))
    if vbus < vstr then s.failStart 2
    else if !live && !s.on Fld.PWM_CFG_DEADBUS then s.failStart 3
    else { s with pwm := { s.pwm with starting := true, waitValley := true, liveBus := live } }

/-- Duty that a cell loads on entry when the loop engine has delivered none (R287). -/
def State.entryDuty (s : State) : Rat :=
  min ((s.get Fld.PWM_DLIM_DMAX : Rat) / 65536) (ratDiv (s.inVal 14) (s.inVal 13))

/-- The settings of a cell as they stand (R296). -/
def State.cellSettings (s : State) (c : Nat) (x : PwmCell) : PwmCell :=
  { x with dtr := s.cellDtr c, dtf := s.cellDtf c, dlim := s.rd Reg.PWM_DLIM, minpw := s.get Fld.PWM_MINPW_MINPW, dtc := s.rd Reg.PWM_DTC }

/-- A cell without a duty loads that of R287. -/
def State.entryLoad (s : State) (c : Nat) : State :=
  let x := s.pwmCell c
  if x.duty.isSome || !s.cellEn c then s else
  let y := s.convertDuty c (s.cellSettings c x) s.entryDuty
  y.1.setCell c y.2

/-- The phases enter BUSRAMP or RUN (R284, R286, R287). -/
def State.enterSwitching (s : State) (v : Nat) : State :=
  let s := s.each 8 (fun s c => s.entryLoad c)
  if v = 3 then
    let s := s.setPhases 3
    { s with lpe := { s.lpe with vramp := s.inWord 13 } }
  else
    let s := (s.setPhases 4).irq Pg.PWM Irq.PWM_START_DONE
    { s with svc := { s.svc with startDone := true }, pwm := { s.pwm with starting := false } }

/-- Every enabled three-level phase has its flying capacitor within the window (R284). -/
def State.capsReady (s : State) : Bool :=
  let half := s.inVal 13 / 2
  (List.range 4).all (fun p => !(s.phaseEn p && s.threeLevel p) ||
    decide (ratAbs (s.inVal (15 + p) - half) ≤ half * ((s.get Fld.PWM_FCWIN_WIN : Rat) / 1000)))

/-- Every enabled phase stands in a state. -/
def State.phasesAre (s : State) (v : Nat) : Bool :=
  s.get Fld.PWM_CFG_PHEN != 0 && (List.range 4).all (fun p => !s.phaseEn p || s.get (phaseField p) == v)

/-- The flying capacitors are ready at a phase-0 valley (R284). -/
def State.capReady (s : State) : State :=
  if s.pwm.starting && s.phasesAre 2 && s.capsReady then s.enterSwitching (if s.pwm.liveBus then 4 else 3) else s

/-- The check of R285 is over its time. -/
def State.capTimeout (s : State) : State := if s.pwm.starting && s.phasesAre 2 then s.failStart 4 else s

/-- The bus has reached its target (R284). -/
def State.rampDone (s : State) : State :=
  if s.pwm.starting && s.phasesAre 3 && decide (s.inVal 13 ≥ (s.get Fld.PWM_BTGT_TARGET : Rat) * 99 / 100) then s.enterSwitching 4 else s

/-- The bus ramp is over its time (R286). -/
def State.rampTimeout (s : State) : State := if s.pwm.starting && s.phasesAre 3 then s.failStart 5 else s

/-! ### Carrier points -/

/-- What a phase-0 valley brings: a start enters FCPRE, a failed start ends (R284, R288). -/
def State.valley0 (s : State) : State :=
  if s.pwm.waitValley then
    let s := s.setPhases 2
    { s with pwm := { s.pwm with waitValley := false } }
  else if s.pwm.failing then s.failEnd
  else s

/-- The phase's carriers slide (R295), and the triggers of the new period are counted from the phase-0 valley (R278). -/
def State.carrierTurn (s : State) (c : Nat) : State :=
  let p := c / 2
  let s := { s with pwm := { s.pwm with offsets := updAt s.pwm.offsets p (fun o => slideOffset s.per o (s.get (Fld.PWM_PHANG_OFS p))) } }
  if c = 0 then { s with pwm := { s.pwm with trigs := 0 } } else s

/-- A cell reaches its valley or its peak (R279, R284, R287, R295, R296): it takes the settings at a valley, loads its duty, and
while it switches times the pulses that follow. It begins to switch at its first peak, with the lower switch; a carrier runs in
every phase state but DISABLED (R298). -/
def State.carrierPoint (s : State) (c : Nat) (peak : Bool) : State :=
  if !s.ens Pg.PWM then s else
  let s := if c = 0 && !peak then s.valley0 else s
  let s := if c % 2 = 0 && !peak then s.carrierTurn c else s
  if !s.cellEn c || s.get (phaseField (c / 2)) == 0 then s else
  let old := s.pwmCell c
  let x := if peak && old.switching then old else s.cellSettings c old
  let y := if !peak || s.on Fld.PWM_CFG_DUPD then s.loadCell c x else (s, x)
  let s := y.1.setCell c y.2
  if !s.phaseSwitching (c / 2) then s
  else if old.switching then s.timePulses c old y.2 (!peak) (peak || !s.on Fld.PWM_CFG_DUPD)
  else if peak then s.timePulses c { y.2 with upper := .suppressed } { y.2 with switching := true, lower := .normal } false true
  else s

/-! ### Gate-driver faults -/

/-- Input `n` is evaluated (R267, R268). -/
def State.gdEvaluated (s : State) (n : Nat) : Bool := s.phaseEn (n / 2) && (n % 2 == 0 || s.threeLevel (n / 2))

/-- Input `n` is masked (R293). -/
def State.gdMasked (s : State) (n : Nat) : Bool := bitOf (s.get Fld.PWM_GDF_MASK) n

/-- A gate-driver fault input has been low for DGL (R292, R293). -/
def State.gateFault (s : State) (n : Nat) : State :=
  let s := s.setBit Reg.PWM_GDFSTAT (8 + n) true
  if !s.gdEvaluated n then s else
  let s := (s.setBit Reg.PWM_GDFSTAT n true).irq Pg.PWM Irq.PWM_GDF
  if s.gdMasked n then s.fault Pg.PWM Flt.GATE_DRIVER_FAULT n 0 true else
  let s := if s.get Fld.PWM_GDFSTAT_FIRST = 15 then s.put Fld.PWM_GDFSTAT_FIRST n else s
  (s.snareBy (0x10 + n)).fault Pg.PWM Flt.GATE_DRIVER_FAULT n

/-- The input is high again. -/
def State.gateClear (s : State) (n : Nat) : State :=
  (s.setBit Reg.PWM_GDFSTAT (8 + n) false).endInstance Pg.PWM Flt.GATE_DRIVER_FAULT n

end Sys2Proof.Machine
end

