-- ==== Sys2Proof/Machine/Adc.lean ====
section
/-! DEFINITION. Analog acquisition (R301 to R327): sequences, conversions, the reference, self-calibration and the
Kirchhoff check. -/

namespace Sys2Proof.Machine

/-! ### Slots -/

/-- Inputs of the enabled regular slots of converter `k`, in slot order (R306). -/
def State.regSlots (s : State) (k : Nat) : List Nat :=
  ((List.range 16).map (s.regSlot k)).filterMap (fun b => if bitOf b 7 then some (b % 32) else none)

/-- Inputs of the enabled injected slots of converter `k` (R307). -/
def State.injSlots (s : State) (k : Nat) : List Nat :=
  ((List.range 4).map (fun n => bitsOf (s.rd (Reg.ADC_XSEQI k)) (24 - 8 * n) 8)).filterMap
    (fun b => if bitOf b 7 then some (b % 32) else none)

/-- The stand-in of a converter (R315). -/
def standIn (k : Nat) : Nat := if k % 2 = 0 then k + 1 else k - 1

/-- Converter `k` calibrates. -/
def State.calibrating (s : State) (k : Nat) : Bool := bitOf (s.get Fld.ADC_STAT_CALBUSY) k

/-- The acquisition is in RUNNING. -/
def State.adcRuns (s : State) : Bool := s.ens Pg.ADC && s.get Fld.ADC_STAT_STATE == 3

/-- ADC-A and ADC-B interleave on input 4 (R311). -/
def State.ilv (s : State) (k : Nat) : Bool := s.on Fld.ADC_CFG_ILV && decide (k < 2)

/-- The configuration is invalid (R310). -/
def State.adcBad (s : State) : Bool :=
  let per := 100 * s.get Fld.ADC_REGPER_PER
  (List.range 4).any (fun k =>
    (s.regSlots k ++ s.injSlots k).any (fun n => decide (n > 23)) ||
    s.ilv k && !(s.regSlots k ++ s.injSlots k).isEmpty ||
    s.on Fld.ADC_CFG_ILV && (s.injSlots k).contains 4 ||
    decide ((s.regSlots (standIn k)).length * 100 +
      (per + 4999) / 5000 * ((s.injSlots k).length + (s.injSlots (standIn k)).length + 1) * 100 > per))

/-! ### Calibration -/

/-- Regular slots that are not converted: a branch current counts with its last result (R199, R315). -/
def State.missSlots (s : State) (l : List Nat) : State :=
  l.foldl (fun s n => if 5 ≤ n ∧ n ≤ 12 then s.standInCharge (n - 5) else s) s

/-- What converter `k` was still to convert when its calibration starts: its regular slots are not converted, its injected
ones pass to the stand-in (R315). -/
def State.leaveSlots (s : State) (k : Nat) : State :=
  let left := s.adc.regLeft.getD k [] ++ (if bitOf s.adc.regDeferred k then s.regSlots k else [])
  let inj := s.adc.injLeft.getD k []
  let s := s.missSlots left
  { s with adc := { s.adc with
      regLeft := updAt s.adc.regLeft k (fun _ => [])
      regDeferred := putBit s.adc.regDeferred k false
      midway := putBit s.adc.midway k false
      injLeft := updAt (updAt s.adc.injLeft k (fun _ => [])) (standIn k) (fun l => l ++ inj) } }

/-- A calibration of converter `k` starts; branch-current slots mark the Chime window ADCCAL (R187, R314, R315, R317). -/
def State.startCal (s : State) (k : Nat) : State :=
  let s := (s.leaveSlots k).put Fld.ADC_STAT_CALBUSY (putBit (s.get Fld.ADC_STAT_CALBUSY) k true)
  if (s.regSlots k).any (fun n => decide (5 ≤ n) && decide (n ≤ 12)) then s.chmNote .all 0xA else s

/-- A calibration falls due, or waits for the running one (R317). -/
def State.queueCal (s : State) (k : Nat) : State :=
  if s.get Fld.ADC_STAT_CALBUSY = 0 then s.startCal k
  else { s with adc := { s.adc with calQueue := s.adc.calQueue ++ [k] } }

/-- The initial calibration of all four converters begins (R313, R316). -/
def State.initialCal (s : State) : State :=
  let s := (s.put Fld.ADC_STAT_STATE 2).put Fld.ADC_STAT_CALBUSY 15
  { s with adc := { s.adc with initialCal := 15 } }

/-- The periodic calibration of the next converter (R316). -/
def State.calDue (s : State) : State :=
  if !s.adcRuns || s.rd Reg.ADC_CALEFF % 65536 = 0 then s else
  let k := bitsOf (s.rd Reg.ADC_CALEFF) 16 2
  (s.put ⟨Reg.ADC_CALEFF, 16, 2⟩ (k + 1)).queueCal k

/-- The effective period is CALPER, or the shorter interval of the margin ledger (R316). -/
def State.calEffective (s : State) (ledger : Option Nat) : State :=
  let p := s.get Fld.ADC_CALPER_PER
  s.put ⟨Reg.ADC_CALEFF, 0, 16⟩ (match ledger with
    | none => p
    | some q => if p = 0 then 0 else min p q)

/-- The drift rate of a converter between its last two calibrations, for the margin ledger: the larger of the gain change and the
offset change, in % of full scale per hour (R314, R686; log 20). -/
def State.noteDrift (s : State) (k : Nat) (gain : Word) (offs : Nat) : State :=
  let at_ := s.rd (Reg.ADC_XCALT k)
  if at_ = 0 ∨ s.opsec ≤ at_ then s else
  let dg := 100 * ratAbs (ratOf gain - ratOf (s.word (Reg.ADC_XGAIN k)))
  let doff := 100 * ratAbs ((toSigned 16 (offs % 65536) - toSigned 16 (s.rd (Reg.ADC_XOFFS k) % 65536) : Int) : Rat) / 16 / 32768
  let r := (if dg < doff then doff else dg) * 3600 / ((s.opsec - at_ : Nat) : Rat)
  { s with age := { s.age with measured := smInsert (2 + k) r s.age.measured } }

/-- A calibration ends (R314, R316): the factors are replaced and stored, and RUNNING follows the last initial one. -/
def State.calEnd (s : State) (k : Nat) (gain : Word) (offs : Nat) : State :=
  if !s.calibrating k then s else
  let s := s.noteDrift k gain offs
  let s := (s.setWord (Reg.ADC_XGAIN k) gain).wr (Reg.ADC_XOFFS k) (offs % 65536)
  let s := (s.wr (Reg.ADC_XCALT k) s.opsec).keepWords [Reg.ADC_XGAIN k, Reg.ADC_XOFFS k, Reg.ADC_XCALT k]
  let s := s.irq Pg.ADC Irq.ADC_CAL_DONE
  let s := s.put Fld.ADC_STAT_CALBUSY (putBit (s.get Fld.ADC_STAT_CALBUSY) k false)
  if s.get Fld.ADC_STAT_STATE = 2 then
    let left := putBit s.adc.initialCal k false
    let s := { s with adc := { s.adc with initialCal := left } }
    if left = 0 then (s.put Fld.ADC_STAT_STATE 3).irq Pg.ADC Irq.ADC_RUNNING else s
  else match s.adc.calQueue with
    | [] => s
    | j :: rest => ({ s with adc := { s.adc with calQueue := rest } }).startCal j

/-! ### Enable and disable -/

/-- ADC_CTRL.EN is set; the reference trim of the ledger takes effect (R310, R318, R689). -/
def State.adcOn (s : State) : State :=
  if s.ens Pg.ADC then s else
  let s := s.setOn (Fld.ens Pg.ADC) true
  if s.adcBad then (s.put Fld.ADC_STAT_STATE 4).irq Pg.ADC Irq.ADC_CONFIG_ERR
  else
    let s := { s with adc := { s.adc with refGood := 0 }, age := { s.age with trimApplied := s.age.refTrim } }
    s.put Fld.ADC_STAT_STATE 1

/-- ADC_CTRL.EN is cleared outside a start or run (R313, R319, R324); no result stands for a zero current (R392). -/
def State.adcOff (s : State) : State :=
  let s := (s.setOn (Fld.ctrlEn Pg.ADC) false).setOn (Fld.ens Pg.ADC) false
  let s := (s.put Fld.ADC_STAT_STATE 0).put Fld.ADC_STAT_CALBUSY 0
  let s := (s.setOn Fld.ADC_STAT_KFAIL false).latchFault Pg.ADC Flt.KIRCHHOFF
  let s := (s.setOn Fld.ADC_STAT_REFOK false).latchFault Pg.ADC Flt.ADC_REF
  let s := s.chargeGap.each 24 (fun s n => (s.wr (Reg.ADC_INRES n) 0).wr (Reg.ADC_INVAL n) 0)
  { s with adc := { adcReset with refUv := s.adc.refUv }
           ctk := { s.ctk with istr := [] } }

/-- R320: EN stays 1 while a phase is in FCPRE, BUSRAMP or RUN. -/
def State.adcHeld (s : State) : Bool := s.anyPhase (fun v => v == 2 || v == 3 || v == 4)

/-! ### Reference -/

/-- The reference fails: IRQ and ADC_REF (R313). -/
def State.refFault (s : State) : State := (s.irq Pg.ADC Irq.ADC_REF_FAULT).fault Pg.ADC Flt.ADC_REF 0

/-- VREF in nanovolts: 2.500 V for the internal reference, else the selected reference as measured (R312). -/
def State.vref (s : State) : Rat :=
  if s.get Fld.ADC_CFG_REFSEL = 0 then 2500000000 else ((s.adc.refUv * 1000 : Nat) : Rat)

/-- A comparison lies within WIN of the diverse bandgap, in 0.1 % of it (R313). -/
def State.refWithin (s : State) (x : RefSample) : Bool :=
  decide ((Int.natAbs ((x.selected : Int) - x.diverse)) * 1000 ≤ s.get Fld.ADC_REFCFG_WIN * x.diverse)

/-- The ledger notes the difference of the internal reference, untrimmed, from the diverse bandgap, in % (R689; log 20). -/
def State.noteRef (s : State) (x : RefSample) : State :=
  if s.get Fld.ADC_CFG_REFSEL ≠ 0 ∨ x.diverse = 0 then s else
  let d : Rat := 100 * (((x.selected : Int) - x.diverse : Int) : Rat) / (x.diverse : Rat)
  { s with age := { s.age with refSum := s.age.refSum + d - (s.age.trimApplied : Rat) / 100, refCount := s.age.refCount + 1 } }

/-- The comparison of the reference, each 1 ms, in every state of an enabled block (R313). -/
def State.refCheck (s : State) (x : RefSample) : State :=
  if !s.ens Pg.ADC then s else
  let s := ({ s with adc := { s.adc with refUv := x.selected } }).noteRef x
  if s.refWithin x then
    let n := s.adc.refGood + 1
    let s := { s with adc := { s.adc with refGood := n } }
    if n < 2 then s else
    let s := (s.setOn Fld.ADC_STAT_REFOK true).latchFault Pg.ADC Flt.ADC_REF
    if s.get Fld.ADC_STAT_STATE = 1 then s.initialCal else s
  else
    let was := s.on Fld.ADC_STAT_REFOK
    let s := ({ s with adc := { s.adc with refGood := 0 } }).setOn Fld.ADC_STAT_REFOK false
    if was then s.refFault else s

/-- REFOK is not 1 within TMO of EN; a block in WAITREF waits no longer, one HALTED stays so (R310, R313). -/
def State.refTimeout (s : State) : State :=
  if !s.ens Pg.ADC || s.on Fld.ADC_STAT_REFOK then s
  else if s.get Fld.ADC_STAT_STATE = 1 then s.refFault.initialCal
  else if s.get Fld.ADC_STAT_STATE = 4 then s.refFault
  else s

/-! ### Sequences -/

/-- A regular sequence of converter `k` falls due (R306, R315): deferred while the previous one runs; a calibrating
converter converts nothing, and a missed branch current keeps its last value (R199). -/
def State.regularStart (s : State) (k : Nat) : State :=
  if !s.adcRuns || s.ilv k then s
  else if s.calibrating k then s.missSlots (s.regSlots k)
  else if !(s.adc.regLeft.getD k []).isEmpty then
    let s := (s.bump Fld.ADC_CNT_REGLATE).irq Pg.ADC Irq.ADC_REGLATE
    { s with adc := { s.adc with regDeferred := putBit s.adc.regDeferred k true } }
  else { s with adc := { s.adc with regLeft := updAt s.adc.regLeft k (fun _ => s.regSlots k) } }

/-- Injected slots that a trigger starts on converter `k`, a calibrating partner's after its own (R307, R315). -/
def State.injFor (s : State) (k : Nat) : List Nat :=
  if s.calibrating k then [] else s.injSlots k ++ (if s.calibrating (standIn k) then s.injSlots (standIn k) else [])

/-- A trigger at the converters (R307, R309), which finish the conversion in progress first; the second part tells that some
converter dropped it. -/
def State.injTrigger (s : State) : State × Bool :=
  if !(s.adcRuns && s.on Fld.ADC_CFG_INJEN) then (s, false) else
  (List.range 4).foldl (fun (x : State × Bool) k =>
    let l := x.1.injFor k
    if l.isEmpty then x
    else if !(x.1.adc.injLeft.getD k []).isEmpty then
      ((x.1.bump Fld.ADC_CNT_INJMISS).irq Pg.ADC Irq.ADC_INJMISS, true)
    else ({ x.1 with adc := { x.1.adc with
      injLeft := updAt x.1.adc.injLeft k (fun _ => l)
      midway := putBit x.1.adc.midway k (!(x.1.adc.regLeft.getD k []).isEmpty) } }, x.2)) (s, false)

/-! ### Results -/

/-- CODE of a differential voltage on converter `k`: its share of VREF, with the converter's offset taken away and its gain
applied, to the nearest code and within the range (R302, R314; the form of the correction is log 15). -/
def State.codeOf (s : State) (k : Nat) (nanovolts : Int) : Int :=
  let raw := ratDiv (32768 * (nanovolts : Rat)) s.vref
  let offs : Rat := ((BitVec.ofNat 16 (s.rd (Reg.ADC_XOFFS k))).toInt : Rat) / 16
  max (-32768) (min 32767 (ratRound ((raw - offs) * ratOf (s.word (Reg.ADC_XGAIN k)))))

/-- The result registers of an input (R302, R303, R319). -/
def State.storeResult (s : State) (k n : Nat) (nanovolts : Int) (at_ : Instant) : State :=
  let code := BitVec.ofInt 16 (s.codeOf k nanovolts)
  let clip := code.toInt = 32767 ∨ code.toInt = -32768
  let res := code.toNat + 2 ^ 16 + bitNat clip * 2 ^ 17 + k * 2 ^ 18 + bitNat (!s.on Fld.ADC_STAT_REFOK) * 2 ^ 20
  let v := fpFma (fpOf (code.toInt : Rat)) (s.word (Reg.ADC_INSCALE n)) (s.word (Reg.ADC_INOFS n))
  let s := (s.wr (Reg.ADC_INRES n) res).setWord (Reg.ADC_INVAL n) v
  let s := { s with adc := { s.adc with instants := smInsert n at_ s.adc.instants } }
  if clip then (s.setBit Reg.ADC_CLIPMAP n true).irq Pg.ADC Irq.ADC_CLIP else s

/-- The latest result of an input is at full scale (R302). -/
def State.clipped (s : State) (n : Nat) : Bool := bitOf (s.rd (Reg.ADC_INRES n)) 17

/-- The whole millisecond of plant time in which a compare-unit instant lies (R323, R529). -/
def State.plantMs (s : State) (t : Nat) : Nat := ((((t * nsUnit : Nat) : Int) + s.tim.p0) / ((1000000 * nsUnit : Nat) : Int)).toNat

/-! ### Digital limits and the insulation monitor -/

/-- An instance of a digital row is under test (R383, R385). -/
def State.rowTests (s : State) (row i : Nat) : Bool :=
  if row = 1 then s.branchIn i
  else if row = 2 then decide (i < 4) && s.phaseEn i
  else if row = 5 then decide (i < 4) && s.phaseEn i && s.threeLevel i
  else i == 0

/-- Input of an instance of a digital row. -/
def rowInput (row i : Nat) : Nat :=
  if row = 0 then 4 else if row = 1 then 5 + i else if row = 2 then i else if row = 3 then 13 else if row = 4 then 14 else 15 + i

/-- Digital row and instance that an input belongs to (R383). -/
def inputRow (n : Nat) : Option (Nat × Nat) :=
  if n < 4 then some (2, n) else if n = 4 then some (0, 0) else if n < 13 then some (1, n - 5)
  else if n = 13 then some (3, 0) else if n = 14 then some (4, 0) else if n < 19 then some (5, n - 15) else none

/-- The latest result of an instance lies beyond the row's test (R383, R385). -/
def State.rowBeyond (s : State) (row i : Nat) : Bool :=
  let hi := s.word (Reg.PRT_DLHI row)
  let v := s.inVal (rowInput row i)
  let x := if row = 5 then v - s.inVal 13 / 2 else v
  let beyond := fun (y : Rat) => !fpIsNan hi && (if fpIsInf hi then fpNeg hi else decide (fpVal hi < y))
  if row = 3 ∨ row = 4 then
    let lo := s.word (Reg.PRT_DLLO row)
    beyond x || (!fpIsNan lo && (if fpIsInf lo then !fpNeg lo else decide (x < fpVal lo)))
  else beyond (ratAbs x)

/-- A result in its digital row: since the first result of a run, every one has lain on the same side (R385). -/
def State.noteRow (s : State) (n : Nat) (at_ : Nat) : State :=
  match inputRow n with
  | none => s
  | some (row, i) =>
    if !s.ens Pg.PRT then s else
    let key := 8 * row + i
    let runs := s.prt.rowRuns
    let b := s.rowBeyond row i
    let new := if !s.rowTests row i then smErase key runs
      else match runs.find? (fun x => x.1 == key) with
        | some x => if x.2.1 = b then runs else smInsert key (b, at_) runs
        | none => smInsert key (b, at_) runs
    { s with prt := { s.prt with rowRuns := new } }

/-- Length of a half-period of the injection in ns. -/
def State.isoPeriod (s : State) : Nat := s.get Fld.ISO_CFG_HALF * 100000000

/-- A VISO result in the last fifth of a half-period enters one of the two means (R397). -/
def State.noteIso (s : State) (at_ : Nat) : State :=
  let x := 10 * (at_ - s.iso.startAt)
  let add := fun (a : Rat × Nat) => (a.1 + s.inVal 19, a.2 + 1)
  if 9 * s.isoPeriod ≤ x ∧ x < 10 * s.isoPeriod then { s with iso := { s.iso with last := add s.iso.last } }
  else if 8 * s.isoPeriod ≤ x ∧ x < 9 * s.isoPeriod then { s with iso := { s.iso with earlier := add s.iso.earlier } }
  else s

/-- A result enters the Kirchhoff interval of its instant, its digital row, the insulation monitor and the latest four ISTR
results (R322, R323, R392). -/
def State.noteResult (s : State) (n : Nat) (at_ : Instant) : State :=
  let s := s.noteRow n at_.toNat
  let s := if n = 19 then s.noteIso at_.toNat else s
  let s := if 4 ≤ n ∧ n ≤ 12 then
      let key := 32 * s.plantMs at_.toNat + n
      let a := smGet (fun _ => ((0 : Rat), (0 : Nat))) s.adc.kSum key
      { s with adc := { s.adc with kSum := smInsert key (a.1 + s.inVal n, a.2 + 1) s.adc.kSum } }
    else s
  if n = 4 then { s with ctk := { s.ctk with istr := (some (s.inVal 4) :: s.ctk.istr).take 4 } } else s

/-- A regular branch current reaches Chime and the charge accumulators (R166, R183, R187, R199). -/
def State.branchResult (s : State) (b : Nat) (clip : Bool) (at_ : Nat) : State :=
  let s := (s.chmSample b (s.inVal (5 + b)) at_).addCharge b (s.inVal (5 + b)) at_
  if clip then s.chmNote (.branch b) 7 else s

/-- The slot that a conversion fills: the next one of its sequence, none when it fills none (R306, R307). -/
def takeSlot (l : List Nat) (n : Nat) : Option (List Nat) :=
  match l with
  | [] => none
  | m :: rest => if m = n then some rest else none

/-- An injected conversion is complete (R307, R322). -/
def State.injConverted (s : State) (k n : Nat) (nanovolts : Int) (at_ : Instant) : State :=
  match takeSlot (s.adc.injLeft.getD k []) n with
  | none => s
  | some l =>
    let s := { s with adc := { s.adc with injLeft := updAt s.adc.injLeft k (fun _ => l), midway := putBit s.adc.midway k false } }
    let s := (s.storeResult k n nanovolts at_).noteResult n at_
    { s with lpe := { s.lpe with inj := smInsert n (s.inWord n) s.lpe.inj } }

/-- A sample of the ISTR stream is complete: ADC-A and ADC-B take turns, and one carries it alone while the other calibrates;
the first sample at or after a trigger is the loop engine's (R311, R315). -/
def State.streamConverted (s : State) (k n : Nat) (nanovolts : Int) (at_ : Instant) : State :=
  if n ≠ 4 || s.calibrating k || (s.adc.streamBy == some k && !s.calibrating (standIn k)) then s else
  let s := { s with adc := { s.adc with streamBy := some k } }
  let s := (s.storeResult k n nanovolts at_).noteResult n at_
  if s.lpe.sampleOpen && decide (s.lpe.sampleAt ≤ at_.toNat) && !s.lpe.inj.any (fun x => x.1 == 4) then
    { s with lpe := { s.lpe with inj := smInsert 4 (s.inWord 4) s.lpe.inj } }
  else s

/-- A regular conversion is complete: while injected slots wait, only the one that was in progress at the trigger
(R306, R307, R322). -/
def State.regConverted (s : State) (k n : Nat) (nanovolts : Int) (at_ : Instant) : State :=
  if !(s.adc.injLeft.getD k []).isEmpty && !bitOf s.adc.midway k then s else
  match takeSlot (s.adc.regLeft.getD k []) n with
  | none => s
  | some l =>
    let again := l.isEmpty && bitOf s.adc.regDeferred k
    let s := { s with adc := { s.adc with
      regLeft := updAt s.adc.regLeft k (fun _ => if again then s.regSlots k else l)
      regDeferred := if again then putBit s.adc.regDeferred k false else s.adc.regDeferred
      midway := putBit s.adc.midway k false } }
    let s := (s.storeResult k n nanovolts at_).noteResult n at_
    if 5 ≤ n ∧ n ≤ 12 then s.branchResult (n - 5) (s.clipped n) at_.toNat else s

/-- A conversion is complete (R305, R306, R307, R311, R322). -/
def State.converted (s : State) (k n : Nat) (nanovolts : Int) (injected : Bool) (at_ : Instant) : State :=
  if !s.adcRuns then s
  else if injected then s.injConverted k n nanovolts at_
  else if s.ilv k then s.streamConverted k n nanovolts at_
  else s.regConverted k n nanovolts at_

/-! ### The Kirchhoff check -/

/-- Mean of the results of an input in an interval (R323). -/
def intervalMean (sums : List (Nat × (Rat × Nat))) (ms n : Nat) : Option Rat :=
  (sums.find? (fun x => x.1 == 32 * ms + n)).map (fun x => x.2.1 / (x.2.2 : Rat))

/-- The end of a 1 ms interval of plant time (R323, R324); a skipped interval breaks no run. -/
def State.kirchhoff (s : State) : State :=
  let sums := s.adc.kSum
  let ms := s.plantMs s.nowNat - 1
  let s := { s with adc := { s.adc with kSum := s.adc.kSum.filter (fun x => decide (ms < x.1 / 32)) } }
  if !(s.adcRuns && s.on Fld.ADC_CFG_KEN) then s else
  let mean := intervalMean sums ms
  let bs := (List.range 8).filter (fun b => bitOf (s.get Fld.ADC_KCFG_BRMASK) b)
  match mean 4, bs.all (fun b => (mean (5 + b)).isSome) with
  | some m, true =>
    let d := m - (bs.map (fun b => (mean (5 + b)).getD 0)).sum
    let s := s.put Fld.ADC_KSTAT_DIFF (satSigned 16 (ratRound (d * 10)))
    let tol := (s.get Fld.ADC_KTOL_TOLA : Rat) / 10 + (s.get Fld.ADC_KTOL_TOLR : Rat) / 1000 * ratAbs m
    let confirm := max 1 (s.get Fld.ADC_KCFG_CONFIRM)
    if ratAbs d > tol then
      let s := { (s.bump Fld.ADC_KSTAT_RUN) with adc := { s.adc with kPass := 0 } }
      if s.get Fld.ADC_KSTAT_RUN ≥ confirm && !s.on Fld.ADC_STAT_KFAIL then
        ((s.setOn Fld.ADC_STAT_KFAIL true).irq Pg.ADC Irq.ADC_KIRCHHOFF).fault Pg.ADC Flt.KIRCHHOFF 0 (fpOf d)
      else s
    else
      let n := s.adc.kPass + 1
      let s := { (s.put Fld.ADC_KSTAT_RUN 0) with adc := { s.adc with kPass := n } }
      if n ≥ confirm && s.on Fld.ADC_STAT_KFAIL then (s.setOn Fld.ADC_STAT_KFAIL false).latchFault Pg.ADC Flt.KIRCHHOFF else s
  | _, _ => s

/-- A command of ADC_CMD (R316, R317, R325). -/
def State.adcCommand (s : State) (op k : Nat) : State :=
  if op = 1 then
    if !s.adcRuns || s.get Fld.ADC_STAT_CALBUSY ≠ 0 then s.irq Pg.ADC Irq.ADC_CMDREJ else s.startCal k
  else if op = 2 then (s.wr Reg.ADC_CNT 0).put Fld.ADC_KSTAT_RUN 0
  else s

end Sys2Proof.Machine
end

