-- ==== Sys2Proof/Machine/Loop.lean ====
section
/-! DEFINITION. The loop engine (R328 to R375): setpoint frames, limits, the reference, loops and sections, duties, banks,
overruns, test injection and capture. Quantities outside the sections are formed exactly and rounded once (log 7). -/

namespace Sys2Proof.Machine

/-! ### Sections -/

/-- Subnormal words count as zero of the same sign (R332). -/
def fpFlush (w : Word) : Word := if bitsOf w.toNat 23 8 = 0 then fpZero (fpNeg w) else w

/-- One fused multiply-add of the engine (R332). -/
def fma32 (a b c : Word) : Word := fpFlush (fpFma (fpFlush a) (fpFlush b) (fpFlush c))

/-- A product of the engine. -/
def mul32 (a b : Word) : Word := fpFlush (fpMul (fpFlush a) (fpFlush b))

/-- Address of coefficient `j` of section `i` in a bank (R351). -/
def coefAddr (bank : Bool) (i j : Nat) : Nat := (if bank then 0x68C00 else 0x68000) + 0x20 * i + 4 * j

/-- Address of state word `j` of section `i` (R351). -/
def sectAddr (i j : Nat) : Nat := 0x69800 + 0x10 * i + 4 * j

/-- States of a section. -/
def State.sect (s : State) (i : Nat) : SectionState :=
  ⟨s.word (sectAddr i 0), s.word (sectAddr i 1), s.word (sectAddr i 2), s.word (sectAddr i 3)⟩

/-- Set the states of a section. -/
def State.setSect (s : State) (i : Nat) (x : SectionState) : State :=
  (((s.setWord (sectAddr i 0) x.s1).setWord (sectAddr i 1) x.s2).setWord (sectAddr i 2) x.xp).setWord (sectAddr i 3) x.yp

/-- What a section gives: clamped output, unclamped output, saturation. -/
structure SectionOut where
  y : Word
  yu : Word
  sat : Bool
  deriving DecidableEq, Repr

/-- A section under limits; crossed limits give their midpoint and a NaN the previous output (R332 to R335, R349). -/
def sectionOut (b0 lo hi x : Word) (st : SectionState) : SectionOut :=
  let yu := fma32 b0 x st.s1
  if fpIsNan yu then ⟨st.yp, yu, true⟩
  else if fpLt hi lo then ⟨fpOf ((ratOf lo + ratOf hi) / 2), yu, true⟩
  else ⟨fpClamp lo hi yu, yu, fpLt yu lo || fpLt hi yu⟩

/-- The states after a section (R332, R333). -/
def sectionNext (b1 b2 a1 a2 x y : Word) (st : SectionState) : SectionState :=
  ⟨fma32 b1 x (fma32 (fpNegate a1) y st.s2), fma32 b2 x (fpNegate (mul32 a2 y)), x, y⟩

/-! ### The sample period -/

/-- T_s in units of 2.5 ns: PER over SPP. -/
def State.tsUnits (s : State) : Rat := (s.per : Rat) / s.spp

/-- T_s in ms. -/
def State.tsMs (s : State) : Rat := s.tsUnits * 25 / 10000000

/-! ### Loops -/

/-- Loop `n` is enabled. -/
def State.loopOn (s : State) (n : Nat) : Bool := s.on (Fld.LPE_LPCFG_EN n)

/-- Sections of loop `n`. -/
def State.loopSecs (s : State) (n : Nat) : List Nat :=
  (List.range (s.get (Fld.LPE_LPCFG_NSEC n))).map (fun j => s.get (Fld.LPE_LPCFG_BASE n) + j)

/-- Destination of loop `n` (R331). -/
def State.loopDst (s : State) (n : Nat) : Nat := s.get (Fld.LPE_LPCFG_DST n)

/-- Active bank of loop `n`, true for B. -/
def State.loopBank (s : State) (n : Nat) : Bool := s.on (Fld.LPE_LPSTAT_BANK n)

/-- Values of a loop in one sample (R330, R367). -/
structure LoopTrace where
  n : Nat
  r : Word
  f : Word
  e : Word
  outs : List Word
  yu : Word
  u : Word
  deriving DecidableEq, Repr

/-- What one sample forms: loops so far, IREF with the value of step 1 and the value before the test signal, and the test
signal with its node. -/
structure SampleRun where
  s : State
  loops : List LoopTrace
  iref : Option (Word × Word × Word)
  test : Option (Nat × Word)
  deriving DecidableEq, Repr

/-- A node's value with the test signal added when it is injected there (R367). -/
def SampleRun.inject (r : SampleRun) (code : Nat) (w : Word) : Word :=
  match r.test with
  | none => w
  | some (c, t) => if c = code then fpFlush (fpAdd w t) else w

/-- Value of an ADC input for this sample (R311, R329). -/
def State.sampleIn (s : State) (n : Nat) : Word :=
  match s.lpe.inj.find? (fun x => x.1 == n) with
  | none => s.inWord n
  | some x => x.2

/-- Output of loop `m`, 0 when it has not run. -/
def SampleRun.output (r : SampleRun) (m : Nat) : Word := ((r.loops.find? (fun t => t.n == m)).map LoopTrace.u).getD 0

/-- A source of loop `n` (R330). -/
def SampleRun.source (r : SampleRun) (n code : Nat) : Word :=
  if code < 0x18 then r.s.sampleIn code
  else if code = 0x18 then (r.iref.map (fun x => x.1)).getD 0
  else if code = 0x19 then r.s.lpe.vramp
  else if code = 0x1A then r.s.word (Reg.LPE_LPK n)
  else if 0x1C ≤ code ∧ code < 0x20 then
    fpOf (ratOf (r.s.sampleIn (15 + (code - 0x1C))) - ratOf (r.s.sampleIn 13) / 2)
  else if 0x20 ≤ code ∧ code < 0x30 then r.output (code - 0x20)
  else 0

/-- Output of the loop with a destination; 0 when no loop names it (R331, R348). -/
def SampleRun.toDest (r : SampleRun) (d : Nat) : Rat :=
  ((r.loops.find? (fun t => r.s.loopDst t.n == d)).map (fun t => ratOf t.u)).getD 0

/-- A value held between −L_dis and L_chg, none for no limit. -/
def limitTo (c d : Option Rat) (v : Rat) : Rat :=
  let v := match c with
    | none => v
    | some a => min v a
  match d with
  | none => v
  | some a => max v (-a)

/-- Peak bound P of the applied tones (R173). -/
def State.tonePeak (s : State) : Rat := ratSqrt 2 * ((s.appliedSum : Rat) / 1000)

/-- IREF is formed (R345): the reference before the tones enters Chime's reference means (R177). -/
def SampleRun.formIref (r : SampleRun) : SampleRun :=
  let s := r.s.toneGuard
  let step1 : Word := if s.anyPhase (fun v => v == 3) then fpOf (r.toDest 0xA) else s.lpe.isetR
  let v2 := ratOf (r.inject 0x101 step1)
  let base := limitTo s.lpe.limC s.lpe.limD v2
  let tones := s.tonesOn
  let p := s.tonePeak
  let v3 := if tones then
      limitTo (s.lpe.limC.map (fun a => a - p)) (s.lpe.limD.map (fun a => a - p)) base + s.toneSum s.lpe.sampleAt
    else base
  let w3 := fpOf v3
  let v4 := limitTo s.lpe.limC s.lpe.limD (ratOf (r.inject 0x102 w3))
  { r with s := s.chmRef base s.lpe.sampleAt, iref := some (fpOf v4, step1, w3) }

/-- The sections of a loop, in a chain; `bound` tightens the last one (R330, R349). Gives outputs, y_u and SAT bits. -/
def SampleRun.chain (r : SampleRun) (n : Nat) (bound : Option (Rat × Rat)) :
    List (Nat × Nat) → Word → List Word × Word × Nat → SampleRun × List Word × Word × Nat × Word
  | [], x, acc => (r, acc.1, acc.2.1, acc.2.2, x)
  | (j, i) :: rest, x, acc =>
    let s := r.s
    let c := fun (k : Nat) => s.word (coefAddr (s.loopBank n) i k)
    let lim : Word × Word := match rest, bound with
      | [], some (lo, hi) =>
        (if ratOf (c 5) < lo then fpOf lo else c 5, if hi < ratOf (c 6) then fpOf hi else c 6)
      | _, _ => (c 5, c 6)
    let st := s.sect i
    let o := sectionOut (c 0) lim.1 lim.2 x st
    let s := s.setSect i (sectionNext (c 1) (c 2) (c 3) (c 4) x o.y st)
    let s := if fpIsNan o.yu then (s.irq Pg.LPE Irq.LPE_NAN).fault Pg.LPE Flt.LOOP_NAN n else s
    let next := r.inject (16 * n + 3 + j) o.y
    SampleRun.chain { r with s := s } n bound rest next (acc.1 ++ [o.y], o.yu, acc.2.2 + bitNat o.sat * 2 ^ j)

/-- One loop runs (R330, R334). -/
def SampleRun.loop (r : SampleRun) (n : Nat) (bound : Option (Rat × Rat)) : SampleRun :=
  let ref := r.source n (r.s.get (Fld.LPE_LPSRC_REF n))
  let fb := r.source n (r.s.get (Fld.LPE_LPSRC_FB n))
  let e := fpFlush (fpSub (fpFlush (r.inject (16 * n) ref)) (fpFlush (r.inject (16 * n + 1) fb)))
  let secs := r.s.loopSecs n
  let c := r.chain n bound ((List.range secs.length).zip secs) (r.inject (16 * n + 2) e) ([], 0, 0)
  let r := c.1
  let old := r.s.get (Fld.LPE_LPSTAT_SAT n)
  let s := r.s.put (Fld.LPE_LPSTAT_SAT n) c.2.2.2.1
  let s := if Nat.land c.2.2.2.1 (255 - old) = 0 then s else s.irq Pg.LPE Irq.LPE_SAT
  { r with s := s, loops := r.loops ++ [⟨n, ref, fb, e, c.2.1, c.2.2.1, c.2.2.2.2⟩] }

/-- The loop takes source 0x18. -/
def State.takesIref (s : State) (n : Nat) : Bool :=
  s.get (Fld.LPE_LPSRC_REF n) == 0x18 || s.get (Fld.LPE_LPSRC_FB n) == 0x18

/-- The enabled loops in ascending index, IREF immediately before the first that takes it or after the last (R328). -/
def SampleRun.runAll (r : SampleRun) (bound : Option (Rat × Rat)) : SampleRun :=
  let r := (List.range 16).foldl (fun (r : SampleRun) n =>
    if !r.s.loopOn n then r else
    let r := if r.iref.isNone && r.s.takesIref n then r.formIref else r
    r.loop n (if r.s.loopDst n = 1 then bound else none)) r
  if r.iref.isNone then r.formIref else r

/-! ### Duties -/

/-- Feed-forward d_ff and d_sl (R348). -/
def SampleRun.feed (r : SampleRun) : Rat × Rat :=
  let s := r.s
  let vb := max (ratOf (s.sampleIn 13)) (max 1 (s.get Fld.LPE_VBMIN_VBMIN) : Nat)
  let iref := ratOf ((r.iref.map (fun x => x.1)).getD 0)
  (ratOf (s.word Reg.LPE_FFG) * ratOf (s.sampleIn 14) / vb,
   ratOf (s.word Reg.LPE_KSL) * (iref - ratOf s.lpe.irefPrev) / vb)

/-- Terms of a cell's duty other than d_c (R348). -/
def SampleRun.cellTerms (r : SampleRun) (c : Nat) : Rat :=
  let s := r.s
  let p := c / 2
  let f := r.feed
  let band : Rat := ((max 1 (s.get Fld.LPE_FCBAND_FCBAND) : Nat) : Rat) / 10
  let sp := ratClamp (-1) 1 (ratOf (s.sampleIn p) / band)
  let u := r.toDest (6 + p) * sp
  f.1 + f.2 + r.toDest (2 + p) + (if c % 2 = 0 then u else -u)

/-- Bounds that keep every enabled cell's duty within DLIM (R349). -/
def SampleRun.dutyBounds (r : SampleRun) : Option (Rat × Rat) :=
  let lo : Rat := (r.s.get Fld.PWM_DLIM_DMIN : Rat) / 65536
  let hi : Rat := (r.s.get Fld.PWM_DLIM_DMAX : Rat) / 65536
  ((List.range 8).filter r.s.cellEn).foldl (fun (b : Option (Rat × Rat)) c =>
    let o := r.cellTerms c
    match b with
    | none => some (lo - o, hi - o)
    | some (x, y) => some (max x (lo - o), min y (hi - o))) none

/-- Duty of a cell before conversion (R348). -/
def SampleRun.duty (r : SampleRun) (c : Nat) : Rat := r.cellTerms c + r.toDest 1

/-- The duties are handed to the PWM unit (R350). -/
def SampleRun.handOver (r : SampleRun) : State :=
  r.s.each 8 (fun s c =>
    if !s.cellEn c then s else
    let d : Rat := (min 65535 (ratRound (r.duty c * 65536)).toNat : Nat)
    s.setCell c { s.pwmCell c with duty := some (d / 65536), fresh := true })

/-! ### Limits and setpoints -/

/-- Contributions in force in one direction, with their codes (R343, R344): none for no limit. -/
def State.contributions (s : State) (charge : Bool) : List (Option Rat × Nat) :=
  let pick := fun (x : Rat × Rat) => if charge then x.1 else x.2
  let ilim := s.get (if charge then Fld.LPE_ILIM_CHG else Fld.LPE_ILIM_DIS)
  let fbE : Rat := s.get (if charge then Fld.LPE_FBEST_CHG else Fld.LPE_FBEST_DIS)
  let fbT : Rat := s.get (if charge then Fld.LPE_FBTHM_CHG else Fld.LPE_FBTHM_DIS)
  [(if ilim = 0 then none else some (ilim : Rat), 0),
   (match s.lpe.est with | some x => (some (pick x), 1) | none => (some fbE, 2)),
   (match s.lpe.thm with | some x => (some (pick x), 3) | none => (some fbT, 4)),
   (if charge then s.lpe.prtC else s.lpe.prtD, 5)]

/-- The lowest contribution with its code. -/
def lowest (l : List (Option Rat × Nat)) : Option Rat × Nat :=
  l.foldl (fun m x => match m.1, x.1 with
    | none, some _ => x
    | some a, some b => if b < a then x else m
    | _, none => m) (none, 0)

/-- The applied limit follows the lowest contribution: at once down, by the ramp up (R344). -/
def stepLimit (now goal : Option Rat) (step : Rat) : Option Rat :=
  match now, goal with
  | none, g => g
  | some a, none => some (a + step)
  | some a, some g => if g ≤ a then some g else some (min g (a + step))

/-- The limits of this sample (R343, R344). -/
def State.stepLimits (s : State) : State :=
  let step : Rat := ((max 1 (s.get ⟨Reg.LPE_LIMRAMP, 0, 16⟩) : Nat) : Rat) / 10 * s.tsMs
  let c := lowest (s.contributions true)
  let d := lowest (s.contributions false)
  let lc := stepLimit s.lpe.limC c.1 step
  let ld := stepLimit s.lpe.limD d.1 step
  let show_ := fun (x : Option Rat) => match x with
    | none => 65535
    | some a => satNat 16 (ratRound a)
  let s := { s with lpe := { s.lpe with limC := lc, limD := ld } }
  let s := s.wr Reg.LPE_LIMNOW (show_ lc + show_ ld * 65536)
  s.wr Reg.LPE_LIMSRC (c.2 + d.2 * 16)

/-- FREE and PEND follow the queue (R339). -/
def State.spShow (s : State) : State :=
  let n := s.lpe.frames.length
  (s.put Fld.LPE_SPSTAT_FREE (8 - n)).put Fld.LPE_SPSTAT_PEND n

/-- A frame is submitted by the write of LPE_SPIN4 (R337 to R339). -/
def State.submitFrame (s : State) : State :=
  let w := fun (k : Nat) => s.word (Reg.LPE_SPIN k)
  let h := (w 0).toNat
  let kind := bitsOf h 28 4
  let discard := (s.bump Fld.LPE_SPCNT_DISC).irq Pg.LPE Irq.LPE_SPDISC
  if bitsOf h 16 11 ≠ 0 then discard
  else if kind = 2 then ({ s with lpe := { s.lpe with frames := [] } }).spShow
  else if kind ≠ 1 || fpIsNan (w 3) || fpIsInf (w 3) || s.lpe.frames.length ≥ 8 then discard
  else
    let imm := bitOf h 27
    let act : Instant := if imm then s.now else BitVec.ofNat 64 ((w 1).toNat * 2 ^ 32 + (w 2).toNat)
    ({ s with lpe := { s.lpe with frames := s.lpe.frames ++ [(⟨imm, h % 65536, act, w 3, w 4, s.now⟩ : SpFrame)] } }).spShow

/-- The frames that fall due at a sample (R340, R341). -/
def State.dueFrames (s : State) : State :=
  let at_ : Instant := BitVec.ofNat 64 s.lpe.sampleAt
  let due := s.lpe.frames.filter (fun f => decide (0 ≤ (at_ - f.act).toInt))
  if due.isEmpty then s else
  let s := ({ s with lpe := { s.lpe with frames := s.lpe.frames.filter (fun f => !decide (0 ≤ (at_ - f.act).toInt)) } }).spShow
  if s.svc.state = .stopping || !s.anyPhase (fun v => v == 4) then
    (s.bumpBy Fld.LPE_SPCNT_DROPPED due.length).irq Pg.LPE Irq.LPE_SPDROP
  else
    match due.getLast? with
    | none => s
    | some f =>
      let s := s.bumpBy Fld.LPE_SPCNT_SUPERSEDED (due.length - 1)
      let late := !f.imm && decide ((f.act - f.sub).toInt < 0)
      let s := if late then (s.bump Fld.LPE_SPCNT_LATE).irq Pg.LPE Irq.LPE_SPLATE else s
      let s := ((s.put Fld.LPE_SPSTAT_SEQ f.seq).wr64 Reg.LPE_SPTIME s.lpe.sampleAt).irq Pg.LPE Irq.LPE_SPAPPLIED
      { s with lpe := { s.lpe with active := some (f.iset, f.ramp) } }

/-- The ramped setpoint moves toward the active one (R342, R346). -/
def State.rampSetpoint (s : State) : State :=
  let active := if s.svc.state = .stopping then some ((0 : Word), fpOf (((max 1 (s.get Fld.LPE_SLEW_STOP) : Nat) : Rat) / 10))
    else s.lpe.active
  let s := { s with lpe := { s.lpe with active := active } }
  match active with
  | none => s
  | some (goal, ramp) =>
    let rate : Rat := if fpIsNan ramp || fpNeg ramp || (fpVal ramp = 0 && !fpIsInf ramp)
      then ((max 1 (s.get Fld.LPE_SLEW_RATE) : Nat) : Rat) / 10 else ratOf ramp
    let step := rate * s.tsMs
    let now := ratOf s.lpe.isetR
    let g := ratOf goal
    let v := if now < g then min g (now + step) else max g (now - step)
    { s with lpe := { s.lpe with isetR := if v = g then goal else fpOf v } }

/-- VRAMP (R347). -/
def State.stepVramp (s : State) : State :=
  if !s.anyPhase (fun v => v == 3) then { s with lpe := { s.lpe with vramp := 0 } } else
  let now := ratOf s.lpe.vramp
  let goal : Rat := s.get Fld.PWM_BTGT_TARGET
  let step : Rat := ((max 1 (s.get Fld.PWM_BSTART_RATE) : Nat) : Rat) / 1000 * s.tsMs
  if now ≥ goal then s else { s with lpe := { s.lpe with vramp := fpOf (min goal (now + step)) } }

/-! ### Bank swaps -/

/-- A section's coefficients in a bank are finite with YMIN at most YMAX (R353, R371). -/
def State.bankOk (s : State) (bank : Bool) (i : Nat) : Bool :=
  (List.range 7).all (fun j => !fpIsNan (s.word (coefAddr bank i j)) && !fpIsInf (s.word (coefAddr bank i j))) &&
  !fpLt (s.word (coefAddr bank i 6)) (s.word (coefAddr bank i 5))

/-- Bumpless states of a section under its new bank (R354). -/
def State.bumpless (s : State) (bank : Bool) (i : Nat) : State :=
  let c := fun (k : Nat) => s.word (coefAddr bank i k)
  let st := s.sect i
  let yh := fpClamp (c 5) (c 6) st.yp
  s.setSect i { st with s1 := fma32 (fpNegate (c 0)) st.xp yh, s2 := fma32 (c 2) st.xp (fpNegate (mul32 (c 4) yh)) }

/-- Requested swaps take place at the start of a sample (R353 to R355), with one audit record naming the loops. -/
def State.doSwaps (s : State) : State :=
  if s.lpe.swapReq = 0 then s else
  let req := (List.range 16).filter (fun n => bitOf s.lpe.swapReq n)
  let ok := req.filter (fun n => (s.loopSecs n).all (s.bankOk (!s.loopBank n)))
  let mask := maskOf 16 (fun n => ok.contains n)
  let by_ := s.lpe.swapBy
  let s := { s with lpe := { s.lpe with swapReq := 0 } }
  let s := req.foldl (fun s n =>
    if !ok.contains n then (s.setOn (Fld.LPE_LPSTAT_SWREJ n) true).irq Pg.LPE Irq.LPE_SWAPREJ
    else
      let bank := !s.loopBank n
      let s := (s.setOn (Fld.LPE_LPSTAT_BANK n) bank).setOn (Fld.LPE_LPSTAT_SWREJ n) false
      if s.on (Fld.LPE_LPCFG_BL n) then (s.loopSecs n).foldl (fun s i => s.bumpless bank i) s else s) s
  if mask = 0 then s else (s.irq Pg.LPE Irq.LPE_SWAPPED).auditCommand by_ Reg.LPE_SWAP 0 mask

/-! ### Test and capture -/

/-- A capture starts at this sample (R369). -/
def State.startCapture (s : State) (test : Bool) : State :=
  let s := ((s.wr Reg.LPE_CAPSTAT 0).put Fld.LPE_CAPSTAT_STATE 1).wr64 Reg.LPE_CAPT0 s.lpe.sampleAt
  { s with lpe := { s.lpe with capRun := true, capTest := test, capIdx := 0, capArmed := false } }

/-- The capture ends DONE (R370). -/
def State.captureDone (s : State) : State :=
  if !s.lpe.capRun then s else
  let s := (s.put Fld.LPE_CAPSTAT_STATE 2).irq Pg.LPE Irq.LPE_CAP_DONE
  { s with lpe := { s.lpe with capRun := false, capTest := false } }

/-- Tests and captures that start, stop or are aborted at this sample (R366, R369, R370, R373). -/
def State.testEdges (s : State) : State :=
  let s := if s.lpe.testStop then
      let s := (s.setOn Fld.LPE_STAT_TEST false).captureDone
      { s with lpe := { s.lpe with testStop := false } }
    else s
  let s := if s.on Fld.LPE_STAT_TEST && !s.phasesAre 4 then s.abortTest else s
  if s.lpe.testArmed then
    let s := (s.startCapture true).setOn Fld.LPE_STAT_TEST true
    { s with lpe := { s.lpe with testArmed := false, testK := 0, prbs := 1 } }
  else if s.lpe.capArmed then s.startCapture false
  else s

/-- PRBS register at sample `k` (R366). -/
def State.prbsNow (s : State) : Nat :=
  if s.lpe.testK % max 1 (s.get Fld.LPE_TEST_HOLD) = 0 then
    (s.lpe.prbs * 2 + bitNat (bitOf s.lpe.prbs 14 != bitOf s.lpe.prbs 13)) % 32768
  else s.lpe.prbs

/-- T_k (R366). -/
def State.testSignal (s : State) : Word :=
  let a := s.word Reg.LPE_TAMP
  let t := s.get Fld.LPE_TEST_TYPE
  if t = 1 then a
  else if t = 2 then
    fpOf (ratOf a * ratSin (((s.lpe.testK * s.rd Reg.LPE_TPHINC % 2 ^ 32 : Nat) : Rat) / (2 ^ 32 : Nat)))
  else if t = 3 then (if s.prbsNow % 2 = 0 then a else fpNegate a)
  else 0

/-- The generator and the capture count step after a sample (R366, R370). -/
def State.stepTest (s : State) : State :=
  let r := s.prbsNow
  let s := if s.lpe.capRun then { s with lpe := { s.lpe with capIdx := s.lpe.capIdx + 1 } } else s
  if !s.on Fld.LPE_STAT_TEST then s else
  let k := s.lpe.testK + 1
  let s := { s with lpe := { s.lpe with testK := k, prbs := r } }
  if k < max 1 (s.get Fld.LPE_TLEN_TLEN) then s else
  let s := (s.setOn Fld.LPE_STAT_TEST false).irq Pg.LPE Irq.LPE_TEST_DONE
  if s.lpe.capTest then s.captureDone else s

/-- Channel `c` of the capture (LPE_CAPSEL0, LPE_CAPSEL1). -/
def State.capSel (s : State) (c : Nat) : Nat :=
  s.get (if c = 0 then Fld.LPE_CAPSEL0_CH0 else if c = 1 then Fld.LPE_CAPSEL0_CH1 else if c = 2 then Fld.LPE_CAPSEL1_CH2 else Fld.LPE_CAPSEL1_CH3)

/-- Value of a captured node (R367, R369); a reserved code has no stated value (log 7). -/
def SampleRun.node (r : SampleRun) (code : Nat) : Word :=
  let num := fun (o : Option Rat) => match o with
    | none => fpInf false
    | some a => fpOf a
  if code < 0x100 then
    match r.loops.find? (fun t => t.n == code / 16) with
    | none => 0
    | some t =>
      let k := code % 16
      if k = 0 then t.r else if k = 1 then t.f else if k = 2 then t.e
      else if k = 0xB then t.yu
      else if k < 0xB then t.outs.getD (k - 3) 0
      else fpOf (Config.nonFinite (BitVec.ofNat 32 code))
  else if code = 0x100 then (r.test.map Prod.snd).getD 0
  else if code = 0x101 then (r.iref.map (fun x => x.2.1)).getD 0
  else if code = 0x102 then (r.iref.map (fun x => x.2.2)).getD 0
  else if code = 0x103 then fpOf r.feed.1
  else if code = 0x104 then fpOf r.feed.2
  else if code = 0x105 then r.s.lpe.vramp
  else if code = 0x106 then num r.s.lpe.limC
  else if code = 0x107 then num r.s.lpe.limD
  else if code < 0x110 then fpOf (r.duty (code - 0x108))
  else fpOf (Config.nonFinite (BitVec.ofNat 32 code))

/-- A capture sample is written by a value per channel, and the capture ends when its buffer is full (R369, R370). -/
def State.captureSample (s : State) (value : Nat → Word) : State :=
  if !s.lpe.capRun || s.lpe.capIdx % max 1 (s.get Fld.LPE_CAPCFG_DEC) ≠ 0 then s else
  let nch := s.get Fld.LPE_CAPCFG_NCH + 1
  let j := s.get Fld.LPE_CAPSTAT_SAMPLES
  let s := s.each nch (fun s c => s.setWord (0x6C000 + 4 * (j * nch + c)) (value (s.capSel c)))
  let s := s.put Fld.LPE_CAPSTAT_SAMPLES (j + 1)
  if j + 1 ≥ 4096 / nch then s.captureDone else s

/-- An abandoned or skipped sample in the capture (R369). -/
def State.captureMissing (s : State) : State :=
  let s := if s.lpe.capRun && s.lpe.capIdx % max 1 (s.get Fld.LPE_CAPCFG_DEC) == 0 then s.setOn Fld.LPE_CAPSTAT_OVR true else s
  (s.captureSample (fun _ => 0x7FC00000)).stepTest

/-! ### The control sample -/

/-- While no enabled phase switches: states, SAT bits, ramped setpoint and previous IREF are 0 and the active setpoint is
released (R336). -/
def State.idleSample (s : State) : State :=
  let s := s.each 96 (fun s i => s.setSect i ⟨0, 0, 0, 0⟩)
  let s := s.each 16 (fun s n => s.put (Fld.LPE_LPSTAT_SAT n) 0)
  ({ s with lpe := { s.lpe with isetR := 0, irefPrev := 0, active := none } }).wr Reg.LPE_ISET 0

/-- The stop test of R346 and R392. -/
def State.stopTest (s : State) : State :=
  let inBand := decide (ratAbs (ratOf (s.sampleIn 4)) ≤ s.zband)
  let n := if inBand then min 4 (s.lpe.zeroRun + 1) else 0
  let stop := decide (s.svc.state = .stopping) && decide (ratOf s.lpe.isetR = 0) && decide (4 ≤ n)
  { s with lpe := { s.lpe with zeroRun := n, stopDone := stop } }

/-- The first stream sample at or after the trigger is in, where a stream runs (R311). -/
def State.streamIn (s : State) : Bool := !(s.adcRuns && s.on Fld.ADC_CFG_ILV) || s.lpe.inj.any (fun x => x.1 == 4)

/-- A sample may be computed: it is open and its injected results are in (R311, R328). -/
def State.sampleReady (s : State) : Bool :=
  s.ens Pg.LPE && s.get Fld.LPE_STAT_STATE == 1 && s.lpe.sampleOpen && s.adc.injLeft.all List.isEmpty && s.streamIn

/-- One control sample (R328 to R350). The loop with destination 0x1 is bounded by the other terms of the sample, which
a first pass forms. -/
def State.controlSample (s : State) : State :=
  if !s.sampleReady then s else
  let s := (((s.doSwaps).testEdges).dueFrames).rampSetpoint.stepLimits.stepVramp
  let test := if s.on Fld.LPE_STAT_TEST then some (s.get Fld.LPE_TEST_SEL, s.testSignal) else none
  let r0 : SampleRun := ⟨s, [], none, test⟩
  let first := r0.runAll none
  let r := r0.runAll first.dutyBounds
  let iref := (r.iref.map (fun x => x.1)).getD 0
  let s := r.handOver
  let s := (s.captureSample r.node).stepTest
  let s := { s with lpe := { s.lpe with irefPrev := iref, sampleOpen := false, abandoned := false } }
  let s := ((s.setWord Reg.LPE_ISET s.lpe.isetR).setWord Reg.LPE_IREF iref).put Fld.LPE_STAT_OVRC 0
  let s := s.stopTest
  if s.switching then s else s.idleSample

/-! ### Triggers and overruns -/

/-- A sample overruns (R358, R359). -/
def State.overrun (s : State) : State :=
  let third := s.get Fld.LPE_STAT_OVRC == 2
  let s := ((s.bump Fld.LPE_OVR_TOTAL).bump Fld.LPE_STAT_OVRC).irq Pg.LPE Irq.LPE_OVERRUN
  let s := s.captureMissing
  let s := { s with lpe := { s.lpe with sampleOpen := false, abandoned := true } }
  if !third then s else
  let s := s.irq Pg.LPE Irq.LPE_OVR_TRIP
  if s.on Fld.PRT_CFG_OVRMASK then (s.fault Pg.LPE Flt.LOOP_OVERRUN 0 0 true).markEvent Flt.LOOP_OVERRUN
  else (s.snareBy 0x1D).faultEvent Pg.LPE Flt.LOOP_OVERRUN 0

/-- A sample whose trigger a converter dropped is skipped (R360). -/
def State.skipSample (s : State) : State :=
  let s := ((s.bump Fld.LPE_OVR_SKIP).irq Pg.LPE Irq.LPE_SKIP).captureMissing
  { s with lpe := { s.lpe with sampleOpen := false, abandoned := true } }

/-- Master count of the k-th trigger behind a phase-0 valley (R278). -/
def State.trigCount (s : State) (k : Nat) : Nat :=
  (s.cellOfs 0 + s.get Fld.PWM_TRIG_OFS + k * (2 * s.per) / s.spp) % max 1 (2 * s.per)

/-- A sample trigger leaves the PWM unit (R278, R297, R307, R309, R328). -/
def State.trigger (s : State) : State :=
  let now := s.nowNat
  let s := s.chmAdvance now
  let close := match s.pwm.lastTrig with
    | none => false
    | some t => decide (((now - t : Nat) : Rat) < s.tsUnits * 5 / 4)
  if !s.ens Pg.PWM || !s.anyPhase (fun v => v != 0) || close then s else
  let s := ({ s with pwm := { s.pwm with lastTrig := some now, trigs := s.pwm.trigs + 1 } }).emit (.trigger (s.trigCount s.pwm.trigs))
  let runs := s.ens Pg.LPE && s.get Fld.LPE_STAT_STATE == 1
  let s := if runs && s.lpe.sampleOpen then s.overrun else s
  let x := s.injTrigger
  let s := { x.1 with lpe := { x.1.lpe with sampleOpen := runs, sampleAt := now, inj := [] } }
  if runs && x.2 then s.skipSample else s

/-! ### Enable, checks, commands -/

/-- T_comp and T_in in 2.5 ns (R356, R357). -/
def State.loopTimes (s : State) : Nat × Nat :=
  let on := (List.range 16).filter s.loopOn
  let secs := (on.map (fun n => s.get (Fld.LPE_LPCFG_NSEC n))).sum
  let tin := ((List.range 4).map (fun k => let n := (s.injSlots k).length; if n = 0 then 0 else (n + 1) * 40 + 20)).foldl max 0
  (100 + 32 * on.length + 24 * secs, tin)

/-- LPE_TCOMP presents the last check. -/
def State.showTimes (s : State) : State :=
  let t := s.loopTimes
  (s.put Fld.LPE_TCOMP_Tcomp t.1).put Fld.LPE_TCOMP_Tin t.2

/-- R357 fails. -/
def State.timesBad (s : State) : Bool :=
  let t := s.loopTimes
  decide ((t.1 + t.2 + 80) * s.spp > s.per)

/-- A source code of loop `n` is valid (R330, R371). -/
def sourceOk (n code : Nat) : Bool :=
  (decide (code < 0x20) && code != 0x1B) || (decide (0x20 ≤ code) && decide (code < 0x20 + n))

/-- Destination of an enabled loop is valid (R331, R371). -/
def State.dstOk (s : State) (d : Nat) : Bool :=
  decide (d ≤ 0xA) &&
  (!(decide (2 ≤ d) && decide (d ≤ 5)) || s.phaseEn (d - 2)) &&
  (!(decide (6 ≤ d) && decide (d ≤ 9)) || (s.phaseEn (d - 6) && s.threeLevel (d - 6)))

/-- The loop configuration is invalid (R371). -/
def State.lpeBad (s : State) : Bool :=
  let on := (List.range 16).filter s.loopOn
  on.any (fun n =>
    let k := s.get (Fld.LPE_LPCFG_NSEC n)
    decide (k = 0) || decide (k > 8) || decide (s.get (Fld.LPE_LPCFG_BASE n) + k > 96) ||
    !sourceOk n (s.get (Fld.LPE_LPSRC_REF n)) || !sourceOk n (s.get (Fld.LPE_LPSRC_FB n)) ||
    !s.dstOk (s.loopDst n) ||
    on.any (fun m => m != n && ((s.loopSecs n).any (fun i => (s.loopSecs m).contains i) ||
      (s.loopDst n != 0 && s.loopDst m == s.loopDst n) ||
      (s.loopDst m == 0xA && s.takesIref n && decide (n < m)))) ||
    !(s.loopSecs n).all (s.bankOk (s.loopBank n))) ||
  s.timesBad

/-- LPE_CTRL.EN is set (R357, R371). -/
def State.lpeOn (s : State) : State :=
  if s.ens Pg.LPE then s else
  let s := (s.setOn (Fld.ens Pg.LPE) true).showTimes
  if s.lpeBad then (s.put Fld.LPE_STAT_STATE 2).irq Pg.LPE Irq.LPE_CONFIG_ERR else s.put Fld.LPE_STAT_STATE 1

/-- The check of R357 is made again when the PWM block is enabled. -/
def State.lpeRecheck (s : State) : State :=
  if !(s.ens Pg.LPE && s.get Fld.LPE_STAT_STATE == 1) then s else
  let s := s.showTimes
  if s.timesBad then (s.put Fld.LPE_STAT_STATE 2).irq Pg.LPE Irq.LPE_CONFIG_ERR else s

/-- R364: EN stays 1 while a phase is in BUSRAMP or RUN. -/
def State.lpeHeld (s : State) : Bool := s.switching

/-- LPE_CTRL.EN is cleared. -/
def State.lpeOff (s : State) : State :=
  let s := ((s.abortTest.setOn (Fld.ctrlEn Pg.LPE) false).setOn (Fld.ens Pg.LPE) false).put Fld.LPE_STAT_STATE 0
  { s with lpe := { s.lpe with sampleOpen := false, testArmed := false, capArmed := false, testStop := false } }

/-- Injection code is permitted (R368). -/
def State.testNodeOk (s : State) (code : Nat) : Bool :=
  code == 0x101 || code == 0x102 ||
  (decide (code < 0x100) && s.loopOn (code / 16) && decide (code % 16 < 3 + s.get (Fld.LPE_LPCFG_NSEC (code / 16))) &&
    decide (code % 16 ≤ 0xA))

/-- A command of LPE_CMD (R368, R369, R373). -/
def State.lpeCommand (s : State) (op : Nat) : State :=
  let busy := s.lpe.capRun || s.lpe.capArmed || s.lpe.testArmed || s.on Fld.LPE_STAT_TEST
  if op = 1 then
    if busy || !s.phasesAre 4 || !s.testNodeOk (s.get Fld.LPE_TEST_SEL) || s.get Fld.LPE_TEST_TYPE = 0
    then s.irq Pg.LPE Irq.LPE_CMDREJ
    else { s with lpe := { s.lpe with testArmed := true } }
  else if op = 2 then
    (if s.on Fld.LPE_STAT_TEST || s.lpe.capRun then { s with lpe := { s.lpe with testStop := true } } else s)
  else if op = 3 then
    (if s.lpe.capRun || s.lpe.capArmed || s.lpe.testArmed then s.irq Pg.LPE Irq.LPE_CMDREJ
     else { s with lpe := { s.lpe with capArmed := true } })
  else if op = 4 then (s.wr Reg.LPE_OVR 0).wr Reg.LPE_SPCNT 0
  else s

/-- A swap is requested (R353). -/
def State.swapAsk (s : State) (o : Origin) (mask : Nat) : State :=
  { s with lpe := { s.lpe with swapReq := Nat.lor s.lpe.swapReq (mask % 65536), swapBy := o } }

/-- A contributor falls back (R16, R343). -/
def State.fallback (s : State) (c : Contributor) : State :=
  match c with
  | .estimator => if s.lpe.est.isNone then s else ({ s with lpe := { s.lpe with est := none } }).irq Pg.LPE Irq.LPE_FALLBACK
  | .thermal => if s.lpe.thm.isNone then s else ({ s with lpe := { s.lpe with thm := none } }).irq Pg.LPE Irq.LPE_FALLBACK

/-! ### The end of a stop -/

/-- The current has reached zero in STOPPING: outputs low, phases IDLE, and what the cause of the stop asks for follows
(R22, R289, R290, R346, R403). -/
def State.stopOver (s : State) : State :=
  let quiet := s.lpe.stopDone || (!s.switching && decide (ratAbs (s.inVal 4) ≤ s.zband))
  if s.svc.state ≠ .stopping || s.pwm.failing || !quiet || s.ctk.opening.isSome then s else
  let s := s.phasesIdle
  let s := { s with lpe := { s.lpe with stopDone := false } }
  match s.svc.stopCause with
  | some .cat1 => s.beginOpening s.drivenBranches true true
  | some .classC => (s.setOn Fld.FLT_INFORCE_OPENALL true).beginOpening s.drivenBranches true true
  | some .classCBranch =>
    let mask := bitsOf (s.rd Reg.FLT_INFORCE) 8 8
    let left := Nat.land s.drivenBranches (255 - mask)
    s.beginOpening mask (left == 0) (left == 0)
  | _ => s.haltOver

end Sys2Proof.Machine
end

