-- ==== Sys2Proof/Machine/Balance.lean ====
section
/-! DEFINITION. The balancing planner (R234 to R248): targets, switches, mismatches and the bleed ledger. -/

namespace Sys2Proof.Machine

/-! ### Targets -/

/-- Remaining target of a cell in mC. -/
def State.target (s : State) (i : Nat) : Rat := smGet (fun _ => (0 : Rat)) s.bal.targets i

/-- BTARGET as shown, 0.1 mAh rounded up, so that it reads 0 exactly when the target has been bled (log 7). -/
def btarget (mC : Rat) : Nat := satNat 16 (- ratFloor (-(mC / 360)))

/-- NBLEED and NTGT follow the planner. -/
def State.balShow (s : State) : State :=
  (s.put Fld.BAL_ACTIVE_NBLEED s.bal.closed.length).put Fld.BAL_ACTIVE_NTGT s.bal.targets.length

/-- Replace the targets; DONE when the last one reaches 0 (R263). -/
def State.setTargets (s : State) (t : List (Nat × Rat)) : State :=
  let had := !s.bal.targets.isEmpty
  let s := ({ s with bal := { s.bal with targets := t } }).balShow
  if had && t.isEmpty then s.irq Pg.BAL Irq.BAL_DONE else s

/-- A cell serves as a reference and can have a target: MON 1, CONF of at least MINCONF (R234). -/
def State.qualifies (s : State) (i : Nat) : Bool :=
  s.cellMon i && decide (s.get Fld.BAL_CFG_MINCONF ≤ s.get (cellField i 3 8 8))

/-- The quantity of a cell that a mode compares: C_c, D_c or s; the reserves of a cell that no update has reached yet are computed
from its state (R212, R234). -/
def State.balValue (s : State) (i : Nat) : Rat :=
  let c := s.estCell i
  let r := match c.reserves with
    | some r => r
    | none => (s.reserve c c.soc ((c.prev.map Prod.fst).getD 0) (s.estTemp i) (s.cellR i) c.vp).1
  if s.get Fld.BAL_CFG_MODE = 1 then r.1 else if s.get Fld.BAL_CFG_MODE = 2 then c.soc else r.2

/-- Target of a cell in Ah against a reference (R234). -/
def State.balTarget (s : State) (i : Nat) (ref : Rat) : Rat :=
  let v := s.balValue i
  if s.get Fld.BAL_CFG_MODE = 1 then v - ref
  else if s.get Fld.BAL_CFG_MODE = 2 then (s.estCell i).q * (v - ref) / 100
  else ref - v

/-- Targets of the cells of a branch in mC, none when the branch has no reference (R234 to R236). -/
def State.branchTargets (s : State) (b : Nat) : Option (List (Nat × Rat)) :=
  let cells := ((List.range 384).map (fun c => 384 * b + c)).filter s.qualifies
  let pick := fun (m v : Rat) => if s.get Fld.BAL_CFG_MODE = 1 ∨ s.get Fld.BAL_CFG_MODE = 2 then min m v else max m v
  match cells with
  | [] => none
  | i :: rest =>
    let ref := (rest.map s.balValue).foldl pick (s.balValue i)
    some (cells.filterMap (fun i =>
      let t := s.balTarget i ref * 10000
      if t > (s.get Fld.BAL_TGT_DB : Rat) then
        let v := min t (s.get Fld.BAL_TGT_MAXT : Rat)
        if v = 0 then none else some (i, v * 360)
      else none))

/-! ### Switches -/

/-- Service states in which switches close (R237). -/
def State.bleedState (s : State) : Bool :=
  s.svc.state = .ready ∨ s.svc.state = .precharge ∨ s.svc.state = .connected ∨ s.svc.state = .running ∨ s.svc.state = .stopping

/-- The condition of WHEN holds (R237). -/
def State.bleedWhen (s : State) (b : Nat) : Bool :=
  if s.get Fld.BAL_CFG_WHEN = 1 then
    match s.est.lastConv.find? (fun x => x.1 == b) with
    | none => true
    | some x => decide (x.2.2 ≥ -((s.get Fld.EST_REST_I : Rat) / 10))
  else if s.get Fld.BAL_CFG_WHEN = 2 then s.atRest b
  else true

/-- A cell is eligible to bleed (R237). -/
def State.eligible (s : State) (i : Nat) : Bool :=
  decide (s.target i > 0) && s.cellMon i && !s.cellStale i &&
  decide (s.get Fld.BAL_VMIN_VMIN ≤ s.vcell i) && s.tqual i != 0 &&
  decide (s.geti (cellField i 2 16 16) ≤ s.geti Fld.BAL_VMIN_TMAX) &&
  !s.quar (s.cellPos i).1 (s.cellPos i).2 && !s.bal.stuck.contains i &&
  s.bleedState && s.bleedWhen (i / 384) && !s.bal.stopAll

/-- NMAX_eff of a position (R238). -/
def State.nmaxEff (s : State) (r p : Nat) : Nat :=
  let nmax := s.get Fld.BAL_SCHED_NMAX
  let lo := s.geti Fld.BAL_DIE_TSTART
  let hi := s.geti Fld.BAL_DIE_TSTOP
  match s.tel.temps.find? (fun x => x.1 == 32 * r + p - 1) with
  | none => 0
  | some x =>
    let die := x.2.die
    if die = -32768 then 0
    else if die ≤ lo then nmax
    else if die ≥ hi then 0
    else (ratFloor (((nmax : Int) * (hi - die) : Int) / ((hi - lo : Int) : Rat))).toNat

/-- Cells of a position, channels rising. -/
def State.posCells (s : State) (r p : Nat) : List Nat := (List.range (s.cellsOf r p)).map (fun c => s.firstCell r p + c)

/-- Insert by falling target, equal targets keeping their order. -/
def State.insertByTarget (s : State) (i : Nat) : List Nat → List Nat
  | [] => [i]
  | a :: t => if s.target a < s.target i then i :: a :: t else a :: s.insertByTarget i t

/-- Cells in descending order of BTARGET, ascending channel for equal ones (R238). -/
def State.byTarget (s : State) (l : List Nat) : List Nat := l.foldl (fun m i => s.insertByTarget i m) []

/-- Write BALMASK of a position (R240, R248). -/
def State.writeMask (s : State) (r p : Nat) : State :=
  let cells := (s.posCells r p).filter (fun i => s.bal.closed.contains i)
  let s := { s with bal := { s.bal with masks := smInsert (32 * r + p - 1) (s.nowNat, cells) s.bal.masks } }
  s.ringWrite r p 0x1000 (beBytes 3 (maskOf 24 (fun c => decide (c < s.cellsOf r p) && cells.contains (s.firstCell r p + c))))

/-- Write BALMASK of every position in service. -/
def State.writeMasks (s : State) : State := s.allPositions.foldl (fun s x => s.writeMask x.1 x.2) s

/-- Command a set of cells closed. -/
def State.setClosed (s : State) (l : List Nat) : State := ({ s with bal := { s.bal with closed := l } }).balShow

/-- Cells of `l` that R239 lets stay closed: eligible, and within NMAX_eff of their position. -/
def State.mayStay (s : State) : List Nat :=
  s.allPositions.flatMap (fun x =>
    (s.byTarget ((s.posCells x.1 x.2).filter (fun i => s.bal.closed.contains i && s.eligible i))).take (s.nmaxEff x.1 x.2))

/-- Openings of R239, and the masks written once per second (R240). -/
def State.openSwitches (s : State) : State := (s.setClosed s.mayStay).writeMasks

/-- MINHOLD windows have begun since the cell's opening, where R241 asks for it. -/
def State.holdOver (s : State) (i : Nat) : Bool :=
  if s.chmRuns && !s.on Fld.CHM_CFG_BLEED then
    match s.bal.opened.find? (fun x => x.1 == i) with
    | none => true
    | some x => s.bal.inForce.contains i || decide (s.chm.windows ≥ x.2 + s.get Fld.BAL_SCHED_MINHOLD)
  else true

/-- A planning instant (R234 to R238, R240). -/
def State.plan (s : State) : State :=
  if !(s.ens Pg.BAL && s.appUp) then s else
  let s := { s with bal := { s.bal with planDue := false } }
  let per := ((List.range 8).filter s.branchIn).map (fun b => s.branchTargets b)
  let noref := (per.filter Option.isNone).length
  let s := s.setTargets (if s.bal.stopAll then [] else per.flatMap (fun x => x.getD []))
  let s := s.put Fld.BAL_LIMITED_NOREF noref
  let s := if noref = 0 then s else s.irq Pg.BAL Irq.BAL_NOREF
  let ndie : Nat := (s.allPositions.filter (fun x => decide (s.nmaxEff x.1 x.2 < s.get Fld.BAL_SCHED_NMAX))).length
  let s := s.put Fld.BAL_LIMITED_NDIE ndie
  let s := if ndie = 0 then s else s.irq Pg.BAL Irq.BAL_DIELIMIT
  let l := s.allPositions.flatMap (fun x =>
    (s.byTarget ((s.posCells x.1 x.2).filter (fun i => s.eligible i && s.holdOver i))).take (s.nmaxEff x.1 x.2))
  ((s.setClosed l).writeMasks).irq Pg.BAL Irq.BAL_PLANNED

/-- Every BTARGET becomes 0 and every switch opens at the next applying tick (R243). -/
def State.balStop (s : State) : State := ((s.setTargets []).setClosed []).writeMasks

/-- BAL_CTRL.EN is set: a planning instant (R234). -/
def State.balOn (s : State) : State := (s.setOn (Fld.ens Pg.BAL) true).plan

/-- BAL_CTRL.EN is cleared (R243). -/
def State.balOff (s : State) : State := (s.balStop).setOn (Fld.ens Pg.BAL) false

/-- A command of BAL_CMD (R262). -/
def State.balCommand (s : State) (op : Nat) : State :=
  if op = 1 then { s with bal := { s.bal with planDue := true, stopAll := false } }
  else if op = 2 then
    let s := s.balStop
    { s with bal := { s.bal with stopAll := true } }
  else s

/-- Switches that a position's supervisor holds closed from a tick on: the mask written before it, at window starts while DEMOD
is 1; none while DEMOD and BLEEDPAUSE are both 1, nor once no mask has been written for BALTMO, 3 s; a ring without a tick changes nothing (R179, R240, R241, R247).
DESIGN CHOICE (log 14): with Chime not running, DEMOD holds back no mask. -/
def State.maskTick (s : State) (windowStart : Bool) (r p : Nat) (written : Nat × List Nat) : List Nat :=
  let ctrl := if s.chmRuns then s.ctrlAt r p else 0
  if !(s.ens Pg.SRQ && bitOf s.tel.scanRings r) then s.bal.inForce.filter (fun i => (s.posCells r p).contains i)
  else if bitOf ctrl 0 && bitOf ctrl 1 then []
  else if s.nowNat > written.1 + 3000000000 then []
  else if bitOf ctrl 0 && !(windowStart && bitOf (s.get Fld.CHM_CFG_RINGS) r) then
    s.bal.inForce.filter (fun i => (s.posCells r p).contains i)
  else written.2

/-- A cell scan tick (R239 to R243): cells that may not stay closed have their mask written before it, then every supervisor
applies its mask; the number of windows begun is kept for each cell that opens, the one whose tick goes with this scan among
them. -/
def State.balTick (s : State) (windowStart : Bool) : State :=
  let stay := s.bal.closed.filter (fun i => s.mayStay.contains i)
  let s := if s.ens Pg.BAL && s.appUp && stay != s.bal.closed then (s.setClosed stay).writeMasks else s
  let force := s.bal.masks.flatMap (fun x => s.maskTick windowStart (x.1 / 32) (x.1 % 32 + 1) x.2)
  let gone := s.bal.inForce.filter (fun i => !force.contains i)
  let opened := gone.foldl (fun m i => smInsert i (s.chm.windows + bitNat windowStart) m) s.bal.opened
  { s with bal := { s.bal with inForce := force, opened := opened } }

/-- The BLEEDMAP bits of a scan's reports are compared with the masks in force (R242); called before the publication. -/
def State.balMismatch (s : State) : State :=
  s.tel.bank.foldl (fun s (x : Nat × CellSample) =>
    if s.bal.stuck.contains x.1 then s else
    let k := if x.2.bleed == s.bal.inForce.contains x.1 then 0 else smGet (fun _ => (0 : Nat)) s.bal.mismatch x.1 + 1
    if k < 3 then { s with bal := { s.bal with mismatch := smSet (fun _ => 0) s.bal.mismatch x.1 k } } else
    let s := { s with bal := { s.bal with mismatch := smErase x.1 s.bal.mismatch, stuck := x.1 :: s.bal.stuck } }
    let s := (s.put Fld.BAL_LIMITED_NSTUCK s.bal.stuck.length).irq Pg.BAL Irq.BAL_MISMATCH
    s.faultEvent Pg.BAL Flt.BLEED_STUCK x.1 (BitVec.ofNat 32 (bitNat x.2.bleed))) s

/-! ### The ledger -/

/-- One cell's increment in mC (R244): the residue carries, BLEEDQ and BAL_QTOT rise, BTARGET falls (R235, R245). -/
def State.ledgerAdd (s : State) (i dn : Nat) : State :=
  let r : Rat := ((s.rd Reg.CHM_RBLEED % 65536 : Nat) : Rat) / 100
  let x := if r = 0 ∧ dn ≠ 0 then s.drawRat else (if dn = 0 then 0 else (dn : Rat) * 10 * ((s.vavg i : Rat) / 10000) / r, s)
  let s := x.2
  let total := smGet (fun _ => (0 : Rat)) s.bal.residue i + x.1
  let inc := (ratFloor total).toNat
  let s := s.wr (cellWord i 9) (s.rd (cellWord i 9) + inc)
  let s := s.wr64 Reg.BAL_QTOT (s.rd64 Reg.BAL_QTOT + inc)
  let left := s.target i - inc
  let t := if left > 0 then smInsert i left s.bal.targets else smErase i s.bal.targets
  ({ s with bal := { s.bal with residue := smSet (fun _ => 0) s.bal.residue i (total - inc) } }).setTargets
    (if s.target i > 0 then t else s.bal.targets)

/-- The ONCOUNT read of a position (R244, R246). -/
def State.ledgerRead (s : State) (r p : Nat) (counts : List Nat) : State :=
  if !s.posIn r p then s else
  let key := 32 * r + p - 1
  let old := s.bal.counts.find? (fun y => y.1 == key)
  let s := { s with bal := { s.bal with counts := smInsert key (s.nowNat, counts) s.bal.counts } }
  match old with
  | none => s
  | some (_, t, prev) =>
    if s.nowNat > t + 600000000000 then s.faultEvent Pg.BAL Flt.BLEED_LEDGER_GAP (ringInst r p)
    else s.each (s.cellsOf r p) (fun s c =>
      s.ledgerAdd (s.firstCell r p + c) ((counts.getD c 0 + 65536 - prev.getD c 0) % 65536))

/-- Group B publishes: the ledger of the ONCOUNT reads answered since the last scan, and the remaining targets (R158, R245). -/
def State.publishB (s : State) : State :=
  let l := s.bal.reads
  let s := l.foldl (fun s x => s.ledgerRead (x.1 / 32) (x.1 % 32 + 1) x.2) { s with bal := { s.bal with reads := [] } }
  let s := s.each 3072 (fun s i => s.wr (cellWord i 10) (btarget (s.target i) * 65536))
  s.publish Fld.SRQ_CSTSEQ_B

/-- The planner's part of the one-second scan: a planning instant that REPLAN asked for, openings, masks. -/
def State.balScan (s : State) : State :=
  if !(s.ens Pg.BAL && s.appUp) then s
  else if s.bal.planDue then s.plan else s.openSwitches

end Sys2Proof.Machine
end

