-- ==== Sys2Proof/Machine/Thermal.lean ====
section
/-! DEFINITION. The thermal manager (R249 to R266): temperature points, protection temperatures, derating, the
over-temperature latch, and the cooling payload. Temperatures are in 0.1 °C unless said otherwise. -/

namespace Sys2Proof.Machine

/-! ### Points -/

/-- A temperature point by index (R249). -/
def pointOf (r p n : Nat) : Nat := 256 * r + 8 * (p - 1) + n

/-- TEMPS of a position. -/
def State.tempsOf (s : State) (r p : Nat) : Nat := min 8 (s.get (Fld.SR_PINFO_TEMPS r (p - 1)))

/-- The positions that the rings are configured to have. -/
def State.sitePositions (s : State) : List (Nat × Nat) :=
  (List.range 4).flatMap (fun r => (s.positions r (fun _ => true)).map (fun p => (r, p)))

/-- The points of the positions, with ring, position and input (R249). -/
def State.points (s : State) : List (Nat × Nat × Nat) :=
  s.sitePositions.flatMap (fun x => (List.range (s.tempsOf x.1 x.2)).map (fun n => (x.1, x.2, n)))

/-- State of a point, never accepted until it is. -/
def State.point (s : State) (i : Nat) : TempPoint := smGet (fun _ => (⟨none, 0, 0, 0⟩ : TempPoint)) s.thm.points i

/-- Set the state of a point. -/
def State.setPoint (s : State) (i : Nat) (t : TempPoint) : State :=
  { s with thm := { s.thm with points := smSet (fun _ => ⟨none, 0, 0, 0⟩) s.thm.points i t } }

/-- The point is excluded (R253). -/
def State.excluded (s : State) (i : Nat) : Bool := s.bit (Reg.THM_PEXCL (i / 32)) (i % 32)

/-- The point is marked faulty. -/
def State.pointFaulty (s : State) (i : Nat) : Bool := s.bit (Reg.THM_PFLT (i / 32)) (i % 32)

/-- Point that a channel of a position uses, none for TEMPS 0 (R249). -/
def State.pointFor (s : State) (r p c : Nat) : Option Nat :=
  let t := s.tempsOf r p
  if t = 0 then none else some (pointOf r p (min (c / max 1 (s.get Fld.THM_CFG_CPT)) (t - 1)))

/-- Reading of a point that passes check 1 (R250). -/
def State.reading (s : State) (r p n : Nat) : Option Rat :=
  match s.tel.temps.find? (fun x => x.1 == 32 * r + p - 1) with
  | none => none
  | some x => if x.2.at_ ≠ s.tel.tempS || s.excluded (pointOf r p n) then none else (x.2.temps.getD n none).map (fun v => (v : Rat))

/-- Check 2 (R250). -/
def inRange (v : Rat) : Bool := decide (-400 ≤ v) && decide (v ≤ 1500)

/-- Coolant temperature, 0.1 °C (R254, R261). -/
def State.coolant (s : State) : Rat :=
  if s.on Fld.THM_COOL_RXEN && s.thm.chillerAt.isSome && !s.on Fld.THM_STAT_CHLOST then toSigned 16 (s.rd Reg.THM_CHILLER % 65536)
  else toSigned 16 (s.rd Reg.THM_TCOOL % 65536)

/-- Power of a cell in W (R254). -/
def State.cellPower (s : State) (i : Nat) : Rat :=
  let cur := ((s.estCell i).prev.map Prod.fst).getD 0
  let v : Rat := (s.vavg i : Rat) / 10000
  let r : Rat := ((s.rd Reg.CHM_RBLEED % 65536 : Nat) : Rat) / 100
  cur * cur * s.cellR i + (if s.bit (cellWord i 0) 29 ∧ r ≠ 0 then v * v / r else 0)

/-- The next model temperature of a point after `dt` seconds (R254); a free number where RTH or CTH is 0. -/
def State.modelStep (s : State) (r p n : Nat) (dt : Rat) : Rat × State :=
  let rth : Rat := (s.get Fld.THM_MODEL_RTH : Rat) / 100
  let cth : Rat := (s.get Fld.THM_MODEL_CTH : Rat) * 10
  if rth = 0 ∨ cth = 0 then s.drawRat else
  let t := (s.point (pointOf r p n)).model / 10
  let power := (((List.range (s.cellsOf r p)).filter (fun c => s.pointFor r p c == some (pointOf r p n))).map
    (fun c => s.cellPower (s.firstCell r p + c))).sum
  ((t + (power - (t - s.coolant / 10) / rth) * dt / cth) * 10, s)

/-- Insert a number into a rising list. -/
def insertRat (v : Rat) : List Rat → List Rat
  | [] => [v]
  | a :: t => if v ≤ a then v :: a :: t else a :: insertRat v t

/-- Median; the mean of the two middle values for an even count (log 7). -/
def median (l : List Rat) : Rat :=
  let m := l.foldl (fun m v => insertRat v m) []
  let n := m.length
  if n % 2 = 1 then m.getD (n / 2) 0 else (m.getD (n / 2 - 1) 0 + m.getD (n / 2) 0) / 2

/-- Neighbours of a point among the points: other inputs of its position, and those of the positions next to it in the
same branch (R250). -/
def State.neighbour (s : State) (a b : Nat × Nat × Nat) : Bool :=
  let br := fun (x : Nat × Nat × Nat) => s.get (Fld.SR_PMAP_BRANCH x.1 (x.2.1 - 1))
  a != b && a.1 == b.1 && decide (a.2.1 ≤ b.2.1 + 1) && decide (b.2.1 ≤ a.2.1 + 1) && (a.2.1 == b.2.1 || br a == br b)

/-- A point of a scan under check: its place, its reading if checks 1 and 2 pass, whether checks 1 to 4 pass. -/
structure CheckedPoint where
  place : Nat × Nat × Nat
  raw : Option Rat
  value : Rat
  upTo4 : Bool
  deriving DecidableEq, Repr

/-- Checks 1 to 4 of a point, its model being the prediction (R250, R254). -/
def State.check4 (s : State) (x : Nat × Nat × Nat) : CheckedPoint :=
  let t := s.point (pointOf x.1 x.2.1 x.2.2)
  match s.reading x.1 x.2.1 x.2.2 with
  | none => ⟨x, none, 0, false⟩
  | some v =>
    if !inRange v then ⟨x, none, v, false⟩ else
    let ok := match t.accepted with
      | none => true
      | some (a, at_) =>
        decide (ratAbs (v - a) ≤ (s.get Fld.THM_PLAUS_RATE : Rat) * (((s.nowNat - at_ : Nat) : Rat) / 1000000000)) &&
        decide (ratAbs (v - t.model) ≤ (s.get Fld.THM_PLAUS_MDEV : Rat))
    ⟨x, some v, v, ok⟩

/-- All five checks (R250). -/
def State.check5 (s : State) (l : List CheckedPoint) (c : CheckedPoint) : Bool :=
  if !c.upTo4 then false
  else if (s.point (pointOf c.place.1 c.place.2.1 c.place.2.2)).accepted.isNone then true else
  let near := (l.filter (fun d => d.upTo4 && s.neighbour c.place d.place)).map CheckedPoint.value
  decide (near.length < s.get Fld.THM_CFG_SUBMIN) || decide (ratAbs (c.value - median near) ≤ (s.get Fld.THM_PLAUS_NDEV : Rat))

/-- What the scan makes of a point: temperature and TQUAL for its cells, none for the last TCELL (R251). -/
structure PointResult where
  place : Nat × Nat × Nat
  raw : Option Rat
  temp : Option Rat
  qual : Nat
  deriving DecidableEq, Repr

/-- The result of a point after its checks (R251). -/
def State.pointResult (s : State) (l good : List CheckedPoint) (c : CheckedPoint) : PointResult :=
  let i := pointOf c.place.1 c.place.2.1 c.place.2.2
  if s.check5 l c then ⟨c.place, c.raw, some c.value, 1⟩ else
  let near := (good.filter (fun d => s.neighbour c.place d.place)).map CheckedPoint.value
  if s.get Fld.THM_CFG_SUBMIN ≤ near.length then ⟨c.place, c.raw, some (median near), 2⟩
  else match (s.point i).accepted with
    | none => ⟨c.place, c.raw, none, 0⟩
    | some (_, at_) =>
      if s.nowNat ≤ at_ + 600000000000 then ⟨c.place, c.raw, some (s.point i).model, 3⟩ else ⟨c.place, c.raw, none, 0⟩

/-- Runs, marks and acceptance of a point (R251, R253, R254). -/
def State.settlePoint (s : State) (x : PointResult) : State :=
  let i := pointOf x.place.1 x.place.2.1 x.place.2.2
  let t := s.point i
  if x.qual = 1 then
    let v := x.temp.getD 0
    let g := t.good + 1
    let s := s.setPoint i ⟨some (v, s.nowNat), v, 0, g⟩
    if g ≥ 10 && s.pointFaulty i then
      (s.setBit (Reg.THM_PFLT (i / 32)) (i % 32) false).endInstance Pg.THM Flt.TEMP_SENSOR i
    else s
  else if s.excluded i then s.setPoint i { t with bad := 0, good := 0 }
  else
    let b := t.bad + 1
    let s := s.setPoint i { t with bad := b, good := 0 }
    if b ≥ max 1 (s.get Fld.THM_PLAUS_CONFIRM) && !s.pointFaulty i then
      ((s.setBit (Reg.THM_PFLT (i / 32)) (i % 32) true).irq Pg.THM Irq.THM_SENSOR).fault Pg.THM Flt.TEMP_SENSOR i
    else s

/-- NFLT and SENSFLT follow the marks. -/
def State.pfltShow (s : State) : State :=
  let n := ((List.range 32).map (fun k => popCount 32 (s.rd (Reg.THM_PFLT k)))).sum
  (s.wr Reg.THM_NFLT n).setOn Fld.THM_STAT_SENSFLT (n != 0)

/-- A cell's group T and its protection temperatures (R249, R251, R252). -/
def State.cellTemp (s : State) (i : Nat) (pt : Option Nat) (x : Option PointResult) : State :=
  let old : Int := s.geti (cellField i 2 16 16)
  let t : Rat := (x.bind PointResult.temp).getD old
  let raw := x.bind PointResult.raw
  let q := (x.map PointResult.qual).getD 0
  let s := s.wr (cellWord i 2) (satSigned 16 (ratRound t) * 65536 + q * 1024 + pt.getD 0)
  let th := match raw with
    | none => t
    | some v => max t v
  let tl := match raw with
    | none => t
    | some v => min t v
  let none_ := if q ≠ 0 then smErase i s.thm.noneSince
    else if s.thm.noneSince.any (fun y => y.1 == i) then s.thm.noneSince else smInsert i s.nowNat s.thm.noneSince
  { s with thm := { s.thm with protect := smInsert i (th, tl) s.thm.protect, noneSince := none_ } }

/-- Group T of every mapped cell; a position out of service has no report and a point that failed check 1 (R250, R251). -/
def State.cellTemps (s : State) (l : List PointResult) : State :=
  s.sitePositions.foldl (fun s x =>
    s.each (s.cellsOf x.1 x.2) (fun s c =>
      let pt := s.pointFor x.1 x.2 c
      s.cellTemp (s.firstCell x.1 x.2 + c) pt
        (l.find? (fun y => some (pointOf y.place.1 y.place.2.1 y.place.2.2) == pt)))) s

/-! ### Derating and the latch -/

/-- f of a ramp that falls from 1 at `a` to 0 at `b` as `t` moves from `a` toward `b`; it steps at `a` when `b` does not
lie beyond (R255). -/
def rampOf (a b t : Rat) : Rat := if t ≤ a then 1 else if t ≥ b then 0 else (b - t) / (b - a)

/-- The temperature that a cell counts at, a cell with no valid temperature for more than 10 s at a ramp's midpoint
(R256). -/
def State.countAt (s : State) (i : Nat) (v mid : Rat) : Rat :=
  match s.thm.noneSince.find? (fun x => x.1 == i) with
  | none => v
  | some x => if s.nowNat > x.2 + 10000000000 then mid else v

/-- TEMP_NONE of a monitored cell (R256). -/
def State.tempNone (s : State) (i : Nat) : State :=
  match s.thm.noneSince.find? (fun x => x.1 == i) with
  | none => s.endInstance Pg.THM Flt.TEMP_NONE i
  | some x => if s.nowNat > x.2 + 10000000000 && s.cellMon i then s.fault Pg.THM Flt.TEMP_NONE i else s

/-- IBASE of a direction in A (R255). -/
def State.ibase (s : State) (f : RegField) : Rat := if s.get f = 0 then (s.joined : Rat) * s.rated else s.get f

/-- Greatest of a list with its key. -/
def mostOf (l : List (Nat × Rat)) : Option (Nat × Rat) :=
  l.foldl (fun m x => match m with
    | none => some x
    | some y => if y.2 < x.2 then some x else m) none

/-- T_hot, T_cold and the contribution (R255 to R257). With no monitored cell in a joined branch the extremes are
free numbers. -/
def State.derate (s : State) : State :=
  let hotA : Rat := s.geti Fld.THM_DHOT_TSTART
  let hotB : Rat := s.geti Fld.THM_DHOT_TEND
  let coldA : Rat := s.geti Fld.THM_DCOLD_TSTART
  let coldB : Rat := s.geti Fld.THM_DCOLD_TEND
  let cells := s.thm.protect.filter (fun x => s.cellMon x.1 && s.branchIn (x.1 / 384))
  let hot := mostOf (cells.map (fun x => (x.1, s.countAt x.1 x.2.1 ((hotA + hotB) / 2))))
  let cold := leastOf (cells.map (fun x => (x.1, s.countAt x.1 x.2.2 ((coldA + coldB) / 2))))
  let a := s.drawRat
  let b := a.2.drawRat
  let s := if hot.isNone then b.2 else s
  let th := (hot.map Prod.snd).getD a.1
  let tc := (cold.map Prod.snd).getD b.1
  let fh := rampOf hotA hotB th
  let fc := rampOf (-coldA) (-coldB) (-tc)
  let bc := s.ibase Fld.THM_IBASE_CHG
  let bd := s.ibase Fld.THM_IBASE_DIS
  let c := if s.on Fld.THM_STAT_OTLATCH then 0 else bc * fh * fc
  let d := if s.on Fld.THM_STAT_OTLATCH then 0 else bd * fh
  let low := decide (c < bc) || decide (d < bd)
  let s := if low && !s.thm.derating then s.irq Pg.THM Irq.THM_DERATE else s
  let s := s.wr Reg.THM_SUM (satSigned 16 (ratRound th) + satSigned 16 (ratRound tc) * 65536)
  let s := s.wr Reg.THM_HOT ((hot.map Prod.fst).getD 0 + (cold.map Prod.fst).getD 0 * 65536)
  let s := s.wr Reg.THM_DERATE (satNat 16 (ratRound c) + satNat 16 (ratRound d) * 65536)
  { s with thm := { s.thm with derating := low }, lpe := { s.lpe with thm := some (c, d) } }

/-- The over-temperature latch (R257). -/
def State.otCheck (s : State) : State :=
  s.thm.protect.foldl (fun s (x : Nat × (Rat × Rat)) =>
    let k := if s.cellMon x.1 && decide (x.2.1 ≥ (s.geti Fld.THM_OT_TLATCH : Rat)) then smGet (fun _ => (0 : Nat)) s.thm.otRun x.1 + 1 else 0
    let s := { s with thm := { s.thm with otRun := smSet (fun _ => 0) s.thm.otRun x.1 k } }
    if k = 0 || k < max 1 (s.get Fld.THM_OT_CONFIRM) || s.on Fld.THM_STAT_OTLATCH then s else
    ((s.setOn Fld.THM_STAT_OTLATCH true).irq Pg.THM Irq.THM_OTLATCH).fault Pg.THM Flt.CELL_OT x.1) s

/-! ### The scan -/

/-- The scan of a disabled unit: the cells take the raw readings of their points, with TQUAL 0b01 where checks 1 and 2 pass
(R266). -/
def State.scanPlain (s : State) : State :=
  s.cellTemps (s.points.map (fun x =>
    let raw := s.reading x.1 x.2.1 x.2.2
    let good := raw.filter inRange
    ⟨x, good, raw, bitNat good.isSome⟩))

/-- The scan of an enabled unit, `dt` seconds after the last: models, checks, substitution, derating, over-temperature (R249 to
R257). -/
def State.scanChecked (s : State) (dt : Rat) : State :=
  let s := s.points.foldl (fun s x =>
    let m := s.modelStep x.1 x.2.1 x.2.2 dt
    m.2.setPoint (pointOf x.1 x.2.1 x.2.2) { m.2.point (pointOf x.1 x.2.1 x.2.2) with model := m.1 }) s
  let l := s.points.map s.check4
  let good := l.filter (s.check5 l)
  let res := l.map (s.pointResult l good)
  let s := (res.foldl State.settlePoint s).pfltShow
  let s := s.cellTemps res
  let s := s.wr Reg.THM_NSUB ((res.filter (fun x => x.qual == 2)).length + (res.filter (fun x => x.qual == 3)).length * 65536)
  let s := (s.thm.protect.map Prod.fst).foldl State.tempNone s
  (s.otCheck.derate).irq Pg.THM Irq.THM_SCAN

/-- Seconds since the last one-second scan, 0 at the first. -/
def State.scanAge (s : State) : Rat :=
  match s.thm.lastScan with
  | none => 0
  | some t => ((s.nowNat - t : Nat) : Rat) / 1000000000

/-- The end of a one-second scan: its instant, groups T and B, the switches (R158, R240, R245). -/
def State.scanEnds (s : State) (now : Nat) : State :=
  (({ s with thm := { s.thm with lastScan := some now } }).publish Fld.SRQ_CSTSEQ_T).publishB.balScan

/-- The one-second scan: temperatures, derating, the ledger and the switches; groups T and B publish (R158, R249 to
R257, R266). -/
def State.thermalScan (s : State) : State :=
  if !s.appUp then s else
  (if s.ens Pg.THM then s.scanChecked s.scanAge else s.scanPlain).scanEnds s.nowNat

/-! ### Commands, cooling -/

/-- TH of a cell: of the last scan, before one its TCELL (R252). -/
def State.thOf (s : State) (i : Nat) : Rat :=
  (smGet (fun _ => let t : Rat := s.geti (cellField i 2 16 16); (t, t)) s.thm.protect i).1

/-- Every TH is at most TLATCH - HYST (R258). -/
def State.otCool (s : State) : Bool :=
  let top : Int := s.geti Fld.THM_OT_TLATCH - s.get Fld.THM_OT_HYST
  (List.range 3072).all (fun i => decide (s.thOf i ≤ (top : Rat)))

/-- CLEAR_OT by an origin (R258). -/
def State.clearOt (s : State) (o : Origin) (op : Nat) : State :=
  if !s.otCool then s.auditCommand o Reg.THM_CMD 0 op
  else if s.on Fld.THM_STAT_OTLATCH then
    ((s.setOn Fld.THM_STAT_OTLATCH false).irq Pg.THM Irq.THM_OT_CLEARED).latchFault Pg.THM Flt.CELL_OT
  else s

/-- CLEAR_SENSOR: every faulty mark is cleared (R264). -/
def State.clearSensor (s : State) : State :=
  let s := s.each 32 (fun s k => s.wr (Reg.THM_PFLT k) 0)
  let s := { s with thm := { s.thm with points := s.thm.points.map (fun (x : Nat × TempPoint) => (x.1, { x.2 with bad := 0, good := 0 })) } }
  (s.latchFault Pg.THM Flt.TEMP_SENSOR).pfltShow

/-- A command of THM_CMD (R264). -/
def State.thmCommand (s : State) (o : Origin) (op : Nat) : State :=
  if op = 1 then s.clearOt o op else if op = 2 then s.clearSensor else s

/-- THM_CTRL.EN is set. -/
def State.thmOn (s : State) : State := s.setOn (Fld.ens Pg.THM) true

/-- THM_CTRL.EN is cleared: no contribution is sent any more, and the last one stands until R16 ends it (R266). -/
def State.thmOff (s : State) : State := s.setOn (Fld.ens Pg.THM) false

/-- Mode and demand of the cooling payload (R257, R260). -/
def State.coolDemand (s : State) : Nat × Nat :=
  let th : Int := toSigned 16 (s.get Fld.THM_SUM_Thot)
  let tc : Int := toSigned 16 (s.get Fld.THM_SUM_Tcold)
  let band : Rat := max 1 (s.get Fld.THM_CSET_TBAND)
  let tset : Int := s.geti Fld.THM_CSET_TSET
  let heat : Int := 10 * s.geti Fld.THM_CSET_THEAT
  let share := fun (d : Int) => min 100 (ratRound ((100 * d : Int) / band)).toNat
  if s.on Fld.THM_STAT_OTLATCH then (1, 100)
  else if th > tset then (1, share (th - tset))
  else if s.on Fld.THM_CFG_HEATEN && decide (tc < heat) then (2, share (heat - tc))
  else (0, 0)

/-- The 8-byte payload of R259 with the next SEQ, shown in THM_COOLSTAT. -/
def State.coolPayload (s : State) : List Byte × State :=
  let m := s.coolDemand
  let seq := (s.get Fld.THM_COOLSTAT_SEQ + 1) % 256
  let flags := bitNat (s.on Fld.THM_STAT_OTLATCH) + 2 * bitNat s.thm.derating +
    4 * bitNat (s.on Fld.THM_STAT_SENSFLT) + 8 * bitNat (s.on Fld.THM_STAT_CHLOST)
  (beBytes 1 seq ++ beBytes 1 m.1 ++ beBytes 1 m.2 ++ beBytes 1 flags ++
    beBytes 2 (s.get Fld.THM_SUM_Thot) ++ beBytes 2 (s.get Fld.THM_SUM_Tcold),
   s.wr Reg.THM_COOLSTAT (m.2 + m.1 * 256 + seq * 65536))

/-- The chiller is lost (R261). -/
def State.chillerLost (s : State) : State :=
  if s.on Fld.THM_STAT_CHLOST then s else
  ((s.setOn Fld.THM_STAT_CHLOST true).irq Pg.THM Irq.THM_CHILLER_LOST).fault Pg.THM Flt.CHILLER_LOST 0

/-- A frame of the chiller (R261). -/
def State.chillerFrame (s : State) (b : List Byte) : State :=
  let s := s.wr Reg.THM_CHILLER (beAt b 0 2 + beAt b 2 1 * 65536)
  let s := { s with thm := { s.thm with chillerAt := some s.nowNat } }
  if bitOf (beAt b 2 1) 1 then s.chillerLost
  else (s.setOn Fld.THM_STAT_CHLOST false).latchFault Pg.THM Flt.CHILLER_LOST

/-- No chiller frame for 5 s (R261). -/
def State.chillerSilent (s : State) : State :=
  if !s.on Fld.THM_COOL_RXEN then s else
  match s.thm.chillerAt with
  | none => s.chillerLost
  | some t => if s.nowNat ≥ t + 5000000000 then s.chillerLost else s

/-- Age of the chiller's last frame in seconds (THM_CHILLER). -/
def State.chillerAge (s : State) : Nat :=
  match s.thm.chillerAt with
  | none => min 255 (s.nowNat / 1000000000)
  | some t => min 255 ((s.nowNat - t) / 1000000000)

end Sys2Proof.Machine
end

