-- ==== Sys2Proof/Machine/Protection.lean ====
section
/-! DEFINITION. Protection, the contactor unit, the insulation monitor and the end of fault handling (R376 to R416, R731),
and the string commands (R20 to R22). -/

namespace Sys2Proof.Machine

/-! ### Snare sources -/

/-- Levels of the Snare sources (R377, `PRT_SNLEVEL`): comparators, evaluated gate-driver inputs, the safety island's
stop, and rings with a standing ALARM. -/
def State.snLevel (s : State) : Nat :=
  maskOf 32 (fun k =>
    if k < 12 then s.on (Fld.PRT_CMPSTAT_LEVEL k)
    else if 0x10 ≤ k ∧ k < 0x18 then s.gdEvaluated (k - 0x10) && s.bit Reg.PWM_GDFSTAT (8 + (k - 0x10))
    else if k = 0x18 then s.on Fld.SFI_STAT_ISTOP
    else if 0x19 ≤ k ∧ k < 0x1D then
      s.standing Flt.RING_ALARM == 1 && s.flt.instances.any (fun x => x.1 == Flt.RING_ALARM && x.2 / 64 == k - 0x19)
    else false)

/-- Source `k` is masked (R378). -/
def State.snMasked (s : State) (k : Nat) : Bool :=
  if k < 12 then !s.on (Fld.PRT_CMPCFG_SNARE k)
  else if 0x10 ≤ k ∧ k < 0x18 then s.gdMasked (k - 0x10)
  else if 0x19 ≤ k ∧ k < 0x1D then !s.on (Fld.SR_CFG_ALSNARE (k - 0x19))
  else if k = 0x1D then s.on Fld.PRT_CFG_OVRMASK
  else if k = 0x1E then !s.on Fld.PRT_CFG_GONGEN
  else false

/-- Unmasked sources that stand asserted, the lowest code first. -/
def State.snStanding (s : State) : List Nat := (List.range 32).filter (fun k => bitOf s.snLevel k && !s.snMasked k)

/-- Codes that stand ACTIVE in class A or B, the lowest first (R379). -/
def State.tripBars (s : State) : List Nat :=
  (List.range 256).filter (fun c => s.standing c == 1 && decide (s.get (hclassField c) ≤ 1))

/-- Snare is cleared (R293, R294, R379, R382, R401); an EN cleared during the stop that Snare ended takes effect (R290). -/
def State.clearSnare (s : State) : State :=
  let s := ((s.setOn Fld.PRT_SNSTAT_ACTIVE false).put Fld.PRT_SNSTAT_FIRST 0x3F).wr Reg.PRT_SNLATCH 0
  let s := s.each 12 (fun s n => s.setOn (Fld.PRT_CMPSTAT_LATCH n) false)
  let s := ((s.put Fld.PWM_GDFSTAT_LATCH 0).put Fld.PWM_GDFSTAT_FIRST 15).setOn Fld.PWM_STAT_SAFE false
  let s := s.each 4 (fun s p => if s.get (phaseField p) = 5 then s.put (phaseField p) 1 else s)
  (if s.pwm.disabling then s.pwmDead else s).clearLatched

/-- CLEAR_TRIP in TRIPPED (R22, R379); the answer's first part is acceptance. -/
def State.clearTrip (s : State) : Bool × State :=
  if s.svc.state ≠ .tripped then (false, s)
  else match s.snStanding, s.tripBars with
    | [], [] =>
      let s := s.clearSnare.irq Pg.FLT Irq.FLT_CLEARED
      (true, s.setSvc (if s.pairOpen 8 then .ready else .connected))
    | src, codes =>
      let s := (s.put Fld.FLT_CLR_CAUSE (codes.headD 0)).put Fld.FLT_CLR_SNSRC (src.headD 0x3F)
      (false, s.irq Pg.FLT Irq.FLT_CLRREJ)

/-! ### Comparators -/

/-- Input voltage in nanovolts at which DAC code `k` stands: that of ADC CODE (k - 512) * 64 with the same reference (R380). -/
def State.dacVolts (s : State) (k : Int) : Rat := ((k - 512) * 64 : Int) * s.vref / 32768

/-- MODE tests the high threshold. -/
def State.cmpTestsHigh (s : State) (n : Nat) : Bool := s.get (Fld.PRT_CMPCFG_MODE n) != 2

/-- MODE tests the low threshold. -/
def State.cmpTestsLow (s : State) (n : Nat) : Bool := s.get (Fld.PRT_CMPCFG_MODE n) != 1

/-- The input of comparator `n` is beyond a tested threshold (R380): the high one, and either. -/
def State.cmpBeyond (s : State) (n : Nat) (v : Rat) : Bool × Bool :=
  let high := s.cmpTestsHigh n && decide (s.dacVolts (s.get (Fld.PRT_CMPTHR_HI n)) < v)
  let low := s.cmpTestsLow n && decide (v < s.dacVolts (s.get (Fld.PRT_CMPTHR_LO n)))
  (high, high || low)

/-- The input has come back inside the threshold that it crossed by HYST DAC steps (R381). -/
def State.cmpBack (s : State) (n : Nat) (v : Rat) : Bool :=
  let h : Int := s.get (Fld.PRT_CMPCFG_HYST n)
  !(s.cmpBeyond n v).2 &&
    (if bitOf s.prt.cmpHigh n then decide (v ≤ s.dacVolts ((s.get (Fld.PRT_CMPTHR_HI n) : Int) - h))
     else decide (s.dacVolts ((s.get (Fld.PRT_CMPTHR_LO n) : Int) + h) ≤ v))

/-- The voltage is that of the input which the comparator watches, and the comparator is enabled. -/
def State.cmpSees (s : State) (x : CompSample) : Bool :=
  s.on (Fld.PRT_CMPCFG_EN x.comparator.val) && s.get (Fld.PRT_CMPCFG_INPUT x.comparator.val) == x.input.val

/-- An input beyond a threshold for FILT asserts its comparator (R380 to R382). -/
def State.comparatorOn (s : State) (x : CompSample) : State :=
  let n := x.comparator.val
  let beyond := s.cmpBeyond n (x.nanovolts : Rat)
  if !s.cmpSees x || s.on (Fld.PRT_CMPSTAT_LEVEL n) || !beyond.2 || decide (x.heldNs < 5 * s.get (Fld.PRT_CMPCFG_FILT n)) then s else
  let s := { s with prt := { s.prt with cmpHigh := putBit s.prt.cmpHigh n beyond.1 } }
  let s := ((s.setOn (Fld.PRT_CMPSTAT_LEVEL n) true).setOn (Fld.PRT_CMPSTAT_LATCH n) true).bump (Fld.PRT_CMPSTAT_COUNT n)
  let s := s.irq Pg.PRT Irq.PRT_CMP
  if s.on (Fld.PRT_CMPCFG_SNARE n) then (s.snareBy n).fault Pg.PRT Flt.CMP_TRIP n
  else s.fault Pg.PRT Flt.CMP_TRIP n 0 true

/-- A comparator returns to normal (R381). -/
def State.comparatorOff (s : State) (x : CompSample) : State :=
  let n := x.comparator.val
  if s.on (Fld.PRT_CMPSTAT_LEVEL n) && s.cmpSees x && s.cmpBack n (x.nanovolts : Rat) then (s.setOn (Fld.PRT_CMPSTAT_LEVEL n) false).endInstance Pg.PRT Flt.CMP_TRIP n else s

/-- A comparator whose EN is 0 is idle (R382). -/
def State.comparatorIdle (s : State) (n : Nat) : State :=
  if s.on (Fld.PRT_CMPCFG_EN n) || !s.on (Fld.PRT_CMPSTAT_LEVEL n) then s
  else (s.setOn (Fld.PRT_CMPSTAT_LEVEL n) false).endInstance Pg.PRT Flt.CMP_TRIP n

/-! ### Layers -/

/-- Contribution in one direction (R384): none for no limit. -/
def protLimit (base : Option Rat) (f : Rat) : Option Rat := if f = 1 then base else some ((base.getD 65535) * f)

/-- A contribution lies below a field of LPE_ILIM (R384). -/
def belowIlim (c : Option Rat) (ilim : Nat) : Bool :=
  match c with
  | none => false
  | some a => ilim == 0 || decide (a < (ilim : Rat))

/-- The protection contribution (R384). -/
def State.protContribution (s : State) : State :=
  if !s.ens Pg.PRT then s else
  let vbus := s.inVal 13
  let has := s.inValid 13
  let hi := if has then rampOf (s.get Fld.PRT_VBHI_START : Rat) (s.get Fld.PRT_VBHI_END : Rat) vbus else 0
  let lo := if has then rampOf (-(s.get Fld.PRT_VBLO_START : Rat)) (-(s.get Fld.PRT_VBLO_END : Rat)) (-vbus) else 0
  let ist := s.get Fld.PRT_ILIM_ISTR
  let ibr := s.get Fld.PRT_ILIM_IBR
  let parts := (if ist = 0 then [] else [(ist : Rat)]) ++
    (if ibr = 0 then [] else ((List.range 8).filter s.branchIn).map (fun b => ratDiv (ibr : Rat) (s.branchShare b)))
  let base : Option Rat := parts.foldl (fun m v => match m with
    | none => some v
    | some y => some (min y v)) none
  let c := protLimit base lo
  let d := protLimit base hi
  let below := fun (c d : Option Rat) => belowIlim c (s.get Fld.LPE_ILIM_CHG) || belowIlim d (s.get Fld.LPE_ILIM_DIS)
  let was := below s.lpe.prtC s.lpe.prtD
  let show_ := fun (x : Option Rat) => match x with
    | none => 65535
    | some a => satNat 16 (ratRound a)
  let s := s.wr Reg.PRT_CONTRIB (show_ c + show_ d * 65536)
  let s := if below c d && !was then s.irq Pg.PRT Irq.PRT_DERATE else s
  { s with lpe := { s.lpe with prtC := c, prtD := d } }

/-- The run of an instance has lasted TIME on the given side (R385). -/
def State.rowHeld (s : State) (row i : Nat) (beyond : Bool) : Bool :=
  match s.prt.rowRuns.find? (fun x => x.1 == 8 * row + i) with
  | some x => x.2.1 == beyond && decide (x.2.2 + 1000 * max 1 (s.get (Fld.PRT_DLTIME_TIME row)) ≤ s.nowNat)
  | none => false

/-- A row's input has lain beyond its test throughout TIME (R385). -/
def State.rowFail (s : State) (row i : Nat) : State :=
  if !(s.ens Pg.PRT && s.rowTests row i && s.inValid (rowInput row i) && s.rowHeld row i true) || s.prt.failed.contains (row, i) then s else
  let s := { s with prt := { s.prt with failed := (row, i) :: s.prt.failed } }
  let s := ((s.setOn (Fld.PRT_DLSTAT_LEVEL row) true).setOn (Fld.PRT_DLSTAT_LATCH row) true).put (Fld.PRT_DLSTAT_INST row) i
  (s.irq Pg.PRT Irq.PRT_DLIM).fault Pg.PRT (0x10 + row) i (fpOf (s.inVal (rowInput row i)))

/-- An instance no longer counts toward its row; the row's fault turns LATCHED with the last one. -/
def State.rowDrop (s : State) (row i : Nat) : State :=
  if !s.prt.failed.contains (row, i) then s else
  let left := s.prt.failed.filter (fun x => x != (row, i))
  let s := { s with prt := { s.prt with failed := left } }
  let s := if left.any (fun x => x.1 == row) then s else s.setOn (Fld.PRT_DLSTAT_LEVEL row) false
  s.endInstance Pg.PRT (0x10 + row) i

/-- A failed instance has lain inside throughout TIME (R385). -/
def State.rowRecover (s : State) (row i : Nat) : State :=
  if s.inValid (rowInput row i) && s.rowHeld row i false then s.rowDrop row i else s

/-- Instances that have left their row's test no longer count (R385). -/
def State.rowPrune (s : State) : State :=
  (s.prt.failed.filter (fun x => !s.rowTests x.1 x.2)).foldl (fun s x => s.rowDrop x.1 x.2) s

/-- One side of the cell voltage test of R386: standing cells, runs, and the fault. -/
def State.cellSide (s : State) (ov : Bool) (i : Nat) : State :=
  let k := max 1 (s.get Fld.PRT_CELLCFG_CONFIRM)
  let v := s.vcell i
  let bad := if ov then decide (v > s.get Fld.PRT_CELLV_OV) else decide (v < s.get Fld.PRT_CELLV_UV)
  let runs := if ov then s.prt.ovRun else s.prt.uvRun
  let ins := if ov then s.prt.ovIn else s.prt.uvIn
  let code := if ov then Flt.CELL_OV else Flt.CELL_UV
  let put := fun (s : State) (r n : List (Nat × Nat)) =>
    { s with prt := if ov then { s.prt with ovRun := r, ovIn := n } else { s.prt with uvRun := r, uvIn := n } }
  let stands := ins.any (fun x => x.1 == i)
  if bad then
    let n := smGet (fun _ => (0 : Nat)) runs i + 1
    if n ≥ k && !stands then
      let s := put s (smErase i runs) (smInsert i 0 ins)
      let s := s.put ⟨Reg.PRT_CELLSTAT, if ov then 0 else 16, 12⟩ i
      (s.irq Pg.PRT Irq.PRT_CELLV).fault Pg.PRT code i (fpOf ((v : Rat) / 10000))
    else put s (if stands then runs else smInsert i n runs) (if stands then smInsert i 0 ins else ins)
  else
    let n := smGet (fun _ => (0 : Nat)) ins i + 1
    if !stands then put s (smErase i runs) ins
    else if n ≥ k then (put s (smErase i runs) (smErase i ins)).endInstance Pg.PRT code i
    else put s (smErase i runs) (smInsert i n ins)

/-- The cell voltages of a published scan (R386); STALE and unmonitored cells are not tested. -/
def State.cellProtect (s : State) : State :=
  if !s.ens Pg.PRT then s else
  ((List.range 3072).filter (fun i => s.cellMon i && !s.cellStale i)).foldl
    (fun s i => (s.cellSide true i).cellSide false i) s

/-- CELL_UNMON of each joined branch (R409 code 0x38, the estimator's count of the time with MON 0). -/
def State.cellUnmon (s : State) : State :=
  s.each 8 (fun s b =>
    let dark := s.branchIn b && (((List.range 384).map (fun c => 384 * b + c)).filter s.cellKnown).any
      (fun i => decide ((s.estCell i).dark > (s.get Fld.EST_CFG_UNMON : Rat)))
    if dark then s.fault Pg.EST Flt.CELL_UNMON b else s.endInstance Pg.EST Flt.CELL_UNMON b)

/-! ### Contactors -/

/-- Cells of a branch, by the maps of the configured positions. -/
def State.branchCells (s : State) (b : Nat) : List Nat :=
  (List.range 4).flatMap (fun r => (s.positions r (fun p => s.get (Fld.SR_PMAP_BRANCH r (p - 1)) == b)).flatMap (s.posCells r))

/-- U_b in V, none when it is not valid (R390). -/
def State.branchVolt (s : State) (b : Nat) : Option Rat :=
  let l := s.branchCells b
  if l.isEmpty || !l.all (fun i => s.cellMon i && !s.cellStale i) then none
  else some (((l.map s.vcell).sum : Nat) / 10000)

/-- Every AUX reads 1. -/
def State.allOpen (s : State) : Bool := (List.range 10).all s.pairOpen

/-- Safety output named by COILOUT is off (R388). -/
def State.coilIsOff (s : State) : Bool :=
  let k := s.get Fld.CTK_CFG_COILOUT
  !bitOf (s.get Fld.SFI_OUTSTAT_A) k || !bitOf (s.get Fld.SFI_OUTSTAT_B) k ||
  !bitOf (s.get Fld.SFI_OUTSTAT_A2) k || !bitOf (s.get Fld.SFI_OUTSTAT_B2) k

/-- The coil output is off, or has been within CTK_TIME.OPEN (R388). -/
def State.coilWasOff (s : State) : Bool :=
  s.coilIsOff || match s.ctk.coilOff with
    | none => false
    | some t => decide (s.nowNat ≤ t.toNat + max 1 (s.get Fld.CTK_TIME_OPEN) * 1000000)

/-- BRANCHES follows readback, with what a change of joined branches leads to (R172, R187, R221, R385, R395). -/
def State.setBranches (s : State) (m : Nat) : State :=
  if m = s.svc.branches then s else
  let changed := Nat.xor m s.svc.branches
  let was := s.joined
  let s := ({ s with svc := { s.svc with branches := m } }).put Fld.CTK_SEQ_JOINED m
  let s := s.each 8 (fun s b => if bitOf changed b then s.chmNote (.branch b) 0xB else s)
  let s := if popCount 8 m < was then s.chmRescale else s
  (s.disqualifyAll 4 (fun i => bitOf changed (i / 384))).rowPrune

/-- A CTK fault sets IRQ bit FAIL. -/
def State.ctkEvent (s : State) (code inst : Nat) : State := (s.irq Pg.CTK Irq.CTK_FAIL).faultEvent Pg.CTK code inst

/-- The pair is welded (R388, R390). -/
def State.weld (s : State) (p : Nat) : State :=
  ((s.put (pairField p) 4).irq Pg.CTK Irq.CTK_FAIL).fault Pg.CTK Flt.CTK_WELD p

/-- The string is connected: step 5 of R390. -/
def State.connected (s : State) : State :=
  let s := if s.pairDriven 9 then s.openPair 9 else s
  ((s.setSeq 5).setSvc .connected).irq Pg.CTK Irq.CTK_CONNECTED

/-- Steps 3 to 5 of R390 advance when the stage before reads back. DESIGN CHOICE (log 16): with CTK_CFG.PRE 0 the module is in
PRECHARGE while the main pair closes, which R390 leaves open. -/
def State.advanceConnect (s : State) : State :=
  let seq := s.get Fld.CTK_SEQ_STATE
  let closed := fun (p : Nat) => !s.pairDriven p || !s.pairOpen p
  if seq = 2 then
    if s.drivenBranches = 0 then s.setSeq 0
    else if !(List.range 8).all closed then s
    else
      let s := s.setSvc .precharge
      if s.on Fld.CTK_CFG_PRE then (s.closePair 9).setSeq 3 else (s.closePair 8).setSeq 4
  else if seq = 4 && !s.pairOpen 8 then s.connected
  else s

/-- Joined branches of a CONNECT (R390 step 2). -/
def State.connectBranches (s : State) : List Nat :=
  let cand := (List.range 8).filterMap (fun b =>
    if bitOf (s.get Fld.CTK_CFG_BRMASK) b && !s.branchBarred b then (s.branchVolt b).map (fun u => (b, u)) else none)
  let m := median (cand.map Prod.snd)
  (cand.filter (fun x => decide (ratAbs (x.2 - m) ≤ (s.rd Reg.CTK_JOIN % 65536 : Nat) / (10 : Rat)))).map Prod.fst

/-- The island lets the string connect: it is in RUN, and every function that an enabled output requires stands in PERMIT
(R446). -/
def State.islandPermits (s : State) : Bool :=
  s.get Fld.SFI_STAT_STATE == 4 && (List.range 4).all (fun m =>
    !s.on (Fld.SFI_OUTCFG_EN m) || (List.range 8).all (fun n => !s.bit (Reg.SFI_OUTCFG m) n || s.get ⟨Reg.SFI_FUNC, 2 * n, 2⟩ == 0))

/-- CONNECT may be accepted (R22, R396, R402, R446). -/
def State.mayConnect (s : State) : Bool :=
  decide (s.svc.state = .ready) && s.ens Pg.PRT && s.ens Pg.CTK && s.ens Pg.FLT && !s.standingBars &&
  s.get Fld.CTK_SEQ_STATE == 0 && s.ctk.opening.isNone && s.islandPermits

/-- CONNECT (R390). -/
def State.connectString (s : State) : Bool × State :=
  if !s.mayConnect then (false, s) else
  if !s.allOpen then
    (true, (List.range 10).foldl (fun s p => if s.pairOpen p then s else s.weld p) s)
  else
    let l := s.connectBranches
    let others := (List.range 8).filter (fun b => bitOf (s.get Fld.CTK_CFG_BRMASK) b && !l.contains b)
    let s := s.put Fld.CTK_SEQ_EXCL (maskOf 8 (fun b => others.contains b))
    let s := others.foldl (fun s b => s.ctkEvent Flt.BRANCH_NOJOIN b) s
    if l.isEmpty then (true, s)
    else (true, (l.foldl State.closePair s).setSeq 2)

/-- RUN (R22, R284, R402). -/
def State.runString (s : State) : Bool × State :=
  if s.svc.state = .connected ∧ ¬ s.standingBars ∧ s.ctk.opening.isNone ∧ ¬ s.on Fld.UPD_STAT_MIXED then (true, s.startConverter) else (false, s)

/-- HALT (R22). -/
def State.haltString (s : State) : Bool × State :=
  if s.svc.state = .running then (true, s.halt) else (false, s)

/-- DISCONNECT (R22, R392). -/
def State.disconnectString (s : State) : Bool × State :=
  if s.svc.state = .connected then (true, s.beginOpening s.drivenBranches true true) else (false, s)

/-- Pairs that no opening waits for come to rest once all read open or are welded. -/
def State.openingRest (s : State) : State :=
  if s.get Fld.CTK_SEQ_STATE == 6 && s.ctk.opening.isNone &&
      (List.range 10).all (fun p => s.pairOpen p || s.get (pairField p) == 4)
  then (s.setSeq 0).irq Pg.CTK Irq.CTK_OPENED else s

/-- A pair has closed or opened (R387 to R390, R392); an opening that no command counted is counted here (R393). -/
def State.auxChange (s : State) (p : Nat) (readsOpen : Bool) : State :=
  if s.pairOpen p == readsOpen && s.get (pairField p) != 1 then s else
  let st := s.get (pairField p)
  let s := s.setBit Reg.CTK_AUX p readsOpen
  let s := if p < 8 then s.setBranches (putBit s.svc.branches p (!readsOpen)) else s
  let s := if !readsOpen then
      if s.pairDriven p then (if st = 1 then s.put (pairField p) 2 else s)
      else if s.owns then s.weld p else s
    else if st = 4 then (s.put (pairField p) 0).endInstance Pg.CTK Flt.CTK_WELD p
    else if s.pairDriven p && st == 2 then
      if !s.owns then s else
      let s := (s.countOpening p).put (pairField p) 6
      if s.on Fld.CTK_CFG_COILEN && s.coilWasOff then s.ctkEvent Flt.CTK_SAFETY_OPEN p else s.ctkEvent Flt.CTK_DROPOUT p
    else if st = 3 then s.put (pairField p) 0
    else if st != 1 && !s.pairDriven p && s.owns then s.countOpening p
    else s
  s.advanceConnect.advanceOpening.openingRest

/-- A pair does not read closed in time (R388). -/
def State.closeTimeout (s : State) (p : Nat) : State :=
  if s.get (pairField p) ≠ 1 || !s.owns then s else
  (((s.drivePair p false).put (pairField p) 5).ctkEvent Flt.CTK_NOCLOSE p).advanceConnect

/-- A pair does not read open in time (R388). -/
def State.openTimeout (s : State) (p : Nat) : State :=
  if s.get (pairField p) ≠ 3 || !s.owns then s else (s.weld p).advanceOpening.openingRest

/-- Mean of the joined branch voltages in V, branches without a valid one left out. -/
def State.meanBranch (s : State) : Rat :=
  let l := ((List.range 8).filter s.branchIn).filterMap s.branchVolt
  ratDiv l.sum (l.length : Rat)

/-- VSTR has come within DV of the joined branches (R390 step 4). -/
def State.prechargeDone (s : State) : State :=
  let near := decide (ratAbs (s.inVal 14 - s.meanBranch) ≤ (s.get Fld.CTK_PRE_DV : Rat) / 10)
  if s.get Fld.CTK_SEQ_STATE == 3 && !s.pairOpen 9 && s.inValid 14 && near then (s.closePair 8).setSeq 4 else s

/-- Precharge is not reached in TMO (R390 step 4). -/
def State.prechargeFail (s : State) : State :=
  if s.get Fld.CTK_SEQ_STATE ≠ 3 then s else
  ((s.openAllNow.setSvc .ready).ctkEvent Flt.PRECHARGE_FAIL 0).openingRest

/-- JOIN of a branch (R391). -/
def State.join (s : State) (b : Nat) : State :=
  let near := match s.branchVolt b with
    | none => false
    | some u => s.inValid 14 && decide (ratAbs (u - s.inVal 14) ≤ (s.rd Reg.CTK_JOIN % 65536 : Nat) / (10 : Rat))
  if s.svc.state = .connected && bitOf (s.get Fld.CTK_CFG_BRMASK) b && near && !s.branchBarred b then
    (if s.pairDriven b then s else s.closePair b)
  else s.irq Pg.CTK Irq.CTK_CMDREJ

/-- SEPARATE of a branch (R391). -/
def State.separate (s : State) (b : Nat) : State :=
  if s.svc.state = .connected ∨ s.svc.state = .ready then (if s.pairDriven b then s.openPair b else s)
  else s.irq Pg.CTK Irq.CTK_CMDREJ

/-- CLEAR_WELD (R401). -/
def State.clearWeld (s : State) : State :=
  if !s.allOpen then s else
  (s.each 10 (fun s p => if s.get (pairField p) = 4 then s.put (pairField p) 0 else s)).clearFault Flt.CTK_WELD

/-- A command of CTK_CMD (R412). -/
def State.ctkCommand (s : State) (op b : Nat) : State :=
  if op = 1 then s.separate b else if op = 2 then s.join b else if op = 3 then s.clearWeld else s

/-- The latest four ISTR results are each within ZBAND (R392). -/
def State.zeroCurrent (s : State) : Bool :=
  s.ctk.istr.length == 4 && s.ctk.istr.all (fun x => match x with
    | none => false
    | some i => decide (ratAbs i ≤ s.zband))

/-- An opening waits for zero current. -/
def State.openingWaits (s : State) : Bool :=
  match s.ctk.opening with
  | none => false
  | some o => o.waitZero

/-- A controlled opening proceeds at zero current (R392). -/
def State.controlledOpen (s : State) : State := if s.openingWaits && s.zeroCurrent then s.openingGo.openingRest else s

/-- Zero current is not reached within ZTMO (R392). -/
def State.zeroTimeout (s : State) : State :=
  if s.openingWaits then s.openingGo.openingRest.ctkEvent Flt.CTK_BREAK_LOAD 0 else s

/-- R396: EN stays 1 while any pair is commanded closed. -/
def State.ctkHeld (s : State) : Bool := s.ctk.commanded != 0

/-! ### Hold-over -/

/-- READY when the safety parameters stand confirmed, UNCONFIGURED otherwise (R22). -/
def State.readyOr (s : State) : State := s.setSvc (if s.on Fld.SFI_STAT_CONFIRMED then .ready else .unconfigured)

/-- The held drives agree with readback (R395). -/
def State.heldAgrees (s : State) : Bool :=
  (List.range 10).all (fun p =>
    let both := bitsOf (s.get Fld.CTK_HOLD_DRV) (2 * p) 2
    if s.pairOpen p then both == 0 else both == 3)

/-- Held drives that agree with readback are adopted (R22, R395). -/
def State.holdAdopt (s : State) : State :=
  if !(s.on Fld.CTK_HOLD_HELD && s.acc.locksRestored && s.heldAgrees) then s else
  let drv := s.get Fld.CTK_HOLD_DRV
  let s := ((s.setOn Fld.CTK_HOLD_HELD false).setOn Fld.CTK_HOLD_ADOPTED true).irq Pg.CTK Irq.CTK_HOLDOVER
  let s := s.each 10 (fun s p => if bitOf drv (2 * p) then (s.drivePair p true).put (pairField p) 2 else s)
  let s := s.setBranches (maskOf 8 (fun b => !s.pairOpen b))
  let tripped := s.svc.state = .tripped ∨ s.svc.state = .recovery
  let s := { s with clk := { s.clk with adoptPending := false } }
  if bitOf drv 16 then
    let s := if s.pairDriven 9 then s.openPair 9 else s
    (if tripped then s else s.setSvc .connected).setSeq 5
  else
    let s := if tripped then s else s.readyOr
    if drv = 0 then s.setSeq 0 else s.beginOpening s.drivenBranches true false

/-- The 50 ms end without adoption (R22, R395). -/
def State.holdEnd (s : State) : State :=
  if !s.on Fld.CTK_HOLD_HELD then s else
  let s := ((s.setOn Fld.CTK_HOLD_HELD false).wr Reg.CTK_DRIVE 0).irq Pg.CTK Irq.CTK_HOLDOVER
  let s := { s with clk := { s.clk with adoptPending := false } }
  let s := if s.svc.state = .tripped ∨ s.svc.state = .recovery then s else s.readyOr
  (s.setSeq 0).ctkEvent Flt.CTK_HOLDOVER_LOST 0

/-! ### Insulation -/

/-- ISO_CTRL.EN is set (R399). -/
def State.isoOn (s : State) : State :=
  let s := s.setOn (Fld.ens Pg.ISO) true
  if s.get Fld.ISO_NET_UINJ = 0 ∨ s.get Fld.ISO_NET_RM = 0 ∨ s.get Fld.ISO_CFG_HALF = 0 then
    (s.setOn Fld.ISO_STAT_HALTED true).irq Pg.ISO Irq.ISO_CONFIG_ERR
  else
    let s := { s with iso := { isoReset with startAt := s.nowNat } }
    let s := s.setOn Fld.ISO_STAT_HALTED false
    if s.owns then s.emit (.ball "ISO_INJ" true) else s

/-- ISO_CTRL.EN is cleared. -/
def State.isoOff (s : State) : State := (s.setOn (Fld.ens Pg.ISO) false).setOn Fld.ISO_STAT_HALTED false

/-- One limit of R398: runs below and above, with the fault and its end. -/
def State.isoLimit (s : State) (below above r lim code irq : Nat) : (Nat × Nat) × State :=
  if r < lim then
    let n := below + 1
    ((n, 0), if n = 2 then (s.irq Pg.ISO irq).fault Pg.ISO code 0 (fpOf (r : Rat)) else s)
  else if 4 * r > 5 * lim then
    let n := above + 1
    ((0, n), if n = 2 then s.latchFault Pg.ISO code else s)
  else ((0, 0), s)

/-- A half-period ends: V and W are the means of its last two tenths (R397, R398); a mean of no results has no stated value
(log 16). -/
def State.isoHalf (s : State) : State :=
  if !s.ens Pg.ISO || s.on Fld.ISO_STAT_HALTED then s else
  let v := ratDiv s.iso.last.1 (s.iso.last.2 : Rat)
  let w := ratDiv s.iso.earlier.1 (s.iso.earlier.2 : Rat)
  let s := s.setWord (if s.iso.high then Reg.ISO_VPOS else Reg.ISO_VNEG) (fpOf v)
  let prev := s.iso.prevV
  let s := { s with iso := { s.iso with prevV := some v, high := !s.iso.high, startAt := s.nowNat, last := (0, 0), earlier := (0, 0) } }
  let s := if s.owns then s.emit (.ball "ISO_INJ" s.iso.high) else s
  match prev with
  | none => s
  | some pv =>
    let d := ratAbs (v - pv)
    let kohm := 2 * ((s.get Fld.ISO_NET_UINJ : Rat) / 10) * (s.get Fld.ISO_NET_RM : Rat) / d / 1000 - (s.get Fld.ISO_RC_RC : Rat)
    let r := if d < 1 / 1000 then 65535 else satNat 16 (ratRound kohm)
    let unsettled := decide (ratAbs (v - w) > (s.get Fld.ISO_CFG_SETTLE : Rat) / 1000 * d)
    let s := (s.wr Reg.ISO_RES (r + 2 ^ 16 + bitNat unsettled * 2 ^ 17)).bump Fld.ISO_CNT_Results
    let s := s.irq Pg.ISO Irq.ISO_RESULT
    if unsettled then
      let n := s.iso.unsettled + 1
      let s := ({ s with iso := { s.iso with unsettled := n } }).bump ⟨Reg.ISO_CNT, 16, 16⟩
      let s := s.irq Pg.ISO Irq.ISO_UNSETTLED
      if n = 8 then s.fault Pg.ISO Flt.ISO_MONITOR_FAIL 0 else s
    else
      let s := s.latchFault Pg.ISO Flt.ISO_MONITOR_FAIL
      let a := s.isoLimit s.iso.below s.iso.above r (s.get Fld.ISO_LIM_TRIP) Flt.INSULATION_LOW Irq.ISO_TRIP
      let b := a.2.isoLimit a.2.iso.belowWarn a.2.iso.aboveWarn r (s.get Fld.ISO_LIM_WARN) Flt.ISO_WARN Irq.ISO_WARN
      let s := b.2
      { s with iso := { s.iso with below := a.1.1, above := a.1.2, belowWarn := b.1.1, aboveWarn := b.1.2, unsettled := 0 } }

/-! ### The end of handling -/

/-- Pairs of a mask read open or are welded. -/
def State.openOrWelded (s : State) (f : Nat → Bool) : Bool :=
  (List.range 10).all (fun p => !f p || s.pairOpen p || s.get (pairField p) == 4)

/-- The handling of a fault has ended (R403). -/
def State.handlingDone (s : State) (i : FaultItem) : Bool :=
  if i.cls = 0 then s.openOrWelded (fun _ => true)
  else if i.cls = 1 then s.snare
  else if i.cls = 2 then
    let still := decide (s.svc.state ≠ .stopping) && s.ctk.opening.isNone
    match faultBranch i.code i.inst with
    | none => still && (List.range 10).all (fun p => s.get (pairField p) != 3)
    | some b => still && s.get (pairField b) != 3
  else true

/-- The fault being handled ends and the next one is taken up, or the reaction in force returns to none (R403 to R406). -/
def State.dequeue (s : State) : State :=
  match s.flt.handling with
  | none => s
  | some h =>
    if !s.handlingDone h then s else
    match s.flt.queue with
    | i :: rest => State.afterTrip (({ s with flt := { s.flt with queue := rest } }).handle i)
    | [] => (({ s with flt := { s.flt with handling := none } }).wr Reg.FLT_INFORCE 0).fltShow

/-- Event codes turn LATCHED in the cycle after their raise (R731). -/
def State.latchEvents (s : State) : State :=
  let l := s.flt.eventCodes
  l.foldl (fun s c => s.latchFault Pg.FLT c) { s with flt := { s.flt with eventCodes := [] } }

/-- 1 ms without an ALARM (R731). -/
def State.alarmQuiet (s : State) : State := s.latchFault Pg.FLT Flt.RING_ALARM

/-- 1 ms without a NaN (R731). -/
def State.nanQuiet (s : State) : State := s.latchFault Pg.LPE Flt.LOOP_NAN

/-- The FAULT_STORM record (R407, R609). -/
def State.stormRecord (s : State) : State :=
  s.raiseRec ⟨7, 6, Pg.FLT, 0xF0, beBytes 4 (s.get Fld.FLT_STORM_COUNT) ++ beBytes 2 (s.get Fld.FLT_STORM_FIRST) ++
    beBytes 2 (s.get Fld.FLT_STORM_LAST), none⟩

/-- The storm ends (R407). -/
def State.endStorm (s : State) : State :=
  (s.stormRecord.setOn Fld.FLT_STATE_STORM false).latchFault Pg.FLT Flt.FAULT_STORM

/-- The queue has been empty and nothing raised for QUIET (R407). -/
def State.stormQuiet (s : State) : State :=
  if s.on Fld.FLT_STATE_STORM && s.flt.queue.isEmpty then s.endStorm else s

/-- ACK (R401). -/
def State.ack (s : State) : State := s.clearLatched.irq Pg.FLT Irq.FLT_CLEARED

end Sys2Proof.Machine
end

