-- ==== Sys2Proof/Machine/Reject.lean ====
section
/-! DEFINITION. Access errors and the audit of rejections (R54, R55). -/

namespace Sys2Proof.Machine

/-- ERRA takes a rejected access (R54). -/
def State.noteErra (s : State) (p code : Nat) (o : Origin) (wr : Bool) (addr : Nat) : State :=
  s.wr (Reg.erra p) (2 ^ 31 + code * 2 ^ 27 + originCode o * 2 ^ 24 + bitNat wr * 2 ^ 23 + addr % 4096)

/-- Codes whose rejections are audited (R55): FROZEN, LOCKED, ROLE, SHADOW_OWNED, BAD_KEY, AUTH. -/
def auditedCode (code : Nat) : Bool := [4, 5, 6, 7, 9, 0xC].contains code

/-- The audit of a rejection: the first of a run makes a record, the others are counted (R55, R615). -/
def State.auditReject (s : State) (code : Nat) (o : Origin) (addr erra value : Nat) : State :=
  if s.acc.runs.any (fun r => decide (r.origin = o) && r.code == code && r.addr == addr) then
    { s with acc := { s.acc with runs := s.acc.runs.map (fun (r : RejectRun) =>
      if r.origin = o ∧ r.code = code ∧ r.addr = addr then { r with extra := r.extra + 1 } else r) } }
  else
    let p := (ownerPage addr).getD 0xFF
    let s := { s with acc := { s.acc with runs := ⟨o, code, addr, 0, 0⟩ :: s.acc.runs } }
    s.raiseRec ⟨rejectSev code, 2, p, 4, auditBody (originCode o) (s.roleByte o) (originNode o) addr erra value [], some (o, code, addr)⟩

/-- An access is rejected on page `p` (R54, R55). -/
def State.rejectAt (s : State) (p code : Nat) (o : Origin) (wr : Bool) (addr value : Nat) : State :=
  let s := s.noteErra p code o wr addr
  if auditedCode code then s.auditReject code o addr (s.rd (Reg.erra p)) value else s

/-- The second of a run ends: its further rejections are summed in one record (R55, R609). -/
def State.runSummary (s : State) (code : Nat) (o : Origin) (addr : Nat) : State :=
  match s.acc.runs.find? (fun r => decide (r.origin = o) && r.code == code && r.addr == addr) with
  | none => s
  | some r =>
    let s := { s with acc := { s.acc with runs := s.acc.runs.filter (fun x =>
      !(decide (x.origin = o) && x.code == code && x.addr == addr)) } }
    if r.extra = 0 then s else
    s.raiseRec ⟨3, 6, (ownerPage addr).getD 0xFF, 1, beBytes 4 r.extra ++ beBytes 2 code ++ beBytes 1 (originCode o) ++ beBytes 1 0 ++
      beBytes 2 (originNode o) ++ beBytes 4 addr ++ beBytes 4 r.seq, none⟩

end Sys2Proof.Machine
end

