-- ==== Sys2Proof/Machine/Fabric.lean ====
section
/-! DEFINITION. The Igxus fabric: lanes and sessions, credits, LSAs and routes, forwarding, Gong, keys (R478 to R501, R519
to R521). -/

namespace Sys2Proof.Machine

/-! ### Lanes -/

/-- Page index of a lane: FP0 to FP3 and TWP. -/
def lanePage (n : Nat) : Nat := Pg.FAB + 1 + n

/-- Hidden state of a lane. -/
def State.lane (s : State) (n : Nat) : LaneState := (s.fab.lanes[n]?).getD laneReset

/-- Change the hidden state of a lane. -/
def State.modLane (s : State) (n : Nat) (f : LaneState → LaneState) : State :=
  { s with fab := { s.fab with lanes := updAt s.fab.lanes n f } }

/-- STATE of a lane (R525). -/
def State.laneState (s : State) (n : Nat) : Nat := s.get (Fld.FP_STATE_STATE n)

/-- The fabric runs (`FAB_STAT.STATE`). -/
def State.fabRuns (s : State) : Bool := s.get Fld.FAB_STAT_STATE == 1

/-- A lane may come up: the fabric runs, its own EN and its PORTEN bit are 1 (R525). -/
def State.laneOn (s : State) (n : Nat) : Bool := s.fabRuns && s.ens (lanePage n) && bitOf (s.get Fld.FAB_CFG_PORTEN) n

/-- Own node address (R487). -/
def State.ownAddr (s : State) : Nat := s.get Fld.FAB_CFG_ADDR

/-- Blocks that a class is granted (R494). -/
def grantOf (cls : Nat) : Nat := if cls = 1 then 32 else if cls = 2 then 64 else 128

/-- Bytes of a frame from the destination address through the FCS (R480, R494). -/
def frameBytes (f : FabFrame) : Nat := max 64 (52 + f.payload.length)

/-- Blocks of a frame (R494). -/
def frameBlocks (f : FabFrame) : Nat := (frameBytes f + 63) / 64

/-- CLASS of a frame. -/
def frameCls (f : FabFrame) : Nat := f.cls.toNat

/-- The class in which a TYPE is credited: not HELLO, CREDIT or Gong (R481). -/
def credited (f : FabFrame) : Bool := decide (3 ≤ f.type.toNat) && decide (f.type.toNat ≠ 5)

/-- Element `k` of a list of counts. -/
def nth (l : List Nat) (k : Nat) : Nat := l.getD k 0

/-- CRED, RXOCC and TXQ show the lane's counts. -/
def State.laneShow (s : State) (n : Nat) : State :=
  let l := s.lane n
  let free := fun (k : Nat) => grantOf (k + 1) - (nth l.sent k - nth l.freedSeen k)
  let open_ := decide (s.laneState n = 3) || decide (s.laneState n = 4)
  let s := s.wr (Reg.FP_CRED n) (if open_ then free 0 + free 1 * 256 + free 2 * 65536 else 0)
  let s := s.wr (Reg.FP_RXOCC n) (nth l.held 0 + nth l.held 1 * 256 + nth l.held 2 * 65536)
  let q1 := (l.queue.filter (fun q => frameCls q.frame == 1)).map (fun q => frameBytes q.frame)
  let q2 := (l.queue.filter (fun q => frameCls q.frame != 1)).length
  s.wr (Reg.FP_TXQ n) (min 4095 q1.sum + min 4095 q2 * 65536)

/-- The broadcast address of IEEE 802.3. -/
def macBroadcast : BitVec 48 := 0xFFFFFFFFFFFF

/-- The port address of a lane (`FPn_MAC`). -/
def ownMac (n : Nat) : BitVec 48 := (Config.laneMac n).setWidth 48

/-- A frame that this module originates (R480); every Igxus frame goes to the broadcast address (DESIGN CHOICE log 6). -/
def State.mkFrame (s : State) (cls type dst : Nat) (payload : List Byte) : FabFrame :=
  ⟨true, macBroadcast, 0, 0x88B5, 1, BitVec.ofNat 2 cls, 0, BitVec.ofNat 8 type, 0, BitVec.ofNat 10 dst, 0,
    BitVec.ofNat 10 s.ownAddr, 255, 0, 0, BitVec.ofNat 16 payload.length, payload, 0⟩

/-- The frame from its destination address through the last payload byte (R480, R482). -/
def frameText (f : FabFrame) : List Byte :=
  beBytes 6 f.dstMac.toNat ++ beBytes 6 f.srcMac.toNat ++ beBytes 2 f.etherType.toNat ++
    [f.ver ++ (f.cls ++ f.rsv0), f.type] ++ beBytes 2 (f.rsvDst ++ f.dst).toNat ++ beBytes 2 (f.rsvSrc ++ f.src).toNat ++
    [f.ttl, f.rsv7] ++ beBytes 8 f.ctr.toNat ++ beBytes 2 f.len.toNat ++ f.payload

/-- DIR of the sending end toward the other one, by their UIDs (R482). -/
def dirOf (here there : Nat) : Nat := if here < there then 1 else 2

/-- The IV of R482: DIR, three bytes of 0, and CTR or a nonce. -/
def frameIv (dir ctr : Nat) : BitVec 96 := BitVec.ofNat 96 (dir * 2 ^ 88 + ctr % 2 ^ 64)

/-- The UID of a lane's neighbour (R488). -/
def State.peerUid (s : State) (n : Nat) : Nat := s.rd (Reg.FP_PEERUID n) * 2 ^ 32 + s.rd (Reg.FP_PEERUID n + 4)

/-- The tag of a frame with a CTR under the lane's session key (R482). -/
def State.tagOn (s : State) (n dir : Nat) (f : FabFrame) : BitVec 128 :=
  gcmTag ((s.lane n).session.getD 0) (frameIv dir f.ctr.toNat) (frameText f)

/-- The tag of a received frame verifies under the session key (R482, R483). -/
def State.tagHolds (s : State) (n : Nat) (f : FabFrame) : Bool :=
  s.tagOn n (dirOf (s.peerUid n) Config.moduleUid.toNat) f == f.tag

/-- Nanoseconds that a frame takes on a lane, with preamble and gap (R478, R498). -/
def wireNs (f : FabFrame) : Nat := 8 * (frameBytes f + 20)

/-- A frame pre-empts another (R496). -/
def preempts (f g : FabFrame) : Bool := decide (frameCls f < 2) && decide (frameCls f < frameCls g)

/-- A frame goes onto the wire, after the one being sent; one that it pre-empts is ended, and sent again whole after it (R496;
log 21). -/
def State.putOnWire (s : State) (n : Nat) (f : FabFrame) : State :=
  let now := s.nowNat
  let busy := (s.lane n).sending.filter (fun x => decide (now < x.2))
  let after := fun (s : State) (g : FabFrame) (t : Nat) => s.modLane n (fun l => { l with sending := some (g, t + wireNs g) })
  match busy with
  | none => after (s.emit (.fab n f)) f now
  | some (g, t) =>
    if preempts f g && decide (t ≤ now + wireNs g) then
      let s := ((s.bump (whole (Reg.FP_CNT_PREEMPT n))).emit (.fabEnded n)).emit (.fab n f)
      after (s.emit (.fab n g)) g (now + wireNs f)
    else after (s.emit (.fab n f)) f t

/-- Send a frame on a lane under the next CTR of its session, tagged afresh (R482, R484). -/
def State.sendFrame (s : State) (n : Nat) (f : FabFrame) : State :=
  let c := (s.lane n).txCtr + 1
  let s := s.modLane n (fun l => { l with txCtr := c })
  let g := { f with dstMac := macBroadcast, srcMac := ownMac n, ctr := BitVec.ofNat 64 c }
  s.putOnWire n { g with tag := s.tagOn n (dirOf Config.moduleUid.toNat (s.peerUid n)) g }

/-- Class that a TWIN frame of a kind travels in (R590). -/
def twinClass (kind : Nat) : Nat := if kind = 4 then 2 else if kind = 5 ∨ kind = 7 then 3 else 1

/-- Send a TWIN frame of a kind to the partner over the TWIN lane, numbered and tagged; none leaves while the lane has no session
(R482, R484, R590; log 17: no egress queue and no credits on this lane). -/
def State.sendTwin (s : State) (kind : Nat) (payload : List Byte) : State :=
  if (s.lane 4).session.isNone then s else
  let c := (s.lane 4).txCtr + 1
  let s := s.modLane 4 (fun l => { l with txCtr := c })
  let f := { s.mkFrame (twinClass kind) 7 (s.get (Fld.FP_STATE_PEER 4)) (beBytes 1 kind ++ payload) with
    srcMac := ownMac 4, ctr := BitVec.ofNat 64 c }
  s.emit (.fab 4 { f with tag := s.tagOn 4 (dirOf Config.moduleUid.toNat (s.peerUid 4)) f })

/-- CREDIT: the blocks freed since the session began (R494). -/
def State.sendCredit (s : State) (n : Nat) : State :=
  let l := s.lane n
  s.sendFrame n (s.mkFrame 2 2 0 (beBytes 2 (nth l.freed 0) ++ beBytes 2 (nth l.freed 1) ++ beBytes 2 (nth l.freed 2)))

/-- Blocks held at the receiver are freed and reported (R494, R495). -/
def State.freeBlocks (s : State) (src : Option (Nat × Nat × Nat)) : State :=
  match src with
  | none => s
  | some (n, cls, b) =>
    let s := s.modLane n (fun l => { l with held := updAt l.held (cls - 1) (· - b), freed := updAt l.freed (cls - 1) (· + b) })
    (s.sendCredit n).laneShow n

/-- The first frame that may be sent: of the lowest class with a frame ready and enough credit (R494, R496). -/
def LaneState.ready (l : LaneState) : Option QueuedFrame :=
  [1, 2, 3].findSome? (fun c => match l.queue.find? (fun q => frameCls q.frame == c) with
    | none => none
    | some q => if nth l.sent (c - 1) - nth l.freedSeen (c - 1) + frameBlocks q.frame ≤ grantOf c then some q else none)

/-- Send what the credits allow (R496); at most `k` frames. -/
def State.pumpLane (s : State) (n : Nat) : Nat → State
  | 0 => s
  | k + 1 =>
    if s.laneState n ≠ 3 then s else
    match (s.lane n).ready with
    | none => s
    | some q =>
      let c := frameCls q.frame
      let s := s.modLane n (fun l => { l with
        queue := l.queue.erase q
        sent := if credited q.frame then updAt l.sent (c - 1) (· + frameBlocks q.frame) else l.sent })
      ((s.sendFrame n q.frame).freeBlocks q.src).pumpLane n k

/-- Send what may be sent on a lane. -/
def State.drain (s : State) (n : Nat) : State := (s.pumpLane n (s.lane n).queue.length).laneShow n

/-- The class 1 budget of R498 has room for a frame. -/
def State.budgetHas (s : State) (n : Nat) (f : FabFrame) : Bool :=
  let q := ((s.lane n).queue.filter (fun q => frameCls q.frame == 1)).map (fun q => frameBytes q.frame)
  decide (q.length + 1 ≤ 16) && decide (q.sum + frameBytes f ≤ 2048)

/-- Put a frame into an egress queue (R496, R498). -/
def State.egress (s : State) (n : Nat) (f : FabFrame) (src : Option (Nat × Nat × Nat)) : State :=
  if frameCls f = 0 then (s.sendFrame n f).freeBlocks src
  else if frameCls f = 1 && !s.budgetHas n f then (s.bump (whole (Reg.FP_CNT_DROP n))).freeBlocks src
  else (s.modLane n (fun l => { l with queue := l.queue ++ [⟨f, src⟩] })).drain n

/-! ### LSAs and routes -/

/-- Own links: the UP fabric ports with neighbour, COST and port (R489). -/
def State.ownLinks (s : State) : List (Nat × Nat × Nat) :=
  ((List.range 4).filter (fun n => s.laneState n == 3)).map (fun n => (s.get (Fld.FP_STATE_PEER n), s.get (Fld.FP_CFG_COST n), n))

/-- The payload of an LSA (R489). -/
def lsaPayload (origin uid seq : Nat) (links : List (Nat × Nat × Nat)) : List Byte :=
  beBytes 2 origin ++ beBytes 2 0 ++ beBytes 8 uid ++ beBytes 4 seq ++ beBytes 1 links.length ++ beBytes 3 0 ++
    links.flatMap (fun l => beBytes 2 l.1 ++ beBytes 1 l.2.1 ++ beBytes 1 l.2.2)

/-- Ports out of which a frame is flooded: every UP fabric port but the one it came by; Gong also leaves by STALLED ports
(R489, R500, R519). -/
def State.floodPorts (s : State) (but : Nat) (gong : Bool) : List Nat :=
  (List.range 4).filter (fun n => n != but && (s.laneState n == 3 || gong && s.laneState n == 4))

/-- The node originates its LSA (R489). -/
def State.originate (s : State) : State :=
  if !(s.fabRuns && s.appUp) then s else
  let q := (s.fab.ownSeq + 1) % 2 ^ 32
  let s := { s with fab := { s.fab with ownSeq := q } }
  let f := s.mkFrame 2 3 0x3FF (lsaPayload s.ownAddr Config.moduleUid.toNat q s.ownLinks)
  (s.floodPorts 99 false).foldl (fun s n => s.egress n f none) s

/-- A lane changes state, with the events of R500, R522 and R527 and a new LSA when its own advertisement changes. -/
def State.setLane (s : State) (n v : Nat) : State :=
  let was := s.laneState n
  if was = v then s else
  let s := s.put (Fld.FP_STATE_STATE n) v
  let s := if v = 3 then (s.irq (lanePage n) Irq.FP_UP).endInstance (lanePage n) Flt.FAB_LINK_DOWN n
    else if was = 3 then (s.irq (lanePage n) Irq.FP_DOWN).fault (lanePage n) Flt.FAB_LINK_DOWN n else s
  let s := if was = 4 then s.endInstance (lanePage n) Flt.FAB_STALL n else s
  if n < 4 ∧ (v = 3 ∨ was = 3) then s.originate else s

/-- The session of a lane ends: nothing waits, no credit is held. -/
def State.dropSession (s : State) (n : Nat) : State :=
  let s := s.modLane n (fun l => { l with
    session := none, txCtr := 0, rxCtr := 0, sent := [0, 0, 0], freedSeen := [0, 0, 0], held := [0, 0, 0], freed := [0, 0, 0], queue := [] })
  { s with fab := { s.fab with lanes := s.fab.lanes.map (fun (l : LaneState) => { l with queue := l.queue.map (fun (q : QueuedFrame) =>
      match q.src with
      | some (m, _, _) => if m = n then { q with src := none } else q
      | none => q) }) } }

/-- LABEL of a key slot. -/
def State.keyLabel (s : State) (n k : Nat) : Nat := s.get (if k = 0 then Fld.FP_KEYCTL_LABEL0 n else Fld.FP_KEYCTL_LABEL1 n)

/-- The payload of a HELLO (R486). -/
def State.helloPayload (s : State) (n nonce label : Nat) : List Byte :=
  beBytes 8 Config.moduleUid.toNat ++ beBytes 8 nonce ++ beBytes 2 s.ownAddr ++ beBytes 1 label ++ beBytes 1 (if n = 4 then 1 else 0) ++
    beBytes 4 0

/-- The key in a slot of a lane (R485). -/
def State.slotKey (s : State) (n k : Nat) : Option (BitVec 128) := ((s.lane n).keys[k]?).getD none

/-- Send the session-opening HELLO of this attempt, unchanged (R486). -/
def State.sendHello (s : State) (n : Nat) : State :=
  match (s.lane n).hello with
  | none => s
  | some f => s.putOnWire n f

/-- The session-opening HELLO of a new attempt, with CTR 0, under the key of slot TXKEY; none without a key there. DIR is free
while the lane knows no neighbour (R482, R486; log 6). -/
def State.formHello (s : State) (n : Nat) : State :=
  let k := s.get (Fld.FP_KEYCTL_TXKEY n)
  let x := s.drawWord
  let dir := if s.peerUid n = 0 then 1 + x.1.toNat % 2 else dirOf Config.moduleUid.toNat (s.peerUid n)
  let nonce := (s.lane n).nonce
  let f := { s.mkFrame 2 1 0 (s.helloPayload n nonce (s.keyLabel n k)) with srcMac := ownMac n }
  x.2.modLane n (fun l => { l with
    hello := (s.slotKey n k).map (fun key => { f with tag := gcmTag key (frameIv dir nonce) (frameText f) }) })

/-- Step 2 of R486: a fresh nonce and a session-opening HELLO. -/
def State.restartLink (s : State) (n : Nat) : State :=
  let s := (s.dropSession n).endInstance (lanePage n) Flt.FAB_HOSTILE n
  let s := s.modLane n (fun l => { l with discards := [] })
  if !s.laneOn n then s.setLane n 0
  else if !(s.lane n).sync then s.setLane n 1
  else
    let x := s.drawNonce
    (((x.2.modLane n (fun l => { l with nonce := x.1.toNat % 2 ^ 64 })).setLane n 2).formHello n).sendHello n

/-- A lane follows its enables (R487, R525). -/
def State.laneCheck (s : State) (n : Nat) : State :=
  if s.laneOn n then (if s.laneState n = 0 then s.restartLink n else s)
  else if s.laneState n = 0 then s else (s.dropSession n).setLane n 0

/-- FAB_CTRL.EN is set (R487). -/
def State.fabEnable (s : State) : State :=
  let s := s.setEns Pg.FAB true
  if s.ownAddr = 0 ∨ s.ownAddr = 0x3FF then (s.put Fld.FAB_STAT_STATE 2).irq Pg.FAB Irq.FAB_CONFIG_ERR
  else (s.put Fld.FAB_STAT_STATE 1).each 5 State.laneCheck

/-- FAB_CTRL.EN is cleared. -/
def State.fabDisable (s : State) : State := ((s.setEns Pg.FAB false).put Fld.FAB_STAT_STATE 0).each 5 State.laneCheck

/-- A lane's own EN is written. -/
def State.laneEnable (s : State) (n : Nat) (b : Bool) : State := (s.setEns (lanePage n) b).laneCheck n

/-- PCS synchronisation is reached (R486). -/
def State.pcsUp (s : State) (n : Nat) : State :=
  let s := s.modLane n (fun l => { l with sync := true })
  if s.laneState n = 1 then s.restartLink n else s

/-- PCS synchronisation is lost (R486). -/
def State.pcsDown (s : State) (n : Nat) : State :=
  let s := s.modLane n (fun l => { l with sync := false })
  if s.laneState n = 0 then s else (s.dropSession n).setLane n 1

/-- An isolated port sends and accepts only HELLO (R501). -/
def State.isolatePort (s : State) (n : Nat) : State := if s.laneState n = 0 then s else (s.dropSession n).setLane n 5

/-- A frame of one of the kinds of R500 is discarded and counted. -/
def State.laneDiscard (s : State) (n : Nat) (count : Nat) : State :=
  let now := s.nowNat
  let l := now :: (s.lane n).discards.filter (fun t => decide (now < t + 1000000000))
  let s := (s.bump (whole count)).modLane n (fun x => { x with discards := l })
  if l.length ≤ 64 then s else
  let s := ((s.irq (lanePage n) Irq.FP_HOSTILE).irq Pg.FAB Irq.FAB_HOSTILE).fault (lanePage n) Flt.FAB_HOSTILE n
  if n < 4 ∧ s.on (Fld.FP_CFG_AUTOISO n) then s.isolatePort n else s

/-- A frame whose treatment this module does not support, or has no configuration for, is discarded whole and counted on the
port that it came by (R13; DESIGN CHOICE log 21: in `FPn_CNT_DISC`, outside the sum of R500). -/
def State.dropFrame (s : State) (n : Nat) : State := s.bump (whole (Reg.FP_CNT_DISC n))

/-- A frame whose check sequence fails; a service frame for this module is recorded in `FAB_ERRA` with code CRC as well (R54). -/
def State.fcsFail (s : State) (n : Nat) (f : FabFrame) : State :=
  let s := s.bump (whole (Reg.FP_CNT_FCS n))
  if f.dst.toNat = s.ownAddr ∧ f.type.toNat = 4 then s.rejectAt Pg.FAB 0xB (.fabric f.src) true (Reg.base Pg.FAB) 0 else s

/-- A frame whose tag fails (R483). -/
def State.authFail (s : State) (n : Nat) (f : FabFrame) : State :=
  let s := ((s.irq (lanePage n) Irq.FP_AUTHFAIL).irq Pg.FAB Irq.FAB_AUTH).bump Fld.FAB_AUTHCNT_AUTH
  let s := s.laneDiscard n (Reg.FP_CNT_AUTH n)
  if f.dst.toNat = s.ownAddr then s.rejectAt Pg.FAB 0xC (.fabric f.src) true (Reg.base Pg.FAB) 0 else s

/-- CLASS that a TYPE travels in (R481). -/
def classFits (f : FabFrame) : Bool :=
  let t := f.type.toNat
  let c := frameCls f
  if t = 1 ∨ t = 2 ∨ t = 3 then c == 2
  else if t = 4 ∨ t = 7 then decide (1 ≤ c)
  else if t = 5 then c == 0
  else t == 6 && c == 1

/-- The header's reserved bits (R480, R481). -/
def rsvSet (f : FabFrame) : Bool := f.rsv0 != 0 || f.rsvDst != 0 || f.rsvSrc != 0 || f.rsv7 != 0

/-- A frame of a lane that the module accepts by its address, EtherType and length (R478, R479). -/
def macFits (n : Nat) (f : FabFrame) : Bool :=
  (f.dstMac == ownMac n || f.dstMac == macBroadcast) && f.etherType == 0x88B5 && decide (f.payload.length ≤ 1466)

/-- A received frame is checked (R478 to R484, R494, R500, R590); the answer is whether it is accepted, with the blocks that
it takes. -/
def State.receive (s : State) (n : Nat) (f : FabFrame) : State × Bool :=
  if s.laneState n = 0 ∨ s.laneState n = 1 then (s, false)
  else if !f.fcsOk then (s.fcsFail n f, false)
  else if !macFits n f then (s.laneDiscard n (Reg.FP_CNT_DISC n), false)
  else if (s.lane n).session.isNone || !s.tagHolds n f then (s.authFail n f, false)
  else if f.ctr.toNat ≤ (s.lane n).rxCtr then
    ((s.bump Fld.FAB_AUTHCNT_REPLAY).laneDiscard n (Reg.FP_CNT_REPLAY n), false)
  else
    let s := s.modLane n (fun l => { l with rxCtr := f.ctr.toNat })
    let t := f.type.toNat
    if f.ver ≠ 1 || rsvSet f || f.len.toNat ≠ f.payload.length || !classFits f || 
        (n == 4 && !(t == 7 || t == 1 || t == 2)) || (n != 4 && t == 7)
    then (s.laneDiscard n (Reg.FP_CNT_DISC n), false)
    else if s.laneState n = 5 && t ≠ 1 then (s.dropFrame n, false)
    else if !credited f then (s, true)
    else
      let c := frameCls f
      if nth (s.lane n).held (c - 1) + frameBlocks f > grantOf c then (s.laneDiscard n (Reg.FP_CNT_NOCRED n), false)
      else ((s.modLane n (fun l => { l with held := updAt l.held (c - 1) (· + frameBlocks f) })).laneShow n, true)

/-- Where the blocks of an accepted frame stand. -/
def srcOf (n : Nat) (f : FabFrame) : Option (Nat × Nat × Nat) :=
  if credited f then some (n, frameCls f, frameBlocks f) else none

/-! ### Sessions -/

/-- A port that is being brought up goes to KEYFAIL; one with a running session only counts the failure (R486). -/
def State.keyFailed (s : State) (n : Nat) : State := if s.laneState n = 2 ∨ s.laneState n = 6 then s.setLane n 6 else s

/-- The session key of a link key and the nonces of the ends with the smaller and the greater UID (R486). -/
def sessionKey (key : BitVec 128) (small great : Nat) : BitVec 128 :=
  aes128 key (BitVec.ofNat 128 (small % 2 ^ 64 * 2 ^ 64 + great % 2 ^ 64))

/-- A session-opening HELLO (R486). -/
def State.helloIn (s : State) (n : Nat) (f : FabFrame) : State :=
  if s.laneState n = 0 ∨ s.laneState n = 1 ∨ s.laneState n = 5 then s
  else if !f.fcsOk then s.fcsFail n f
  else if !macFits n f || f.type.toNat ≠ 1 || f.ver ≠ 1 || rsvSet f || !classFits f || f.payload.length ≠ 24 || f.len.toNat ≠ 24 || f.ctr ≠ 0 ||
      beAt f.payload 19 1 ≠ (if n = 4 then 1 else 0) || beAt f.payload 20 4 ≠ 0 then s.laneDiscard n (Reg.FP_CNT_DISC n)
  else
    let label := beAt f.payload 18 1
    let uid := beAt f.payload 0 8
    let nonce := beAt f.payload 8 8
    let slot := (List.range 2).find? (fun k => s.keyLabel n k == label && (s.slotKey n k).isSome)
    match slot with
    | none => (s.authFail n f).keyFailed n
    | some k =>
      let key := (s.slotKey n k).getD 0
      if gcmTag key (frameIv (dirOf uid Config.moduleUid.toNat) nonce) (frameText f) ≠ f.tag then (s.authFail n f).keyFailed n else
      if (s.lane n).session.isSome && nonce == (s.lane n).peerNonce then s else
      let s := if (s.lane n).session.isSome then s.restartLink n else s
      let s := if s.laneState n = 6 then s.setLane n 2 else s
      let own := (s.lane n).nonce
      let ks := sessionKey key (if Config.moduleUid.toNat < uid then own else nonce) (if Config.moduleUid.toNat < uid then nonce else own)
      let s := s.modLane n (fun l => { l with session := some ks, peerNonce := nonce, peerMac := f.srcMac })
      let s := (s.put (Fld.FP_STATE_LABEL n) label).put (Fld.FP_STATE_PEER n) (beAt f.payload 16 2 % 1024)
      (s.wr64 (Reg.FP_PEERUID n) uid).sendCredit n

/-- A keep-alive HELLO (R486). -/
def State.keepalive (s : State) (n : Nat) (f : FabFrame) : State :=
  match s.receive n f with
  | (s, false) => s
  | (s, true) =>
    if f.type.toNat ≠ 1 ∨ beAt f.payload 8 8 ≠ (s.lane n).peerNonce then s.laneDiscard n (Reg.FP_CNT_DISC n) else s

/-- An unopened port repeats its HELLO (R486). -/
def State.helloAgain (s : State) (n : Nat) : State :=
  if s.laneState n = 2 ∨ s.laneState n = 6 ∨ s.laneState n = 5 then s.sendHello n else s

/-- Every 100 ms an UP port sends a keep-alive HELLO and CREDIT (R486, R494). -/
def State.keepaliveSend (s : State) (n : Nat) : State :=
  if s.laneState n ≠ 3 ∧ s.laneState n ≠ 4 then s else
  let s := if ((s.lane n).discards.filter (fun t => decide (s.nowNat < t + 1000000000))).length ≤ 64
    then s.endInstance (lanePage n) Flt.FAB_HOSTILE n else s
  (s.sendFrame n (s.mkFrame 2 1 0 (s.helloPayload n (s.lane n).nonce (s.get (Fld.FP_STATE_LABEL n))))).sendCredit n

/-- Three keep-alives missed (R486). -/
def State.keepaliveLost (s : State) (n : Nat) : State :=
  if s.laneState n = 3 ∨ s.laneState n = 4 then s.restartLink n else s

/-- `FPn_RTT` shows the link round trip, which the lane measures; its value is free (R495; log 4). -/
def State.laneRtt (s : State) (n : Nat) : State := (s.drawWord).2.wr (Reg.FP_RTT n) ((s.drawWord).1.toNat % 65536)

/-- A CREDIT frame (R486, R494, R500). -/
def State.creditIn (s : State) (n : Nat) (f : FabFrame) : State :=
  match s.receive n f with
  | (s, false) => s
  | (s, true) =>
    if f.type.toNat ≠ 2 ∨ f.payload.length < 6 then s.laneDiscard n (Reg.FP_CNT_DISC n) else
    let upd := fun (l : LaneState) (k : Nat) =>
      let old := nth l.freedSeen k
      old + (beAt f.payload (2 * k) 2 + 65536 - old % 65536) % 65536
    let freed := (List.range 3).any (fun k => upd (s.lane n) k != nth (s.lane n).freedSeen k)
    let s := s.modLane n (fun l => { l with freedSeen := [upd l 0, upd l 1, upd l 2] })
    let s := if s.laneState n = 2 then (s.setLane n 3).laneRtt n else if s.laneState n = 4 && freed then s.setLane n 3 else s
    s.drain n

/-! ### Route table -/

/-- Word `w` of the route table entry of an address (R493). -/
def routeWord (a w : Nat) : Nat := 0x88000 + 32 * a + 4 * w

/-- The table's state of an address (R493). -/
def State.routeState (s : State) (a : Nat) : Nat := bitsOf (s.rd (routeWord a 0)) 28 3

/-- The address is marked CONFLICT (R492). -/
def State.conflicted (s : State) (a : Nat) : Bool := s.fab.conflicts.contains a

/-- The port that a routed frame takes: the primary while it is UP, else the alternate (R491, R500). -/
def State.routePort (s : State) (a : Nat) : Option Nat :=
  if s.routeState a ≠ 1 || s.conflicted a then none else
  let w := s.rd (routeWord a 0)
  [bitsOf w 24 3, bitsOf w 20 3].find? (fun p => decide (p < 4) && s.laneState p == 3)

/-- Send a frame by the route table; one with no ROUTED entry is discarded, and counted when it came by a port (R13, R491,
R492). -/
def State.routeFrame (s : State) (f : FabFrame) (src : Option (Nat × Nat × Nat)) : State :=
  match s.routePort f.dst.toNat with
  | none => ((src.map (fun x => s.dropFrame x.1)).getD s).freeBlocks src
  | some p => (s.bump (whole (routeWord f.dst.toNat 6))).egress p f src

/-- A frame in transit (R491); TTL expiry counts in DISC. -/
def State.transit (s : State) (n : Nat) (f : FabFrame) : State :=
  let ttl := f.ttl.toNat - 1
  if ttl = 0 ∨ n = 4 then (s.laneDiscard n (Reg.FP_CNT_DISC n)).freeBlocks (srcOf n f)
  else s.routeFrame { f with ttl := BitVec.ofNat 8 ttl } (srcOf n f)

/-- Frames of classes 1 to 3 that waited on a port leave by the alternate, or are discarded and counted (R500). -/
def State.reroute (s : State) (n : Nat) : State :=
  let q := (s.lane n).queue
  let s := s.modLane n (fun l => { l with queue := [] })
  q.foldl (fun s x =>
    match s.routePort x.frame.dst.toNat with
    | some p => s.egress p x.frame x.src
    | none => (s.bump (whole (Reg.FP_CNT_STALL n))).freeBlocks x.src) s

/-- No CREDIT for 10 ms while frames wait (R500). -/
def State.stall (s : State) (n : Nat) : State :=
  if s.laneState n ≠ 3 || (s.lane n).queue.isEmpty then s else
  let s := (s.setLane n 4).irq (lanePage n) Irq.FP_STALL
  ((s.fault (lanePage n) Flt.FAB_STALL n).reroute n).laneShow n

/-- Signed 32-bit difference. -/
def diff32 (a b : Nat) : Int := toSigned 32 ((a + 2 ^ 32 - b) % 2 ^ 32)

/-- The marks of R492 follow the stored LSAs. -/
def State.markConflicts (s : State) : State :=
  let all := (s.ownAddr, Config.moduleUid.toNat) :: s.fab.lsas.map (fun l => (l.origin, l.uid))
  let bad := (all.map Prod.fst).filter (fun a => all.any (fun x => x.1 == a && all.any (fun y => y.1 == a && y.2 != x.2)))
  let fresh := bad.eraseDups.filter (fun a => !s.fab.conflicts.contains a)
  let s := { s with fab := { s.fab with conflicts := s.fab.conflicts ++ fresh } }
  let s := fresh.foldl (fun (s : State) (a : Nat) => s.wr (routeWord a 0) (putBits (s.rd (routeWord a 0)) 28 3 3)) s
  if fresh.contains s.ownAddr then (s.irq Pg.FAB Irq.FAB_CONFLICT).fault Pg.FAB Flt.FAB_ADDR_CONFLICT 0 else s

/-- FAB_TOPO.NODES. -/
def State.topoShow (s : State) : State := s.put Fld.FAB_TOPO_NODES s.fab.lsas.length

/-- The links that an LSA's payload carries. -/
def lsaLinks (p : List Byte) : Nat → List (Nat × Nat × Nat)
  | 0 => []
  | k + 1 => lsaLinks p k ++ [(beAt p (20 + 4 * k) 2, beAt p (22 + 4 * k) 1, beAt p (23 + 4 * k) 1)]

/-- An LSA (R489, R492). -/
def State.lsaIn (s : State) (n : Nat) (f : FabFrame) : State :=
  match s.receive n f with
  | (s, false) => s
  | (s, true) =>
    let s := s.freeBlocks (srcOf n f)
    let p := f.payload
    let nl := beAt p 16 1
    if f.type.toNat ≠ 3 ∨ p.length ≠ 20 + 4 * nl ∨ beAt p 2 2 ≠ 0 ∨ beAt p 17 3 ≠ 0 then s.laneDiscard n (Reg.FP_CNT_DISC n) else
    let origin := beAt p 0 2
    let uid := beAt p 4 8
    let seq := beAt p 12 4
    if origin = s.ownAddr ∧ uid = Config.moduleUid.toNat then
      if diff32 seq s.fab.ownSeq > 0 then ({ s with fab := { s.fab with ownSeq := seq } }).originate else s
    else
      let old := s.fab.lsas.find? (fun l => l.origin == origin && l.uid == uid)
      let newer := match old with
        | none => true
        | some l => decide (diff32 seq l.seq > 0)
      if !newer then s else
      let rest := s.fab.lsas.filter (fun l => !(l.origin == origin && l.uid == uid))
      let s := { s with fab := { s.fab with lsas := rest ++ [(⟨origin, uid, seq, lsaLinks p nl, s.nowNat⟩ : LsaRec)] } }
      let ttl := f.ttl.toNat - 1
      let s := if ttl = 0 then s else
        (s.floodPorts n false).foldl (fun s m => s.egress m { f with ttl := BitVec.ofNat 8 ttl } none) s
      s.markConflicts.topoShow

/-- A stored LSA is not refreshed for 10 s (R489). -/
def State.lsaAge (s : State) (origin uid : Nat) : State :=
  ({ s with fab := { s.fab with lsas := s.fab.lsas.filter (fun l => !(l.origin == origin && l.uid == uid)) } }).topoShow

/-- 10 s after one of the LSAs has aged out, the mark ends (R492). -/
def State.conflictOver (s : State) (a : Nat) : State :=
  let all := (s.ownAddr, Config.moduleUid.toNat) :: s.fab.lsas.map (fun l => (l.origin, l.uid))
  if !s.conflicted a || all.any (fun x => x.1 == a && all.any (fun y => y.1 == a && y.2 != x.2)) then s else
  let s := { s with fab := { s.fab with conflicts := s.fab.conflicts.filter (· != a) } }
  let s := s.wr (routeWord a 0) 0
  if a = s.ownAddr then s.latchFault Pg.FAB Flt.FAB_ADDR_CONFLICT else s

/-! ### Route computation -/

/-- A link of the mesh: from, to, cost, port. -/
abbrev MeshLink := Nat × Nat × Nat × Nat

/-- Links that both ends advertise (R490). -/
def State.mesh (s : State) : List MeshLink :=
  let adv := (s.ownLinks.map (fun l => ((s.ownAddr, l.1, l.2.1, l.2.2) : MeshLink))) ++
    s.fab.lsas.flatMap (fun r => r.links.map (fun l => ((r.origin, l.1, l.2.1, l.2.2) : MeshLink)))
  adv.filter (fun e => adv.any (fun b => b.1 == e.2.1 && b.2.1 == e.1))

/-- A path found so far: cost, hops, first port. -/
abbrev PathTo := Nat × Nat × Nat

/-- The better of two paths: less cost, then fewer hops, then the lower port (R490). -/
def betterPath (a b : PathTo) : Bool :=
  if a.1 ≠ b.1 then decide (a.1 < b.1) else if a.2.1 ≠ b.2.1 then decide (a.2.1 < b.2.1) else decide (a.2.2 < b.2.2)

/-- One relaxation of a link against the best paths from `root`. -/
def relax (root : Nat) (d : List (Nat × PathTo)) (e : MeshLink) : List (Nat × PathTo) :=
  match d.find? (fun x => x.1 == e.1) with
  | none => d
  | some (_, c, h, p) =>
    let new : PathTo := (c + max 1 e.2.2.1, h + 1, if e.1 = root then e.2.2.2 else p)
    match d.find? (fun x => x.1 == e.2.1) with
    | none => (e.2.1, new) :: d
    | some (_, old) => if betterPath new old then d.map (fun x => if x.1 = e.2.1 then (x.1, new) else x) else d

/-- Best paths from a node after `k` rounds over every link. -/
def pathsFrom (links : List MeshLink) (root : Nat) : Nat → List (Nat × PathTo)
  | 0 => [(root, 0, 0, 7)]
  | k + 1 => links.foldl (relax root) (pathsFrom links root k)

/-- The cost from a node to another. -/
def costTo (d : List (Nat × PathTo)) (a : Nat) : Option Nat := (d.find? (fun x => x.1 == a)).map (fun x => x.2.1)

/-- Primary and alternate ports of every destination, and the route table in one step (R490, R493). -/
def State.computeRoutes (s : State) : State :=
  if !(s.fabRuns && s.appUp) then s else
  let links := s.mesh
  let rounds := s.fab.lsas.length + 1
  let me := s.ownAddr
  let own := pathsFrom links me rounds
  let nbrs := (s.ownLinks.filter (fun l => links.any (fun e => e.1 == me && e.2.1 == l.1 && e.2.2.2 == l.2.2))).map
    (fun l => (l.1, l.2.2, pathsFrom links l.1 rounds))
  let s := { s with regs := s.regs.filter (fun e => !(decide (0x88000 ≤ e.1 ∧ e.1 < 0x90000)) || e.1 % 32 == 24) }
  let s := s.fab.lsas.foldl (fun (s : State) (l : LsaRec) =>
    match own.find? (fun x => x.1 == l.origin) with
    | none => s
    | some (_, c, h, p) =>
      let alt := nbrs.find? (fun x => x.2.1 != p && (match costTo x.2.2 l.origin, costTo x.2.2 me with
        | some nd, some nm => decide (nd < nm + c)
        | _, _ => false))
      let w0 := 2 ^ 31 + 2 ^ 28 + p * 2 ^ 24 + ((alt.map (fun x => x.2.1)).getD 7) * 2 ^ 20 + (h % 256) * 256
      let s := (s.wr (routeWord l.origin 0) w0).wr (routeWord l.origin 1) (min 65535 c)
      (s.wr64 (routeWord l.origin 2) l.uid).wr (routeWord l.origin 4) l.seq) s
  let s := (s.wr (routeWord me 0) (2 ^ 31 + 2 * 2 ^ 28 + 5 * 2 ^ 24 + 7 * 2 ^ 20)).wr64 (routeWord me 2) Config.moduleUid.toNat
  let s := s.fab.conflicts.foldl (fun (s : State) (a : Nat) =>
    s.wr (routeWord a 0) (2 ^ 31 + 3 * 2 ^ 28 + 7 * 2 ^ 24 + 7 * 2 ^ 20)) s
  (s.bump ⟨Reg.FAB_TOPO, 16, 16⟩).irq Pg.FAB Irq.FAB_ROUTE

/-! ### Gong -/

/-- Enter a pair; the table holds the last 64 (R519). -/
def State.enterPair (s : State) (x : Nat × Nat) : State := { s with fab := { s.fab with pairs := (x :: s.fab.pairs).take 64 } }

/-- Originate a Gong (R519, R521). -/
def State.originateGong (s : State) (reason : Nat) : State :=
  if !s.fabRuns then s else
  let q := (s.fab.gseq + 1) % 65536
  let s := ({ s with fab := { s.fab with gseq := q } }).enterPair (s.ownAddr, q)
  let f := s.mkFrame 0 5 0x3FF (beBytes 2 s.ownAddr ++ beBytes 2 q ++ beBytes 1 reason ++ beBytes 1 0xFF ++ beBytes 2 0 ++
    beBytes 4 (clockNs s.tim.pt))
  (s.floodPorts 99 true).foldl (fun s n => s.sendFrame n f) s

/-- SAFETY_STOP0 has been raised (R521). -/
def State.gongOnStop (s : State) : State := if s.on Fld.FAB_GONG_AUTOSAF then s.originateGong 1 else s

/-- A Gong frame (R519, R520). -/
def State.gongIn (s : State) (n : Nat) (f : FabFrame) : State :=
  match s.receive n f with
  | (s, false) => s
  | (s, true) =>
    if f.type.toNat ≠ 5 ∨ f.payload.length ≠ 12 ∨ n = 4 then s.laneDiscard n (Reg.FP_CNT_DISC n) else
    let origin := beAt f.payload 0 2
    let gseq := beAt f.payload 2 2
    let zone := beAt f.payload 5 1
    if s.fab.pairs.contains (origin, gseq) then s.bump Fld.FAB_GONGCNT_DUP else
    let s := (s.enterPair (origin, gseq)).bump Fld.FAB_GONGCNT_RX
    let ttl := f.ttl.toNat - 1
    let s := if ttl = 0 then s else (s.floodPorts n true).foldl (fun s m => s.sendFrame m { f with ttl := BitVec.ofNat 8 ttl }) s
    if zone ≠ 0xFF ∧ zone ≠ s.get Fld.FAB_CFG_ZONE then s else
    let s := ((s.put Fld.FAB_GONGSTAT_ORIGIN origin).put Fld.FAB_GONGSTAT_REASON (beAt f.payload 4 1)).put Fld.FAB_GONGSTAT_GSEQ gseq
    let s := s.irq Pg.FAB Irq.FAB_GONG
    let masked := !s.on Fld.PRT_CFG_GONGEN
    let s := if masked then s else s.snareBy 0x1E
    (s.fault Pg.FAB Flt.GONG 0 0 masked).markEvent Flt.GONG

/-- A pair leaves the table after 10 s (R519). -/
def State.pairExpires (s : State) (origin gseq : Nat) : State :=
  { s with fab := { s.fab with pairs := s.fab.pairs.filter (fun x => !(x == (origin, gseq))) } }

/-! ### Keys -/

/-- A word of a link key is written; the highest word installs it (R485). -/
def State.keyWord (s : State) (o : Origin) (n k i : Nat) (w : Word) : State :=
  let words := updAt (((s.lane n).keyWords[k]?).getD []) i (fun _ => w)
  let s := s.modLane n (fun l => { l with keyWords := updAt l.keyWords k (fun _ => words) })
  if i ≠ 3 then s else
  let key := BitVec.ofNat 128 (words.foldl (fun a x => a * 2 ^ 32 + x.toNat) 0)
  let s := s.modLane n (fun l => { l with keys := updAt l.keys k (fun _ => some key), keyWords := updAt l.keyWords k (fun _ => [0, 0, 0, 0]) })
  let s := s.setOn (if k = 0 then Fld.FP_KEYCTL_VALID0 n else Fld.FP_KEYCTL_VALID1 n) true
  (s.irq (lanePage n) Irq.FP_KEYINST).audit 7 o (if k = 0 then Reg.FP_KEY0 n 3 else Reg.FP_KEY1 n 3) 0 (n * 2 ^ 16 + k * 2 ^ 8 + s.keyLabel n k)

/-- A key slot is cleared (R485). -/
def State.clearKey (s : State) (o : Origin) (n k : Nat) : State :=
  let s := s.modLane n (fun l => { l with keys := updAt l.keys k (fun _ => none), keyWords := updAt l.keyWords k (fun _ => [0, 0, 0, 0]) })
  let s := s.setOn (if k = 0 then Fld.FP_KEYCTL_VALID0 n else Fld.FP_KEYCTL_VALID1 n) false
  s.audit 7 o (Reg.FP_KEYCTL n) 0 (n * 2 ^ 16 + k * 2 ^ 8 + s.keyLabel n k)

/-- A word of a role key is written; the last word installs it (R508). -/
def State.roleWord (s : State) (o : Origin) (r i : Nat) (w : Word) : State :=
  let words := updAt ((s.fab.roleWords[r]?).getD []) i (fun _ => w)
  let s := { s with fab := { s.fab with roleWords := updAt s.fab.roleWords r (fun _ => words) } }
  if i ≠ 3 then s else
  let key := BitVec.ofNat 128 (words.foldl (fun a x => a * 2 ^ 32 + x.toNat) 0)
  let s := { s with fab := { s.fab with roleKeys := updAt s.fab.roleKeys r (fun _ => some key)
                                        roleWords := updAt s.fab.roleWords r (fun _ => [0, 0, 0, 0]) } }
  (s.setBit Reg.FAB_RKEYV r true).audit 7 o (0x800FC + 16 * r) 0 r

/-- TXKEY has changed (R485). -/
def State.txKeyChanged (s : State) (n : Nat) : State := if s.laneOn n then s.restartLink n else s

/-- FPn_CMD (R526). -/
def State.laneCommand (s : State) (n op : Nat) : State :=
  if op = 1 then (if s.laneOn n && s.laneState n ≠ 5 then s.restartLink n else s)
  else if op = 2 then s.isolatePort n
  else if op = 3 then (if s.laneState n = 5 then s.restartLink n else s)
  else s

/-- 60 s of isolation (R501). -/
def State.isolationOver (s : State) (n : Nat) : State := if s.laneState n = 5 then s.restartLink n else s

/-- CLEAR_COUNTS (R523). -/
def State.fabClear (s : State) : State := ((s.wr Reg.FAB_DCNT 0).wr Reg.FAB_GONGCNT 0).wr Reg.FAB_AUTHCNT 0

/-- FAB_CMD (R523). -/
def State.fabCommand (s : State) (op reason : Nat) : State :=
  if op = 1 then s.computeRoutes else if op = 2 then s.originateGong reason else if op = 3 then s.fabClear else s

/-! ### Answers to service messages -/

/-- Class that the answers of a service travel in (R504, R628, R681). -/
def svcClass (svc : Nat) : Nat := if svc = 4 then 1 else if svc = 0x201 ∨ svc = 0x303 ∨ svc = 0x308 then 3 else 2

/-- A response or notice (R502): `flag` is byte 4. -/
def messageBytes (svc token flag status : Nat) (body : List Byte) : List Byte :=
  beBytes 2 svc ++ beBytes 2 token ++ beBytes 1 flag ++ beBytes 1 status ++ beBytes 2 body.length ++ body

/-- A response stands in `HST_SRSP`, and its completion is shown (R63). -/
def State.hostAnswer (s : State) (m : List Byte) : State :=
  let w := packWords ((m.length + 3) / 4) m
  let s := (List.range w.length).foldl (fun (s : State) k => s.setWord (Reg.HST_SRSP k) (w.getD k 0)) s
  (s.wr Reg.HST_SSTAT (2 ^ 30 + m.length % 2048)).irq Pg.HST Irq.HST_SERVICE

/-- An answer goes back the way its request came (R63, R502). -/
def State.respond (s : State) (q : Req) (svc status : Nat) (body : List Byte) : State :=
  let m := messageBytes svc q.token.toNat 0x80 status body
  let s := s.emit (.answer q svc status body)
  match q.origin with
  | .host => s.hostAnswer m
  | .fabric n => s.routeFrame (s.mkFrame (svcClass svc) 4 n.toNat m) none
  | _ => s

end Sys2Proof.Machine
end

