-- ==== Sys2Proof/Machine/Island.lean ====
section
/-! DEFINITION. The safety island: inputs, functions, outputs, parameters and slot handover (R417 to R456), and the safety
layer's connections (R457 to R477). -/

namespace Sys2Proof.Machine

/-! ### Signals -/

/-- Change the hidden state of the island. -/
def State.modIsl (s : State) (f : IslandState → IslandState) : State := { s with isl := f s.isl }

/-- Change the hidden state of connection `n`. -/
def State.modConn (s : State) (n : Nat) (f : SclConn → SclConn) : State :=
  { s with scl := { s.scl with conns := updAt s.scl.conns n f } }

/-- Hidden state of connection `n`. -/
def State.conn (s : State) (n : Nat) : SclConn := (s.scl.conns[n]?).getD sclConnReset

/-- DEENERGISED (R418). -/
def State.deenergised (s : State) : Bool := s.allOpen && !s.switching

/-- STOPDONE: the converter not switching and the main pair reading open (R418). -/
def State.stopIsDone (s : State) : Bool := !s.switching && s.pairOpen 8

/-- The island is in RUN (R454). -/
def State.islandRuns (s : State) : Bool := s.get Fld.SFI_STAT_STATE == 4

/-- State of function `n` in SFI_FUNC: 0 PERMIT, 1 STOPPING, 2 STOPPED, 3 AWAIT_RESET. -/
def fnField (n : Nat) : RegField := ⟨Reg.SFI_FUNC, 2 * n, 2⟩

/-- State of function `n`. -/
def State.fnState (s : State) (n : Nat) : Nat := s.get (fnField n)

/-- Input `n` carries an emergency stop, a door or a light curtain (R426). -/
def State.isStop (s : State) (n : Nat) : Bool := 1 ≤ s.get (Fld.SFI_INCFG_TYPE n) && s.get (Fld.SFI_INCFG_TYPE n) ≤ 3

/-- Filtered level of a channel, 0 for A (R422). -/
def State.filtered (s : State) (n c : Nat) : Bool := bitOf (s.get (if c = 0 then Fld.SFI_INSTAT_A2 else Fld.SFI_INSTAT_B2)) n

/-- A channel stands at its safe level (R421). -/
def State.chanSafe (s : State) (n c : Nat) : Bool :=
  s.filtered n c == (c == 1 && s.get (Fld.SFI_INCFG_FORM n) == 1)

/-- Either channel of an input is safe (R424, R426). -/
def State.inputSafe (s : State) (n : Nat) : Bool := s.chanSafe n 0 || s.chanSafe n 1

/-- An input holds a discrepancy fault or an input fault (R423, R424, R429). -/
def State.inputFaulty (s : State) (n : Nat) : Bool :=
  bitOf (s.get Fld.SFI_INFLT_DISC) n || bitOf (s.get Fld.SFI_INFLT_TPF) n || bitOf s.isl.stuck n

/-- CRC-32C over 256 bytes of a page from 0x100 (R442). -/
def State.blockCrc (s : State) (base : Nat) : Word :=
  crc32c ((List.range 64).flatMap (fun k => beBytes 4 (s.rd (base + 0x100 + 4 * k))))

/-- SFI_PCV (R442). -/
def State.sfiPcv (s : State) : Word := s.blockCrc 0x70000

/-- SCL_PCV. -/
def State.sclPcv (s : State) : Word := s.blockCrc 0x71000

/-! ### Connections seen by the functions -/

/-- Connection `n` is an enabled consumer. -/
def State.isConsumer (s : State) (n : Nat) : Bool := s.on (Fld.SCL_CCFG_EN n) && !s.on (Fld.SCL_CCFG_ROLE n)

/-- Connection `n` is an enabled producer. -/
def State.isProducer (s : State) (n : Nat) : Bool := s.on (Fld.SCL_CCFG_EN n) && s.on (Fld.SCL_CCFG_ROLE n)

/-- SFI_SCLMAP names connections (R459). -/
def State.sclMapped (s : State) : Bool := s.rd Reg.SFI_SCLMAP != 0

/-- The SCL block is invalid (R474). -/
def State.sclBad (s : State) : Bool :=
  let en := (List.range 8).filter (fun n => s.on (Fld.SCL_CCFG_EN n))
  (List.range 8).any (fun n =>
    let cfg := s.rd (Reg.SCL_CCFG n)
    let tim := s.rd (Reg.SCL_CTIM n)
    let net := fun (a : Nat) => bitsOf (s.rd a) 30 2 == 3 || bitsOf (s.rd a) 10 20 != 0 ||
      (bitsOf (s.rd a) 30 2 != 0 && bitsOf (s.rd a) 7 3 != 0)
    let per := s.get (Fld.SCL_CTIM_PERIOD n)
    let wdt := s.get (Fld.SCL_CTIM_WDT n)
    let win := s.get (Fld.SCL_CTIM_CMPWIN n)
    bitsOf cfg 20 7 != 0 || bitsOf cfg 12 4 != 0 || bitsOf tim 28 4 != 0 || net (Reg.SCL_CNET1 n) || net (Reg.SCL_CNET2 n) ||
    s.get (Fld.SCL_CCFG_SEQWIN n) == 0 ||
    per < 1 || 100 < per || wdt < 4 || 1000 < wdt || wdt < 2 * per || win < 1 || 50 < win || s.rd (Reg.SCL_CCFG n + 0x14) != 0) ||
  en.any (fun n =>
    let id := s.rd (Reg.SCL_CID n)
    id == 0 || id == 0xFFFFFFFF ||
    en.any (fun m => m != n && s.rd (Reg.SCL_CID m) == id && s.on (Fld.SCL_CCFG_ROLE m) == s.on (Fld.SCL_CCFG_ROLE n)) ||
    (s.on (Fld.SCL_CCFG_COMPAT n) && s.rd (Reg.SCL_CNET1 n) == s.rd (Reg.SCL_CNET2 n)) ||
    (if s.on (Fld.SCL_CCFG_ROLE n) then s.get (Fld.SCL_CCFG_FMASK n) != 0 || s.get (Fld.SCL_CCFG_OUTMASK n) != 0
     else s.get (Fld.SCL_CCFG_FMASK n) == 0)) ||
  (List.range 15).any (fun k => s.rd (0x711C0 + 4 * k) != 0) ||
  s.rd Reg.SCL_PBFMT != 1

/-- The island uses its connections (R459). -/
def State.sclUsed (s : State) : Bool :=
  s.sclMapped && s.word Reg.SFI_SCLMAP == s.sclPcv && s.islandRuns && s.ens Pg.SCL && !s.sclBad

/-- The PERMIT that a connection delivers (R458). -/
def State.connPermit (s : State) (n : Nat) : Bool := s.on (Fld.SCL_CSTAT_PERMIT n)

/-- A consumed connection with STOP delivers PERMIT 0 (R458). -/
def State.connStops (s : State) : Bool :=
  s.sclMapped && (List.range 8).any (fun n => s.isConsumer n && s.on (Fld.SCL_CCFG_STOP n) && !s.connPermit n)

/-! ### Stop line and stop request -/

/-- The stop line and the category 1 stop request follow the functions (R419, R427, R428, R458). -/
def State.islandLines (s : State) : State :=
  let run := s.islandRuns
  let stop := s.get Fld.SFI_STAT_STATE == 5 || run && (s.isl.lineBy != 0 || s.connStops)
  let req := run && (List.range 8).any (fun n => s.isStop n && s.on (Fld.SFI_INCFG_CAT n) && (s.fnState n == 1 || s.fnState n == 2))
  let was := s.on Fld.SFI_STAT_ISTOP
  let wasReq := s.on Fld.SFI_FUNC_STOP1REQ
  let s := ((s.setOn Fld.SFI_STAT_ISTOP stop).setOn Fld.SFI_FUNC_ISTOP stop).setOn Fld.SFI_FUNC_STOP1REQ req
  let s := if stop && !was then ((s.snareBy 0x18).fault Pg.SFI Flt.SAFETY_STOP0 0).gongOnStop
    else if !stop && was then s.latchFault Pg.SFI Flt.SAFETY_STOP0 else s
  if req && !wasReq then s.fault Pg.SFI Flt.SAFETY_STOP1 0
  else if !req && wasReq then s.latchFault Pg.SFI Flt.SAFETY_STOP1 else s

/-- Enter a function state; `line` is whether its STOPPED asserts the stop line. -/
def State.setFn (s : State) (n v : Nat) (line : Bool) : State :=
  let s := s.put (fnField n) v
  s.modIsl (fun x => { x with lineBy := putBit x.lineBy n line, t1Left := if v = 1 then x.t1Left else smErase n x.t1Left })

/-- The function returns to PERMIT. -/
def State.fnPermit (s : State) (n : Nat) : State := (s.setFn n 0 false).irq Pg.SFI Irq.SFI_PERMIT

/-- A function leaves PERMIT or AWAIT_RESET toward its stop (R427 to R429). -/
def State.leavePermit (s : State) (n : Nat) : State :=
  if !(s.islandRuns && s.isStop n && (s.fnState n == 0 || s.fnState n == 3)) then s else
  let s := if s.on (Fld.SFI_INCFG_CAT n) then
      (s.setFn n 1 false).modIsl (fun x => { x with t1Left := smInsert n (s.get ⟨Reg.SFI_T1, 0, 16⟩) x.t1Left })
    else s.setFn n 2 true
  (s.irq Pg.SFI Irq.SFI_STOP).islandLines

/-- A function in STOPPED whose input is no longer safe and holds no fault goes on (R429). -/
def State.afterStop (s : State) (n : Nat) (cycle : Bool) : State :=
  if !(s.islandRuns && s.isStop n && s.fnState n == 2 && !s.inputSafe n && !s.inputFaulty n) then s else
  if s.on (Fld.SFI_INCFG_AUTO n) && s.get (Fld.SFI_INCFG_TYPE n) != 1 then (if cycle then s.fnPermit n else s)
  else s.setFn n 3 false

/-! ### Outputs -/

/-- Channel 2m + c of OUTSTAT's commanded bits. -/
def outCmd (ch : Nat) : RegField := ⟨Reg.SFI_OUTSTAT, 4 * (ch % 2) + ch / 2, 1⟩

/-- Channel 2m + c of OUTSTAT's readback bits. -/
def outRb (ch : Nat) : RegField := ⟨Reg.SFI_OUTSTAT, 8 + 4 * (ch % 2) + ch / 2, 1⟩

/-- Ball of an output channel. -/
def outBall (ch : Nat) : String := "SFI_OUT" ++ toString (ch / 2) ++ (if ch % 2 = 0 then "_A" else "_B")

/-- Command a channel, and its ball with it; an off demand discards the verdict of a pulse that is running or being checked (R434, R439). -/
def State.driveChan (s : State) (ch : Nat) (b : Bool) : State :=
  if s.on (outCmd ch) == b then s else
  let s := (s.setOn (outCmd ch) b).emit (.ball (outBall ch) b)
  s.modIsl (fun x => { x with
    changed := smInsert ch (s.rd Reg.SFI_CYCLE) x.changed
    wrong := smErase ch x.wrong
    rim := x.rim.map (fun (r : Nat × RimPulse) =>
      if r.1 = ch ∧ b = false then (r.1, { r.2 with disc := true }) else r) })

/-- Command both channels of output `m`. -/
def State.driveOut (s : State) (m : Nat) (b : Bool) : State := (s.driveChan (2 * m) b).driveChan (2 * m + 1) b

/-- COILOUT's output is followed across a change, so that R388 sees when it was last off. -/
def State.coilSeen (s0 : State) (s : State) : State :=
  if s0.coilIsOff && !s.coilIsOff then { s with ctk := { s.ctk with coilOff := some s.now } } else s

/-- Every output channel off. -/
def State.outputsOff (s : State) : State := s.each 4 (fun s m => s.driveOut m false)

/-- An output fault (R440). -/
def State.outFault (s : State) (m : Nat) : State :=
  if bitOf (s.get Fld.SFI_OUTSTAT_FAULT) m then s else
  let s := (s.put Fld.SFI_OUTSTAT_FAULT (putBit (s.get Fld.SFI_OUTSTAT_FAULT) m true)).driveOut m false
  (s.irq Pg.SFI Irq.SFI_OUTFAULT).fault Pg.SFI Flt.SFI_OUTPUT_FAULT m

/-- The readbacks of a safety cycle (R436). -/
def State.checkReadback (s : State) (ch : Nat) : State :=
  let m := ch / 2
  if !s.on (Fld.SFI_OUTCFG_EN m) || bitOf (s.get Fld.SFI_OUTSTAT_FAULT) m || s.isl.rim.any (fun r => r.1 == ch) then s else
  if s.on (outRb ch) == s.on (outCmd ch) then s.modIsl (fun x => { x with wrong := smErase ch x.wrong }) else
  let near := match s.isl.changed.find? (fun x => x.1 == ch) with
    | none => false
    | some (_, c) => decide (100 * (s.rd Reg.SFI_CYCLE - c - 1) ≤ s.rd (Reg.SFI_OUTTIM m) % 256)
  if near then s.modIsl (fun x => { x with wrong := smErase ch x.wrong }) else
  let k := smGet (fun _ => (0 : Nat)) s.isl.wrong ch + 1
  if k ≥ 2 then (s.modIsl (fun x => { x with wrong := smErase ch x.wrong })).outFault m
  else s.modIsl (fun x => { x with wrong := smInsert ch k x.wrong })

/-- Maintenance enable is granted (R432). -/
def State.granted (s : State) : Bool := s.isl.grants != 0

/-- Output `m` is on at the end of a cycle (R433, R434, R458, R645). -/
def State.outWanted (s : State) (m : Nat) : Bool :=
  s.islandRuns && decide (s.svc.state ≠ .recovery) && s.on (Fld.SFI_OUTCFG_EN m) &&
  (List.range 8).all (fun n => !s.bit (Reg.SFI_OUTCFG m) n || s.fnState n ≤ 1) &&
  !bitOf (s.get Fld.SFI_OUTSTAT_FAULT) m &&
  !(s.on (Fld.SFI_OUTCFG_MAINTOFF m) && s.granted) &&
  (!s.on (Fld.SFI_OUTCFG_MAINTON m) || (s.granted && s.isl.deenDone)) &&
  (!s.sclMapped || (List.range 8).all (fun n =>
    !(s.isConsumer n && bitOf (s.get (Fld.SCL_CCFG_OUTMASK n)) m) || s.connPermit n))

/-- Every MAINTOFF output is off, and there is one. -/
def State.maintOffs (s : State) : Bool :=
  let l := (List.range 4).filter (fun m => s.on (Fld.SFI_OUTCFG_MAINTOFF m))
  !l.isEmpty && l.all (fun m => !s.on (outCmd (2 * m)) && !s.on (outCmd (2 * m + 1)))

/-- The outputs at the end of a cycle (R434). -/
def State.writeOutputs (s : State) : State :=
  let w := maskOf 4 s.outWanted
  let s := s.each 4 (fun s m => s.driveOut m (bitOf w m))
  s.modIsl (fun x => { x with deenDone := x.deenDone && s.maintOffs })

/-! ### Maintenance enable -/

/-- A hand is actuated and holds no fault (R432). -/
def State.handOn (s : State) (n : Nat) : Bool := !s.inputSafe n && !s.inputFaulty n

/-- The grant of a pair ends (R22, R432, R433). -/
def State.endGrant (s : State) (p : Nat) : State :=
  if !bitOf s.isl.grants p then s else
  let s := s.modIsl (fun x => { x with grants := putBit x.grants p false })
  if s.granted then s else
  let s := (s.setOn Fld.SFI_FUNC_GRANT false).setOn Fld.SFI_STAT_MAINT false
  let s := s.each 4 (fun s m => if s.on (Fld.SFI_OUTCFG_MAINTON m) then s.driveOut m false else s)
  if s.svc.state = .maintenance then s.setSvc .ready else s

/-- A pair is granted (R22, R432). -/
def State.grantPair (s : State) (p : Nat) : State :=
  let s := s.modIsl (fun x => { x with grants := putBit x.grants p true })
  let s := ((s.setOn Fld.SFI_FUNC_GRANT true).setOn Fld.SFI_STAT_MAINT true).irq Pg.SFI Irq.SFI_MAINT
  if s.svc.state = .ready then s.setSvc .maintenance else s

/-- A hand of pair `p` has moved (R432). A hand's function stands in PERMIT while it is actuated, else in STOPPED. -/
def State.handMoved (s : State) (p : Nat) : State :=
  let a := s.handOn (2 * p)
  let b := s.handOn (2 * p + 1)
  let s := (s.put (fnField (2 * p)) (if a then 0 else 2)).put (fnField (2 * p + 1)) (if b then 0 else 2)
  let cycle := s.rd Reg.SFI_CYCLE
  let first := smGet (fun _ => cycle) s.isl.handAt p
  let quick := decide (cycle ≤ first + s.get ⟨Reg.SFI_HAND, 0, 16⟩)
  if a && b then
    if bitOf s.isl.grants p then s else
    let ok := bitOf s.isl.handsUp p && quick && s.deenergised
    let s := s.modIsl (fun x => { x with handsUp := putBit x.handsUp p false })
    if ok then s.grantPair p else s
  else
    let s := s.endGrant p
    if s.inputSafe (2 * p) && s.inputSafe (2 * p + 1) then
      s.modIsl (fun x => { x with handsUp := putBit x.handsUp p true, handAt := smErase p x.handAt })
    else if (a || b) && !(s.isl.handAt.any (fun x => x.1 == p)) then
      s.modIsl (fun x => { x with handAt := smInsert p cycle x.handAt })
    else s

/-! ### Inputs -/

/-- What a change of an input or of its faults does to its function. -/
def State.inputMoved (s : State) (n : Nat) (wasSafe wasFaulty : Bool) : State :=
  if s.get (Fld.SFI_INCFG_TYPE n) = 4 then s.handMoved (n / 2)
  else
    let toward := s.inputSafe n && !wasSafe || s.inputFaulty n && !wasFaulty
    ((if toward then s.leavePermit n else s).afterStop n false).islandLines

/-- An input's latched fault clears when the conditions of R425 are met. -/
def State.clearInput (s : State) (n : Nat) : State :=
  let tpf := bitOf (s.get Fld.SFI_INFLT_TPF) n
  let disc := bitOf (s.get Fld.SFI_INFLT_DISC) n
  let both := bitOf s.isl.followed (2 * n) && bitOf s.isl.followed (2 * n + 1)
  if !(bitOf s.isl.seenSafe n && !s.chanSafe n 0 && !s.chanSafe n 1) then s else
  let s := if disc then (s.put Fld.SFI_INFLT_DISC (putBit (s.get Fld.SFI_INFLT_DISC) n false)).endInstance Pg.SFI Flt.SFI_DISCREPANCY n else s
  if tpf && both then (s.put Fld.SFI_INFLT_TPF (putBit (s.get Fld.SFI_INFLT_TPF) n false)).endInstance Pg.SFI Flt.SFI_INPUT_FAULT n else s

/-- A reset device is pressed: both channels stand at their non-safe levels (R429). -/
def State.pressed (s : State) (n : Nat) : Bool := !s.chanSafe n 0 && !s.chanSafe n 1

/-- The press of a reset device is timed in safety cycles (R429; log 17). -/
def State.notePress (s : State) (n : Nat) (was : Bool) : State :=
  if s.get (Fld.SFI_INCFG_TYPE n) ≠ 5 || was == s.pressed n then s
  else if was then
    s.modIsl (fun x => { x with
      pressedFor := smInsert n (s.rd Reg.SFI_CYCLE - smGet (fun _ => s.rd Reg.SFI_CYCLE) x.pressedAt n) x.pressedFor
      pressedAt := smErase n x.pressedAt })
  else s.modIsl (fun x => { x with pressedAt := smInsert n (s.rd Reg.SFI_CYCLE) x.pressedAt, pressedFor := smErase n x.pressedFor })

/-- A channel has a raw level, and takes it as its filtered level once it has stood for FILT (R422, R424 to R432). -/
def State.filteredEdge (s : State) (n c : Nat) (x : RawLevel) : State :=
  let wasSafe := s.inputSafe n
  let wasFaulty := s.inputFaulty n
  let wasPressed := s.pressed n
  let raw := if c = 0 then Fld.SFI_INSTAT_A else Fld.SFI_INSTAT_B
  let fil := if c = 0 then Fld.SFI_INSTAT_A2 else Fld.SFI_INSTAT_B2
  let s := s.put raw (putBit (s.get raw) n x.level)
  if x.held10us < 10 * s.get (Fld.SFI_INTIM_FILT n) then s else
  let s := (s.put fil (putBit (s.get fil) n x.level)).notePress n wasPressed
  if !(s.islandRuns && s.get (Fld.SFI_INCFG_TYPE n) != 0) then s else
  let s := if s.chanSafe n 0 && s.chanSafe n 1 then
      let s := s.modIsl (fun x => { x with seenSafe := if wasFaulty then putBit x.seenSafe n true else x.seenSafe })
      if bitOf s.isl.stuck n then
        (s.modIsl (fun x => { x with stuck := putBit x.stuck n false })).endInstance Pg.SFI Flt.SFI_INPUT_FAULT n
      else s
    else s.clearInput n
  s.inputMoved n wasSafe wasFaulty

/-- An input fault (R423, R429). -/
def State.inputFault (s : State) (n : Nat) : State :=
  (s.irq Pg.SFI Irq.SFI_INFAULT).fault Pg.SFI Flt.SFI_INPUT_FAULT n

/-- One channel at a pulse of `source` (R423): a channel that reads high must read low in its own pulse and not in the
other's. -/
def State.testChannel (s : State) (source n c : Nat) (level : Bool) : State × Bool :=
  if !s.filtered n c then (s, false) else
  let own := source == c
  let bad := if own then level else !level
  let key := 4 * n + 2 * c + bitNat (!own)
  let k := smGet (fun _ => (0 : Nat)) s.isl.miss key + 1
  let s := s.modIsl (fun x => { x with
    miss := if bad then smInsert key (min 2 k) x.miss else smErase key x.miss
    followed := if own && !bad then putBit x.followed (2 * n + c) true else x.followed })
  (s, bad && decide (k ≥ 2))

/-- A test-pulse source has pulsed low; bit n of the levels is what channel A or B of input n read (R423). -/
def State.testPulses (s : State) (source a b : Nat) : State :=
  let ball := if source = 0 then "SFI_TPA" else "SFI_TPB"
  let s := (s.emit (.ball ball false)).emit (.ball ball true)
  if !s.islandRuns then s else
  s.each 8 (fun s n =>
    if !(s.on (Fld.SFI_INCFG_TP n) && s.get (Fld.SFI_INCFG_TYPE n) != 0) then s else
    let wasFaulty := s.inputFaulty n
    let safe := s.inputSafe n
    let x := s.testChannel source n 0 (bitOf a n)
    let y := x.1.testChannel source n 1 (bitOf b n)
    let s := y.1
    let s := if (x.2 || y.2) && !bitOf (s.get Fld.SFI_INFLT_TPF) n then
        (((s.put Fld.SFI_INFLT_TPF (putBit (s.get Fld.SFI_INFLT_TPF) n true)).modIsl (fun z => { z with
          seenSafe := putBit z.seenSafe n false
          followed := putBit (putBit z.followed (2 * n) false) (2 * n + 1) false })).inputFault n)
      else s.clearInput n
    s.inputMoved n safe wasFaulty)

/-- A disagreement has lasted DISC (R424). -/
def State.discrepancy (s : State) (n : Nat) : State :=
  if !(s.islandRuns && s.get (Fld.SFI_INCFG_TYPE n) != 0 && s.chanSafe n 0 != s.chanSafe n 1) ||
    bitOf (s.get Fld.SFI_INFLT_DISC) n then s else
  let safe := s.inputSafe n
  let faulty := s.inputFaulty n
  let s := s.put Fld.SFI_INFLT_DISC (putBit (s.get Fld.SFI_INFLT_DISC) n true)
  let s := s.modIsl (fun x => { x with seenSafe := putBit x.seenSafe n false })
  ((s.irq Pg.SFI Irq.SFI_DISCREPANCY).fault Pg.SFI Flt.SFI_DISCREPANCY n).inputMoved n safe faulty

/-- T1 of function `n` expires (R428). -/
def State.t1Over (s : State) (n : Nat) : State :=
  if s.islandRuns && s.isStop n && s.fnState n == 1 then (s.setFn n 2 true).islandLines else s

/-- STOPDONE ends category 1 stops without the stop line (R428). -/
def State.stopDoneRises (s : State) : State :=
  if !(s.islandRuns && s.stopIsDone) then s else
  (s.each 8 (fun s n => if s.isStop n && s.fnState n == 1 then (s.setFn n 2 false).afterStop n false else s)).islandLines

/-! ### Connections -/

/-- Reserve a place for a PDU toward the SYS domain; a full queue drops it (R467). -/
def State.sclQueue (s : State) (n : Nat) (net : Nat) (pdu : List Byte) : State :=
  if s.scl.txq.length ≥ 16 then s.bump (Fld.SCL_CCNT_DISC n)
  else { s with scl := { s.scl with txq := s.scl.txq ++ [(bitsOf net 30 2, bitsOf net 0 10, pdu)] } }

/-- A PDU of R460. -/
def sclPdu (kind net id seq stamp texp sdata : Nat) : List Byte :=
  let b := beBytes 1 (16 + kind) ++ beBytes 1 net ++ beBytes 2 0 ++ beBytes 4 id ++ beBytes 4 seq ++ beBytes 2 stamp ++
    beBytes 2 texp ++ beBytes 4 sdata
  b ++ beBytes 4 (crc32c b).toNat

/-- Send a PDU on a connection, on both networks in compatibility mode (R460, R466, R471). -/
def State.sclSend (s : State) (n kind seq sdata : Nat) : State :=
  let pdu := fun (net : Nat) => sclPdu kind net (s.rd (Reg.SCL_CID n)) seq (s.rd Reg.SFI_CYCLE % 65536) (s.conn n).stamp sdata
  let s1 := s.sclQueue n (s.rd (Reg.SCL_CNET1 n)) (pdu 0)
  if s.on (Fld.SCL_CCFG_COMPAT n) then s1.sclQueue n (s.rd (Reg.SCL_CNET2 n)) (pdu 1) else s1

/-- Send with the next own SEQ. -/
def State.sclSendNext (s : State) (n kind sdata : Nat) : State :=
  let q := ((s.conn n).ownSeq + 1) % 2 ^ 32
  (s.modConn n (fun c => { c with ownSeq := q })).sclSend n kind q sdata

/-- SDATA of DATA (R461). -/
def State.sdata (s : State) : Nat :=
  maskOf 8 (fun n => decide (s.fnState n ≤ 1)) + 256 * bitNat (s.on Fld.SFI_STAT_ISTOP) +
    512 * bitNat (s.on Fld.SFI_FUNC_STOP1REQ) + 1024 * bitNat (s.on Fld.SFI_FUNC_GRANT)

/-- Send DATA (R465). -/
def State.sclSendData (s : State) (n : Nat) : State :=
  (s.modConn n (fun c => { c with sent := s.sdata })).sclSendNext n 2 s.sdata

/-- STATE of a connection with the UP bit; IRQ UP on reaching RUN (R475, R477). -/
def State.setConn (s : State) (n v : Nat) : State :=
  let was := s.get (Fld.SCL_CSTAT_STATE n)
  let s := (s.put (Fld.SCL_CSTAT_STATE n) v).setBit Reg.SCL_UP n (v == 3)
  if v = 3 ∧ was ≠ 3 then s.irq Pg.SCL Irq.SCL_UP else s

/-- The PERMIT that a consumer delivers follows its state and its latest DATA (R458). -/
def State.connDeliver (s : State) (n : Nat) : State :=
  let f := s.get (Fld.SCL_CCFG_FMASK n)
  let d := s.rd (Reg.SCL_CRX n)
  s.setOn (Fld.SCL_CSTAT_PERMIT n)
    (s.isConsumer n && s.get (Fld.SCL_CSTAT_STATE n) == 3 && Nat.land d f == f && !bitOf d 8)

/-- Faults of a connection end as it leaves FAILED. -/
def State.connRevive (s : State) (n : Nat) : State :=
  if s.get (Fld.SCL_CSTAT_STATE n) ≠ 4 then s else
  (s.endInstance Pg.SCL Flt.SCL_CONN_FAIL n).endInstance Pg.SCL Flt.SCL_DISAGREE n

/-- A connection fails (R469). -/
def State.connFail (s : State) (n reason : Nat) : State :=
  if s.get (Fld.SCL_CSTAT_STATE n) = 0 ∨ s.get (Fld.SCL_CSTAT_STATE n) = 4 then s else
  let s := ((s.setConn n 4).put (Fld.SCL_CSTAT_REASON n) reason).setOn (Fld.SCL_CSTAT_PERMIT n) false
  let s := (s.modConn n (fun c => { c with held := none })).sclSendNext n 4 reason
  ((s.irq Pg.SCL Irq.SCL_FAIL).fault Pg.SCL Flt.SCL_CONN_FAIL n (BitVec.ofNat 32 reason)).islandLines

/-- A consumer begins OPENING and sends OPEN (R468). -/
def State.connOpening (s : State) (n : Nat) : State :=
  let s := ((s.connRevive n).setConn n 1).put (Fld.SCL_CSTAT_REASON n) 0
  let s := ((s.modConn n (fun c => { c with lastSeq := 0, ownSeq := 0, held := none })).wr (Reg.SCL_CSEQ n) 0).connDeliver n
  s.sclSend n 1 0 (crc32c (beBytes 4 (s.rd (Reg.SCL_CID n)) ++ beBytes 4 (s.rd (Reg.SCL_CTIM n)))).toNat

/-- Connections begin and end with the island's use of them (R459, R468). -/
def State.connUse (s : State) : State :=
  let wrong := s.sclMapped && s.word Reg.SFI_SCLMAP != s.sclPcv
  let s := if wrong && s.islandRuns then
      let fresh := s.standing Flt.SCL_PARAM_MISMATCH != 1 || !s.flt.instances.contains (Flt.SCL_PARAM_MISMATCH, 0xFF)
      if fresh then (s.irq Pg.SCL Irq.SCL_MISMATCH).fault Pg.SCL Flt.SCL_PARAM_MISMATCH 0xFF else s
    else s.endInstance Pg.SCL Flt.SCL_PARAM_MISMATCH 0xFF
  if s.sclUsed then
    s.each 8 (fun s n => if s.isConsumer n && s.get (Fld.SCL_CSTAT_STATE n) == 0 then s.connOpening n else s)
  else
    s.each 8 (fun s n =>
      let s := ((s.connRevive n).setConn n 0).setOn (Fld.SCL_CSTAT_PERMIT n) false
      let s := (s.modConn n (fun _ => sclConnReset)).put (Fld.SCL_CSTAT_AGE n) 0
      s.put (Fld.SCL_CSTAT_REASON n) (if wrong && s.isConsumer n then 8 else 0))

/-- The consumer's AGE (R464). -/
def State.connAge (s : State) (n : Nat) : Nat := (s.rd Reg.SFI_CYCLE + 65536 - (s.conn n).texp) % 65536

/-- The consumer's AGE and the producer's wait for STATUS against WDT (R464, R465). -/
def State.connWatch (s : State) (n : Nat) : State :=
  let st := s.get (Fld.SCL_CSTAT_STATE n)
  let wdt := s.get (Fld.SCL_CTIM_WDT n)
  if s.isConsumer n then
    if st ≠ 2 ∧ st ≠ 3 then s else
    let s := s.put (Fld.SCL_CSTAT_AGE n) (min 255 (s.connAge n))
    if s.connAge n > wdt then s.connFail n 1 else s
  else if s.isProducer n && st == 3 && s.rd Reg.SFI_CYCLE - (s.conn n).heard > wdt then s.connFail n 1
  else s

/-- A reset moves every consumed connection in WAITRESET to RUN (R470). -/
def State.connReset (s : State) : State :=
  s.each 8 (fun s n => if s.isConsumer n && s.get (Fld.SCL_CSTAT_STATE n) == 2 then (s.setConn n 3).connDeliver n else s)

/-- Connection that a PDU's CONNID names, for the receiving role of its KIND: true for producers (R462). -/
def State.connOf (s : State) (pdu : List Byte) (role : Option Bool) : Option Nat :=
  (List.range 8).find? (fun n => s.on (Fld.SCL_CCFG_EN n) && s.rd (Reg.SCL_CID n) == beAt pdu 4 4 &&
    (match role with
     | none => true
     | some p => s.on (Fld.SCL_CCFG_ROLE n) == p))

/-- Receiving role of a KIND. -/
def sclRole (kind : Nat) : Option Bool := if kind = 1 ∨ kind = 3 then some true else if kind = 2 then some false else none

/-- KIND of a PDU. -/
def sclKind (pdu : List Byte) : Nat := beAt pdu 0 1 % 16

/-- A reserved bit of a PDU is set, NET outside compatibility mode among them (R460, R461). -/
def sclReserved (pdu : List Byte) (compat : Bool) : Bool :=
  let k := sclKind pdu
  let sd := beAt pdu 16 4
  beAt pdu 1 1 / 2 != 0 || (!compat && beAt pdu 1 1 % 2 != 0) || beAt pdu 2 2 != 0 ||
  (k == 2 && sd / 2048 != 0) || (k == 3 && sd != 0) || (k == 4 && sd / 16 != 0)

/-- A CRC failure is counted; more than 16 within 1 h fail the connection (R462). -/
def State.crcFailure (s : State) (n : Nat) : State :=
  let now := s.opsec
  let l := now :: (s.conn n).crcTimes.filter (fun t => decide (now < t + 3600))
  let s := (s.bump (Fld.SCL_CCNT_CRC n)).modConn n (fun c => { c with crcTimes := l })
  if l.length > 16 then s.connFail n 3 else s

/-- Take the front PDU of the island's queue when it is of `kind`; PDUs of R462 are discarded and counted. Answers the
connection and the PDU that go on, after the comparison of R471 in compatibility mode. -/
def State.sclTake (s : State) (kind : Nat) : State × Option (Nat × List Byte) :=
  match s.scl.rxq with
  | [] => (s, none)
  | pdu :: rest =>
    let s0 := s
    let s := { s with scl := { s.scl with rxq := rest } }
    let k := sclKind pdu
    let any := ((s.connOf pdu (sclRole k)).orElse (fun _ => s.connOf pdu none)).getD 0
    if !s.sclUsed then (s.bump (Fld.SCL_CCNT_DISC any), none)
    else if pdu.length ≠ 24 ∨ (crc32c (pdu.take 20)).toNat ≠ beAt pdu 20 4 then (s.crcFailure any, none)
    else if beAt pdu 0 1 / 16 ≠ 1 ∨ k = 0 ∨ k > 4 then (s.bump (Fld.SCL_CCNT_DISC any), none)
    else match s.connOf pdu (sclRole k) with
      | none => (s.bump (Fld.SCL_CCNT_DISC 0), none)
      | some n =>
        if sclReserved pdu (s.on (Fld.SCL_CCFG_COMPAT n)) then (s.bump (Fld.SCL_CCNT_DISC n), none)
        else if k ≠ kind then (s0, none)
        else if !s.on (Fld.SCL_CCFG_COMPAT n) then (s, some (n, pdu))
        else match (s.conn n).held with
          | none => (s.modConn n (fun c => { c with held := some pdu }), none)
          | some h =>
            if beAt h 1 1 = beAt pdu 1 1 then
              ((s.bump (Fld.SCL_CCNT_SINGLE n)).modConn n (fun c => { c with held := some pdu }), none)
            else
              let s := s.modConn n (fun c => { c with held := none })
              if h.take 1 ++ (h.drop 2).take 18 = pdu.take 1 ++ (pdu.drop 2).take 18 then (s, some (n, pdu))
              else
                let s := (s.irq Pg.SCL Irq.SCL_DISAGREE).fault Pg.SCL Flt.SCL_DISAGREE n
                (s.connFail n 5, none)

/-- Signed difference of a SEQ to the last accepted one (R463). -/
def State.seqDiff (s : State) (n seq : Nat) : Int := toSigned 32 ((seq + 2 ^ 32 - (s.conn n).lastSeq) % 2 ^ 32)

/-- The SEQ check of R463: true when the PDU is accepted. -/
def State.seqCheck (s : State) (n seq : Nat) : State × Bool :=
  let d := s.seqDiff n seq
  if d ≤ 0 then (s.bump (Fld.SCL_CCNT_DUP n), false)
  else if d > (s.get (Fld.SCL_CCFG_SEQWIN n) : Nat) then (s.connFail n 2, false)
  else ((s.modConn n (fun c => { c with lastSeq := seq })).wr (Reg.SCL_CSEQ n) seq, true)

/-- An OPEN at a producer (R468). -/
def State.sclOpenPdu (s : State) : State :=
  match s.sclTake 1 with
  | (s, none) => s
  | (s, some (n, pdu)) =>
    let own := (crc32c (beBytes 4 (s.rd (Reg.SCL_CID n)) ++ beBytes 4 (s.rd (Reg.SCL_CTIM n)))).toNat
    if beAt pdu 16 4 ≠ own then
      ((s.sclSendNext n 4 4).irq Pg.SCL Irq.SCL_MISMATCH).fault Pg.SCL Flt.SCL_PARAM_MISMATCH n
    else
      let s := (s.endInstance Pg.SCL Flt.SCL_PARAM_MISMATCH n).connRevive n
      let s := s.modConn n (fun c => { c with lastSeq := 0, ownSeq := 0, stamp := beAt pdu 12 2, heard := s.rd Reg.SFI_CYCLE })
      (((s.wr (Reg.SCL_CSEQ n) 0).put (Fld.SCL_CSTAT_REASON n) 0).setConn n 3).sclSendData n

/-- A DATA at a consumer (R463, R464, R468). -/
def State.sclDataPdu (s : State) : State :=
  match s.sclTake 2 with
  | (s, none) => s
  | (s, some (n, pdu)) =>
    let st := s.get (Fld.SCL_CSTAT_STATE n)
    let seq := beAt pdu 8 4
    if st = 0 ∨ st = 4 then s.bump (Fld.SCL_CCNT_DISC n)
    else if st = 1 ∧ 1 < s.seqDiff n seq ∧ s.seqDiff n seq ≤ (s.get (Fld.SCL_CCFG_SEQWIN n) : Nat) then s.bump (Fld.SCL_CCNT_DISC n)
    else
      let x := s.seqCheck n seq
      if !x.2 then x.1 else
      let s := x.1.modConn n (fun c => { c with stamp := beAt pdu 12 2, texp := beAt pdu 14 2 })
      let s := s.wr (Reg.SCL_CRX n) (beAt pdu 16 4)
      let s := if st = 1 then s.setConn n (if s.on (Fld.SCL_CCFG_AUTO n) then 3 else 2) else s
      (s.connDeliver n).islandLines

/-- A STATUS at a producer (R464, R465). -/
def State.sclStatusPdu (s : State) : State :=
  match s.sclTake 3 with
  | (s, none) => s
  | (s, some (n, pdu)) =>
    if s.get (Fld.SCL_CSTAT_STATE n) ≠ 3 then s.bump (Fld.SCL_CCNT_DISC n) else
    let x := s.seqCheck n (beAt pdu 8 4)
    if !x.2 then x.1 else
    x.1.modConn n (fun c => { c with stamp := beAt pdu 12 2, heard := s.rd Reg.SFI_CYCLE })

/-- A CLOSE (R469). -/
def State.sclClosePdu (s : State) : State :=
  match s.sclTake 4 with
  | (s, none) => s
  | (s, some (n, _)) => s.connFail n 6

/-- CMPWIN expires with one copy (R471). -/
def State.sclSingle (s : State) (n : Nat) : State :=
  match (s.conn n).held with
  | none => s
  | some _ => (s.bump (Fld.SCL_CCNT_SINGLE n)).modConn n (fun c => { c with held := none })

/-- PERIOD of a connection (R465, R468). -/
def State.sclPeriod (s : State) (n : Nat) : State :=
  if !s.sclUsed then s else
  let st := s.get (Fld.SCL_CSTAT_STATE n)
  if s.isProducer n then (if st = 3 then s.sclSendData n else s)
  else if !s.isConsumer n then s
  else if st = 1 then
    s.sclSend n 1 0 (crc32c (beBytes 4 (s.rd (Reg.SCL_CID n)) ++ beBytes 4 (s.rd (Reg.SCL_CTIM n)))).toNat
  else if st = 2 ∨ st = 3 then s.sclSendNext n 3 0
  else s

/-- A failed consumer returns to OPENING (R469). -/
def State.sclReturn (s : State) (n : Nat) : State :=
  if s.sclUsed && s.isConsumer n && s.get (Fld.SCL_CSTAT_STATE n) == 4 then (s.connOpening n).islandLines else s

/-- A PDU arrives from the black channel (R466, R467). -/
def State.sclArrive (s : State) (pdu : List Byte) : State :=
  if s.scl.rxq.length ≥ 16 then s.bump (Fld.SCL_CCNT_DISC ((s.connOf pdu (sclRole (sclKind pdu))).getD 0))
  else { s with scl := { s.scl with rxq := s.scl.rxq ++ [pdu] } }

/-- SCL_CTRL.EN is set (R474). -/
def State.sclEnable (s : State) : State :=
  let s := s.setEns Pg.SCL true
  if s.sclBad then s.irq Pg.SCL Irq.SCL_CONFIG_ERR else s.connUse.islandLines

/-- SCL_CTRL.EN is cleared: no connection runs. -/
def State.sclDisable (s : State) : State := (s.setEns Pg.SCL false).connUse.islandLines

/-! ### Resets of functions -/

/-- A reset acts on every function in AWAIT_RESET and every connection in WAITRESET (R429, R470). -/
def State.safetyReset (s : State) : State :=
  if !s.islandRuns then s else
  ((s.each 8 (fun s n =>
    if s.isStop n && s.fnState n == 3 && !s.inputSafe n && !s.inputFaulty n then s.fnPermit n else s)).connReset).islandLines

/-- A reset device has been released after a press of 0.1 s to 5 s (R429). -/
def State.deviceReleased (s : State) (n : Nat) : State :=
  let ms := smGet (fun _ => (0 : Nat)) s.isl.pressedFor n
  let s := s.modIsl (fun x => { x with pressedFor := smErase n x.pressedFor })
  if s.islandRuns && s.get (Fld.SFI_INCFG_TYPE n) == 5 && !s.inputFaulty n && 100 ≤ ms && ms ≤ 5000 then s.safetyReset else s

/-- A reset device has stood non-safe for longer than 5 s (R429). -/
def State.deviceStuck (s : State) (n : Nat) : State :=
  if s.islandRuns && s.get (Fld.SFI_INCFG_TYPE n) == 5 && s.pressed n && !bitOf s.isl.stuck n &&
      decide (5000 < s.rd Reg.SFI_CYCLE - smGet (fun _ => s.rd Reg.SFI_CYCLE) s.isl.pressedAt n) then
    (s.modIsl (fun x => { x with stuck := putBit x.stuck n true })).inputFault n
  else s

/-- CLEAR_OUTFLT: only while both readbacks read low (R440). -/
def State.clearOutFault (s : State) : State :=
  s.each 4 (fun s m =>
    if bitOf (s.get Fld.SFI_OUTSTAT_FAULT) m && !s.on (outRb (2 * m)) && !s.on (outRb (2 * m + 1)) then
      (s.put Fld.SFI_OUTSTAT_FAULT (putBit (s.get Fld.SFI_OUTSTAT_FAULT) m false)).endInstance Pg.SFI Flt.SFI_OUTPUT_FAULT m
    else s)

/-- Every MAINTOFF output was last switched at least TDEEN ago (R433). -/
def State.maintSettled (s : State) : Bool :=
  (List.range 8).all (fun ch => !s.on (Fld.SFI_OUTCFG_MAINTOFF (ch / 2)) ||
    decide (smGet (fun _ => (0 : Nat)) s.isl.changed ch + 100 * (s.rd Reg.SFI_HAND / 65536) ≤ s.rd Reg.SFI_CYCLE))

/-- MAINTOFF outputs have been off for TDEEN (R433). -/
def State.maintDelay (s : State) : State :=
  if s.maintOffs && s.maintSettled then s.modIsl (fun x => { x with deenDone := true }) else s

/-! ### Rimshot -/

/-- A channel that is on receives its pulse in its cycle (R437). -/
def State.rimStart (s : State) (ch : Nat) : State :=
  if s.on (outCmd ch) && s.rd Reg.SFI_CYCLE % 1000 == 125 * ch && !s.isl.rim.any (fun r => r.1 == ch) then
    (s.modIsl (fun x => { x with rim := smInsert ch ⟨false, false, false⟩ x.rim })).emit (.ball (outBall ch) false)
  else s

/-- The pulse ends; the channel goes on again unless an off demand stands (R438, R439). -/
def State.rimEnd (s : State) (ch : Nat) (low : Bool) : State :=
  match s.isl.rim.find? (fun r => r.1 == ch) with
  | some (_, r) =>
    if r.ended then s else
    let s := s.modIsl (fun x => { x with rim := smInsert ch { r with ended := true, low := low } x.rim })
    if s.on (outCmd ch) then s.emit (.ball (outBall ch) true) else s
  | none => s

/-- The verdict of a pulse (R438, R439). -/
def State.rimVerdict (s : State) (ch : Nat) (high : Bool) : State :=
  match s.isl.rim.find? (fun r => r.1 == ch) with
  | some (_, r) =>
    if !r.ended then s else
    let s := s.modIsl (fun x => { x with rim := smErase ch x.rim })
    if r.disc then s.bump Fld.SFI_RIMCNT_DISC
    else if r.low && high then s.bump Fld.SFI_RIMCNT_PASS
    else State.coilSeen s ((s.bump Fld.SFI_RIMCNT_FAIL).outFault (ch / 2))
  | none => s

/-! ### Island states and parameters -/

/-- The functions leave RUN: no function state, no fault of an input, no grant stands. -/
def State.leaveRun (s : State) : State :=
  let s := s.each 4 State.endGrant
  let s := s.each 8 (fun s n => (s.endInstance Pg.SFI Flt.SFI_DISCREPANCY n).endInstance Pg.SFI Flt.SFI_INPUT_FAULT n)
  let s := (s.wr Reg.SFI_INFLT 0).wr Reg.SFI_FUNC (s.rd Reg.SFI_FUNC / 2 ^ 16 * 2 ^ 16)
  let s := s.modIsl (fun x => { x with miss := [], followed := 0, seenSafe := 0, stuck := 0, lineBy := 0, t1Left := [],
                                        handsUp := 0, handAt := [], pressedAt := [], pressedFor := [], confirmDue := none, shadowing := false, commitDue := none })
  ((s.put Fld.SFI_T1REM_T1 0).put Fld.SFI_SLOT_SHADOW 0).setOn Fld.SFI_STAT_HOPREP false

/-- The entry to RUN (R430). -/
def State.enterRun (s : State) : State :=
  let s := (s.put Fld.SFI_STAT_STATE 4).setOn Fld.SFI_STAT_CONFIRMED true
  let s := s.each 8 (fun s n =>
    let t := s.get (Fld.SFI_INCFG_TYPE n)
    if t = 4 then s.put (fnField n) (if s.handOn n then 0 else 2)
    else if !s.isStop n then s
    else if t ≠ 1 ∧ s.on (Fld.SFI_INCFG_AUTO n) then
      (if s.inputSafe n then s.setFn n 2 (!s.on (Fld.SFI_INCFG_CAT n)) else s.setFn n 0 false)
    else s.setFn n 3 false)
  let s := s.modIsl (fun x => { x with handsUp := maskOf 4 (fun p => s.inputSafe (2 * p) && s.inputSafe (2 * p + 1)) })
  s.connUse.islandLines

/-- READY follows a valid configuration with the safety parameters confirmed (R22). -/
def State.maybeReady (s : State) : State :=
  if s.svc.state = .unconfigured ∧ s.acc.locksRestored ∧ s.on Fld.SFI_STAT_CONFIRMED then s.setSvc .ready else s

/-- The parameter block is invalid (R443). -/
def State.sfiBad (s : State) : Bool :=
  (List.range 8).any (fun n =>
    let t := s.get (Fld.SFI_INCFG_TYPE n)
    let f := s.get (Fld.SFI_INCFG_FORM n)
    let filt := s.get (Fld.SFI_INTIM_FILT n)
    let disc := s.get (Fld.SFI_INTIM_DISC n)
    let mate := n / 2 * 2 + (1 - n % 2)
    t > 5 || f == 3 || (t == 1 && (s.on (Fld.SFI_INCFG_AUTO n) || f > 1)) || (t == 3 && f != 2) ||
    (t == 4 && (f != 1 || s.get (Fld.SFI_INCFG_TYPE mate) != 4 || s.get (Fld.SFI_INCFG_FORM mate) != 1 ||
      !(List.range 4).any (fun m => s.on (Fld.SFI_OUTCFG_MAINTOFF m)))) ||
    (t == 5 && f == 2) || (s.on (Fld.SFI_INCFG_TP n) && f == 2) ||
    filt < 5 || 200 < filt || disc < 10 || 3000 < disc) ||
  (List.range 4).any (fun m =>
    let w := s.get (Fld.SFI_OUTCFG_RIMW m)
    let r := s.rd (Reg.SFI_OUTTIM m) % 256
    w < 10 || 100 < w || r < 10 || (s.on (Fld.SFI_OUTCFG_MAINTOFF m) && s.on (Fld.SFI_OUTCFG_MAINTON m)) ||
    (List.range 8).any (fun n => s.bit (Reg.SFI_OUTCFG m) n && !s.isStop n)) ||
  (let t1 := s.rd Reg.SFI_T1 % 65536
   let th := s.rd Reg.SFI_HAND % 65536
   let td := s.rd Reg.SFI_HAND / 65536
   t1 < 50 || 10000 < t1 || th < 100 || 500 < th || td < 5 || 600 < td) ||
  s.rd Reg.SFI_PBFMT != 1

/-- The parameter block's 64 words. -/
def State.sfiBlock (s : State) : List Word := (List.range 64).map (fun k => s.word (0x70100 + 4 * k))

/-- SFI_CTRL.EN is set (R443). -/
def State.sfiEnable (s : State) : State :=
  let st := s.get Fld.SFI_STAT_STATE
  let s := (s.setEns Pg.SFI true).modIsl (fun x => { x with storedEn := true })
  if st ≠ 1 then s
  else if s.sfiBad then (s.put Fld.SFI_STAT_STATE 2).irq Pg.SFI Irq.SFI_CONFIG_ERR
  else s.put Fld.SFI_STAT_STATE 3

/-- SFI_CTRL.EN is cleared, the confirmation withdrawn (R443, R446). -/
def State.sfiDisable (s : State) : State :=
  let st := s.get Fld.SFI_STAT_STATE
  let drop := fun (c : Option (List Word × Option Word)) => c.map (fun x => (x.1, none))
  let s := (s.setEns Pg.SFI false).modIsl (fun x => { x with storedEn := false, copyA := drop x.copyA, copyB := drop x.copyB })
  let s := s.setOn Fld.SFI_STAT_CONFIRMED false
  if st = 0 ∨ st = 5 then s else
  let s0 := s
  let s := ((s.leaveRun.put Fld.SFI_STAT_STATE 1).latchFault Pg.SFI Flt.SFI_CONFIRM_LOST).outputsOff
  State.coilSeen s0 s.connUse.islandLines

/-- A write of SFI_CONFIRM: in UNCONFIRMED a value that equals SFI_PCV is taken at the next cycle, and in another state it
has no effect; a different value sets MISMATCH and is audited (R444, R55). The answer's second part is whether it is
taken. -/
def State.sfiConfirm (s : State) (o : Origin) (v : Word) : State × Bool :=
  if v ≠ s.sfiPcv then ((s.irq Pg.SFI Irq.SFI_MISMATCH).audit 1 o Reg.SFI_CONFIRM 0 v.toNat, false)
  else if s.get Fld.SFI_STAT_STATE = 3 then (s.modIsl (fun x => { x with confirmDue := some o }), true)
  else (s, false)

/-- The confirmation takes effect (R444). -/
def State.takeConfirm (s : State) : State :=
  match s.isl.confirmDue with
  | none => s
  | some o =>
    let s := s.modIsl (fun x => { x with confirmDue := none })
    if s.get Fld.SFI_STAT_STATE ≠ 3 then s else
    let v := s.sfiPcv
    let c := some (s.sfiBlock, some v)
    let s := s.modIsl (fun x => { x with copyA := c, copyB := c })
    let s := (s.audit 9 o Reg.SFI_CONFIRM 0 v.toNat).irq Pg.SFI Irq.SFI_CONFIRMED
    (s.latchFault Pg.SFI Flt.SFI_CONFIRM_LOST).enterRun.maybeReady

/-! ### Slots -/

/-- A handover is abandoned (R448). -/
def State.abandon (s : State) : State :=
  let s := s.modIsl (fun x => { x with shadowing := false, commitDue := none })
  let s := (s.setOn Fld.SFI_STAT_HOPREP false).put Fld.SFI_SLOT_SHADOW 0
  (s.irq Pg.SFI Irq.SFI_HANDOVER_FAIL).faultEvent Pg.SFI Flt.SFI_HANDOVER_FAIL 0

/-- HANDOVER_PREPARE (R447). -/
def State.prepare (s : State) : State :=
  let other := 1 - s.get Fld.SFI_SLOT_ACTIVE
  let rev := s.get Fld.SFI_SLOT_STREV
  let fits := match s.isl.images.find? (fun x => x.1 == other) with
    | some (_, lo, hi, _) => decide (lo ≤ rev ∧ rev ≤ hi)
    | none => false
  let same := match s.isl.copyA with
    | some (_, some v) => v == s.sfiPcv
    | _ => false
  if s.islandRuns && bitOf (s.get Fld.SFI_SLOT_LOADED) other && fits && same then
    (s.modIsl (fun x => { x with shadowing := true, commitDue := none })).put Fld.SFI_SLOT_SHADOW 0 |>.setOn Fld.SFI_STAT_HOPREP false
  else s.irq Pg.SFI Irq.SFI_HANDOVER_FAIL

/-- HANDOVER_COMMIT with HOPREP 1 (R449). -/
def State.commit (s : State) (o : Origin) : State :=
  if s.on Fld.SFI_STAT_HOPREP then s.modIsl (fun x => { x with commitDue := some o }) else s

/-- HANDOVER_ABANDON, or 60 s without a commit (R448). -/
def State.abandonIf (s : State) : State := if s.isl.shadowing then s.abandon else s

/-- 60 s without a commit after HOPREP (R448). -/
def State.prepareTimeout (s : State) : State := if s.on Fld.SFI_STAT_HOPREP && s.isl.commitDue.isNone then s.abandon else s

/-- The shadow's comparison at a cycle, and the export of the state record (R447 to R449). -/
def State.shadowCycle (s : State) (equal : Bool) : State :=
  if !s.isl.shadowing then s
  else if !equal then s.abandon
  else
    match s.isl.commitDue with
    | some o =>
      let new := 1 - s.get Fld.SFI_SLOT_ACTIVE
      let rev := match s.isl.images.find? (fun x => x.1 == new) with
        | some (_, _, _, r) => r
        | none => 0
      let s := ((s.put Fld.SFI_SLOT_ACTIVE new).put Fld.SFI_STAT_SLOT new).put Fld.SFI_SLOT_STREV rev
      let s := (s.setOn Fld.SFI_STAT_HOPREP false).put Fld.SFI_SLOT_SHADOW 0
      let s := s.modIsl (fun x => { x with shadowing := false, commitDue := none, switchDue := true })
      (s.irq Pg.SFI Irq.SFI_HANDOVER_DONE).audit 8 o Reg.SFI_CMD 0 4
    | none =>
      let s := s.bump Fld.SFI_SLOT_SHADOW
      if s.get Fld.SFI_SLOT_SHADOW = 16 then (s.setOn Fld.SFI_STAT_HOPREP true).irq Pg.SFI Irq.SFI_HANDOVER_READY else s

/-- 60 s after the commit (R449). -/
def State.startSlotSwitch (s : State) : State :=
  if s.isl.switchDue then s.modIsl (fun x => { x with startSlot := s.get Fld.SFI_SLOT_ACTIVE, switchDue := false }) else s

/-! ### Cycle -/

/-- T1REM shows the least time left of a function in STOPPING. -/
def State.t1Show (s : State) : State :=
  let l := s.isl.t1Left.map Prod.snd
  s.put Fld.SFI_T1REM_T1 (match l with
    | [] => 0
    | a :: t => t.foldl min a)

/-- A function in AWAIT_RESET or PERMIT is evaluated again, and one in STOPPED goes on (R428, R429). -/
def State.evalFn (s : State) (n : Nat) : State :=
  let s := if s.isStop n && s.fnState n == 1 && s.stopIsDone then s.setFn n 2 false else s
  s.afterStop n true

/-- A producer whose SDATA changed sends DATA at the end of the cycle (R465). -/
def State.sendChanged (s : State) : State :=
  if !s.sclUsed then s else
  s.each 8 (fun s n =>
    if s.isProducer n && s.get (Fld.SCL_CSTAT_STATE n) == 3 && (s.conn n).sent != s.sdata then s.sclSendData n else s)

/-- A safety cycle (R434 to R436, R464, R447): functions, connections, readback, outputs, shadow. -/
def State.safetyCycle (s : State) (rbA rbB : Nat) (equal : Bool) : State :=
  if s.get Fld.SFI_STAT_STATE = 0 ∨ s.get Fld.SFI_STAT_STATE = 5 then s else
  let s0 := s
  let s := s.wr Reg.SFI_CYCLE ((s.rd Reg.SFI_CYCLE + 1) % 2 ^ 32)
  let s := (s.put Fld.SFI_OUTSTAT_A2 rbA).put Fld.SFI_OUTSTAT_B2 rbB
  let s := s.modIsl (fun x => { x with
    t1Left := x.t1Left.map (fun (t : Nat × Nat) => (t.1, t.2 - 1))
    faultTimes := x.faultTimes.filter (fun t => decide (s.opsec < t + 3600)) })
  let s := s.put Fld.SFI_FAULT_COUNT (min 15 s.isl.faultTimes.length)
  let s := s.takeConfirm
  let s := s.connUse
  let s := if s.islandRuns then (s.each 8 State.evalFn).each 8 State.connWatch else s
  let s := s.islandLines
  let s := s.each 8 State.checkReadback
  let s := s.writeOutputs
  let s := (s.shadowCycle equal).sendChanged.t1Show
  State.coilSeen s0 s

/-! ### Self-checks and the island's reset -/

/-- A self-check of the island fails (R419). -/
def State.selfCheckFail (s : State) (cause : Nat) : State :=
  if s.get Fld.SFI_STAT_STATE = 5 then s else
  let s0 := s
  let times := s.opsec :: s.isl.faultTimes.filter (fun t => decide (s.opsec < t + 3600))
  let s := (s.leaveRun.outputsOff.put Fld.SFI_STAT_STATE 5).modIsl (fun x => { x with faultTimes := times, okLine := false })
  let s := (s.put Fld.SFI_FAULT_CAUSE cause).put Fld.SFI_FAULT_COUNT (min 15 times.length)
  let s := (s.irq Pg.SFI Irq.SFI_ISLAND_FAULT).connUse.islandLines
  State.coilSeen s0 (s.fault Pg.SFI Flt.SFI_ISLAND_FAULT 0 (BitVec.ofNat 32 cause))

/-- Words of the SFI and SCL pages that a reset of the island drops: all but SFI_FAULT and SFI_SLOT (log 22). -/
def islandDrops (a : Nat) : Bool :=
  decide (0x70000 ≤ a ∧ a < 0x72000) && !(a == Reg.SFI_FAULT || a == Reg.SFI_SLOT)

/-- A reset reaches the island: INIT (R420), with the start slot (R449); its pages' locks are gone until they are restored
(R53). -/
def State.islandInit (s : State) : State :=
  let s0 := s
  let s := s.leaveRun.outputsOff
  let i := s.isl
  let s := { s with regs := s.regs.filter (fun e => !islandDrops e.1)
                    isl := { islandReset with copyA := i.copyA, copyB := i.copyB, storedEn := i.storedEn, images := i.images,
                                              startSlot := i.startSlot, faultTimes := i.faultTimes, okLine := i.okLine }
                    scl := ⟨List.replicate 8 sclConnReset, [], []⟩
                    acc := { s.acc with locksRestored := false } }
  let rev := match i.images.find? (fun x => x.1 == i.startSlot) with
    | some (_, _, _, r) => r
    | none => if i.startSlot = s.get Fld.SFI_SLOT_ACTIVE then s.get Fld.SFI_SLOT_STREV else 0
  let s := ((s.put Fld.SFI_SLOT_ACTIVE i.startSlot).put Fld.SFI_SLOT_SHADOW 0).put Fld.SFI_SLOT_STREV rev
  let s := s.put Fld.SFI_STAT_SLOT i.startSlot
  let s := s.latchFault Pg.SFI Flt.SAFETY_STOP0 |>.latchFault Pg.SFI Flt.SAFETY_STOP1
  let s := s.each 8 (fun s n => (s.endInstance Pg.SCL Flt.SCL_CONN_FAIL n).endInstance Pg.SCL Flt.SCL_DISAGREE n)
  let s := s.each 4 (fun s m => s.endInstance Pg.SFI Flt.SFI_OUTPUT_FAULT m)
  State.coilSeen s0 s

/-- The island resets itself 100 ms after a fault, unless it was the third within 1 h (R419). -/
def State.faultReset (s : State) : State :=
  if s.get Fld.SFI_STAT_STATE = 5 ∧ s.get Fld.SFI_FAULT_COUNT < 3 then s.islandInit else s

/-- The stored copy that INIT restores. -/
def State.storedBlock (s : State) : Option (List Word × Option Word) := s.isl.copyA.orElse (fun _ => s.isl.copyB)

/-- INIT ends (R420, R445). -/
def State.initDone (s : State) : State :=
  if s.get Fld.SFI_STAT_STATE ≠ 0 then s else
  let s := match s.storedBlock with
    | none => s
    | some (ws, _) => ((List.range 64).zip ws).foldl (fun (s : State) (x : Nat × Word) => s.setWord (0x70100 + 4 * x.1) x.2) s
  let s := (s.modIsl (fun x => { x with okLine := true })).latchFault Pg.SFI Flt.SFI_ISLAND_FAULT
  let s := s.setEns Pg.SFI s.isl.storedEn
  if !s.isl.storedEn then s.put Fld.SFI_STAT_STATE 1 else
  match s.storedBlock with
  | some (_, some v) =>
    if v = s.sfiPcv then s.enterRun.maybeReady
    else (s.put Fld.SFI_STAT_STATE 3).fault Pg.SFI Flt.SFI_CONFIRM_LOST 0
  | _ => (s.put Fld.SFI_STAT_STATE 3).fault Pg.SFI Flt.SFI_CONFIRM_LOST 0

end Sys2Proof.Machine
end

