-- ==== Sys2Proof/Machine/Time.lean ====
section
/-! DEFINITION. The time unit: domain clocks, plant time, PTP, time pulses and fabric launch slots (R528 to R556). -/

namespace Sys2Proof.Machine

/-! ### Clocks -/

/-- The clock of a domain in 2^-28 ns. -/
def State.domClock (s : State) (d : Nat) : Nat := if d = 0 then s.tim.d0 else s.tim.d1

/-- Set a domain clock. -/
def State.setDomClock (s : State) (d : Nat) (v : Int) : State :=
  if d = 0 then { s with tim := { s.tim with d0 := v.toNat } } else { s with tim := { s.tim with d1 := v.toNat } }

/-- The active domain. -/
def State.activeDom (s : State) : Nat := s.get Fld.TIM_STATE_ACTIVE

/-- STATE of a domain (R532). -/
def State.domState (s : State) (d : Nat) : Nat := s.get (Fld.TIM_DSTAT_STATE d)

/-- The synchronised states: FREESET, LOCKED, HOLDOVER, MASTER (R534). -/
def syncedState (v : Nat) : Bool := v == 2 || v == 4 || v == 5 || v == 7

/-- Hidden state of a domain. -/
def State.dom (s : State) (d : Nat) : DomState := (s.tim.dom[d]?).getD ⟨0, 0, none, none, none, none, 0⟩

/-- Change the hidden state of a domain. -/
def State.modDom (s : State) (d : Nat) (f : DomState → DomState) : State := { s with tim := { s.tim with dom := updAt s.tim.dom d f } }

/-- Plant seconds and nanoseconds of a clock (R528). -/
def wallOf (t : Nat) : List Byte := beBytes 6 (clockSec t) ++ beBytes 4 (clockNs t)

/-- A TIME record (R609). -/
def State.timeRec (s : State) (code old new d : Nat) (o : Origin) : State :=
  s.raiseRec ⟨2, 3, Pg.TIM, code, wallOf old ++ wallOf new ++ beBytes 1 d ++ beBytes 1 (originCode o) ++ beBytes 2 0, none⟩

/-- Residual in 2^-28 ns (R536). -/
def State.residual (s : State) : Int := (s.domClock s.activeDom : Int) - (s.tim.pt : Int)

/-! ### Time pulses -/

/-- Hidden state of a pulse output. -/
def State.tpo (s : State) (k : Nat) : TpoState := (s.tim.tpo[k]?).getD ⟨none, none, false, false⟩

/-- Change the hidden state of a pulse output. -/
def State.modTpo (s : State) (k : Nat) (f : TpoState → TpoState) : State := { s with tim := { s.tim with tpo := updAt s.tim.tpo k f } }

/-- START of an output in plant nanoseconds. -/
def State.tpoStart (s : State) (k : Nat) : Nat :=
  (s.rd (Reg.TPO_KSSH k) % 65536 * 2 ^ 32 + s.rd (Reg.TPO_KSSL k)) * 1000000000 + s.rd (Reg.TPO_KSNS k) % 2 ^ 30

/-- Plant time in nanoseconds. -/
def State.plantNs (s : State) : Nat := s.tim.pt / nsUnit

/-- A leading edge leaves the ball (R545, R546, R556). -/
def State.tpoLead (s : State) (k : Nat) : State :=
  let t := s.tpo k
  match t.next with
  | none => s
  | some n =>
    let mode := s.get (Fld.TPO_KCFG_MODE k)
    if !s.ens Pg.TPO || mode == 0 || mode == 3 then s else
    let level := !s.on (Fld.TPO_KCFG_POL k)
    let s := ((s.setOn (Fld.TPO_KSTAT_LEVEL k) level).bump (Fld.TPO_KSTAT_PULSES k)).emit (.ball ("TPO" ++ toString k) level)
    let s := if mode = 1 || t.stepped then s.irq Pg.TPO k else s
    s.modTpo k (fun t => { t with
      next := if mode = 2 then some (n + s.rd (Reg.TPO_KPER k)) else none
      prev := some n
      given := true
      stepped := false })

/-- A trailing edge (R545). -/
def State.tpoTrail (s : State) (k : Nat) : State :=
  let level := !s.on (Fld.TPO_KCFG_POL k)
  if s.on (Fld.TPO_KSTAT_LEVEL k) != level then s else
  (s.setOn (Fld.TPO_KSTAT_LEVEL k) (!level)).emit (.ball ("TPO" ++ toString k) (!level))

/-- First grid instant of a periodic output at or after `t`. -/
def State.tpoGrid (s : State) (k t : Nat) : Nat :=
  let a := s.tpoStart k
  let p := max 1 (s.rd (Reg.TPO_KPER k))
  if t ≤ a then a else a + (t - a + p - 1) / p * p

/-- An output takes its committed set-up: LATE clears, and a single pulse whose START has passed is given at once (R545,
R546). -/
def State.tpoSetup (s : State) (k : Nat) : State :=
  let mode := s.get (Fld.TPO_KCFG_MODE k)
  let s := s.setOn (Fld.TPO_KSTAT_LATE k) false
  let pol := s.on (Fld.TPO_KCFG_POL k)
  if !s.ens Pg.TPO || mode == 0 || mode == 3 then
    (s.setOn (Fld.TPO_KSTAT_LEVEL k) pol).modTpo k (fun _ => ⟨none, none, false, false⟩)
  else if mode = 2 then s.modTpo k (fun _ => ⟨some (s.tpoGrid k s.plantNs), none, false, false⟩)
  else
    let s := s.modTpo k (fun _ => ⟨some (s.tpoStart k), none, false, false⟩)
    if s.tpoStart k < s.plantNs then (s.tpoLead k).setOn (Fld.TPO_KSTAT_LATE k) true else s

/-- Every output follows a step of plant time by `r`, in 2^-28 ns; the previous leading edge is moved into the new plant
time first (R546). -/
def State.tpoStep (s : State) (r : Int) : State :=
  s.each 8 (fun s k =>
    let t := s.tpo k
    let mode := s.get (Fld.TPO_KCFG_MODE k)
    match t.next with
    | none => s
    | some n =>
      if mode = 2 then
        let half := (s.rd (Reg.TPO_KPER k) + 1) / 2
        let prev := t.prev.map (fun (p : Nat) => ((p : Int) + r / (nsUnit : Int)).toNat)
        let at_ := max s.plantNs ((prev.map (· + half)).getD s.plantNs)
        s.modTpo k (fun t => { t with next := some (s.tpoGrid k at_), prev := prev, stepped := true })
      else if n < s.plantNs then (s.tpoLead k).setOn (Fld.TPO_KSTAT_LATE k) true
      else s)

/-! ### Following the active domain -/

/-- Plant time steps (R536, R537). -/
def State.plantStep (s : State) (r : Int) : State :=
  let old := s.tim.pt
  let s := { s with tim := { s.tim with pt := s.domClock s.activeDom, p0 := s.tim.p0 + r }
                    can := s.can.map (fun (c : CanState) => { c with refStepped := true }) }
  let s := (s.bump Fld.TIM_CNT_STEPS).irq Pg.TIM Irq.TIM_STEP
  let s := (s.timeRec 1 old s.tim.pt s.activeDom .firmware).chmNote .all 5
  (s.faultEvent Pg.TIM Flt.TIME_STEP 0).tpoStep r

/-- Plant time follows the active domain after that domain's clock has moved, or the domain has changed (R536). -/
def State.followActive (s : State) : State :=
  let r := s.residual
  let s := if r.natAbs > s.get Fld.TIM_SLEW_STEP * 1000 * nsUnit then (s.plantStep r).setOn Fld.TIM_STATE_SLEWING false
    else s.setOn Fld.TIM_STATE_SLEWING (r != 0)
  s.wr Reg.TIM_RESID (satSigned 32 (s.residual / (nsUnit : Int)))

/-- SYNC and TIME_UNSYNC follow the active domain's state (R534). -/
def State.syncShow (s : State) : State :=
  let was := s.on Fld.TIM_STATE_SYNC
  let now := syncedState (s.domState s.activeDom)
  let s := s.setOn Fld.TIM_STATE_SYNC now
  if was && !now then (s.irq Pg.TIM Irq.TIM_UNSYNC).fault Pg.TIM Flt.TIME_UNSYNC 0
  else if !was && now then s.latchFault Pg.TIM Flt.TIME_UNSYNC else s

/-- The active domain changes (R538). -/
def State.switchTo (s : State) (d : Nat) : State :=
  let s := (s.put Fld.TIM_STATE_ACTIVE d).bump Fld.TIM_CNT_SWITCHES
  let s := (s.irq Pg.TIM Irq.TIM_SWITCH).chmNote .all 5
  let s := s.timeRec 2 s.tim.pt s.tim.pt d .firmware
  (s.faultEvent Pg.TIM Flt.TIME_SWITCH d).syncShow.followActive

/-- `TIM_DdSAGE`: milliseconds since the last Sync, seconds in HOLDOVER. -/
def State.syncAge (s : State) (d : Nat) : Nat :=
  let since := fun (t : Option Nat) (unit : Nat) => match t with
    | some t => min 65535 ((s.nowNat - t) / unit)
    | none => 0
  since (s.dom d).syncAt 1000000 + 65536 * (if s.domState d = 5 then since (s.dom d).heldAt 1000000000 else 0)

/-- A domain enters a state (R532, R534, R538). -/
def State.setDom (s : State) (d v : Nat) : State :=
  let was := s.domState d
  let s := (s.put (Fld.TIM_DSTAT_STATE d) v).put (if d = 0 then Fld.TIM_STATE_D0ST else Fld.TIM_STATE_D1ST) v
  let s := if v = 4 ∧ was ≠ 4 then s.irq Pg.TIM Irq.TIM_LOCK else s
  let s := if v = 5 ∧ was ≠ 5 then s.modDom d (fun x => { x with heldAt := some s.nowNat }) else s
  let leaves := s.activeDom == d && syncedState was && !syncedState v
  if leaves && s.ens Pg.TIM && s.on Fld.TIM_CFG_AUTOSW && syncedState (s.domState (1 - d)) then s.switchTo (1 - d)
  else s.syncShow

/-- TIM_CTRL.EN is set: enabled domains start (R532, R533). -/
def State.timEnable (s : State) : State :=
  let s := s.setEns Pg.TIM true
  s.each 2 (fun s d =>
    if !s.on (Fld.TIM_DCFG_EN d) then s.setDom d 0
    else if s.get (Fld.TIM_DCFG_SRC d) ≠ 0 then (if s.domState d = 2 then s else s.setDom d 1)
    else
      let s := s.modDom d (fun x => { x with good := 0, bad := 0, best := none, sync := none, syncAt := none })
      (s.put (Fld.TIM_DSTAT_SLAVE d) 7).setDom d 6)

/-- TIM_CTRL.EN is cleared. -/
def State.timDisable (s : State) : State := s.setEns Pg.TIM false

/-- Increment of a domain, 2^-28 ns per TIME cycle. -/
def State.domInc (s : State) (d : Nat) : Nat := s.rd (Reg.TIM_DINC d)

/-- An increment within 500 ppm of nominal (R535). -/
def clampInc (v : Nat) : Nat := max (0x40000000 - 536870) (min (0x40000000 + 536870) v)

/-- A domain clock is stepped by signed nanoseconds (R535). -/
def State.adjustDom (s : State) (d : Nat) (ns : Int) : State :=
  let s := (s.setDomClock d ((s.domClock d : Int) + ns * (nsUnit : Int))).bump (Fld.TIM_DSTAT_STEPS d)
  if s.activeDom = d then s.followActive else s

/-- One TIME cycle: the counters advance (R528, R536), with the operating time (R612), and a Chime window opens at its T0 (R165). -/
def State.timeTick (s : State) : State :=
  let inc := s.domInc s.activeDom
  let r := s.residual
  let adj := inc * s.get Fld.TIM_SLEW_PPM / 10000000
  let step : Nat :=
    if !s.on Fld.TIM_STATE_SLEWING then inc
    else if r ≥ 0 then inc + min adj r.natAbs else inc - min adj r.natAbs
  let s := { s with
    tim := { s.tim with d0 := s.tim.d0 + s.domInc 0, d1 := s.tim.d1 + s.domInc 1, pt := s.tim.pt + step, mono := s.tim.mono + step }
    evr := { s.evr with opTime := s.evr.opTime + 4 * nsUnit } }
  let s := if s.on Fld.TIM_STATE_SLEWING then
      (if s.residual = 0 then s.setOn Fld.TIM_STATE_SLEWING false else s).wr Reg.TIM_RESID (satSigned 32 (s.residual / (nsUnit : Int)))
    else s
  if s.domUp 2 then s.chmAdvance s.nowNat else s

/-- The slew ends when the residual is 0 (R536). -/
def State.slewOver (s : State) : State := if s.residual = 0 then s.setOn Fld.TIM_STATE_SLEWING false else s

/-- The preferred domain has been LOCKED or MASTER for 60 s (R538). -/
def State.revert (s : State) : State :=
  let p := s.get Fld.TIM_CFG_PREF
  if s.ens Pg.TIM && s.on Fld.TIM_CFG_REVERT && s.activeDom != p && (s.domState p == 4 || s.domState p == 7) then s.switchTo p else s

/-- SWITCH (R538). -/
def State.switchCmd (s : State) (d : Nat) : State :=
  if s.ens Pg.TIM && syncedState (s.domState d) then (if s.activeDom = d then s else s.switchTo d)
  else s.irq Pg.TIM Irq.TIM_CMDREJ

/-- CLEAR_COUNTS (R553). -/
def State.timClear (s : State) : State :=
  ((s.wr Reg.TIM_CNT 0).wr Reg.TIM_PTPCNT 0).each 8 (fun s k => (s.wr (Reg.TIM_FLSTAT k) 0).wr (Reg.TIM_CLSTAT k) 0)

/-- TIM_CMD (R553). -/
def State.timCommand (s : State) (op d : Nat) : State :=
  if op = 1 then s.switchCmd d else if op = 2 then s.timClear else s

/-- TIME_SET on a domain (R544): none for a mode, domain or number that is a bad value, some false for a domain that is not
FREE. -/
def State.timeSet (s : State) (o : Origin) (d mode sec ns : Nat) : Option Bool × State :=
  if mode > 1 ∨ d > 1 ∨ ns > 999999999 then (none, s)
  else if s.get (Fld.TIM_DCFG_SRC d) = 0 ∨ s.domState d = 0 then (some false, s)
  else
    let old := s.domClock d
    let new : Int := if mode = 0 then ((sec * 1000000000 + ns : Nat) : Int) * (nsUnit : Int)
      else (old : Int) + (toSigned 48 sec * 1000000000 + (ns : Int)) * (nsUnit : Int)
    let s := s.setDomClock d new
    let s := s.audit 0xA o (Reg.TIM_DTSL d) (clockSec old % 2 ^ 32) (clockSec (s.domClock d) % 2 ^ 32)
    let s := (s.timeRec 3 old (s.domClock d) d o).setDom d 2
    (some true, if s.activeDom = d then s.followActive else s)

/-! ### PTP -/

/-- Peer delay state of a port. -/
def State.pdel (s : State) (n : Nat) : PdelayState := (s.tim.pdelay[n]?).getD ⟨0, 0, none, none, none⟩

/-- Change the peer delay state of a port. -/
def State.modPdel (s : State) (n : Nat) (f : PdelayState → PdelayState) : State :=
  { s with tim := { s.tim with pdelay := updAt s.tim.pdelay n f } }

/-- Address and version of a message fit: the port's own address, the source of the HELLO that opened the session, and PTP version
2.0 or 2.1 (R539, R540). -/
def State.ptpFits (s : State) (n : Nat) (m : PtpMsg) : Bool :=
  m.dstMac == ownMac n && m.srcMac == (s.lane n).peerMac && m.major == 2 && decide (m.minor.toNat ≤ 1)

/-- A PTP message is accepted or counted in DISC; every message counts among the first 160 of its kind (R540). -/
def State.ptpAccept (s : State) (n type : Nat) (m : PtpMsg) : State × Bool :=
  let key := n * 4096 + type * 256 + m.domain.toNat
  let k := smGet (fun _ => (0 : Nat)) s.tim.ptpSeen key
  let t := { s with tim := { s.tim with ptpSeen := smInsert key (k + 1) s.tim.ptpSeen } }
  if s.ens Pg.TIM && s.laneState n == 3 && s.ptpFits n m && decide (k < 160) then (t.bump Fld.TIM_PTPCNT_RX, true)
  else (t.bump Fld.TIM_PTPCNT_DISC, false)

/-- A latency of `TIM_LAT` in whole nanoseconds (R542). -/
def latencyNs (quarters : Nat) : Int := ((quarters + 2) / 4 : Nat)

/-- The receive stamp of a frame that is at hand now, at its ball (R542). -/
def State.rxStamp (s : State) : Int := (s.nowNat : Int) - latencyNs (s.get Fld.TIM_LAT_RXLAT)

/-- The transmit stamp of a frame that is sent now, at its ball (R542). -/
def State.txStamp (s : State) : Int := (s.nowNat : Int) + latencyNs (s.get Fld.TIM_LAT_TXLAT)

/-- The receive stamp in the clock of a domain (R542). -/
def State.rxDomain (s : State) (d : Nat) : Int := (s.domClock d / nsUnit : Nat) - latencyNs (s.get Fld.TIM_LAT_RXLAT)

/-- The transmit stamp in the clock of a domain (R542). -/
def State.txDomain (s : State) (d : Nat) : Int := (s.domClock d / nsUnit : Nat) + latencyNs (s.get Fld.TIM_LAT_TXLAT)

/-- Bytes of a PTP message from the destination address through the FCS: 18 and the message (R539, R540). -/
def ptpBytes (type : Nat) : Nat := if type = 0 ∨ type = 8 then 64 else if type = 11 then 82 else 72

/-- A PTP message leaves through the class 1 egress queue under its budget, without credits (R540). -/
def State.ptpSend (s : State) (n type domain : Nat) (values : List Int) : State :=
  let q := ((s.lane n).queue.filter (fun q => frameCls q.frame == 1)).map (fun q => frameBytes q.frame)
  if q.length + 1 ≤ 16 ∧ q.sum + ptpBytes type ≤ 2048 then s.emit (.ptp n type domain values)
  else s.bump (whole (Reg.FP_CNT_DROP n))

/-- The PTP domain that a message belongs to. -/
def State.ptpDom (s : State) (m : PtpMsg) : Option Nat :=
  (List.range 2).find? (fun d => s.on (Fld.TIM_DCFG_EN d) && s.get (Fld.TIM_DCFG_SRC d) == 0 &&
    s.get (Fld.TIM_DCFG_DOMAIN d) == m.domain.toNat)

/-- The data set of an Announce, compared in order (R539). -/
def dataSet (m : PtpMsg) : List Nat :=
  [m.prio1.toNat, m.clockClass.toNat, m.accuracy.toNat, m.variance.toNat, m.prio2.toNat, m.gmId.toNat, m.stepsRemoved.toNat,
    m.sourceId.toNat]

/-- The first differing entry decides. -/
def listLess : List Nat → List Nat → Bool
  | a :: x, b :: y => if a < b then true else if b < a then false else listLess x y
  | _, _ => false

/-- The module's own data set (R539); its variance is the standard's for an unknown one (PRESUMED log 26). -/
def State.ownSet (s : State) (d : Nat) : List Nat :=
  [s.get (Fld.TIM_DCFG_PRIO1 d), 248, 0xFE, 0xFFFF, 128, Config.moduleUid.toNat, 0, 0]

/-- An Announce takes part in the selection of a master (R539, R541); a domain that had none and waits in UNSYNC, or is
MASTER, then acquires (R532, R533). -/
def State.announceIn (s : State) (n : Nat) (m : PtpMsg) : State :=
  match s.ptpAccept n 0xB m with
  | (s, false) => s
  | (s, true) =>
    if !m.ptpTimescale then s else
    let s := match m.utcOffset with
      | some u => s.wr Reg.TIM_UTC (u.toNat + 65536)
      | none => s
    match s.ptpDom m with
    | none => s
    | some d =>
      let same := match (s.dom d).best with
        | some (l, b) => l == n && b.sourceId == m.sourceId
        | none => false
      let better := match (s.dom d).best with
        | some (_, b) => listLess (dataSet m) (dataSet b)
        | none => !s.on (Fld.TIM_DCFG_GMCAP d) || listLess (dataSet m) (s.ownSet d)
      if !(same || better) then s else
      let fresh := (s.dom d).best.isNone
      let s := s.modDom d (fun x => { x with best := some (n, m), sync := if same then x.sync else none })
      let s := (s.put (Fld.TIM_DSTAT_SLAVE d) n).wr64 (Reg.TIM_DGMID d) m.gmId.toNat
      if s.domState d = 7 ∨ (s.domState d = 6 ∧ fresh) then s.setDom d 3 else s

/-- One offset from the master (R532, R533, R535): the servo's new increment is a free value within its limits (log 7). -/
def State.offsetIn (s : State) (n d : Nat) (offset : Int) : State :=
  let s := (s.wr (Reg.TIM_DOFS d) (satSigned 32 offset)).wr (Reg.TIM_DPDLY d) ((((s.pdel n).delay).getD 0).toNat % 2 ^ 32)
  let s := s.modDom d (fun x => { x with syncAt := some s.nowNat })
  let st := s.domState d
  let s := if st = 5 ∨ st = 6 ∨ st = 7 then (s.modDom d (fun x => { x with good := 0, bad := 0 })).setDom d 3 else s
  let win := s.get (Fld.TIM_DLOCK_LOCKWIN d)
  let near := decide (offset.natAbs ≤ win)
  let s := s.modDom d (fun x => { x with
    good := if near then x.good + 1 else 0
    bad := if offset.natAbs > 4 * win then x.bad + 1 else 0 })
  let s := if s.domState d = 3 ∧ (s.dom d).good ≥ max 1 (s.get (Fld.TIM_DLOCK_LOCKN d)) then s.setDom d 4
    else if s.domState d = 4 ∧ (s.dom d).bad ≥ 2 then (s.modDom d (fun x => { x with good := 0, bad := 0 })).setDom d 3 else s
  if !s.appUp then s
  else if offset.natAbs > 1000000 then s.adjustDom d (-offset)
  else
    let x := s.drawWord
    x.2.wr (Reg.TIM_DINC d) (0x40000000 - 536870 + x.1.toNat % 1073741)

/-- The selected master's port and source sent a message. -/
def State.fromMaster (s : State) (n d : Nat) (m : PtpMsg) : Bool :=
  match (s.dom d).best with
  | some (l, b) => l == n && b.sourceId == m.sourceId
  | none => false

/-- A Sync (R533, R535, R539). -/
def State.syncIn (s : State) (n : Nat) (m : PtpMsg) : State :=
  match s.ptpAccept n 0 m with
  | (s, false) => s
  | (s, true) =>
    match s.ptpDom m with
    | none => s
    | some d =>
      if !s.fromMaster n d m then s
      else if m.twoStep then s.modDom d (fun x => { x with sync := some (n, m, s.rxDomain d) })
      else s.offsetIn n d (s.rxDomain d - (m.origin + m.correction + ((s.pdel n).delay).getD 0))

/-- A Follow_Up completes a two-step Sync (R539). -/
def State.followUpIn (s : State) (n : Nat) (m : PtpMsg) : State :=
  match s.ptpAccept n 8 m with
  | (s, false) => s
  | (s, true) =>
    match s.ptpDom m with
    | none => s
    | some d =>
      match (s.dom d).sync with
      | some (l, y, t) =>
        if l = n ∧ y.seq = m.seq ∧ y.sourceId = m.sourceId then
          (s.modDom d (fun x => { x with sync := none })).offsetIn n d
            (t - (m.origin + y.correction + m.correction + ((s.pdel n).delay).getD 0))
        else s
      | none => s

/-- A Pdelay_Req is answered (R539). -/
def State.pdelayReq (s : State) (n : Nat) (m : PtpMsg) : State :=
  match s.ptpAccept n 2 m with
  | (s, false) => s
  | (s, true) =>
    let s := s.ptpSend n 3 m.domain.toNat [(m.seq.toNat : Int), s.rxStamp]
    s.ptpSend n 10 m.domain.toNat [(m.seq.toNat : Int), s.txStamp]

/-- A Pdelay_Resp (R539). -/
def State.pdelayResp (s : State) (n : Nat) (m : PtpMsg) : State :=
  match s.ptpAccept n 3 m with
  | (s, false) => s
  | (s, true) =>
    if m.seq.toNat ≠ (s.pdel n).seq then s else
    s.modPdel n (fun p => { p with t2 := some (m.origin - m.correction), t4 := some s.rxStamp })

/-- A Pdelay_Resp_Follow_Up completes the measurement (R539). -/
def State.pdelayFollow (s : State) (n : Nat) (m : PtpMsg) : State :=
  match s.ptpAccept n 10 m with
  | (s, false) => s
  | (s, true) =>
    let p := s.pdel n
    if m.seq.toNat ≠ p.seq then s else
    match p.t2, p.t4 with
    | some t2, some t4 => s.modPdel n (fun p => { p with t2 := none, t4 := none, delay := some ((t4 - p.t1 - (m.origin + m.correction - t2)) / 2) })
    | _, _ => s

/-- Once a second a port sends Pdelay_Req and its message counts begin anew (R539, R540). -/
def State.pdelayTick (s : State) (n : Nat) : State :=
  let s := { s with tim := { s.tim with ptpSeen := s.tim.ptpSeen.filter (fun x => x.1 / 4096 != n) } }
  if !(s.ens Pg.TIM && s.laneState n == 3) then s else
  let q := ((s.pdel n).seq + 1) % 65536
  (s.modPdel n (fun p => { p with seq := q, t1 := s.txStamp, t2 := none, t4 := none })).ptpSend n 2 0 [(q : Int)]

/-- The data set that a domain announces: its own when MASTER, else that of its master, one step further (R539). -/
def State.announceSet (s : State) (d : Nat) : List Nat :=
  match (s.dom d).best with
  | some (_, m) =>
    if s.domState d = 7 then [s.get (Fld.TIM_DCFG_PRIO1 d), 248, 0xFE, 128, s.rd64 (Reg.TIM_DGMID d), 0]
    else [m.prio1.toNat, m.clockClass.toNat, m.accuracy.toNat, m.prio2.toNat, m.gmId.toNat, m.stepsRemoved.toNat + 1]
  | none => [s.get (Fld.TIM_DCFG_PRIO1 d), 248, 0xFE, 128, s.rd64 (Reg.TIM_DGMID d), 0]

/-- Sync, Follow_Up and Announce of a domain leave by every PTP port that is not its slave port (R539, R541). -/
def State.masterTick (s : State) (d : Nat) : State :=
  let st := s.domState d
  if !(s.ens Pg.TIM && (st == 7 || st == 4 || st == 5) && s.get (Fld.TIM_DCFG_SRC d) == 0) then s else
  let q := ((s.dom d).seq + 1) % 65536
  let s := s.modDom d (fun x => { x with seq := q })
  let slave := s.get (Fld.TIM_DSTAT_SLAVE d)
  ((List.range 4).filter (fun n => s.laneState n == 3 && n != slave)).foldl (fun s n =>
    let dm := s.get (Fld.TIM_DCFG_DOMAIN d)
    ((s.ptpSend n 0 dm [(q : Int)]).ptpSend n 8 dm [(q : Int), s.txDomain d]).ptpSend n 11 dm
      ((q :: s.announceSet d).map (fun (x : Nat) => (x : Int)))) s

/-- No Sync for 3 intervals (R532). -/
def State.syncLost (s : State) (d : Nat) : State := if s.domState d = 4 then s.setDom d 5 else s

/-- HOLDOVER or ACQUIRING for longer than TIM_HOLD.TIME (R532). -/
def State.holdLost (s : State) (d : Nat) : State :=
  if s.domState d = 5 ∨ s.domState d = 3 then (s.modDom d (fun x => { x with good := 0, bad := 0 })).setDom d 6 else s

/-- announceReceiptTimeout (R532, R541): a selected master is lost; without one, a GMCAP domain becomes MASTER. -/
def State.announceLost (s : State) (d : Nat) : State :=
  if !(s.ens Pg.TIM && s.on (Fld.TIM_DCFG_EN d) && s.get (Fld.TIM_DCFG_SRC d) == 0) then s else
  match (s.dom d).best with
  | some _ =>
    let s := (s.modDom d (fun x => { x with best := none, sync := none })).put (Fld.TIM_DSTAT_SLAVE d) 7
    if s.domState d = 4 then s.setDom d 5 else s
  | none =>
    if s.on (Fld.TIM_DCFG_GMCAP d) && s.domState d != 7 then
      (s.wr64 (Reg.TIM_DGMID d) Config.moduleUid.toNat).setDom d 7
    else s

/-! ### Timed launch -/

/-- Byte `i` of a fabric slot's buffer. -/
def State.slotByte (s : State) (k i : Nat) : Nat := bitsOf (s.rd (Reg.TIM_FLBUF k + i / 4 * 4)) (24 - 8 * (i % 4)) 8

/-- `n` bytes of a slot's buffer from `off`. -/
def State.slotBytes (s : State) (k off n : Nat) : List Byte := (List.range n).map (fun i => BitVec.ofNat 8 (s.slotByte k (off + i)))

/-- The frame that a slot's buffer holds (R480, R548). -/
def State.slotFrame (s : State) (k : Nat) : FabFrame :=
  let h := s.slotBytes k 0 18
  let len := s.get (Fld.TIM_FLCTL_LEN k)
  ⟨true, macBroadcast, 0, 0x88B5, BitVec.ofNat 4 (beAt h 0 1 / 16), BitVec.ofNat 2 (beAt h 0 1 / 4), BitVec.ofNat 2 (beAt h 0 1),
    BitVec.ofNat 8 (beAt h 1 1), BitVec.ofNat 6 (beAt h 2 2 / 1024), BitVec.ofNat 10 (beAt h 2 2), BitVec.ofNat 6 (beAt h 4 2 / 1024),
    BitVec.ofNat 10 (beAt h 4 2), BitVec.ofNat 8 (beAt h 6 1), BitVec.ofNat 8 (beAt h 7 1), 0, BitVec.ofNat 16 (beAt h 16 2),
    s.slotBytes k 18 (len - 18), 0⟩

/-- A slot's header is refused at arming (R549). -/
def State.slotBad (s : State) (k : Nat) : Bool :=
  let h := s.slotBytes k 0 18
  let len := s.get (Fld.TIM_FLCTL_LEN k)
  beAt h 0 1 / 4 % 4 != 1 || beAt h 1 1 != 4 || beAt h 0 1 % 4 != 0 || beAt h 2 2 / 1024 != 0 || beAt h 4 2 / 1024 != 0 ||
  beAt h 7 1 != 0 || len < 18 || 222 < len || len != 18 + beAt h 16 2

/-- A launch of a fabric slot would count MISSED (R550). -/
def State.slotMisses (s : State) (k : Nat) : Bool :=
  let f := s.slotFrame k
  !s.fabRuns || !s.domUp 9 || (match s.routePort f.dst.toNat with
    | none => true
    | some p => !s.budgetHas p f)

/-- A slot's next instant after a launch or a miss; periods already past after a miss count MISSED (R548, R550). -/
def State.slotNext (s : State) (ctl : RegField) (tAddr per : Nat) (missed : RegField) (miss : Bool) : State :=
  let p := per * 1000
  if p = 0 then s.setOn ctl false else
  let t := s.rd64 tAddr + p
  let late := toSigned 64 ((s.nowNat + 2 ^ 64 - t % 2 ^ 64) % 2 ^ 64)
  let skip := if miss ∧ late ≥ 0 then late.toNat / p + 1 else 0
  (s.wr64 tAddr ((t + skip * p) % 2 ^ 64)).bumpBy missed skip

/-- A fabric slot launches (R548, R550). -/
def State.launchFabric (s : State) (k : Nat) : State :=
  if !s.on (Fld.TIM_FLCTL_EN k) then s else
  let miss := s.slotMisses k
  let f := s.slotFrame k
  let s := if miss then s.bump (Fld.TIM_FLSTAT_MISSED k) else
    (match s.routePort f.dst.toNat with
     | some p => s.egress p f none
     | none => s).bump (Fld.TIM_FLSTAT_SENT k) |>.irq Pg.TIM Irq.TIM_LAUNCH
  s.slotNext (Fld.TIM_FLCTL_EN k) (Reg.TIM_FLT k) (s.rd (Reg.TIM_FLPER k)) (Fld.TIM_FLSTAT_MISSED k) miss

/-- An instant lies more than 1 ms in the past (R549). -/
def State.longPast (s : State) (t : Nat) : Bool := decide (toSigned 64 ((s.nowNat + 2 ^ 64 - t % 2 ^ 64) % 2 ^ 64) > 1000000)

/-- EN of a fabric slot has been set (R549). -/
def State.armFabric (s : State) (k : Nat) : State :=
  if !s.on (Fld.TIM_FLCTL_EN k) then s
  else if s.slotBad k then (s.setOn (Fld.TIM_FLCTL_EN k) false).irq Pg.TIM Irq.TIM_LREJ
  else if s.longPast (s.rd64 (Reg.TIM_FLT k)) then (s.bump (Fld.TIM_FLSTAT_LATE k)).launchFabric k
  else s

end Sys2Proof.Machine
end

