-- ==== Sys2Proof/Machine/Can.lean ====
section
/-! DEFINITION. The CAN FD controllers: message objects, sending, receiving, stamps, reference messages, fault confinement,
failover (R557 to R582), with the safety PDUs and the cooling payload that travel in objects. -/

namespace Sys2Proof.Machine

/-! ### Objects -/

/-- Word `w` of object `o` of controller `x` (R563). -/
def objAddr (x o w : Nat) : Nat := 0xA8000 + 0x2000 * x + 64 * o + 4 * w

/-- A field of word `w` of an object. -/
def objField (x o w lo width : Nat) : RegField := ⟨objAddr x o w, lo, width⟩

/-- Fields of word 0 and word 3 of an object (R563). -/
def objEN (x o : Nat) : RegField := objField x o 0 31 1
/-- DIR of an object. -/
def objDIR (x o : Nat) : RegField := objField x o 0 30 1
/-- IDE of an object. -/
def objIDE (x o : Nat) : RegField := objField x o 0 29 1
/-- PAIR of an object. -/
def objPAIR (x o : Nat) : RegField := objField x o 0 26 1
/-- FDF of an object. -/
def objFDF (x o : Nat) : RegField := objField x o 0 28 1
/-- DLC of an object. -/
def objDLC (x o : Nat) : RegField := objField x o 0 16 4
/-- IE of an object. -/
def objIE (x o : Nat) : RegField := objField x o 0 0 1
/-- TXRQ of an object. -/
def objTXRQ (x o : Nat) : RegField := objField x o 3 31 1
/-- HOLD of an object. -/
def objHOLD (x o : Nat) : RegField := objField x o 3 30 1
/-- TXBUSY of an object. -/
def objTXBUSY (x o : Nat) : RegField := objField x o 3 29 1
/-- RXNEW of an object. -/
def objRXNEW (x o : Nat) : RegField := objField x o 3 28 1
/-- OVR of an object. -/
def objOVR (x o : Nat) : RegField := objField x o 3 27 1
/-- TXOK of an object. -/
def objTXOK (x o : Nat) : RegField := objField x o 3 26 1
/-- FOVD of an object. -/
def objFOVD (x o : Nat) : RegField := objField x o 3 25 1
/-- STAMPQ of an object. -/
def objSTAMPQ (x o : Nat) : RegField := objField x o 3 24 1
/-- TXERR of an object. -/
def objTXERR (x o : Nat) : RegField := objField x o 3 23 1
/-- COLL of an object. -/
def objCOLL (x o : Nat) : RegField := objField x o 3 20 2
/-- Flags of the stored frame, RXESI, RXBRS, RXFDF, RXIDE from bit 19. -/
def objRXFLAGS (x o : Nat) : RegField := objField x o 3 16 4
/-- RXDLC of an object. -/
def objRXDLC (x o : Nat) : RegField := objField x o 3 8 4
/-- NFRAMES of an object. -/
def objNFRAMES (x o : Nat) : RegField := objField x o 7 16 16
/-- NFOV of an object. -/
def objNFOV (x o : Nat) : RegField := objField x o 7 8 8
/-- NCOLL of an object. -/
def objNCOLL (x o : Nat) : RegField := objField x o 7 0 8

/-- Page of controller `x`. -/
def canPage (x : Nat) : Nat := Pg.CNA + x

/-- Hidden state of controller `x`. -/
def State.canOf (s : State) (x : Nat) : CanState := (s.can[x]?).getD canReset

/-- Change the hidden state of controller `x`. -/
def State.modCan (s : State) (x : Nat) (f : CanState → CanState) : State := { s with can := updAt s.can x f }

/-- PSTATE of controller `x` (R573). -/
def State.canPs (s : State) (x : Nat) : Nat := s.get (Fld.CN_STATE_PSTATE x)

/-- The controller takes part in the bus: error active or passive, out of recovery, transport mode and reset (R559). -/
def State.canLive (s : State) (x : Nat) : Bool :=
  (s.canPs x == 2 || s.canPs x == 3) && decide (s.svc.state ≠ .recovery) && decide (s.svc.state ≠ .transport) &&
  !s.clk.held.contains 8 && !s.clk.waitPll.contains 8

/-- Set a status bit of word 3 that a map register shows as well. -/
def State.setObjMap (s : State) (x o : Nat) (f : RegField) (map : Nat) (b : Bool) : State :=
  (s.setOn f b).setBit (map + 4 * (o / 32)) (o % 32) b

/-- Set TXRQ of an object. -/
def State.setTxrq (s : State) (x o : Nat) (b : Bool) : State := s.setObjMap x o (objTXRQ x o) (Reg.CN_TXPEND x 0) b

/-- Set RXNEW of an object. -/
def State.setRxnew (s : State) (x o : Nat) (b : Bool) : State := s.setObjMap x o (objRXNEW x o) (Reg.CN_RXMAP x 0) b

/-- Set HOLD of an object. -/
def State.setHold (s : State) (x o : Nat) (b : Bool) : State := s.setObjMap x o (objHOLD x o) (Reg.CN_HOLDMAP x 0) b

/-- Bytes of a data field by its DLC (ISO 11898-1; PRESUMED log 10). -/
def dlcBytes (fdf : Bool) (dlc : Nat) : Nat :=
  if dlc ≤ 8 then dlc else if !fdf then 8 else [12, 16, 20, 24, 32, 48, 64].getD (dlc - 9) 64

/-- Object `o` extends the one before it (R564). -/
def State.objExtends (s : State) (x o : Nat) : Bool := o % 2 == 1 && s.on (objEN x (o - 1)) && s.on (objPAIR x (o - 1))

/-- Data bytes that an object holds (R564). -/
def State.objCapacity (s : State) (x o : Nat) : Nat := if o % 2 == 0 && s.on (objPAIR x o) then 64 else 32

/-- Length of an object's sent frame. -/
def State.objLength (s : State) (x o : Nat) : Nat := dlcBytes (s.on (objFDF x o)) (s.get (objDLC x o))

/-- An enabled object of a direction that is not used as an extension. -/
def State.objUsed (s : State) (x o : Nat) (send : Bool) : Bool :=
  s.on (objEN x o) && (s.on (objDIR x o) == send) && !s.objExtends x o

/-- Address of the word of data byte `i`, bytes from 32 on lying in the next object. -/
def dataAddr (x o i : Nat) : Nat := objAddr x (o + i / 32) (8 + i % 32 / 4)

/-- Data byte `i` of an object, 0 beyond what it holds. -/
def State.objByte (s : State) (x o i : Nat) : Nat :=
  if i < s.objCapacity x o then bitsOf (s.rd (dataAddr x o i)) (24 - 8 * (i % 4)) 8 else 0

/-- Write data bytes of an object from byte 0 (R563, R567). -/
def State.putBytes (s : State) (x o : Nat) (l : List Byte) : State :=
  (List.range l.length).foldl (fun (s : State) i =>
    let a := dataAddr x o i
    s.wr a (putBits (s.rd a) (24 - 8 * (i % 4)) 8 ((l.getD i 0).toNat))) s

/-- Header and data words of an object as its arbitration takes them (R565). -/
def State.objFrame (s : State) (x o : Nat) : List Word :=
  [s.word (objAddr x o 0), s.word (objAddr x o 1)] ++
    (List.range ((s.objLength x o + 3) / 4)).map (fun k => s.word (dataAddr x o (4 * k)))

/-- A connection of the safety layer names the object (R466, R578). -/
def State.objIsSafety (s : State) (x o : Nat) : Bool :=
  (List.range 8).any (fun n => s.on (Fld.SCL_CCFG_EN n) &&
    ([Reg.SCL_CNET1 n, Reg.SCL_CNET2 n].any (fun a =>
      bitsOf (s.rd a) 30 2 == x + 1 && s.rd a % 128 == o && (a == Reg.SCL_CNET1 n || s.on (Fld.SCL_CCFG_COMPAT n)))))

/-- Fault number of an object of a controller (R582). -/
def canInst (x o : Nat) : Nat := 128 * x + o

/-! ### Selection -/

/-- Arbitration value of an object: base identifier, IDE, identifier extension (ISO 11898-1; PRESUMED log 10). -/
def State.arbValue (s : State) (x o : Nat) : Nat :=
  let id := s.rd (objAddr x o 1) % 2 ^ 29
  id / 2 ^ 18 * 2 ^ 19 + (if s.on (objIDE x o) then 2 ^ 18 + id % 2 ^ 18 else 0)

/-- Objects that may enter arbitration (R568, R572). -/
def State.arbObjects (s : State) (x : Nat) : List Nat :=
  (List.range 128).filter (fun o => s.bit (Reg.CN_TXPEND x (o / 32)) (o % 32) && !s.on (objHOLD x o) && s.objUsed x o true)

/-- The object of lowest arbitration value, ties to the lower number. -/
def State.lowestObject (s : State) (x : Nat) : Option Nat :=
  (s.arbObjects x).foldl (fun (b : Option Nat) o =>
    match b with
    | none => some o
    | some p => if s.arbValue x o < s.arbValue x p then some o else b) none

/-- The object kept at the entry to BUS_OFF (R574). -/
def State.keptObject (s : State) (x : Nat) : Option Nat :=
  if s.on (Fld.CN_TXNEXT_KEEP x) then some (s.get (Fld.CN_TXNEXT_OBJ x)) else none

/-- The object that enters the next arbitration (R568, R574). -/
def State.nextObject (s : State) (x : Nat) : Option Nat :=
  match s.keptObject x with
  | some k => if s.on (objTXRQ x k) then some k else s.lowestObject x
  | none => s.lowestObject x

/-- CNx_TXNEXT and the counters of CNx_STATE follow (R573, R574). -/
def State.canShow (s : State) (x : Nat) : State :=
  let c := s.canOf x
  let s := match s.keptObject x with
    | some k => if s.on (objTXRQ x k) then s else s.wr (Reg.CN_TXNEXT x) 0
    | none => s
  let s := if s.on (Fld.CN_TXNEXT_KEEP x) then s else
    match s.lowestObject x with
    | some o => s.wr (Reg.CN_TXNEXT x) (o + 128)
    | none => s.wr (Reg.CN_TXNEXT x) 0
  let s := (s.put (Fld.CN_STATE_TEC x) (min 255 c.tec)).put (Fld.CN_STATE_REC x) (c.rec_ % 128)
  s.setOn (Fld.CN_STATE_RXPASS x) (decide (c.rec_ ≥ 128))

/-! ### Requests -/

/-- The reference message has failed or was aborted (R570). -/
def State.refFailed (s : State) (x o : Nat) : State :=
  if s.on (Fld.CN_REF_EN x) && s.get (Fld.CN_REF_OBJ x) == o then
    let stepped := bitOf (s.objByte x o 1) 2
    s.modCan x (fun c => { c with refSof := none, refStepped := c.refStepped || stepped })
  else s

/-- A request ends unsent by ONESHOT or by R564 (R575). -/
def State.requestFails (s : State) (x o : Nat) : State :=
  (((s.setTxrq x o false).setOn (objTXERR x o) true).irq (canPage x) Irq.CN_TXERR).refFailed x o

/-- The frame of a send object is longer than the object holds (R564). -/
def State.objTooLong (s : State) (x o : Nat) : Bool := s.objUsed x o true && decide (s.objLength x o > s.objCapacity x o)

/-- R564: a request that an object cannot carry is refused. -/
def State.requestRefuse (s : State) (x o : Nat) : State :=
  if s.on (objTXRQ x o) && s.objTooLong x o then
    ((s.requestFails x o).irq (canPage x) Irq.CN_CONFIG_ERR).bump (Fld.CN_ECNT_RXDROP x)
  else s

/-- A request of an object; one made while TXRQ is 1 changes nothing (R568). -/
def State.canRequest (s : State) (x o : Nat) : State :=
  if s.on (objTXRQ x o) then s else (((s.setTxrq x o true).requestRefuse x o).canShow x)

/-- A request is aborted unless its frame is on the bus (R563, R575, R580). -/
def State.canAbortObj (s : State) (x o : Nat) : State :=
  if s.on (objTXRQ x o) && !s.on (objTXBUSY x o) then ((s.setTxrq x o false).refFailed x o).canShow x else s

/-- A write of word 3 of an object: status bits clear by writing 1, TXRQ requests or aborts (R563). -/
def State.word3Write (s : State) (x o v : Nat) : State :=
  let s := if bitOf v 28 then s.setRxnew x o false else s
  let s := [objOVR x o, objTXOK x o, objFOVD x o, objTXERR x o].foldl (fun (s : State) f =>
    if bitOf v f.lo then s.setOn f false else s) s
  if bitOf v 31 then s.canRequest x o else s.canAbortObj x o

/-- Bus idle: the next object enters arbitration, with its header and data as they stand (R565, R568). -/
def State.canArbitrate (s : State) (x : Nat) : State :=
  let s := (s.arbObjects x).foldl (fun (s : State) o => s.requestRefuse x o) s
  let mode := s.get (Fld.CN_CFG_MODE x)
  if !s.canLive x || (s.canOf x).onBus.isSome || !(mode == 0 || mode == 3) then s.canShow x else
  match s.nextObject x with
  | none => s.canShow x
  | some o => ((s.modCan x (fun c => { c with onBus := some (o, s.objFrame x o) })).setOn (objTXBUSY x o) true).canShow x

/-- The frame on the bus ends, or its object loses the arbitration; a kept object has then had its first arbitration
(R574). -/
def State.offBus (s : State) (x : Nat) : State :=
  match (s.canOf x).onBus with
  | none => s
  | some (o, _) =>
    ((s.setOn (objTXBUSY x o) false).setOn (Fld.CN_TXNEXT_KEEP x) false).modCan x (fun c => { c with onBus := none })

/-! ### Fault confinement -/

/-- The fault code of a state that the controller leaves ends (R582). -/
def State.canLeave (s : State) (x : Nat) : State :=
  if s.canPs x = 3 then s.endInstance (canPage x) Flt.CAN_ERROR_PASSIVE x else s

/-- The failing state ends: bus-off and a reported failover end with it (R574, R577). -/
def State.canWell (s : State) (x : Nat) : State :=
  let s := s.endInstance (canPage x) Flt.CAN_BUS_OFF x
  let s := (s.flt.instances.filter (fun i => i.1 == Flt.CAN_FAILOVER && i.2 / 128 == x)).foldl
    (fun (s : State) i => s.endInstance (canPage x) Flt.CAN_FAILOVER i.2) s
  s.modCan x (fun c => { c with reported := false })

/-- The entry to BUS_OFF (R573, R574). -/
def State.canBusOff (s : State) (x : Nat) : State :=
  let kept : Option Nat := match (s.canOf x).onBus with
    | some (o, _) => some o
    | none => s.nextObject x
  let s := ((s.canLeave x).offBus x).put (Fld.CN_STATE_PSTATE x) (if s.on (Fld.CN_CFG_AUTOREC x) then 5 else 4)
  let s := match kept with
    | some o => if s.on (objTXRQ x o) then s.wr (Reg.CN_TXNEXT x) (o + 128 + 256) else s
    | none => s
  let s := (s.irq (canPage x) Irq.CN_BUSOFF).bump (Fld.CN_ECNT_BUSOFF x)
  s.fault (canPage x) Flt.CAN_BUS_OFF x

/-- Fault confinement follows the counters (R573; ISO 11898-1). -/
def State.canConfine (s : State) (x : Nat) : State :=
  let c := s.canOf x
  if !(s.canPs x == 2 || s.canPs x == 3) then s
  else if c.tec ≥ 256 then s.canBusOff x
  else
    let passive := decide (c.tec ≥ 128) || decide (c.rec_ ≥ 128)
    if passive && s.canPs x == 2 then
      ((((s.put (Fld.CN_STATE_PSTATE x) 3).irq (canPage x) Irq.CN_PASSIVE).bump (Fld.CN_ECNT_PASSIVE x)).fault (canPage x)
        Flt.CAN_ERROR_PASSIVE x)
    else if !passive && s.canPs x == 3 then (s.canLeave x).put (Fld.CN_STATE_PSTATE x) 2 else s

/-- The counters of the controller change in this mode (MONITOR and RESTRICTED keep them; PRESUMED log 10). -/
def State.canCounts (s : State) (x : Nat) : Bool := s.get (Fld.CN_CFG_MODE x) == 0

/-- The receive counter after a frame received without error; above 127 it returns to a value that the standard leaves
between 119 and 127 (ISO 11898-1; log 10). -/
def State.recGood (s : State) (x : Nat) : State :=
  if !s.canCounts x then s else
  let c := s.canOf x
  if c.rec_ ≥ 128 then
    let d := s.drawWord
    d.2.modCan x (fun c => { c with rec_ := 119 + d.1.toNat % 9 })
  else s.modCan x (fun c => { c with rec_ := c.rec_ - 1 })

/-- LASTERR of an error (R579). -/
def canErrCode : CanErr → Nat
  | .crc => 1
  | .stuff => 2
  | .form => 3
  | .ack => 4
  | .bitDominant => 5
  | .bitRecessive => 6
  | .exception => 3

/-- A bit error. -/
def isBitError : CanErr → Bool
  | .bitDominant => true
  | .bitRecessive => true
  | _ => false

/-- Steps of the counters for an error (ISO 11898-1; PRESUMED log 10): a sender's TEC by 8, but not for an acknowledgement
error of a passive sender that sees no dominant bit while it signals, nor for a stuff error; a receiver's REC by 1, by 8 for
a dominant bit after its flag. -/
def State.errorCounts (s : State) (x : Nat) (e : CanErr) (sending heavy : Bool) : State :=
  if !s.canCounts x then s else
  if sending then
    if (decide (e = .ack) && s.canPs x == 3 && !heavy) || decide (e = .stuff) then s
    else s.modCan x (fun c => { c with tec := min 256 (c.tec + 8) })
  else s.modCan x (fun c => { c with rec_ := min 255 (c.rec_ + (if heavy then 8 else 1)) })

/-- A collision of an object (R571, R572). -/
def State.collide (s : State) (x o : Nat) : State :=
  let n := min 3 (s.get (objCOLL x o) + 1)
  let s := ((s.put (objCOLL x o) n).bump (objNCOLL x o)).irq (canPage x) Irq.CN_COLLISION
  if n = 3 && !s.on (objHOLD x o) then
    ((s.setHold x o true).irq (canPage x) Irq.CN_HOLD).fault (canPage x) Flt.CAN_COLLISION_HOLD (canInst x o)
  else s

/-- A protocol exception event: the controller integrates into the bus anew, with its counters as they stand (R557; ISO 11898-1,
PRESUMED log 10). -/
def State.canException (s : State) (x : Nat) : State :=
  (((s.canLeave x).offBus x).put (Fld.CN_STATE_PSTATE x) 1).canShow x

/-- The words are those of an FD frame with bit rate switching. -/
def switchesRate (ws : List Word) : Bool := bitOf (ws.getD 0 0).toNat 28 && bitOf (ws.getD 0 0).toNat 27

/-- The secondary sample point of a sent frame's data phase is measured (R561). -/
def State.sspRuns (s : State) (x : Nat) (ws : List Word) : Bool :=
  s.on (Fld.CN_SSP_EN x) && s.get (Fld.CN_CFG_MODE x) == 0 && switchesRate ws

/-- The delay measured on a sent frame stands in CNx_SSPDLY, in whole steps of 12.5 ns, 127 at most (R557, R561). -/
def State.sspShow (s : State) (x ns : Nat) (ws : List Word) : State :=
  if s.sspRuns x ws then s.wr (Reg.CN_SSPDLY x) (min 127 (ns * 2 / 25)) else s

/-- A frame that ended in an error after its arbitration may have been measured: the delay is free (R561; log 4). -/
def State.sspFree (s : State) (x : Nat) : State :=
  match (s.canOf x).onBus with
  | some (_, ws) => if s.sspRuns x ws then (s.drawWord).2.wr (Reg.CN_SSPDLY x) ((s.drawWord).1.toNat % 128) else s
  | none => s

/-- The controller detects an error (R568, R571, R573, R579), or a protocol exception event, which is a form error with PXE 0
(R557). -/
def State.canErrorIn (s : State) (x : Nat) (e : CanErr) (sending : Option Nat) (dataPhase heavy : Bool) : State :=
  if !s.canLive x then s else
  if e = .exception ∧ s.on (Fld.CN_CFG_PXE x) then s.canException x else
  let s := s.put (Fld.CN_STATE_LASTERR x) (canErrCode e)
  let s := match sending with
    | some o => if (s.canOf x).onBus.isNone && s.nextObject x == some o then
        s.modCan x (fun c => { c with onBus := some (o, s.objFrame x o) }) else s
    | none => s
  let sent : Option Nat := match sending with
    | some o => if (s.canOf x).onBus.any (fun b => b.1 == o) then some o else none
    | none => none
  let s := match sent with
    | some o => if dataPhase && isBitError e then (s.sspFree x).collide x o else if dataPhase then s.sspFree x else s
    | none => s
  let s := (s.errorCounts x e sent.isSome heavy)
  let s := s.canConfine x
  let s := s.offBus x
  let s := match sent with
    | some o => if s.on (Fld.CN_CFG_ONESHOT x) then s.requestFails x o else s
    | none => s
  s.canShow x

/-- Recovery ends: the kept object enters the first arbitration (R574). -/
def State.canRecovered (s : State) (x : Nat) : State :=
  if s.canPs x ≠ 5 then s else
  let s := (s.modCan x (fun c => { c with tec := 0, rec_ := 0 })).put (Fld.CN_STATE_PSTATE x) 2
  ((s.irq (canPage x) Irq.CN_RECOVERED).canWell x).canShow x

/-! ### Enable and commands -/

/-- The bit timing passes R562. -/
def State.canTimingOk (s : State) (x : Nat) : Bool :=
  let nb := s.get (Fld.CN_NTIM_NBIT x)
  let np := s.get (Fld.CN_NTIM_NSP x)
  let db := s.get (Fld.CN_DTIM_DBIT x)
  let dp := s.get (Fld.CN_DTIM_DSP x)
  let q := s.get (Fld.CN_NTIM_QPRE x)
  let dq := s.get (Fld.CN_DTIM_DQPRE x)
  let qp := if q = 0 then 32 else q
  let dqp := if dq = 0 then 32 else dq
  decide (3 ≤ np) && decide (np + 2 ≤ nb) && decide (2 ≤ dp) && decide (dp + 1 ≤ db) &&
  decide (s.get (Fld.CN_NTIM_RJW x) ≤ nb - np) && decide (s.get (Fld.CN_DTIM_DRJW x) ≤ db - dp) &&
  decide (dqp * db ≤ qp * nb) &&
  (!s.on (Fld.CN_SSP_EN x) || decide (s.get (Fld.CN_SSP_WIN x) ≤ s.get (Fld.CN_SSP_OFS x)))

/-- CNx_CTRL.EN is set (R559, R562, R579). -/
def State.canOn (s : State) (x : Nat) : State :=
  let s := s.setOn (Fld.ctrlEn (canPage x)) true
  if !s.canTimingOk x then (s.put (Fld.CN_STATE_PSTATE x) 0).irq (canPage x) Irq.CN_CONFIG_ERR else
  let s := ((s.setEns (canPage x) true).put (Fld.CN_STATE_PSTATE x) 1).put (Fld.CN_STATE_LASTERR x) 0
  let s := s.modCan x (fun c => { c with tec := 0, rec_ := 0, onBus := none, refSof := none })
  (s.canWell x).canShow x

/-- CNx_CTRL.EN is cleared: the transmit ball stands recessive, requests stay pending (R559, R575). -/
def State.canOff (s : State) (x : Nat) : State :=
  let s := ((s.canLeave x).offBus x).canWell x
  let s := (s.setEns (canPage x) false).put (Fld.CN_STATE_PSTATE x) 0
  (s.setOn (Fld.CN_TXNEXT_KEEP x) false).canShow x

/-- 11 recessive bits have been seen (R559). -/
def State.canJoin (s : State) (x : Nat) : State :=
  if s.canPs x == 1 && decide (s.svc.state ≠ .recovery) && decide (s.svc.state ≠ .transport) then
    (s.put (Fld.CN_STATE_PSTATE x) 2).canConfine x
  else s

/-- The collision hold of an object ends (R572). -/
def State.canReleaseObj (s : State) (x o : Nat) : State :=
  if s.on (objHOLD x o) then
    (((s.setHold x o false).put (objCOLL x o) 0).endInstance (canPage x) Flt.CAN_COLLISION_HOLD (canInst x o)).canShow x
  else s

/-- CNx_CMD (R580). -/
def State.canCommand (s : State) (x op o : Nat) : State :=
  match op with
  | 1 => if s.canPs x = 4 then s.put (Fld.CN_STATE_PSTATE x) 5 else s.irq (canPage x) Irq.CN_CMDREJ
  | 2 => s.canReleaseObj x o
  | 3 => s.canAbortObj x o
  | 4 => (s.wr (Reg.CN_CNT x) 0).wr (Reg.CN_ECNT x) 0
  | _ => s

/-! ### Receiving -/

/-- The object that takes a received frame (R567). -/
def State.acceptObject (s : State) (x : Nat) (f : CanFrame) : Option Nat :=
  (List.range 128).find? (fun o => s.objUsed x o false && s.on (objIDE x o) == f.ide &&
    Nat.land (Nat.xor f.id.toNat (s.rd (objAddr x o 1))) (s.rd (objAddr x o 2) % 2 ^ 29) == 0)

/-- Store a data frame (R567, R569). -/
def State.storeFrame (s : State) (x o : Nat) (f : CanFrame) (data : List Byte) : State :=
  let s := s.putBytes x o data
  let s := s.wr (objAddr x o 6) f.id.toNat
  let s := s.put (objRXFLAGS x o) (8 * bitNat f.esi + 4 * bitNat f.brs + 2 * bitNat f.fdf + bitNat f.ide)
  let s := s.put (objRXDLC x o) f.dlc.toNat
  let s := if s.on (objRXNEW x o) then s.setOn (objOVR x o) true else s
  let s := (s.setRxnew x o true).put (objNFRAMES x o) (s.get (objNFRAMES x o) + 1)
  let s := s.setOn (objSTAMPQ x o) (!s.appUp)
  let s := s.modCan x (fun c => { c with stamps := if c.stamps.contains o then c.stamps else c.stamps ++ [o] })
  let s := if s.on (objIE x o) then s.irq (canPage x) Irq.CN_RX else s
  let s := if s.on Fld.THM_COOL_RXEN && s.get Fld.THM_COOL_RXOBJ == o && s.get Fld.THM_COOL_CTRLSEL == x then
    s.chillerFrame (data.take 3) else s
  if s.objIsSafety x o then s.sclArrive data else s

/-- A received data frame (R564, R567). -/
def State.receiveFrame (s : State) (x : Nat) (f : CanFrame) : State :=
  let data := f.data.take (dlcBytes f.fdf f.dlc.toNat)
  match s.acceptObject x f with
  | none => s
  | some o =>
    if data.length > s.objCapacity x o then s.bump (Fld.CN_ECNT_RXDROP x)
    else (s.storeFrame x o f data).bump (Fld.CN_CNT_RXOK x)

/-- A data frame arrives from the bus: an object in arbitration has lost it (R567, R568). -/
def State.canFrameIn (s : State) (x : Nat) (f : CanFrame) : State :=
  if !s.canLive x || s.get (Fld.CN_CFG_MODE x) == 3 then s else
  (((s.offBus x).recGood x).canConfine x).receiveFrame x f |>.canShow x

/-- A received remote frame is counted (R557). -/
def State.canRemoteIn (s : State) (x : Nat) : State :=
  if !s.canLive x || s.get (Fld.CN_CFG_MODE x) == 3 then s else
  ((((s.offBus x).recGood x).canConfine x).bump (Fld.CN_ECNT_REMOTE x)).canShow x

/-- Firmware serves a receive interrupt (R569). -/
def State.stampObj (s : State) (x o : Nat) : State :=
  if (s.canOf x).stamps.contains o && s.appUp then
    (s.wr64 (objAddr x o 4) s.nowNat).modCan x (fun c => { c with stamps := c.stamps.filter (fun k => k != o) })
  else s

/-- The pending timer of a receive interrupt runs out (R569). -/
def State.stampLateObj (s : State) (x o : Nat) : State :=
  if (s.canOf x).stamps.contains o then s.setOn (objSTAMPQ x o) true else s

/-! ### Sending -/

/-- The words of a frame as a received frame, for LOOPBACK (R558). -/
def loopFrame (ws : List Word) : CanFrame :=
  let w0 := (ws.getD 0 0).toNat
  ⟨bitOf w0 29, bitOf w0 28, bitOf w0 27, false, BitVec.ofNat 29 (ws.getD 1 0).toNat, BitVec.ofNat 4 (w0 / 65536),
    (ws.drop 2).flatMap (fun w => beBytes 4 w.toNat)⟩

/-- An object is sent without error; a reference message captures its SOF (R568, R570). -/
def State.canSent (s : State) (x o : Nat) (sof loopNs : Nat) : State :=
  let mode := s.get (Fld.CN_CFG_MODE x)
  if !s.canLive x || !(mode == 0 || mode == 3) || !s.on (objTXRQ x o) || s.on (objHOLD x o) || !s.objUsed x o true ||
    s.objTooLong x o ||
    !((s.canOf x).onBus.any (fun b => b.1 == o) || ((s.canOf x).onBus.isNone && s.nextObject x == some o)) then s else
  let ws := match (s.canOf x).onBus with
    | some (_, l) => l
    | none => s.objFrame x o
  let s := ((s.offBus x).setTxrq x o false).setOn (objTXOK x o) true
  let s := (s.put (objCOLL x o) 0).put (objNFRAMES x o) (s.get (objNFRAMES x o) + 1)
  let s := (s.bump (Fld.CN_CNT_TXOK x)).modCan x (fun c => { c with tec := if mode = 0 then c.tec - 1 else c.tec })
  let s := s.canConfine x
  let s := if s.on (objIE x o) then s.irq (canPage x) Irq.CN_TX else s
  let s := (if mode = 0 then s.emit (.can x o ws) else s).sspShow x loopNs ws
  let s := if s.on (Fld.CN_REF_EN x) && s.get (Fld.CN_REF_OBJ x) == o then
      (s.wr64 (Reg.CN_REFSOF x) sof).modCan x (fun c => { c with
        refSeq := (c.refSeq + 1) % 256
        refSof := some (((sof : Int) * (nsUnit : Int) + ((s.tim.pt : Int) - (s.tim.mono : Int))).toNat, s.on Fld.TIM_STATE_SYNC) })
    else s
  let s := if mode = 3 then s.receiveFrame x (loopFrame ws) else s
  s.canShow x

/-- The data of the next reference message (R570). -/
def State.refData (s : State) (x : Nat) (stepped : Bool) : List Byte :=
  let c := s.canOf x
  match c.refSof with
  | some (t, sync) =>
    beBytes 1 c.refSeq ++ beBytes 1 (1 + 2 * bitNat sync + 4 * bitNat stepped) ++ wallOf t ++ beBytes 4 0
  | none => beBytes 1 c.refSeq ++ beBytes 1 (4 * bitNat stepped) ++ beBytes 14 0

/-- A multiple of PER: the reference object is requested; one still pending is replaced and counts as failed (R570). -/
def State.refRequest (s : State) (x : Nat) : State :=
  if !s.on (Fld.CN_REF_EN x) || !s.ens (canPage x) then s else
  let o := s.get (Fld.CN_REF_OBJ x)
  let s := if s.on (objTXRQ x o) then s.refFailed x o else s
  let stepped := (s.canOf x).refStepped
  let s := (s.putBytes x o (s.refData x stepped)).modCan x (fun c => { c with refStepped := false })
  s.canRequest x o

/-- CNx_REF has taken a value: clearing EN makes the next message the first after EN (R570). -/
def State.refSet (s : State) (x : Nat) : State :=
  if s.on (Fld.CN_REF_EN x) then s else s.modCan x (fun c => { c with refSof := none })

/-! ### Failover -/

/-- Failover applies to a request of an object (R576, R578). -/
def State.failsOver (s : State) (x o : Nat) : Bool :=
  let ps := s.canPs x
  (ps == 4 || ps == 5 || (ps == 0 && s.on (Fld.ctrlEn (canPage x)))) && s.objUsed x o true && s.on (objTXRQ x o) &&
  (s.keptObject x != some o) && !s.objIsSafety x o

/-- The original request is cleared and shown as carried (R577). -/
def State.carried (s : State) (x o : Nat) : State :=
  let s := ((s.setTxrq x o false).setOn (objFOVD x o) true).bump (objNFOV x o)
  let s := s.refFailed x o
  let s := if (s.canOf x).reported then s else s.fault (canPage x) Flt.CAN_FAILOVER (canInst x o)
  (s.modCan x (fun c => { c with reported := true })).canShow x

/-- The 72-byte image of an object (R577). -/
def State.fovImage (s : State) (x o : Nat) : List Byte :=
  beBytes 4 (s.rd (objAddr x o 1) % 2 ^ 29 + (if s.on (objIDE x o) then 2 ^ 31 else 0)) ++
  beBytes 2 (s.rd (objAddr x o 0) / 65536) ++ beBytes 2 0 ++
  (List.range 64).map (fun i => BitVec.ofNat 8 (s.objByte x o i))

/-- Write bytes into a launch slot's buffer. -/
def State.putSlotBytes (s : State) (k off : Nat) (l : List Byte) : State :=
  (List.range l.length).foldl (fun (s : State) i =>
    let j := off + i
    let a := Reg.TIM_FLBUF k + j / 4 * 4
    s.wr a (putBits (s.rd a) (24 - 8 * (j % 4)) 8 ((l.getD i 0).toNat))) s

/-- A slot launches at once, armed or not (R577). -/
def State.launchNow (s : State) (k : Nat) : State :=
  if s.on (Fld.TIM_FLCTL_EN k) then s.launchFabric k else
  let f := s.slotFrame k
  match s.routePort f.dst.toNat with
  | some p => ((s.egress p f none).bump (Fld.TIM_FLSTAT_SENT k)).irq Pg.TIM Irq.TIM_LAUNCH
  | none => s

/-- A request is handed to the other controller or to the fabric when its target is available (R576, R577). -/
def State.failoverObj (s : State) (x o : Nat) : State :=
  if !s.failsOver x o then s else
  let fov := s.rd (objAddr x o 6)
  let tgt := bitsOf fov 30 2
  if tgt = 1 then
    let y := 1 - x
    let p := fov % 128
    if !(s.canLive y && s.objUsed y p true) then s else
    let n := min (s.objCapacity x o) (s.objCapacity y p)
    let s := s.put (objDLC y p) (s.get (objDLC x o))
    let s := s.putBytes y p ((List.range n).map (fun i => BitVec.ofNat 8 (s.objByte x o i)))
    (s.canRequest y p).carried x o
  else if tgt = 2 then
    let k := bitsOf fov 8 3
    if s.slotMisses k then s else ((s.putSlotBytes k 26 (s.fovImage x o)).launchNow k).carried x o
  else s

/-! ### Timed launch, cooling payload, safety PDUs -/

/-- A CAN slot launches (R548, R550). -/
def State.launchCan (s : State) (k : Nat) : State :=
  if !s.on (Fld.TIM_CLCTL_EN k) then s else
  let x := s.get (Fld.TIM_CLCTL_CTRLSEL k)
  let miss := !s.canLive x
  let stat := Reg.TIM_CLSTAT k
  let s := if miss then s.bump ⟨stat, 24, 8⟩ else
    ((s.canRequest x (s.get (Fld.TIM_CLCTL_OBJ k))).bump ⟨stat, 0, 16⟩).irq Pg.TIM Irq.TIM_LAUNCH
  s.slotNext (Fld.TIM_CLCTL_EN k) (Reg.TIM_CLT k) (s.rd (Reg.TIM_CLPER k)) ⟨stat, 24, 8⟩ miss

/-- EN of a CAN slot has been set (R549). -/
def State.armCan (s : State) (k : Nat) : State :=
  if s.on (Fld.TIM_CLCTL_EN k) && s.longPast (s.rd64 (Reg.TIM_CLT k)) then
    (s.bump ⟨Reg.TIM_CLSTAT k, 16, 8⟩).launchCan k
  else s

/-- The cooling payload is loaded and its object requested (R259, R568). -/
def State.coolingSend (s : State) : State :=
  if !(s.on Fld.THM_CFG_COOLEN && s.ens Pg.THM) then s else
  let p := s.coolPayload
  let x := s.get Fld.THM_COOL_CTRLSEL
  let o := s.get Fld.THM_COOL_TXOBJ
  (p.2.putBytes x o p.1).canRequest x o

/-- One safety PDU leaves over its network (R466). -/
def State.sendSafety (s : State) (net addr : Nat) (pdu : List Byte) : State :=
  let s := s.emit (.safetyPdu net addr pdu)
  if net = 0 then s.routeFrame (s.mkFrame 1 6 addr pdu) none
  else if net = 1 ∨ net = 2 then
    let o := addr % 128
    (((s.put (objDLC (net - 1) o) 0xC).putBytes (net - 1) o pdu).canRequest (net - 1) o)
  else s

/-- The SYS domain carries away the PDUs that the island has handed over (R467). -/
def State.drainScl (s : State) : State :=
  let q := s.scl.txq
  q.foldl (fun (s : State) e => s.sendSafety e.1 e.2.1 e.2.2) { s with scl := { s.scl with txq := [] } }

end Sys2Proof.Machine
end

