-- ==== Sys2Proof/Machine/RingPort.lean ====
section
/-! DEFINITION. What reaches the ring ports: frames, echoes, deadlines, ALARM, link events (R69, R76, R83, R88 to R91, R103
to R112), listening beside a twin (R602), and enabling. -/

namespace Sys2Proof.Machine

/-! ### Reception -/

/-- What an accepted response, or the failure of its request, does for the purpose of the request. -/
def State.answered (s : State) (r : Nat) (t : RingTxn) (ok south : Bool) (b : List Byte) : State :=
  match t.req.purpose with
  | .alarm => s.takeAlarm r (if ok then ofBe (b.take 4) != 0 else s.reach r t.req.dst)
  | .scan => if ok then s.takeScan r t.req.dst b else s
  | .temp => if ok then s.takeTemp r t.req.dst b else s
  | .wait =>
    (s.modRing r (fun g => { g with calWrites := g.calWrites - 1, calBad := g.calBad || !ok
                                    waits := if ok then g.waits else smErase t.req.dst g.waits })).calCheck r
  | .phasor k => if ok then s.takePhasor r t.req.dst k b else s
  | .firmware =>
    let key := 32 * r + t.req.dst - 1
    if !(ok && t.req.kind == 4) then s
    else if beAt t.req.payload 0 2 = 0xC04 then
      { s with chm := { s.chm with vdelay := smSet (fun _ => 0) s.chm.vdelay key (beAt b 0 2) } }
    else if beAt t.req.payload 0 2 = 0x1008 ∧ beAt t.req.payload 2 2 = 48 then
      { s with bal := { s.bal with reads := smInsert key ((List.range 24).map (fun c => beAt b (2 * c) 2)) s.bal.reads } }
    else s
  | _ => s.procAnswer r t ok south b

/-- Sequence and time of a packet (R146). -/
def State.packetStamp (s : State) (t : RingTxn) (err : Bool) (b : List Byte) : Nat × Nat :=
  if err then (t.tag, s.nowNat) else
  match t.req.purpose with
  | .scan => (beAt b 0 1, s.tel.scanS)
  | .temp => (beAt b 0 1, s.tel.tempS)
  | .phasor _ => (beAt b 0 1, (s.chm.coll.map ChmWindow.t0).getD (s.rd64 Reg.CHM_WSTART))
  | _ => (t.tag, s.nowNat)

/-- An accepted response that the ring unit does not consume enters the queue, unless it is a report of a position out of service
(R98); one without a reservation is skipped, an ERR response to a scan request among them (R145, R148, R149; DESIGN CHOICE log
12). -/
def State.enqueuePacket (s : State) (r : Nat) (t : RingTxn) (err : Bool) (b : List Byte) : State :=
  match t.req.purpose.cls with
  | none => s
  | some c =>
    if !s.ens Pg.SRQ || ((c == 1 || c == 2) && !s.posIn r t.req.dst) then s
    else if t.resv = 0 then
      ((s.modQue r (fun q => { q with gap := true })).bump (Fld.SRQ_QCNT_SKIP r)).irq Pg.SRQ Irq.SRQ_SKIPPED
    else
      let st := s.packetStamp t err b
      s.commitPacket r (if err then 3 else c) t.req.kind t.req.dst st.1 st.2 b

/-- Chime's writes go once to every position in service that has been enumerated or released from quarantine, and VDELAY of one
just enumerated is read (R181). -/
def State.configureNew (s : State) (r : Nat) : State :=
  let now := (s.ring r).fresh.filter (fun x => s.inService r && s.posIn r x.1)
  let s := s.modRing r (fun g => { g with fresh := g.fresh.filter (fun x => !now.contains x) })
  now.foldl (fun s x =>
    let s := s.chmConfigure r x.1
    if x.2 then s.ringRead r x.1 0xC04 2 else s) s

/-- A request has failed for good: its repeats are used up or it was refused (R90, R91). -/
def State.failed (s : State) (r : Nat) (t : RingTxn) (code : Nat) : State :=
  (s.recordFailed r t.req code).answered r t false false []

/-- Position codes that R78 reserves. -/
def reservedPos (p : Nat) : Bool := decide (0x21 ≤ p) && decide (p ≤ 0xFD)

/-- Header bytes of a received frame (R77). -/
def frameHead (f : RingFrame) : List Byte :=
  [BitVec.ofNat 8 (f.kind.toNat * 16 + bitNat f.rsp * 8 + bitNat f.err * 4 + f.rsv.toNat),
   BitVec.ofNat 8 (f.tag.toNat * 16 + f.epoch.toNat * 4 + f.half.toNat), f.dst, f.src] ++ beBytes 2 f.len.toNat

/-- The check of a received frame is correct (R79). -/
def frameCheckOk (f : RingFrame) : Bool :=
  f.len.toNat == f.payload.length && f.crc == crc16 0xFFFF (frameHead f ++ f.payload)

/-- The header of a received frame holds a reserved value (R77, R78, R80, R112). -/
def frameBadHeader (f : RingFrame) : Bool :=
  f.rsv != 0 || f.kind == 0 || decide (f.kind.toNat > 0xB) || f.half == 3 || reservedPos f.dst.toNat ||
  reservedPos f.src.toNat || decide (f.len.toNat > 1024)

/-- The transaction that accepts a response (R88). DESIGN CHOICE (log 12): R88 tests no LEN; a response shorter than its kind's is
accepted, and bytes that it lacks read 0. -/
def State.matching (s : State) (r : Nat) (f : RingFrame) : Option RingTxn :=
  if !f.rsp || f.dst != 0 || f.epoch.toNat != s.get (Fld.SR_STATE_EPOCH r) then none
  else (s.ring r).txns.find? (fun t => t.tag == f.tag.toNat && t.req.kind == f.kind.toNat && t.half == f.half.toNat &&
    t.req.dst == f.src.toNat && t.req.purpose != .reset)

/-- The echo of the module's own request (R83): a frame that repeats an issued request. -/
def State.echoOf (s : State) (r : Nat) (f : RingFrame) : Option RingTxn :=
  if f.rsp || f.src != 0 || f.epoch.toNat != s.get (Fld.SR_STATE_EPOCH r) then none
  else (s.ring r).txns.find? (fun t => t.tag == f.tag.toNat && t.req.kind == f.kind.toNat && t.half == f.half.toNat &&
    t.req.dst == f.dst.toNat)

/-- A module port acts on what it receives: its ring is enabled and it stands in for no isolated neighbour (R69, R113). -/
def State.portActs (s : State) (r : Nat) (south : Bool) : Bool :=
  s.ens (Pg.SR r) && !(if south then (s.ring r).mutedS else (s.ring r).mutedN)

/-- The echo of the request under `tag` arrives at a port: the ECHO that tests the primary path closes the ring when it comes from
the north port to the south port, and a broadcast's tag returns (R83, R86, R93, R111). -/
def State.takeEcho (s : State) (r tag : Nat) (south : Bool) : State :=
  if !s.portActs r south then s else
  match (s.ring r).txns.find? (fun t => t.tag == tag) with
  | none => s
  | some t =>
    let tests := t.req.purpose = .path ∨ t.req.purpose = .healPath
    let s := if south && !t.south && tests then s.modRing r (fun g => { g with through := true }) else s
    if t.req.purpose = .reset then (s.retire r tag).flow r else s

/-- A discarded response that was being written into a reservation is rewound: its words return to FREE (R149); a later response
under its tag is skipped as one without a reservation (DESIGN CHOICE log 12). -/
def State.rewind (s : State) (r : Nat) (f : RingFrame) : State :=
  if f.rsp && (s.ring r).txns.any (fun t => t.tag == f.tag.toNat && t.resv != 0) then
    ((s.modRing r (fun g => { g with txns := g.txns.map (fun (t : RingTxn) =>
      if t.tag = f.tag.toNat then { t with resv := 0 } else t) })).queShow r).bump (Fld.SRQ_QCNT_REWIND r)
  else s

/-- An accepted response: the tag returns, BUSY is repeated after the backoff, a refusal is recorded, and the rest acts
(R86, R90, R91, R149). DESIGN CHOICE (log 12): an ERR response with a reserved code, or with a LEN other than 1, is a refusal too,
recorded and never repeated. -/
def State.accept (s : State) (r : Nat) (t : RingTxn) (south : Bool) (f : RingFrame) : State :=
  let s := (s.retire r t.tag).enqueuePacket r t f.err f.payload
  let s := if !f.err then s.answered r t true south f.payload
    else if beAt f.payload 0 1 = 1 then
      (if t.req.left = 0 then s.failed r t 1
       else s.modRing r (fun g => { g with backoff := g.backoff ++ [t.req] }))
    else s.failed r t (beAt f.payload 0 1)
  ((s.configureNew r).flow r).tempCheck

/-- What a report that a listener hears, or a delegate relays, answers (R602). -/
def State.heardPurpose (s : State) (r : Nat) (f : RingFrame) : Option Purpose :=
  let p := f.src.toNat
  match f.kind.toNat with
  | 6 => if (s.ring r).scanDue.contains p then some .scan else none
  | 7 => if (s.ring r).tempDue.contains p then some .temp else none
  | 8 => (s.chm.due.find? (fun d => d.1 == r && d.2.1 == p)).map (fun d => .phasor d.2.2)
  | _ => none

/-- A report accepted without a transaction of its own (R602): it enters the queue when it has room and is published. -/
def State.hear (s : State) (r : Nat) (south : Bool) (f : RingFrame) : State :=
  if f.line != .clean || !frameCheckOk f || frameBadHeader f || !f.rsp || f.err || f.dst != 0 ||
    f.epoch.toNat != s.get (Fld.SR_STATE_EPOCH r) then s else
  match s.heardPurpose r f with
  | none => s
  | some w =>
    let q : RingReq := ⟨w, f.kind.toNat, f.src.toNat, none, [], f.payload.length, 0⟩
    let room := decide (q.need ≤ s.roomFor r (w.cls.getD 3))
    let t : RingTxn := ⟨f.tag.toNat, q, south, f.half.toNat, if room then q.need else 0, s.tim.mono⟩
    ((s.enqueuePacket r t false f.payload).answered r t true south f.payload).tempCheck

/-- A delegate relays the reports of its half (R602). -/
def State.relayReport (s : State) (r : Nat) (t : RingTxn) (f : RingFrame) : State :=
  if s.ens Pg.TWN && s.on Fld.TWN_CFG_RINGSPLIT && bitOf s.twn.delegates r && t.req.purpose.cls.isSome then
    s.sendTwin 6 (beBytes 1 r ++ frameHead f ++ f.payload) else s

/-- The listener's own end of a ring that has broken runs the far half as delegate (R602). -/
def State.delegate (s : State) (r : Nat) : State :=
  if s.listens r then { s with twn := { s.twn with delegates := putBit s.twn.delegates r true } } else s

/-- A ring frame arrives at a port (R69, R75, R88, R112). -/
def State.ringReceive (s : State) (r : Nat) (port : Side) (f : RingFrame) : State :=
  let south := port == .south
  if !s.portActs r south then s else
  if s.listens r then s.hear r south f else
  match f.line with
  | .codeViolation => (s.bump (whole (Reg.SR_CNT_CODE r))).rewind r f
  | .alarmInside => s.rewind r f
  | .aborted => s.rewind r f
  | .jabber => (((s.bump (whole (Reg.SR_CNT_JAB r))).rewind r f).unwanted r f.src.toNat)
  | .clean =>
    if f.len.toNat > 1024 then (s.bump (whole (Reg.SR_CNT_DISC r))).rewind r f
    else if !frameCheckOk f then
      let s := (s.bump (whole (Reg.SR_CNT_CRC r))).rewind r f
      if f.rsp then s.bump (whole (Reg.SR_CNT_UNSOL r)) else s
    else if frameBadHeader f then (s.bump (whole (Reg.SR_CNT_DISC r))).rewind r f
    else match s.matching r f with
      | some t => (s.accept r t south f).relayReport r t f
      | none =>
        match s.echoOf r f with
        | some t => s.takeEcho r t.tag south
        | none => ((s.bump (whole (Reg.SR_CNT_UNSOL r))).rewind r f).unwanted r f.src.toNat

/-- A transaction's deadline passes: the tag and its reservation return, and the request is repeated or has failed (R89,
R90). -/
def State.timedOut (s : State) (r tag : Nat) : State :=
  match (s.ring r).txns.find? (fun t => t.tag == tag) with
  | none => s
  | some t =>
    let s := (s.retire r tag).bump (whole (Reg.SR_CNT_TMO r))
    let s := if t.req.left = 0 then s.failed r t 0 else s.repeatReq r t.req
    ((s.configureNew r).flow r).tempCheck

/-- The backoff of the k-th waiting repeat expires (R90). -/
def State.backoffOver (s : State) (r k : Nat) : State :=
  match (s.ring r).backoff[k]? with
  | none => s
  | some q => ((s.modRing r (fun g => { g with backoff := g.backoff.eraseIdx k })).repeatReq r q).flow r

/-- A request that waited for queue space is issued once its reservation fits (R147). -/
def State.unstall (s : State) (r k : Nat) : State :=
  match (s.ring r).stalled[k]? with
  | none => s
  | some q =>
    if !s.wanted r q then s.modRing r (fun g => { g with stalled := g.stalled.eraseIdx k }) else
    if !(s.inService r && decide (q.need ≤ s.roomFor r (q.purpose.cls.getD 3)) && !(s.ring r).free.isEmpty) then s else
    (s.modRing r (fun g => { g with stalled := g.stalled.eraseIdx k })).issue r q q.need

/-! ### Line events -/

/-- An ALARM character at a receive port: counted, fed to Snare when ALSNARE is 1, and its cause read (R76, R112). -/
def State.alarmAt (s : State) (r : Nat) (port : Side) : State :=
  let south := port == .south
  if !s.portActs r south then s else
  let s := ((s.bump (Fld.SR_ALARM_COUNT r)).setOn (Fld.SR_ALARM_LASTPORT r) south).irq (Pg.SR r) Irq.SR_ALARM
  let feeds := s.on (Fld.SR_CFG_ALSNARE r)
  let s := if feeds then s.snareBy (0x19 + r) else s
  let s := s.fault (Pg.SR r) Flt.RING_ALARM (ringInst r 0) 0 (!feeds)
  if s.mode r < 3 || (s.ring r).alarmLeft ≠ 0 then s else
  let ps := s.positions r (s.reach r)
  let s := s.modRing r (fun g => { g with alarmLeft := ps.length, alarmNamed := false })
  (ps.foldl (fun s p => s.request r .alarm 9 p none [] 4) s).flow r

/-- A break: a ring in service re-forms, any other once it is in service (R106; DESIGN CHOICE log 12: R106 names mode RING, and a
second break in HALVES or DEGRADED changes what R108 asks for). -/
def State.broke (s : State) (r : Nat) : State :=
  if s.inService r then ((s.beginReform r).procStep r 12).flow r else s.modRing r (fun g => { g with broken := true })

/-- Link loss at a module port (R103, R106). -/
def State.portLost (s : State) (r : Nat) (port : Side) : State :=
  if !s.ens (Pg.SR r) then s else
  let s := (s.bump (whole (Reg.SR_CNT_LOS r))).modRing r (fun g =>
    if port == .south then { g with linkS := false } else { g with linkN := false })
  (s.delegate r).broke r

/-- A module port declares its link up again (R103); a delegate turns to listening (R602; log 17). -/
def State.portUp (s : State) (r : Nat) (port : Side) : State :=
  if !s.ens (Pg.SR r) then s else
  let s := { s with twn := { s.twn with delegates := putBit s.twn.delegates r false } }
  let s := if s.listens r then s.enterMode r 3 else s
  s.modRing r (fun g => if port == .south then { g with linkS := true } else { g with linkN := true })

/-- A LINK_LOST notice: position `pos` has folded its `lost` side; one not yet known re-forms the ring as `broke` says, in RING,
HALVES and DEGRADED (R105, R106; DESIGN CHOICE log 12). -/
def State.linkLostNotice (s : State) (r : Nat) (port : Side) (pos : Nat) (lost : Side) : State :=
  if !s.portActs r (port == .south) || pos = 0 || pos > s.nsup r then s else
  let s := s.bump (whole (Reg.SR_CNT_LOS r))
  let fold := (pos, lost == .south)
  if (s.ring r).folds.contains fold then s else
  ((s.modRing r (fun g => { g with folds := fold :: g.folds })).delegate r).broke r

/-- The links at the break have been up for HEAL.TIME: with AUTOHEAL the ring heals at the next scan period (R110). -/
def State.healTimer (s : State) (r : Nat) : State :=
  if s.mayHeal r then s.modRing r (fun g => { g with healDue := true }) else s

/-- A 10 ms window of R112 ends: SUP_HOSTILE ends for every SRC that stayed at 8 or below (R731). -/
def State.hostileWindow (s : State) (r : Nat) : State :=
  let counts := (s.ring r).unsol
  let quiet := (s.flt.instances.filter (fun x => x.1 == Flt.SUP_HOSTILE && x.2 / 64 == r &&
    smGet (fun _ => (0 : Nat)) counts (x.2 % 64) ≤ 8)).map Prod.snd
  quiet.foldl (fun s i => s.endInstance (Pg.SR r) Flt.SUP_HOSTILE i) (s.modRing r (fun g => { g with unsol := [] }))

/-! ### Enabling -/

/-- SRQ_CTRL.EN is set: the map check of R102. -/
def State.srqOn (s : State) : State := (s.setOn (Fld.ens Pg.SRQ) true).checkMaps

/-- SRQ_CTRL.EN is cleared: the queues empty, the collections stop and every ring leaves publication (R155, R163). -/
def State.srqOff (s : State) : State :=
  let s := (s.setOn (Fld.ens Pg.SRQ) false).emptyQueues
  let s := s.each 4 (fun s r => (s.dropCollects r 2).dropCollects r 4)
  let s := s.each 4 (fun s r => s.modRing r (fun g => { g with scanDue := [], scanBad := [], tempDue := [] }))
  { s with tel := { s.tel with scanOn := false, tempOn := false, bank := [], scanColl := false, tempColl := false } }

end Sys2Proof.Machine
end

