-- ==== Sys2Proof/Machine/Twin.lean ====
section
/-! DEFINITION. The twin unit: ownership, Toll, shadow comparison, handover and takeover, partner reset and power (R583 to
R607). -/

namespace Sys2Proof.Machine

/-- Change the hidden state of the twin unit. -/
def State.modTwn (s : State) (f : TwinState → TwinState) : State := { s with twn := f s.twn }

/-- TSTATE (R604). -/
def State.tstate (s : State) : Nat := s.get Fld.TWN_STATE_TSTATE

/-- Set TSTATE. -/
def State.setTstate (s : State) (v : Nat) : State := s.put Fld.TWN_STATE_TSTATE v

/-! ### Configuration mirroring -/

/-- Pages whose writes are mirrored, in page order (R594). -/
def mirrorPages : List Nat :=
  [Pg.SRQ, Pg.CHM, Pg.EST, Pg.BAL, Pg.THM, Pg.PWM, Pg.LPE, Pg.PRT, Pg.CTK, Pg.ADC, Pg.ISO, Pg.FLT]

/-- The writable words of a register row (R594). -/
def State.rowConfig (s : State) (p : Nat) (r : Row) : List Byte :=
  if r.acc = .rw then
    (List.range r.count).flatMap (fun k => (List.range r.words).flatMap (fun w =>
      beBytes 4 (Nat.land (s.rd (pageBases.getD p 0 + r.off + k * r.step + 4 * w)) r.mask)))
  else []

/-- TWN_CFGCRC: CRC-32C over the writable fields of the mirrored pages in address order (R594; DEDUCED log 17). -/
def State.configCrc (s : State) : Nat :=
  (crc32c (mirrorPages.flatMap (fun p => (kindOf p).rows.flatMap (fun r => s.rowConfig p r)))).toNat

/-! ### Health -/

/-- No ring port that this module uses is in link loss (R597, R602). -/
def State.portsUp (s : State) : Bool :=
  let split := s.on Fld.TWN_CFG_RINGSPLIT
  let home := s.on Fld.TWN_CFG_HOME
  s.rings.all (fun g => (g.linkN || (split && !home)) && (g.linkS || (split && home)))

/-- A condition of R597. -/
def State.condition (s : State) (k : Nat) : Bool :=
  match k with
  | 0 => s.get Fld.ADC_STAT_STATE == 3 && s.on Fld.ADC_STAT_REFOK
  | 1 => s.get Fld.LPE_STAT_STATE == 1 && s.get Fld.LPE_STAT_OVRC == 0 && s.standing Flt.LOOP_NAN != 1 &&
      s.twn.nanAt.all (fun t => decide (s.nowNat > t + 1000000000))
  | 2 => s.ens Pg.PWM && (List.range 4).all (fun p => !s.phaseEn p || s.get (phaseField p) != 0)
  | 3 => s.on Fld.TWN_STATE_OWNOUT || decide ((toSigned 16 (s.rd Reg.TWN_SKEW % 65536)).natAbs ≤ 20)
  | 4 => s.portsUp
  | 5 => s.rd Reg.TWN_CFGCRC == s.rd Reg.TWN_PCFGCRC
  | 6 => s.islandRuns
  | 7 => !s.on Fld.PWR_STAT_DIEWARN
  | 8 => s.twn.eccAt.all (fun t => decide (s.nowNat > t + 60000000000))
  | 9 => bitOf (s.rd Reg.TWN_HEALTH) 9
  | 10 => bitOf (s.rd Reg.TWN_HEALTH) 10
  | 11 => s.on Fld.TIM_STATE_SYNC
  | 12 => s.laneState 4 == 3 && s.get Fld.TWN_STATE_PSTATE == 1
  | _ => false

/-- TWN_HEALTH (R597). -/
def State.healthWord (s : State) : Nat := maskOf 13 s.condition

/-- Every condition of R597 holds. -/
def State.allHealthy (s : State) : Bool := s.healthWord == 0x1FFF

/-- Some condition marked S fails (R597). -/
def State.surrenderCause (s : State) : Bool := [0, 1, 2, 4, 6, 7, 8, 10].any (fun k => !s.condition k)

/-- PELIG changes with IRQ bit ELIGIBLE (R606). -/
def State.setPelig (s : State) (b : Bool) : State :=
  if s.on Fld.TWN_STATE_PELIG == b then s else (s.setOn Fld.TWN_STATE_PELIG b).irq Pg.TWN Irq.TWN_ELIGIBLE

/-- TWN_HEALTH and ELIG follow the conditions; a joining module with all of them is STANDBY (R597). -/
def State.twinRefresh (s : State) : State :=
  if !s.ens Pg.TWN then s else
  let h := s.healthWord
  let s := s.wr Reg.TWN_HEALTH h
  let s := if s.tstate = 2 && h == 0x1FFF then s.setTstate 4 else s
  let e := h == 0x1FFF && s.tstate == 4
  if s.on Fld.TWN_STATE_ELIG == e then s else (s.setOn Fld.TWN_STATE_ELIG e).irq Pg.TWN Irq.TWN_ELIGIBLE

/-- CMP or SELF takes a value. -/
def State.setHealthBit (s : State) (k : Nat) (b : Bool) : State := s.setBit Reg.TWN_HEALTH k b

/-- The self-test starts (R597). -/
def State.startSelfTest (s : State) : State := if s.ens Pg.TWN then s.modTwn (fun t => { t with testing := true }) else s

/-- The self-test ends: it has compared the ADCs and the loops, as `passed` tells, and checks the ring ports (R597). -/
def State.endSelfTest (s : State) (passed : Bool) : State :=
  if s.twn.testing then ((s.setHealthBit 10 (passed && s.portsUp)).modTwn (fun t => { t with testing := false })).twinRefresh else s

/-! ### Ownership -/

/-- The drive outputs follow the commanded pairs and ownership (R585). -/
def State.showDrives (s : State) : State :=
  s.each 10 (fun s p =>
    let b := s.pairDriven p && s.owns
    (s.setBit Reg.CTK_DRIVE (2 * p) b).setBit Reg.CTK_DRIVE (2 * p + 1) b)

/-- The role of the module (R21, R587). -/
def State.showRole (s : State) : State :=
  { s with svc := { s.svc with role := if !s.ens Pg.TWN then 0 else if s.on Fld.TWN_STATE_OWNOUT then 1 else 2 } }

/-- OWN_OUT takes a level. -/
def State.setOwn (s : State) (b : Bool) : State :=
  if s.on Fld.TWN_STATE_OWNOUT == b then s else
  (((s.setOn Fld.TWN_STATE_OWNOUT b).emit (.ball "OWN_OUT" b)).showRole).showDrives

/-- Answers that a standby held for the last 1 ms leave with the role of the duty (R514). -/
def State.releaseHeld (s : State) : State :=
  let recent := s.dsp.held.filter (fun (h : Req × Nat × Nat × List Byte) => decide (s.nowNat ≤ h.2.1 + 1000000))
  let s := recent.foldl (fun (s : State) (h : Req × Nat × Nat × List Byte) =>
    let b := h.2.2.2
    let flags := beAt b 4 1 / 4 * 4 + 1
    s.respond h.1 4 h.2.2.1 (if b.length ≥ 5 then b.take 4 ++ beBytes 1 flags ++ b.drop 5 else b)) s
  { s with dsp := { s.dsp with held := [] } }

/-- Every output goes low; each cell begins again at its first peak (R287, R596). -/
def State.outputsLow (s : State) : State :=
  { s with pwm := { s.pwm with cells := s.pwm.cells.map (fun (c : PwmCell) => { c with switching := false }) } }

/-- The incoming module drives the pairs that read closed (R596). -/
def State.takePairs (s : State) : State :=
  s.each 10 (fun s p =>
    let closed := !s.pairOpen p
    let s := s.drivePair p closed
    if s.get (pairField p) = 4 && closed then s else s.put (pairField p) (if closed then 2 else 0))

/-- A partner is there. -/
def State.partnerThere (s : State) : Bool := s.get Fld.TWN_STATE_PSTATE == 1

/-- A standby that takes over in STOPPING knows no cause of the stop: it ends as after HALT (R22; DESIGN CHOICE log 17). -/
def State.ownStop (s : State) : State :=
  if s.svc.state = .stopping ∧ s.svc.stopCause = none then { s with svc := { s.svc with stopCause := some .halt } } else s

/-- This module becomes the owner at `h`: outputs low, OWN_OUT, pairs, ring mastership at the next cell scan, the Chime window
discarded, held answers sent (R514, R596, R598, R602). -/
def State.becomeOwner (s : State) (h : Nat) : State :=
  let s := (s.outputsLow.setOwn true).takePairs
  let s := s.ownStop.setTstate (if s.partnerThere then 3 else 1)
  let s := (s.wr64 Reg.TWN_LASTH h).chmNote .all 9
  let s := s.modTwn (fun t => { t with handover := none, armed := false, delegates := 0, masterDue := s.on Fld.TWN_CFG_RINGSPLIT })
  (s.releaseHeld).twinRefresh

/-- Ring mastership passes at a cell scan launch: the epoch increments (R602). -/
def State.passMastership (s : State) : State :=
  if !s.twn.masterDue then s else
  (s.each 4 (fun s r => if s.inService r then s.newEpoch r else s)).modTwn (fun t => { t with masterDue := false })

/-- TWN_CTRL.EN is set (R584, R604). -/
def State.twinOn (s : State) : State :=
  let s := (s.setEns Pg.TWN true).modTwn (fun t => { t with seen := true, lowAt := s.nowNat })
  let s := s.setTstate (if s.on Fld.TWN_STATE_OWNIN then 2 else 6)
  (((s.setHealthBit 9 true).showRole).showDrives).twinRefresh

/-- TWN_CTRL.EN is cleared (R584, R604). -/
def State.twinOff (s : State) : State :=
  let s := (s.setOwn false).setEns Pg.TWN false
  let s := (s.modTwn (fun t => { t with seen := false, handover := none, armed := false, testing := false })).setTstate 0
  ((s.setOn Fld.TWN_STATE_ELIG false).showRole).showDrives

/-- OWN_IN has been low at start (R588, R603). -/
def State.ownStart (s : State) : State :=
  let due := decide (s.nowNat ≥ s.twn.lowAt + (if s.on Fld.TWN_CFG_HOME then 100000000 else 400000000))
  if s.ens Pg.TWN && (s.tstate == 6 || s.tstate == 2) && !s.on Fld.TWN_STATE_OWNIN && due &&
    decide (s.svc.state ≠ .recovery) && decide (s.svc.state ≠ .transport) then
    let s := (s.setOwn true).setTstate (if s.partnerThere then 3 else 1)
    s.twinRefresh
  else s

/-- Both OWN lines are high for longer than 40 ns (R588). -/
def State.ownConflict (s : State) : State :=
  if !(s.ens Pg.TWN && s.on Fld.TWN_STATE_OWNOUT) then s else
  let s := s.setOn Fld.TWN_STATE_OWNIN true
  if s.on Fld.TWN_CFG_HOME then s else
  let s := ((s.setOwn false).setTstate 4).modTwn (fun t => { t with handover := none })
  (s.faultEvent Pg.TWN Flt.TWIN_OWNERSHIP 0).twinRefresh

/-- OWN_IN falls: a standby is armed to take over (R598). -/
def State.ownInFalls (s : State) : State :=
  let s := (s.setOn Fld.TWN_STATE_OWNIN false).modTwn (fun t => { t with lowAt := s.nowNat })
  if s.ens Pg.TWN && s.tstate == 4 then s.modTwn (fun t => { t with armed := true }) else s

/-- The standby takes control (R598). -/
def State.takeOver (s : State) : State :=
  if !(s.twn.armed && s.tstate == 4 && !s.on Fld.TWN_STATE_OWNIN) then s else
  let fit := s.on Fld.TWN_STATE_ELIG
  if !(fit || decide (s.svc.state = .running)) then s else
  let s := ((s.becomeOwner s.nowNat).bump Fld.TWN_CNT_TAKEOVERS).irq Pg.TWN Irq.TWN_TAKEOVER
  s.faultEvent Pg.TWN Flt.TWIN_TAKEOVER (bitNat (!fit))

/-! ### Handover -/

/-- The duty announces H, the fourth control sample trigger from now (R596; log 17). -/
def State.announce (s : State) : State :=
  let h := (ratRound ((s.nowNat : Rat) + 4 * s.tsUnits * 5 / 2)).toNat
  let s := (s.modTwn (fun t => { t with handover := some (h, true, false) })).setTstate 5
  s.sendTwin 3 (beBytes 1 1 ++ beBytes 8 h)

/-- The duty may hand over. -/
def State.mayHandOver (s : State) : Bool :=
  s.ens Pg.TWN && s.tstate == 3 && s.on Fld.TWN_STATE_PELIG && s.twn.handover.isNone

/-- A surrender of the duty (R597). -/
def State.surrender (s : State) : State := if s.mayHandOver && s.surrenderCause then s.announce else s

/-- The incoming module requests a handover (R596). -/
def State.handoverAsked (s : State) : State := if s.mayHandOver then s.announce else s

/-- An announcement names H; the standby acknowledges it (R596). -/
def State.announced (s : State) (h : Nat) : State :=
  if !(s.ens Pg.TWN && s.tstate == 4) then s else
  ((s.modTwn (fun t => { t with handover := some (h, false, true) })).setTstate 5).sendTwin 3 (beBytes 1 2 ++ beBytes 8 h)

/-- The outgoing module keeps ownership (R596). -/
def State.handoverFails (s : State) : State :=
  let s := (s.modTwn (fun t => { t with handover := none })).setTstate 3
  s.faultEvent Pg.TWN Flt.TWIN_HANDOVER 0

/-- The instant H (R596). -/
def State.handoverAt (s : State) (ownInHigh : Bool) : State :=
  match s.twn.handover with
  | none => s
  | some (h, true, _) =>
    let s := s.outputsLow
    if !ownInHigh then s.handoverFails else
    let s := (s.setOn Fld.TWN_STATE_OWNIN true).setOwn false
    let s := ((s.setTstate 4).wr64 Reg.TWN_LASTH h).chmNote .all 9
    let s := s.modTwn (fun t => { t with handover := none })
    ((s.bump Fld.TWN_CNT_HANDOVERS).irq Pg.TWN Irq.TWN_HANDOVER).twinRefresh
  | some (h, false, _) =>
    let s := (s.becomeOwner h).setOn Fld.TWN_STATE_OWNIN false
    (s.bump Fld.TWN_CNT_HANDOVERS).irq Pg.TWN Irq.TWN_HANDOVER

/-- The partner acknowledges the announcement (R596). -/
def State.acknowledged (s : State) (h : Nat) : State :=
  s.modTwn (fun t => { t with handover := t.handover.map (fun x => if x.1 = h && x.2.1 then (h, true, true) else x) })

/-- No acknowledgement within 1 sample (R596). -/
def State.handoverUnanswered (s : State) : State :=
  match s.twn.handover with
  | some (_, true, false) => s.handoverFails
  | _ => s

/-- The home standby has been healthy for 60 s (R599). -/
def State.revertNow (s : State) : Bool :=
  s.ens Pg.TWN && s.on Fld.TWN_CFG_REVERT && s.on Fld.TWN_CFG_HOME && s.tstate == 4 && s.on Fld.TWN_STATE_ELIG &&
  decide (s.rd Reg.TWN_HOTIME ≥ 60)

/-- The home standby requests a handover (R599). -/
def State.revertAsk (s : State) : State :=
  if s.revertNow then (s.irq Pg.TWN Irq.TWN_REVERT_DUE).sendTwin 3 (beBytes 1 0) else s

/-- A request that has not led to a handover is repeated at the next Toll; `due` tells that it was due before (R599). -/
def State.revertAgain (s : State) (due : Bool) : State := if due && s.revertNow then s.sendTwin 3 (beBytes 1 0) else s

/-! ### Toll -/

/-- Version of the active image bundle. -/
def State.activeVersion (s : State) : Nat := if s.on Fld.UPD_BANKS_ACTIVE then s.rd Reg.UPD_VERB else s.rd Reg.UPD_VERA

/-- A TOLL leaves every 100 ms; it refreshes the CRC and the healthy seconds (R592, R594, R599). -/
def State.tollOut (s : State) : State :=
  if !s.ens Pg.TWN then s else
  let due := s.revertNow
  let s := (s.wr Reg.TWN_CFGCRC s.configCrc).twinRefresh
  let s := if s.rd Reg.TWN_CFGCRC = s.rd Reg.TWN_PCFGCRC then s.latchFault Pg.TWN Flt.TWIN_CONFIG else s
  let s := if s.allHealthy then
      (if s.twn.ticks ≥ 9 then (s.bumpBy (whole Reg.TWN_HOTIME) 1).modTwn (fun t => { t with ticks := 0 })
       else s.modTwn (fun t => { t with ticks := t.ticks + 1 }))
    else (s.wr Reg.TWN_HOTIME 0).modTwn (fun t => { t with ticks := 0 })
  let s := s.modTwn (fun t => { t with tseq := (t.tseq + 1) % 2 ^ 32 })
  let body := beBytes 4 s.twn.tseq ++ beBytes 1 (s.get Fld.TWN_CFG_HOME + 2 * s.svc.role) ++ beBytes 1 s.tstate ++
    beBytes 1 s.svc.state.code ++ beBytes 1 0 ++ beBytes 4 (s.rd Reg.TWN_HEALTH) ++ beBytes 4 (s.rd Reg.TWN_CFGCRC) ++
    beBytes 2 (min 65535 (s.rd Reg.TWN_HOTIME)) ++ beBytes 2 (s.get Fld.FLT_NSTAND_ACTIVE) ++ beBytes 4 s.activeVersion
  (((s.sendTwin 1 body).bump Fld.TWN_TOLLCNT_SENT).surrender).revertAgain due

/-- The service state of a code (R21). -/
def serviceOf : Nat → ServiceState
  | 0 => .recovery
  | 1 => .unconfigured
  | 2 => .ready
  | 3 => .precharge
  | 4 => .connected
  | 5 => .running
  | 6 => .stopping
  | 7 => .tripped
  | _ => .maintenance

/-- A standby follows the duty's service state, its phases in shadow with it (R587; log 17). -/
def State.follow (s : State) (st : Nat) : State :=
  if s.svc.state = .recovery ∨ s.svc.state = .transport ∨ st > 8 ∨ st = 0 then s else
  let s := if st = 5 ∧ s.svc.state ≠ .running then s.chmNote .all 8 else s
  let s := s.setSvc (serviceOf st)
  let s := { s with svc := { s.svc with startDone := decide (st = 5) } }
  s.setPhases (if st = 5 ∨ st = 6 then 4 else if st = 7 then 5 else 1)

/-- TWIN_MISMATCH in the duty, as the partner's CMP tells it (R593; log 17). -/
def State.partnerCmp (s : State) (old new : Bool) : State :=
  if old && !new then
    ((s.bump Fld.TWN_CNT_MISMATCH).irq Pg.TWN Irq.TWN_MISMATCH).fault Pg.TWN Flt.TWIN_MISMATCH 0 |>.startSelfTest
  else if new then s.endInstance Pg.TWN Flt.TWIN_MISMATCH 0 else s

/-- A TOLL arrives (R592). -/
def State.tollIn (s : State) (m : TollMsg) : State :=
  if !s.ens Pg.TWN then s else
  let missed := match s.twn.partner with
    | some p => (m.tseq.toNat + 2 ^ 32 - p.tseq.toNat - 1) % 2 ^ 32
    | none => 0
  let hadCmp := (s.twn.partner.map (fun p => bitOf p.health.toNat 9)).getD true
  let s := s.bumpBy Fld.TWN_TOLLCNT_MISSED (if missed < 2 ^ 31 then missed else 0)
  let s := s.modTwn (fun t => { t with partner := some m })
  let s := (s.wr Reg.TWN_PHEALTH m.health.toNat).wr Reg.TWN_PCFGCRC m.cfgcrc.toNat
  let s := if s.get Fld.TWN_STATE_PSTATE = 3 then s else s.put Fld.TWN_STATE_PSTATE 1
  let s := s.latchFault Pg.TWN Flt.TWIN_PARTNER_LOST
  let duty := m.role == 1
  let s := if duty && !s.on Fld.TWN_STATE_OWNOUT && !s.twn.armed then s.setOn Fld.TWN_STATE_OWNIN true else s
  let s := s.setPelig (m.tstate.toNat == 4 && m.health.toNat % 2 ^ 13 == 0x1FFF)
  let s := if s.tstate = 1 then s.setTstate 3 else if s.tstate = 6 && duty then s.setTstate 2 else s
  let s := if duty && !s.on Fld.TWN_STATE_OWNOUT then s.follow m.sstate.toNat else s
  let s := if s.on Fld.TWN_STATE_OWNOUT then s.partnerCmp hadCmp (bitOf m.health.toNat 9) else s
  (s.twinRefresh).surrender

/-- No TOLL for TMO (R592). -/
def State.partnerGone (s : State) : State :=
  if !(s.ens Pg.TWN && s.get Fld.TWN_STATE_PSTATE == 1) then s else
  let s := ((s.put Fld.TWN_STATE_PSTATE 2).setPelig false).irq Pg.TWN Irq.TWN_PARTNER_LOST
  let s := if s.tstate = 3 then s.setTstate 1 else s
  (s.fault Pg.TWN Flt.TWIN_PARTNER_LOST 0).twinRefresh

/-- CFGCRC has differed for 10 s (R594). -/
def State.configDiffers (s : State) : State :=
  if s.ens Pg.TWN && s.rd Reg.TWN_CFGCRC != s.rd Reg.TWN_PCFGCRC then s.fault Pg.TWN Flt.TWIN_CONFIG 0 else s

/-! ### Shadow -/

/-- The standby's own values differ from the duty's beyond the tolerances (R593). -/
def State.shadowDiffers (s : State) (m : SampleMsg) : Bool :=
  (List.range 8).any (fun c =>
    s.cellEn c &&
    decide (((ratRound (((s.pwmCell c).duty.getD 0) * 65536)) - ((m.duties.getD c 0).toNat : Int)).natAbs > s.get Fld.TWN_CMP_DTOL)) ||
  decide (ratAbs (s.inVal 4 - ratOf m.istr) > (s.get Fld.TWN_CMP_ITOL : Rat))

/-- The last section of each loop with a destination 0x1 to 0x9 takes the duty's output (R593). -/
def State.track (s : State) (m : SampleMsg) : State :=
  s.each 16 (fun s n =>
    let d := s.loopDst n
    if !(s.loopOn n && 1 ≤ d && d ≤ 9) then s else
    match (s.loopSecs n).getLast? with
    | none => s
    | some i =>
      let y := m.outputs.getD (d - 1) 0
      let b0 := s.word (coefAddr (s.loopBank n) i 0)
      s.setSect i { s.sect i with yp := y, s1 := fma32 (fpNegate b0) (s.sect i).xp y })

/-- The own master count at the last sample trigger (R278, R589). -/
def State.masterCount (s : State) : Int :=
  ((s.trigCount (s.pwm.trigs - 1) : Int) + s.twn.shift) % (max 1 (2 * s.per) : Nat)

/-- Skew of the own carrier behind the duty's, in counts of 1.25 ns (R589; DESIGN CHOICE log 17: own less duty). -/
def State.skewCounts (s : State) (m : SampleMsg) : Int :=
  let p : Int := (max 1 (2 * s.per) : Nat)
  let d := (s.masterCount - (m.count.toNat : Int)) % p
  if 2 * d > p then d - p else d

/-- The own master count follows the duty's, by one count a carrier period at most (R589). -/
def State.lockCarrier (s : State) (m : SampleMsg) : State :=
  let d := s.skewCounts m
  let s := s.wr Reg.TWN_SKEW (satSigned 16 (5 * d))
  if s.pwm.trigs % max 1 s.spp = 0 then s.modTwn (fun t => { t with shift := t.shift - d.sign }) else s

/-- A SAMPLE of the duty: comparison, then tracking (R593). -/
def State.sampleIn_ (s : State) (m : SampleMsg) : State :=
  if !(s.ens Pg.TWN && !s.on Fld.TWN_STATE_OWNOUT && m.instant.toNat == s.lpe.sampleAt && !s.lpe.sampleOpen) then s else
  let s := s.lockCarrier m
  let n := max 1 (s.get Fld.TWN_CMP_CMPN)
  let differs := s.shadowDiffers m
  let s := s.modTwn (fun t => { t with bad := if differs then t.bad + 1 else 0, good := if differs then 0 else t.good + 1 })
  let s := if differs && s.twn.bad == n then
      ((((s.setHealthBit 9 false).bump Fld.TWN_CNT_MISMATCH).irq Pg.TWN Irq.TWN_MISMATCH).fault Pg.TWN Flt.TWIN_MISMATCH 0).startSelfTest
    else if !differs && s.twn.good == n && !bitOf (s.rd Reg.TWN_HEALTH) 9 then
      (s.setHealthBit 9 true).endInstance Pg.TWN Flt.TWIN_MISMATCH 0
    else s
  (s.track m).twinRefresh

/-- The SAMPLE that the duty sends after a control sample (R591). -/
def State.sampleOut (s : State) : State :=
  if !(s.ens Pg.TWN && s.on Fld.TWN_STATE_OWNOUT) then s else
  let duty := fun (c : Nat) => (ratRound (((s.pwmCell c).duty.getD 0) * 65536)).toNat
  let out := fun (d : Nat) => match (List.range 16).find? (fun n => s.loopOn n && s.loopDst n == d) with
    | none => 0
    | some n => ((s.loopSecs n).getLast?.map (fun i => (s.sect i).yp.toNat)).getD 0
  s.sendTwin 2 (beBytes 8 s.lpe.sampleAt ++ beBytes 4 s.masterCount.toNat ++
    (List.range 8).flatMap (fun c => beBytes 2 (duty c)) ++ beBytes 4 (s.rd Reg.LPE_IREF) ++ beBytes 4 (s.inWord 4).toNat ++
    (List.range 9).flatMap (fun d => beBytes 4 (out (d + 1))))

/-- The learned records that the duty sends, 40 in a frame (R595; log 17). -/
def State.stateOut (s : State) : State :=
  if !(s.ens Pg.TWN && s.on Fld.TWN_STATE_OWNOUT) then s else
  s.each 77 (fun s k =>
    let l := (s.est.cells.drop (40 * k)).take 40
    if l.isEmpty then s else
      s.sendTwin 5 (l.flatMap (fun (c : Nat × EstCell) => beBytes 2 c.1 ++ c.2.words.flatMap (fun w => beBytes 4 w.toNat))))

/-- A STATE frame: its records wait for the next update (R595). -/
def State.stateIn (s : State) (cells : List (Nat × List Word)) : State :=
  if !(s.ens Pg.TWN && !s.on Fld.TWN_STATE_OWNOUT) then s else
  { s with est := { s.est with incoming := s.est.incoming ++ cells } }

/-! ### Partner reset and power -/

/-- The partner may be reset now: after MAXRST resets within 10 min, which `resetPartner` keeps, only CLEAR allows another
(R600). -/
def State.mayReset (s : State) : Bool :=
  s.ens Pg.TWN && s.on Fld.TWN_CFG_RSTEN && !s.surrenderCause && decide (s.twn.resets.length < s.get Fld.TWN_PWR_MAXRST)

/-- PARTNER_RST_N is asserted (R586, R600). -/
def State.resetPartner (s : State) : State :=
  let s := s.modTwn (fun t => { t with
    resetOut := true
    resets := s.nowNat :: t.resets.filter (fun x => decide (s.nowNat ≤ x + 600000000000)) })
  ((s.emit (.ball "PARTNER_RST_N" false)).bump Fld.TWN_CNT_RESETS).faultEvent Pg.TWN Flt.TWIN_PARTNER_RESET 0

/-- The own assertion of PARTNER_RST_N ends (R586). -/
def State.resetEnds (s : State) : State :=
  if s.twn.resetOut then (s.modTwn (fun t => { t with resetOut := false })).emit (.ball "PARTNER_RST_N" true) else s

/-- PARTNER_PWR_EN goes low for a power cycle (R601). -/
def State.cyclePower (s : State) : State :=
  ((s.modTwn (fun t => { t with powerOut := false })).emit (.ball "PARTNER_PWR_EN" false)).faultEvent Pg.TWN Flt.TWIN_PARTNER_POWER 0

/-- The partner, lost for KILL while OWN_IN is high, is reset (R600). -/
def State.killPartner (s : State) : State :=
  if s.mayReset && s.get Fld.TWN_STATE_PSTATE == 2 && s.on Fld.TWN_STATE_OWNIN then s.resetPartner else s

/-- The partner has stayed lost for 10 s after a reset (R601). -/
def State.powerCycleNow (s : State) : State :=
  if s.ens Pg.TWN && s.on Fld.TWN_CFG_PWREN && s.get Fld.TWN_STATE_PSTATE == 2 && !s.twn.resets.isEmpty && s.twn.powerOut then
    s.cyclePower else s

/-- After OFF, PARTNER_PWR_EN goes high again (R601); POWER_OFF holds it low until ADMIT (R605). -/
def State.powerBack (s : State) : State :=
  if !s.twn.powerOut && s.get Fld.TWN_STATE_PSTATE != 3 then
    (s.modTwn (fun t => { t with powerOut := true })).emit (.ball "PARTNER_PWR_EN" true)
  else s

/-- A command not allowed now (R605). -/
def State.twinReject (s : State) : State := s.irq Pg.TWN Irq.TWN_CMDREJ

/-- TWN_CMD (R605). -/
def State.twinCommand (s : State) (op : Nat) : State :=
  let on := s.ens Pg.TWN
  match op with
  | 1 => if s.mayHandOver then s.announce else s.twinReject
  | 2 => if on then s.startSelfTest.surrender else s.twinReject
  | 3 => if s.mayReset then s.resetPartner else s.twinReject
  | 4 => if on && s.on Fld.TWN_CFG_PWREN && !s.on Fld.TWN_STATE_OWNIN then s.cyclePower else s.twinReject
  | 5 =>
    if on && !s.on Fld.TWN_STATE_OWNIN then
      let s := (s.modTwn (fun t => { t with powerOut := false })).emit (.ball "PARTNER_PWR_EN" false)
      let s := (s.put Fld.TWN_STATE_PSTATE 3).setPelig false
      if s.tstate = 3 then s.setTstate 1 else s
    else s.twinReject
  | 6 =>
    if on then
      let s := (s.modTwn (fun t => { t with powerOut := true })).emit (.ball "PARTNER_PWR_EN" true)
      if s.get Fld.TWN_STATE_PSTATE = 3 then s.put Fld.TWN_STATE_PSTATE 0 else s
    else s.twinReject
  | 7 => (s.modTwn (fun t => { t with resets := [] })).put Fld.TWN_CNT_RESETS 0
  | _ => s

/-- Reports that the delegate relays reach the master (R602). -/
def State.relayIn (s : State) (r : Nat) (f : RingFrame) : State :=
  if s.ens Pg.TWN && s.on Fld.TWN_CFG_RINGSPLIT && s.on Fld.TWN_STATE_OWNOUT && s.ens (Pg.SR r) then s.hear r true f else s

end Sys2Proof.Machine
end

