-- ==== Sys2Proof/Machine/Recorder.lean ====
section
/-! DEFINITION. The event recorder: intake, writing to the areas, freeze and release, clearing, brown-out, failure of the
medium, records of the twin partner, reading (R608 to R632, R728). -/

namespace Sys2Proof.Machine

/-- Change the hidden state of the recorder. -/
def State.modEvr (s : State) (f : RecorderState → RecorderState) : State := { s with evr := f s.evr }

/-- Bytes of a segment of the main area and the reserve, header included (R614). -/
def segBytes : Nat := 131072

/-- Bytes of a segment of the NOR fallback region (R626). -/
def norSegBytes : Nat := 65536

/-- Hold-up is there: PWR_STAT.HUGOOD (R654). -/
def State.hugood (s : State) : Bool := s.on Fld.PWR_STAT_HUGOOD

/-- Status bits and fills follow (EVR page). -/
def State.evrShow (s : State) : State :=
  let s := (s.evrFills).setOn Fld.EVR_STAT_HUGATE (!s.hugood)
  s.setOn Fld.EVR_STAT_FWD (s.on Fld.EVR_STAT_MEDIAFLT && s.laneState 4 == 3)

/-! ### Intake -/

/-- A stamped record enters the intake queue, displacing the newest records of lower severity (R614). -/
def State.intakeRec (s : State) (c : Rec) : State :=
  let x := insertBounded 16384 c s.evr.intake.length s.evr.intake
  let s := s.modEvr (fun e => { e with intake := x.1 })
  if x.2 = 0 then s else (s.bumpBy Fld.EVR_CNT_IDROP x.2).faultEvent Pg.EVR Flt.LOG_INTAKE_OVERFLOW 0

/-- Stamp a raw record and put it into the intake; answers its SEQ (R611, R612). -/
def State.takeRaw (s : State) (r : RawRec) : State :=
  if !keptAlways r.type && decide (r.sev < s.get Fld.EVR_CFG_MINSEV) then s.bump Fld.EVR_CNT_BELOW else
  let c := s.stampOf r
  (s.noteStamped r c).intakeRec c

/-- The oldest arriving record enters the intake (R612, R614). -/
def State.intakeOne (s : State) : State :=
  match s.evr.arriving with
  | [] => s
  | r :: t => ((s.modEvr (fun e => { e with arriving := t })).takeRaw r).evrShow

/-- Every arriving record enters the intake. -/
def State.intakeAll (s : State) : Nat → State
  | 0 => s
  | n + 1 => if s.evr.arriving.isEmpty then s else s.intakeOne.intakeAll n

/-- Every record that is on its way has been stamped. -/
def State.flushArriving (s : State) : State := s.intakeAll s.evr.arriving.length

/-- A record made and stamped now; answers its SEQ as well. -/
def State.recordNow (s : State) (r : RawRec) : State × Nat :=
  let s := s.flushArriving
  ((s.takeRaw r).evrShow, s.rd Reg.EVR_SEQ)

/-! ### Areas -/

/-- Bytes that a segment holds. -/
def Segment.used (g : Segment) : Nat := 32 + recsBytes g.recs

/-- A record appended to a segment. -/
def Segment.add (g : Segment) (c : Rec) : Segment := { g with recs := g.recs ++ [c], maxSev := max g.maxSev c.sev }

/-- CHAIN of the last audit record written becomes that of a record (R614, R616; log 18). -/
def State.noteChain (s : State) (c : Rec) : State :=
  if c.type ≠ 2 then s else s.modEvr (fun e => { e with chain := BitVec.ofNat 32 (beAt c.body 20 4) })

/-- A fresh segment for a record: its header resumes the chain of the last audit record written (R614, R616). -/
def State.freshSegment (s : State) (c : Rec) : Segment := ⟨s.evr.serial, c.seq, c.pcc, c.sev, s.evr.chain, [c]⟩

/-- Append to the last segment of an area when it has room. -/
def appendLast (cap : Nat) (l : List Segment) (c : Rec) : Option (List Segment) :=
  match l.getLast? with
  | none => none
  | some g => if g.used + c.len ≤ cap then some (l.dropLast ++ [g.add c]) else none

/-- The segment that a reclaim takes: lowest highest severity, then lowest serial (R617). -/
def reclaimPick (l : List Segment) : Option Nat :=
  (l.foldl (fun (b : Option Segment) g =>
    match b with
    | none => some g
    | some x => if g.maxSev < x.maxSev ∨ (g.maxSev = x.maxSev ∧ g.serial < x.serial) then some g else b) none).map Segment.serial

/-- One reclaim is counted (R617, R618). -/
def State.countReclaim (s : State) : State := (s.bump Fld.EVR_CNT_RECLAIM).irq Pg.EVR Irq.EVR_RECLAIM

/-- Append to the main area of 46 segments (R614, R617). -/
def State.appendMain (s : State) (c : Rec) : State :=
  match appendLast segBytes s.evr.main c with
  | some l => s.modEvr (fun e => { e with main := l })
  | none =>
    let g := s.freshSegment c
    let full := decide (s.evr.main.length ≥ 46)
    let rest := if full then (match reclaimPick s.evr.main with
      | some k => s.evr.main.filter (fun x => x.serial != k)
      | none => s.evr.main) else s.evr.main
    let s := s.modEvr (fun e => { e with main := rest ++ [g], serial := (e.serial + 1) % 2 ^ 32 })
    if full then s.countReclaim else s

/-- Append to the reserve of 2 segments; a full one reclaims the older whole (R618). -/
def State.appendReserve (s : State) (c : Rec) : State :=
  match appendLast segBytes s.evr.reserve c with
  | some l => s.modEvr (fun e => { e with reserve := l })
  | none =>
    let g := s.freshSegment c
    let full := decide (s.evr.reserve.length ≥ 2)
    let rest := if full then s.evr.reserve.drop 1 else s.evr.reserve
    let s := s.modEvr (fun e => { e with reserve := rest ++ [g], serial := (e.serial + 1) % 2 ^ 32 })
    if full then s.countReclaim else s

/-- Append to the log: severity 7 to the reserve and nowhere else (R618). -/
def State.appendLog (s : State) (c : Rec) : State :=
  (if c.sev = 7 then s.appendReserve c else s.appendMain c).noteChain c

/-- The log holds a record's SEQ. -/
def State.logHolds (s : State) (seq : Nat) : Bool :=
  (s.evr.main ++ s.evr.reserve).any (fun g => g.recs.any (fun c => c.seq == seq))

/-! ### Last gasp and NOR -/

/-- Oldest records leave a ring until it fits. -/
def trimRing (cap : Nat) : List Rec → List Rec
  | [] => []
  | c :: t => if recsBytes (c :: t) ≤ cap then c :: t else trimRing cap t

/-- Write to the last-gasp area, 4 KiB as a ring (R624). -/
def State.gasp (s : State) (c : Rec) : State :=
  s.modEvr (fun e => { e with lastGasp := trimRing 4096 (e.lastGasp ++ [{ c with lastGasp := true }]) })

/-- Write to the NOR fallback region of 16 segments, reclaimed oldest first (R626). -/
def State.norWrite (s : State) (c : Rec) : State :=
  let c := { c with nor := true }
  let s := s.setOn Fld.EVR_STAT_NORFB true
  match appendLast norSegBytes s.evr.norRegion c with
  | some l => s.modEvr (fun e => { e with norRegion := l })
  | none =>
    let g := s.freshSegment c
    s.modEvr (fun e => { e with
      norRegion := (if e.norRegion.length ≥ 16 then e.norRegion.drop 1 else e.norRegion) ++ [g]
      serial := (e.serial + 1) % 2 ^ 32 })

/-- The treatment of a record while the medium is faulty (R626). -/
def State.faultyWrite (s : State) (c : Rec) : State :=
  let s := s.gasp c
  let s := if c.sev ≥ 3 then (s.norWrite c).noteChain c else s
  if s.laneState 4 = 3 then s.sendTwin 7 (beBytes 1 1 ++ beBytes 2 0 ++ { c with lastGasp := true, nor := decide (c.sev ≥ 3) }.bytes) else s

/-- The medium is found faulty (R625). -/
def State.mediumFails (s : State) : State :=
  if s.on Fld.EVR_STAT_MEDIAFLT then s else
  let s := (s.setOn Fld.EVR_STAT_MEDIAFLT true).irq Pg.EVR Irq.EVR_MEDIA
  let s := s.fault Pg.EVR Flt.LOG_MEDIA_FAULT 0
  s.raiseRec (s.recorderRaw 7 4 .firmware 0 0 0)

/-! ### Writing -/

/-- Where a record goes that the writer takes up (R614, R619, R624, R625, R626). -/
def State.writeOut (s : State) (c : Rec) (m : MediaResult) : State :=
  if s.on Fld.EVR_STAT_MEDIAFLT then s.faultyWrite c
  else if !s.hugood then s.gasp c
  else if m = .good then s.appendLog c
  else (s.mediumFails).faultyWrite c

/-- A frozen record enters the holding buffer (R619, R620). -/
def State.holdRec (s : State) (c : Rec) : State :=
  let x := s.hold c
  if x.2 = 0 then x.1 else x.1.faultEvent Pg.EVR Flt.LOG_HOLD_FULL 0

/-- The writer takes up one record: held records first while a freeze is being released, otherwise the oldest of the intake
(R614, R619, R621). -/
def State.writeOne (s : State) (m : MediaResult) : State :=
  if s.on Fld.EVR_STAT_FROZEN then
    match s.evr.intake with
    | [] => s
    | c :: t => ((s.modEvr (fun e => { e with intake := t })).holdRec c).evrShow
  else if s.evr.releasing then
    match s.evr.holding with
    | [] => (s.modEvr (fun e => { e with releasing := false })).evrShow
    | c :: t => ((s.modEvr (fun e => { e with holding := t, releasing := !t.isEmpty })).writeOut c m).evrShow
  else
    match s.evr.intake with
    | [] => s
    | c :: t => ((s.modEvr (fun e => { e with intake := t })).writeOut c m).evrShow

/-! ### Freeze and release -/

/-- FREEZE, LOG_FREEZE (R619). -/
def State.freezeLog (s : State) (o : Origin) : State :=
  if s.on Fld.EVR_STAT_FROZEN then s else ((s.flushArriving).beginFreeze o).evrShow

/-- A freeze ends: the held records are put into order, followed by the record of the release and, when records were lost,
the one that counts them (R621, R728). -/
def State.endFreeze (s : State) (o : Origin) : State :=
  if !s.on Fld.EVR_STAT_FROZEN then s else
  let s := s.flushArriving
  let held := s.evr.holding.foldl (fun (l : List Rec) c => insertRec c l) []
  let first := ((held.head?).map Rec.seq).getD 0
  let last := ((held.getLast?).map Rec.seq).getD 0
  let lost := s.get Fld.EVR_HOLD_DROP
  let raw := s.recorderRaw 2 3 o first last held.length
  let c := s.stampOf raw
  let s := s.noteStamped raw c
  let raw6 := s.recorderRaw 3 6 o first last lost
  let c6 := s.stampOf raw6
  let s := if lost = 0 then s else s.noteStamped raw6 c6
  let s := s.modEvr (fun e => { e with
    holding := held ++ [c] ++ (if lost = 0 then [] else [c6])
    releasing := true
    marker := none })
  ((s.setOn Fld.EVR_STAT_FROZEN false).irq Pg.EVR Irq.EVR_RELEASED).evrShow

/-! ### Clearing -/

/-- Clear an area; answers the first and last SEQ removed (R622, R623). -/
def State.clearArea (s : State) (o : Origin) (reserve : Bool) : State × (Nat × Nat) :=
  let recs := (if reserve then s.evr.reserve else s.evr.main).flatMap Segment.recs
  let seqs := recs.map Rec.seq
  let first := (seqs.head?).getD 0
  let last := (seqs.getLast?).getD 0
  let s := s.modEvr (fun e => if reserve then { e with reserve := [] } else { e with main := [] })
  let x := s.recordNow (s.recorderRaw 7 1 o first last recs.length)
  let s := (x.1.wr Reg.EVR_LASTCLR x.2).audit 0xC o Reg.EVR_CMD 0 (if reserve then 4 else 3)
  ((s.irq Pg.EVR Irq.EVR_CLEARED).evrShow, (first, last))

/-- A clear is not possible now (R622). -/
def State.clearBusy (s : State) : Bool := s.on Fld.EVR_STAT_FROZEN || s.on Fld.EVR_STAT_MEDIAFLT

/-! ### Brown-out and the medium -/

/-- Records whose SEQ the log does not hold are copied into it (R624, R627). -/
def State.copyBack (s : State) (l : List Rec) : State :=
  l.foldl (fun (s : State) c => if s.logHolds c.seq then s
    else if s.on Fld.EVR_STAT_FROZEN then s.holdRec c else s.appendLog c) s

/-- HUGOOD has returned: the last-gasp records are appended (R624). -/
def State.gaspBack (s : State) : State :=
  if s.on Fld.EVR_STAT_MEDIAFLT || !s.hugood then s.evrShow else (s.copyBack s.evr.lastGasp).evrShow

/-- MEDIA_TEST (R627): a failing test is a failing readback (R625; log 18). -/
def State.mediaTestRun (s : State) (passes : Bool) : State :=
  if !passes then s.mediumFails.evrShow
  else if !s.on Fld.EVR_STAT_MEDIAFLT then s
  else
    let s := (s.setOn Fld.EVR_STAT_MEDIAFLT false).latchFault Pg.EVR Flt.LOG_MEDIA_FAULT
    let s := s.raiseRec (s.recorderRaw 2 5 .firmware 0 0 0)
    let s := s.copyBack (s.evr.lastGasp ++ s.evr.norRegion.flatMap Segment.recs)
    (s.setOn Fld.EVR_STAT_NORFB false).evrShow

/-- Operating time and SEQ are stored (R612). -/
def State.saveOpTime (s : State) : State :=
  let sec := s.opsec
  let seq := s.rd Reg.EVR_SEQ
  s.modEvr (fun e => { e with savedSec := sec, savedSeq := seq })

/-- EVR_CMD (R622, R630); a media test that is asked for without its outcome has a free one (log 4). -/
def State.evrCommand (s : State) (o : Origin) (op : Nat) : State :=
  match op with
  | 1 => (s.freezeLog o).audit 0xC o Reg.EVR_CMD 0 1
  | 2 => (s.endFreeze o).audit 0xC o Reg.EVR_CMD 0 2
  | 3 => if s.clearBusy then s.irq Pg.EVR Irq.EVR_CMDREJ else (s.clearArea o false).1
  | 4 => if s.clearBusy then s.irq Pg.EVR Irq.EVR_CMDREJ else (s.clearArea o true).1
  | 5 =>
    let x := s.drawWord
    x.2.mediaTestRun (x.1.getLsbD 0)
  | _ => s

/-! ### The partner's records -/

/-- A record from its bytes, none when its length or its CRC is wrong (R608). -/
def recOfBytes (b : List Byte) : Option Rec :=
  let flags := beAt b 2 1
  let wall := bitOf flags 3
  let off := if wall then 32 else 20
  if b.length ≠ beAt b 0 2 ∨ b.length < off + 4 then none else
  let c : Rec := ⟨flags % 8, beAt b 3 1, beAt b 17 1, beAt b 18 2, beAt b 4 4, beAt b 8 4, beAt b 12 2, beAt b 14 3,
    if wall then some (beAt b 20 6, beAt b 26 4) else none, (b.drop off).take (b.length - off - 4), false, bitOf flags 5, bitOf flags 6⟩
  if (crc32c (c.header ++ c.wallBytes ++ c.body)).toNat = beAt b (b.length - 4) 4 then some c else none

/-- A LOG frame: the partner's records are stored with FWD, ordered among themselves (R626). -/
def State.logIn (s : State) (l : List (List Byte)) : State :=
  if !s.ens Pg.TWN then s else
  s.modEvr (fun e => { e with
    forwarded := (l.filterMap recOfBytes).foldl (fun (l : List Rec) c => insertRec { c with fwd := true } l) e.forwarded })

/-! ### Reading -/

/-- Records of an area of LOG_READ (R628). -/
def State.areaRecs (s : State) (area : Nat) : Option (List Rec) :=
  match area with
  | 0 => some (s.evr.main.flatMap Segment.recs)
  | 1 => some (s.evr.reserve.flatMap Segment.recs)
  | 2 => some s.evr.holding
  | 3 => some s.evr.lastGasp
  | 4 => some (s.evr.norRegion.flatMap Segment.recs)
  | 5 => some s.evr.forwarded
  | _ => none

/-- Whole records up to `room` bytes. -/
def takeWhole (room : Nat) : List Rec → List Rec
  | [] => []
  | c :: t => if c.len ≤ room then c :: takeWhole (room - c.len) t else []

/-- Answer body of LOG_READ: NEXT SEQ, NEXT PCC, records in the order of R613 from the cursor (R628). -/
def logReadBody (l : List Rec) (minsev fromSeq fromPcc : Nat) : List Byte :=
  let sorted := (l.filter (fun c => decide (c.sev ≥ minsev) && (decide (c.pcc > fromPcc) || (c.pcc == fromPcc && decide (c.seq ≥ fromSeq))))).foldl
    (fun (l : List Rec) c => insertRec c l) []
  let out := takeWhole 1008 sorted
  let next : Nat × Nat := match sorted.drop out.length with
    | c :: _ => (c.seq, c.pcc)
    | [] => match out.getLast? with
      | some c => ((c.seq + 1) % 2 ^ 32, c.pcc)
      | none => (fromSeq, fromPcc)
  beBytes 4 next.1 ++ beBytes 4 next.2 ++ out.flatMap Rec.bytes

/-- Answer body of LOG_STATUS (R628). -/
def State.logStatusBody (s : State) : List Byte :=
  [Reg.stat Pg.EVR, Reg.EVR_SEQ, Reg.EVR_PCC, Reg.EVR_FILL, Reg.EVR_HOLD, Reg.EVR_OLDEST].flatMap (fun a => beBytes 4 (s.rd a))

/-- A MARK record with text, padded to whole words; answers its SEQ (R608, R628). -/
def State.makeMark (s : State) (text : List Byte) : State × Nat :=
  s.recordNow ⟨1, 9, Pg.EVR, 0, text ++ List.replicate ((4 - text.length % 4) % 4) 0, none⟩

end Sys2Proof.Machine
end

