-- ==== Sys2Proof/Machine/Reset.lean ====
section
/-! DEFINITION. Reset, clocks, supplies, retention, die temperature, transport mode, starts and what runs after one
(R633 to R664, R670, R671, R679, R730). Reset domains are numbered by the release order of R638. -/

namespace Sys2Proof.Machine

/-- Change the hidden state of reset, clocks and power. -/
def State.modClk (s : State) (f : ClkState → ClkState) : State := { s with clk := f s.clk }

/-- Change the hidden state of the update service. -/
def State.modUpd (s : State) (f : UpdState → UpdState) : State := { s with upd := f s.upd }

/-! ### Levels and reach -/

/-- Levels that a source may be fused to (R634). -/
def allowedLevels : Nat → List Nat
  | 0 => [0]
  | 1 => [0, 1]
  | 2 => [0]
  | 3 => [0, 1, 2, 3]
  | 4 => [1, 2, 3]
  | 5 => [1, 2, 3]
  | 6 => [0, 1, 2, 3]
  | 7 => [0, 1, 2, 3]
  | 8 => [1, 2, 3]
  | 9 => [0, 1, 2]
  | 10 => [0, 1]
  | 11 => [3]
  | 12 => [1, 2, 3]
  | _ => []

/-- Level of a source: its only allowed one, else the fuse table's (R634); SOFTWARE has the level of its request (R639,
R646). -/
def State.levelOf (s : State) (src : Nat) : Nat :=
  match allowedLevels src with
  | [l] => l
  | _ => if src = 6 then s.clk.softLevel else s.get ⟨Reg.RST_FUSE, 2 * src, 2⟩

/-- Domains that a level reaches (R633). -/
def levelReach (lvl : Nat) : List Nat :=
  match lvl with
  | 0 => [1, 2, 3, 4, 5, 6, 7, 8, 9, 10]
  | 1 => [2, 3, 4, 5, 6, 7, 8, 9, 10]
  | 2 => [8, 9, 10]
  | _ => [10]

/-- Domains that a source reaches; a lock-up of the loop engine reaches that engine and the PWM unit at any level (R361,
R634). -/
def State.reachOf (s : State) (src : Nat) : List Nat :=
  levelReach (s.levelOf src) ++ (if src = 12 then [5, 6] else [])

/-- Some asserted source reaches domain `d` (R637). -/
def State.reached (s : State) (d : Nat) : Bool :=
  (List.range 16).any (fun n => bitOf s.clk.asserted n && (s.reachOf n).contains d)

/-- Bit of PLLLOCK that a domain waits for (R638, R647). -/
def domainPll (d : Nat) : Option Nat :=
  match d with
  | 2 => some 1
  | 5 => some 2
  | 6 => some 3
  | 9 => some 4
  | 10 => some 0
  | _ => none

/-- PLL `k` is locked: CLK_STAT.PLLLOCK. -/
def State.pllLocked (s : State) (k : Nat) : Bool := bitOf (s.get Fld.CLK_STAT_PLLLOCK) k

/-- Show lock of a PLL. -/
def State.setPll (s : State) (k : Nat) (b : Bool) : State :=
  s.put Fld.CLK_STAT_PLLLOCK (putBit (s.get Fld.CLK_STAT_PLLLOCK) k b)

/-- CLK_STAT.REFOK. -/
def refOk : RegField := ⟨Reg.stat Pg.CLK, 13, 1⟩

/-! ### What a reset drops -/

/-- Registers of the firmware-served fields of EST, BAL and THM: all but those of retained or CORE content (R633). -/
def servedAt (a : Nat) : Bool :=
  decide (0x51040 ≤ a ∧ a < 0x54000) && decide (0x40 ≤ a % 0x1000) &&
    !(decide (Reg.EST_QACC 0 ≤ a ∧ a < Reg.EST_QACC 8) || a == Reg.EST_LDSEQ || decide (Reg.BAL_QTOT ≤ a ∧ a < Reg.BAL_QTOT + 8))

/-- Key slots and labels stand in the MRAM. -/
def keyWordAt (a : Nat) : Bool := (List.range 5).any (fun n => a == Reg.FP_KEYCTL n)

/-- Registers and windows of the NET domain (R633). -/
def netAt (a : Nat) : Bool :=
  (decide (0x80000 ≤ a ∧ a < 0x90000) || decide (0xA0000 ≤ a ∧ a < 0xB0000) || decide (0x5000 ≤ a ∧ a < 0x6000)) && !keyWordAt a

/-- Words that a reset of level L1 leaves (R155, R161, R245, R394, R401, R407, R612, R616, R633, R669, R715). -/
def keptAt (a : Nat) : Bool :=
  (decide (0x20000 ≤ a ∧ a < 0x50000) && decide (3 ≤ a / 4 % 16 ∧ a / 4 % 16 ≤ 11)) || keyWordAt a ||
  decide (0x70000 ≤ a ∧ a < 0x72000) || decide (0x4040 ≤ a ∧ a < 0x5000) ||
  (decide (0x1040 ≤ a ∧ a < 0x2000) && a != Reg.RST_FUSEPRG && a != Reg.RST_BOOTPRG) ||
  a == Reg.PWR_VCORE || a == Reg.PWR_CNT || decide (Reg.FLT_STORM ≤ a ∧ a ≤ Reg.FLT_NSTAND) ||
  decide (Reg.FLT_STAND 0 ≤ a ∧ a < Reg.FLT_HCLASS 16) || decide (Reg.CTK_POPS 0 ≤ a ∧ a < Reg.CTK_POPS 10) || a == Reg.CTK_AUX ||
  a == Reg.CTK_HOLD || a == Reg.CTK_DRIVE || decide (Reg.EVR_SEQ ≤ a ∧ a ≤ Reg.EVR_PCC) || a == Reg.EVR_HOLD || a == Reg.AUD_CHAIN ||
  decide (Reg.UPD_BANKS ≤ a ∧ a ≤ Reg.UPD_SVNMIN) || a == Reg.UPD_CNT || decide (Reg.BAL_QTOT ≤ a ∧ a < Reg.BAL_QTOT + 8) ||
  a == Reg.EST_LDSEQ || a == Reg.SRQ_QSTALL || (List.range 4).any (fun q => a == Reg.SRQ_QCNT q)

/-- Words that outlast a reset of level L0: what stands in the MRAM, the NOR and the fuses, and the readback inputs. -/
def fusedAt (a : Nat) : Bool :=
  keyWordAt a || a == Reg.RST_FUSE || a == Reg.RST_FUSECFG || a == Reg.CTK_AUX || a == Reg.SFI_SLOT || a == Reg.EVR_SEQ ||
  a == Reg.EVR_PCC || decide (Reg.UPD_BANKS ≤ a ∧ a ≤ Reg.UPD_SVNMIN) || a == Reg.UPD_CNT

/-- A field keeps the value it had. -/
def State.carry (old : State) (s : State) (f : RegField) : State := s.put f (old.get f)

/-- The words for which `keep` is false go to their reset values. -/
def State.dropRegs (s : State) (keep : Nat → Bool) : State :=
  { s with regs := s.regs.filter (fun e => keep e.1)
           acc := { s.acc with shadow := s.acc.shadow.filter (fun e => keep e.1)
                               pendL := s.acc.pendL.filter (fun e => keep e.addr)
                               latches := s.acc.latches.filter (fun e => keep e.addr)
                               claims := s.acc.claims.filter (fun e => keep (pageBases.getD e.1 0 + 0x40)) } }

/-- A write-back in progress is torn (R226). -/
def State.tearWriteback (s : State) : State :=
  if s.est.writing.isSome then
    ({ s with est := { s.est with held := false } }).endWriteback false
  else s

/-- The application cluster stops: the firmware-served fields go (R633). -/
def State.dropApp (s : State) : State :=
  let s0 := s
  let s := (s.tearWriteback).dropRegs (fun a => !servedAt a)
  let s := (State.carry s0 s Fld.THM_STAT_OTLATCH).put Fld.EST_STAT_STATE 0
  let s := { s with
    est := { s.est with fresh := true, knot := (0, 0), usoc := 0, efcStr := 0, dqdv := [] }
    bal := { (State.reset.bal) with residue := s.bal.residue, counts := s.bal.counts, masks := s.bal.masks, inForce := s.bal.inForce }
    thm := State.reset.thm
    fab := { s.fab with challenge := none } }
  s.setPll 0 false

/-- A lane at reset: its keys stand in the MRAM. -/
def laneDropped (l : LaneState) : LaneState := { laneReset with keys := l.keys }

/-- The NET domain stops (R633). -/
def State.dropNet (s : State) : State :=
  let s := (s.dropApp).dropRegs (fun a => !netAt a)
  { s with
    fab := { fabReset with lanes := s.fab.lanes.map laneDropped, roleKeys := s.fab.roleKeys }
    dsp := State.reset.dsp
    can := State.reset.can
    acc := { s.acc with lastRead := ⟨0, []⟩, locksRestored := false } }

/-- The hold-over latch takes the drives as they stand, or makes them inactive when Snare was active (R394, R395). -/
def State.captureDrives (s : State) : State :=
  if s.clk.held.contains 2 then s else
  let drv := if s.snare then 0 else s.rd Reg.CTK_DRIVE
  let s := (s.put Fld.CTK_HOLD_DRV drv).wr Reg.CTK_DRIVE drv
  ((s.setOn Fld.CTK_HOLD_HELD (!s.snare)).setOn Fld.CTK_HOLD_ADOPTED false).modClk (fun c => { c with adoptPending := true })

/-- The balls of a CORE reset (R547, R587, R641). -/
def State.ballsLow (s : State) : State :=
  let s := if s.on Fld.TWN_STATE_OWNOUT then s.emit (.ball "OWN_OUT" false) else s
  let s := if s.twn.resetOut then s.emit (.ball "PARTNER_RST_N" true) else s
  let s := if s.twn.powerOut then s else s.emit (.ball "PARTNER_PWR_EN" true)
  s.each 8 (fun s k => if s.on (Fld.TPO_KSTAT_LEVEL k) then s.emit (.ball ("TPO" ++ toString k) false) else s)

/-- Every ACTIVE code turns LATCHED (R401). -/
def State.allLatched (s : State) : State := s.each 256 (fun s c => if s.standing c = 1 then s.setStanding c 2 else s)

/-- The state behind the blocks of the CORE domain goes (R633); the tables of the retained SRAM stand. -/
def State.dropCoreHidden (s : State) : State :=
  let z := State.reset
  { s with
    svc := { z.svc with state := if s.svc.state = .recovery then .recovery else .unconfigured }
    flt := z.flt
    ctk := { z.ctk with breakDuty := s.ctk.breakDuty }
    prt := z.prt
    iso := z.iso
    pwm := z.pwm
    adc := z.adc
    lpe := z.lpe
    tim := z.tim
    rings := z.rings
    tel := z.tel
    chm := { z.chm with table := s.chm.table, ctrl := s.chm.ctrl, ctrlOn := s.chm.ctrlOn }
    bal := { s.bal with counts := s.bal.counts.map (fun x => (x.1, 0, x.2.2)), masks := s.bal.masks.map (fun x => (x.1, 0, x.2.2)) }
    est := { s.est with qacc := [], lastConv := [], restSince := [], qaccSeen := [], lastUpdate := none, hist := [] }
    twn := { twinReset with seen := s.twn.seen }
    upd := { s.upd with fetch := none, armed := false, lastAt := 0 }
    dbg := { z.dbg with counter := s.dbg.counter }
    acc := { s.acc with runs := [], locksRestored := false } }

/-- Status bits that follow supplies, clocks, inputs and retained state, not the reset. -/
def carriedFields : List RegField :=
  [Fld.PWM_GDFSTAT_LEVEL, ⟨Reg.stat Pg.PWR, 8, 5⟩, ⟨Reg.stat Pg.CLK, 13, 1⟩, ⟨Reg.stat Pg.EVR, 8, 5⟩, Fld.THM_STAT_OTLATCH,
    Fld.EST_STAT_ACTIVE, Fld.FLT_STATE_STORM]

/-- The CORE domain stops at level L1 (R633); a debug session ends with it (R720). -/
def State.dropCore (s : State) : State :=
  let s := if s.on Fld.DBG_SESSION_ACTIVE then s.auditCommand .debug Reg.DBG_SESSION 1 0 else s
  let s := s.captureDrives.ballsLow.dropNet
  let s0 := s
  let s := ((s.dropRegs keptAt).disqualifyAll 4 (fun _ => true)).dropCoreHidden.allLatched
  let s := carriedFields.foldl (fun (s : State) f => State.carry s0 s f) s
  let s := if s.on Fld.CTK_HOLD_HELD then s.setSeq 7 else s
  (s.put Fld.CLK_STAT_PLLLOCK 0).modClk (fun c => { c with pwmHeld := false, waitPll := [] })

/-- Everything stops at level L0: the safety island as well, and the retained SRAM is cleared (R633, R655). -/
def State.dropAll (s : State) : State :=
  let s := s.islandInit.dropCore
  let s0 := s
  let s := s.dropRegs fusedAt
  let s := [Fld.PWM_GDFSTAT_LEVEL, ⟨Reg.stat Pg.PWR, 8, 5⟩, refOk].foldl (fun (s : State) f => State.carry s0 s f) s
  let s := s.put Fld.CLK_STAT_PLLLOCK 0
  { s with
    svc := State.reset.svc
    ctk := { State.reset.ctk with breakDuty := s.ctk.breakDuty }
    age := { s.age with opsBase := (List.range 10).map (fun p =>
      (p, (smGet (fun _ => 0) s.age.opsBase p + 2 ^ 32 - s0.rd (Reg.CTK_POPS p)) % 2 ^ 32)) }
    chm := chimeReset
    est := { estReset with copyA := s.est.copyA, copyB := s.est.copyB }
    bal := State.reset.bal
    isl := { s.isl with faultTimes := [] }
    evr := { s.evr with arriving := [], intake := [], holding := [], lastGasp := [], forwarded := [], releasing := false }
    clk := { s.clk with failTimes := [], failedStart := false, recoverNext := false, dieLatch := false, adoptPending := false,
                        retDue := 0, loadDue := true } }

/-- A level's drop. -/
def State.dropLevel (s : State) (lvl : Nat) : State :=
  match lvl with
  | 0 => s.dropAll
  | 1 => s.dropCore
  | 2 => s.dropNet
  | _ => s.dropApp

/-- The loop engine and the PWM unit stop with a lock-up, their page locks with them (R53, R361, R634); STAT.SAFE stands with
Snare (R291). -/
def State.dropLoop (s : State) : State :=
  let t := s.dropRegs (fun a => !(decide (0x60000 ≤ a ∧ a < 0x62000) || decide (0x68000 ≤ a ∧ a < 0x70000)))
  let t := { t with pwm := State.reset.pwm, lpe := State.reset.lpe, acc := { t.acc with locksRestored := false } }
  (State.carry s t Fld.PWM_GDFSTAT_LEVEL).setOn Fld.PWM_STAT_SAFE s.snare

/-! ### Assertion -/

/-- Sources that never make a start fail (R643). -/
def excusedSource (src : Nat) : Bool := [0, 1, 2, 3, 8, 11].contains src

/-- A source asserts (R634, R636, R637, R643). -/
def State.assertSource (s : State) (src : Nat) : State :=
  let lvl := s.levelOf src
  let first := s.clk.asserted = 0 ∧ s.clk.held = []
  let fails := s.clk.startPending && s.domUp 10 && !excusedSource src
  let now := s.opsec
  let s := s.modClk (fun c => { c with
    asserted := putBit c.asserted src true
    causes := putBit (if first then 0 else c.causes) src true
    widest := min lvl (if first then 3 else c.widest)
    failTimes := if fails then now :: c.failTimes else c.failTimes
    failedStart := c.failedStart || fails
    startPending := c.startPending && !fails })
  let s := if fails then s.wr Reg.AON_BOOTLOG now else s
  let s := s.dropLevel lvl
  let s := if src = 12 then s.dropLoop else s
  let s := s.modClk (fun c => { c with held := (List.range 11).filter (fun d => c.held.contains d || (s.reachOf src).contains d) })
  let s := if src = 1 then (s.modClk (fun c => { c with dieLatch := false })).bump Fld.PWR_CNT_BROWNOUTS else s
  s.wr Reg.RST_NOW s.clk.asserted

/-- RESET_ASSERT: nothing reaches a module in transport mode (R658); the spare sources never assert, and a line that the
module itself pulls low is no source (R586, R634). -/
def State.resetAssert (s : State) (src : Nat) : State :=
  if s.svc.state = .transport ∨ allowedLevels src = [] ∨ (src = 8 ∧ s.twn.resetOut) then s else s.assertSource src

/-! ### Images at a start -/

/-- A bank: A, B or the recovery region. -/
def State.bank (s : State) (k : Nat) : BankState := (s.upd.banks[k]?).getD bankReset

/-- Change a bank. -/
def State.modBank (s : State) (k : Nat) (f : BankState → BankState) : State := s.modUpd (fun u => { u with banks := updAt u.banks k f })

/-- Index of the active bank (R669). -/
def State.activeIdx (s : State) : Nat := s.get Fld.UPD_BANKS_ACTIVE

/-- Index of the staging bank (R669). -/
def State.stagingIdx (s : State) : Nat := 1 - s.activeIdx

/-- An image of a bank by KIND: IFREV, REQMIN, REQMAX, STEPMASK and digest. -/
def BankState.image (b : BankState) (kind : Nat) : Option (Nat × Nat × Nat × Nat × Nat) :=
  (b.images.find? (fun x => x.1 == kind)).map (fun x => x.2)

/-- Hardware stepping: PID.VERSION of the DEV page (R715). -/
def State.stepping (s : State) : Nat := bitsOf (s.rd (Reg.pid Pg.DEV)) 8 8

/-- UPD_IMGST of a KIND (R670). -/
def imgField (kind : Nat) : RegField := ⟨Reg.UPD_IMGST, 2 * kind, 2⟩

/-- The block of a KIND is enabled (R667, R670). -/
def State.kindRuns (s : State) (kind : Nat) : Bool :=
  match kind with
  | 4 => (List.range 4).any (fun r => s.ens (Pg.SR r)) || s.ens Pg.CHM
  | 5 => s.ens Pg.LPE
  | 6 => s.ens Pg.FAB || s.ens Pg.CNA || s.ens Pg.CNB
  | _ => true

/-- A reset of level `lvl` with causes `causes` reached the block of a KIND (R667). -/
def kindReached (kind lvl causes : Nat) : Bool :=
  match kind with
  | 4 => decide (lvl ≤ 1)
  | 5 => decide (lvl ≤ 1) || bitOf causes 12
  | 6 => decide (lvl ≤ 2)
  | _ => false

/-- UPD_STAT.MIXED: some block runs an image that is not of the active bank's bundle (R673). -/
def State.mixedShow (s : State) : State :=
  s.setOn Fld.UPD_STAT_MIXED (!s.upd.mixed.isEmpty || [3, 4, 5, 6].any (fun k => s.get (imgField k) == 1))

/-- An image fits the running MAIN and the hardware (R671). -/
def State.imageFits (s : State) (mainRev : Nat) (im : Nat × Nat × Nat × Nat × Nat) : Bool :=
  decide (im.2.1 ≤ mainRev) && decide (mainRev ≤ im.2.2.1) && bitOf im.2.2.2.1 s.stepping

/-- A block stays unstarted: UPD_INCOMPAT, and the next start is in recovery mode (R671). -/
def State.unstarted (s : State) (kind : Nat) : State :=
  ((s.put (imgField kind) 2).faultEvent Pg.UPD Flt.UPD_INCOMPAT kind).modClk (fun c => { c with recoverNext := true })

/-- The image that runs in the block of a KIND, or stands in a slot of the island; none for one as delivered (log 19). -/
def State.runningImage (s : State) (key : Nat) : Option (Nat × Nat × Nat × Nat × Nat) :=
  (s.upd.running.find? (fun x => x.1 == key)).map (fun x => x.2)

/-- The image of a KIND runs in its block. -/
def State.imageRuns (s : State) (kind : Nat) (im : Nat × Nat × Nat × Nat × Nat) : State :=
  (s.modUpd (fun u => { u with running := smInsert kind im u.running, mixed := u.mixed.erase kind })).put (imgField kind) 0

/-- Key of an island slot among the images that run. -/
def imageSlotKey (slot : Nat) : Nat := 0x100 + slot

/-- A slot of the island holds an image of a digest. -/
def State.slotHolds (s : State) (slot digest : Nat) : Bool :=
  (s.runningImage (imageSlotKey slot)).any (fun im => im.2.2.2.2 == digest)

/-- The SAFETY image goes into the island's inactive slot when it differs from both; the island marks that slot as holding a
verified image (R670, R672). -/
def State.safetyImage (s : State) (im : Nat × Nat × Nat × Nat × Nat) : State :=
  let act := s.get Fld.SFI_SLOT_ACTIVE
  let d := im.2.2.2.2
  let s := s.put (imgField 3) (if s.slotHolds act d then 0 else 1)
  if s.slotHolds act d || s.slotHolds (1 - act) d then s else
  let s := s.put Fld.SFI_SLOT_LOADED (putBit (s.get Fld.SFI_SLOT_LOADED) (1 - act) true)
  { s with
    upd := { s.upd with running := smInsert (imageSlotKey (1 - act)) im s.upd.running }
    isl := { s.isl with images := smInsert (1 - act) (im.2.1, im.2.2.1, im.1) s.isl.images } }

/-- UPD_IMGST of the SAFETY image follows the island's active slot (R670). -/
def State.slotShow (s : State) : State :=
  match (s.bank s.activeIdx).image 3 with
  | none => s
  | some im =>
    if s.get (imgField 3) = 2 then s
    else (s.put (imgField 3) (if s.slotHolds (s.get Fld.SFI_SLOT_ACTIVE) im.2.2.2.2 then 0 else 1)).mixedShow

/-- MAIN handles one subordinate image of its bundle: a block that kept running keeps its image, any other is loaded once the image
fits (R670, R671). -/
def State.startImage (s : State) (mainRev lvl causes kind : Nat) : State :=
  match (s.bank s.activeIdx).image kind with
  | none => s.put (imgField kind) 3
  | some im =>
    if kind = 3 then (if s.imageFits mainRev im then s.safetyImage im else s.unstarted kind)
    else if kindReached kind lvl causes || !s.kindRuns kind then
      (if s.imageFits mainRev im then s.imageRuns kind im else s.unstarted kind)
    else if (s.runningImage kind).map (fun x => x.2.2.2.2) = some im.2.2.2.2 then s.imageRuns kind im
    else s.put (imgField kind) 1

/-- MAIN starts from the active bank and handles its bundle's images; a bank with no bundle leaves what the module was
delivered with (R670; log 19). -/
def State.startImages (s : State) (lvl causes : Nat) : State :=
  match (s.bank s.activeIdx).image 1 with
  | none => s
  | some m =>
    let s := if bitOf m.2.2.2.1 s.stepping then s.imageRuns 1 m else s.unstarted 1
    ([3, 4, 5, 6].foldl (fun (s : State) k => s.startImage m.1 lvl causes k) s).mixedShow

/-- A block whose image is STALE is loaded once it is disabled (R670). -/
def State.loadStale (s : State) : State :=
  let due := [4, 5, 6].filter (fun k => s.get (imgField k) == 1 && !s.kindRuns k)
  match (s.bank s.activeIdx).image 1 with
  | none => s
  | some m => if due = [] ∨ !s.appUp then s else (due.foldl (fun (s : State) k => s.startImage m.1 3 0 k) s).mixedShow

/-- The update lock ends (R674). -/
def State.dropLock (s : State) : State :=
  if s.on Fld.UPD_LOCK_HELD then (s.wr Reg.UPD_LOCK 0).irq Pg.UPD Irq.UPD_LOCK else s

/-- PHASE, versions and STAGED follow the banks, unless a phase of its own stands (R669, R682). -/
def State.updShow (s : State) : State :=
  let v := fun (k : Nat) => if (s.bank k).verified then (s.bank k).version else 0
  let staged := (s.bank s.stagingIdx).verified
  let s := (((s.wr Reg.UPD_VERA (v 0)).wr Reg.UPD_VERB (v 1)).wr Reg.UPD_VERREC (v 2)).setOn Fld.UPD_BANKS_STAGED staged
  let s := s.put ⟨Reg.UPD_PROG, 0, 16⟩ (s.upd.received / 1024)
  s.put Fld.UPD_STAT_PHASE
    (if s.on Fld.UPD_BANKS_TRIAL then 6 else if s.upd.armed then 4 else if staged then 3
      else if (s.bank s.stagingIdx).pieces.isEmpty then 0 else 1)

/-- The trial start failed: the former bank is active again (R679). -/
def State.rollback (s : State) : State :=
  let s := (s.put Fld.UPD_BANKS_ACTIVE s.stagingIdx).setOn Fld.UPD_BANKS_TRIAL false
  let s := ((s.put Fld.UPD_RESULT_REASON 0xC).bump Fld.UPD_CNT_ROLLBACKS).irq Pg.UPD Irq.UPD_ROLLBACK
  (s.faultEvent Pg.UPD Flt.UPD_ROLLBACK 0).dropLock

/-! ### Starts -/

/-- Failed starts of the last 600 s of operating time (R644). -/
def State.recentFails (s : State) : Nat := (s.clk.failTimes.filter (fun t => decide (s.opsec < t + 600))).length

/-- The module presents the recovery column of R24: converter and contactors off, rings idle, OWN_OUT low and no Toll (R587,
R645). -/
def State.enterRecovery (s : State) : State :=
  let s := (s.openAllNow.setSeq 0).lpeOff.pwmDead
  let s := (s.chmOff.setOn (Fld.ctrlEn Pg.CHM) false).setOn (Fld.ctrlEn Pg.PWM) false
  let s := (s.setEns Pg.CTK false).setOn Fld.CTK_HOLD_HELD false
  let s := s.each 4 (fun s r => if s.ens (Pg.SR r) then s.ringOff r else s)
  let s := (s.twinOff.setOn (Fld.ctrlEn Pg.TWN) false).modClk (fun c => { c with adoptPending := false })
  let s := (s.setOn Fld.RST_BOOT_RECOVERY true).irq Pg.RST Irq.RST_RECOVERY
  { s with svc := { s.svc with state := .recovery, startDone := false, stopCause := none } }

/-- The recorder after a reset of level L0: power-cycle count, operating time, SEQ above every record it finds, the audit
chain from 0, and the loss of held records told (R612, R616, R728). -/
def State.recorderStart (s : State) : State :=
  let s := s.put Fld.EVR_PCC_PCC ((s.get Fld.EVR_PCC_PCC + 1) % 2 ^ 24)
  let segs := s.evr.main ++ s.evr.reserve ++ s.evr.norRegion
  let top := (segs.flatMap (fun g => g.recs.map (fun c => c.seq + 1))).foldl max 0
  let mark := (s.evr.marker.map (fun m => m.2)).getD 0
  let s := s.wr Reg.EVR_SEQ (max top mark % 2 ^ 32)
  let s := s.modEvr (fun e => { e with opTime := (e.savedSec + 60) * (1000000000 * nsUnit), chain := 0 })
  let s := match s.evr.marker with
    | some (a, b) => s.raiseRec (s.recorderRaw 3 6 .firmware a (b - 1) (b - a))
    | none => s
  (s.modEvr (fun e => { e with marker := none })).setOn Fld.EVR_STAT_NORFB (!s.evr.norRegion.isEmpty)

/-- The bleed ledger is lost: BLEEDQ of every cell and BAL_QTOT go together, with what they are counted from (R200, R245). -/
def State.ledgerLost (s : State) : State :=
  let s := (s.each 3072 (fun s i => s.wr (cellWord i 9) 0)).wr64 Reg.BAL_QTOT 0
  { s with
    bal := { s.bal with residue := [], counts := [] }
    est := { s.est with cells := s.est.cells.map (fun x => (x.1, { x.2 with bleedSeen := 0 })) } }

/-- A user of a block of the retained SRAM that was found bad takes its contents as after a reset of level L0 (R655). -/
def State.retainedLost (s : State) : State :=
  let bad := fun (u : Fin 7) => (List.range 32).any (fun b => bitOf s.clk.retDue b && Config.retains b u)
  if s.clk.retDue = 0 then s else
  let s := if bad 0 then s.dropRegs (fun a => !decide (0x20000 ≤ a ∧ a < 0x50000)) else s
  let s := if bad 0 || bad 6 then s.ledgerLost else s
  let s := if bad 1 then { s with est := { estReset with copyA := s.est.copyA, copyB := s.est.copyB }
                                  chm := { s.chm with table := [] }
                                  clk := { s.clk with loadDue := true } } else s
  let s := if bad 2 then s.modEvr (fun e => { e with intake := [] }) else s
  let s := if bad 3 then s.modEvr (fun e => { e with holding := [] }) else s
  let s := if bad 4 then s.modEvr (fun e => { e with lastGasp := [] }) else s
  let s := if bad 5 then s.setOn Fld.THM_STAT_OTLATCH false else s
  ((s.modClk (fun c => { c with retDue := 0 })).irq Pg.AON Irq.AON_RETLOST).faultEvent Pg.AON Flt.RET_LOST 0

/-- RST_CAUSE, the counts and the burnt fuse table at the last release (R635, R640). -/
def State.noteReset (s : State) : State :=
  let lvl := s.clk.widest
  let s := (s.put Fld.RST_CAUSE_SRC s.clk.causes).put Fld.RST_CAUSE_LEVEL lvl
  let s := match lvl with
    | 1 => s.bump Fld.RST_COUNT_L1
    | 2 => s.bump Fld.RST_COUNT_L2
    | 3 => s.bump Fld.RST_COUNT_L3
    | _ => s
  match s.clk.fuseNext with
  | some (levels, bootf) =>
    if lvl ≤ 1 then ((s.wr Reg.RST_FUSE levels).put Fld.RST_FUSECFG_BOOTF bootf).modClk (fun c => { c with fuseNext := none }) else s
  | none => s

/-- The release of the APP domain: a start (R640, R643, R644, R670, R679). -/
def State.appStart (s : State) : State :=
  let lvl := s.clk.widest
  let causes := s.clk.causes
  let failed := s.clk.failedStart
  let s := s.noteReset.retainedLost
  let s := (s.bump Fld.RST_BOOT_STARTS).modClk (fun c => { c with startPending := true, failedStart := false })
  let s := if failed then (s.bump Fld.RST_BOOT_FAILS).irq Pg.RST Irq.RST_BOOTFAIL else s
  let s := if failed && s.on Fld.UPD_BANKS_TRIAL then s.rollback else s
  let recover := s.on Fld.RST_BOOT_RECOVERY || s.clk.recoverNext || (failed && decide (s.get Fld.RST_FUSECFG_BOOTF ≤ s.recentFails))
  let s := s.modClk (fun c => { c with recoverNext := false })
  let s := if recover then s.enterRecovery
    else if s.svc.state = .recovery then s.setSvc .unconfigured else s
  let s := (if recover then s else s.startImages lvl causes).updShow
  let s := s.raiseRec ⟨1, 8, Pg.RST, lvl, beBytes 4 causes ++ beBytes 4 s.activeVersion, none⟩
  s.gaspBack

/-! ### Release -/

/-- The SYS domain is released: a storm ends, and every unmasked source that stands asserted makes Snare active again, the
fault manager's own excepted (R407, R730). -/
def State.sysStart (s : State) : State :=
  let s := if s.on Fld.FLT_STATE_STORM then s.endStorm else s
  (s.snStanding.filter (fun k => k != 0x1F)).foldl (fun (s : State) k => s.snareBy k) s

/-- What the release of a domain does. -/
def State.domainStart (s : State) (d : Nat) : State :=
  match d with
  | 1 => s.recorderStart
  | 2 => s.sysStart
  | 10 => s.appStart
  | _ => s

/-- The release sequence goes on from the first domain still held: it stops at a domain that an asserted source reaches or
whose PLL is not locked (R637 to R639). -/
def State.releaseNext (s : State) : Nat → State
  | 0 => s
  | n + 1 =>
    match s.clk.held with
    | [] => s
    | d :: rest =>
      if s.reached d || ((domainPll d).map (fun k => !s.pllLocked k)).getD false then s
      else ((s.modClk (fun c => { c with held := rest })).domainStart d).releaseNext n

/-- RESET_RELEASE: the die thermal latch holds its source (R657). -/
def State.resetRelease (s : State) (src : Nat) : State :=
  if !bitOf s.clk.asserted src || (src == 10 && s.clk.dieLatch) then s else
  let s := s.modClk (fun c => { c with asserted := putBit c.asserted src false })
  (s.wr Reg.RST_NOW s.clk.asserted).releaseNext 10

/-! ### Clocks -/

/-- The outputs are let go once the three PLLs are locked, the reference is back and Snare is active (R649). -/
def State.pwmLetGo (s : State) : State :=
  if s.clk.pwmHeld && s.pllLocked 1 && s.pllLocked 2 && s.pllLocked 3 && s.on refOk && s.snare then
    s.modClk (fun c => { c with pwmHeld := false }) else s

/-- Domains whose clock a PLL makes (R647). -/
def pllDomains (k : Nat) : List Nat :=
  match k with
  | 0 => [10]
  | 1 => [2, 3, 4, 7, 8]
  | 2 => [5]
  | 3 => [6]
  | _ => [9]

/-- PLL `k` locks: its waiting domain is released, and CLK_FAIL, once SYS runs, is raised or ends (R638, R649). -/
def State.pllLock (s : State) (k : Nat) : State :=
  if s.pllLocked k || s.reached (if k = 0 then 10 else 2) then s else
  let s := (s.setPll k true).irq Pg.CLK Irq.CLK_RELOCK
  let s := s.modClk (fun c => { c with waitPll := c.waitPll.filter (fun d => !(pllDomains k).contains d) })
  let s := if s.clk.pwmHeld && k == 1 then s.fault Pg.CLK Flt.CLK_FAIL 2 else s
  let s := if k = 1 ∨ k = 2 ∨ k = 3 then s.endInstance Pg.CLK Flt.CLK_FAIL (1 + k) else s
  s.pwmLetGo.releaseNext 10

/-- Loss of the reference (R649). -/
def State.refLoss (s : State) : State :=
  if !s.on refOk then s else
  let s := ((s.setOn refOk false).bump Fld.CLK_CNT_REFLOSS).irq Pg.CLK Irq.CLK_REFLOSS
  let s := s.modClk (fun c => { c with refLost := true, pwmHeld := true })
  s.fault Pg.CLK Flt.CLK_FAIL 0

/-- Loss of lock of PLL `k` (R649). -/
def State.pllLoss (s : State) (k : Nat) : State :=
  if !s.pllLocked k then s else
  let s := (((s.setPll k false).bump Fld.CLK_CNT_UNLOCKS).put Fld.CLK_LAST_PLL k).irq Pg.CLK Irq.CLK_UNLOCK
  let s := s.modClk (fun c => { c with waitPll := c.waitPll ++ pllDomains k, pwmHeld := c.pwmHeld || k == 1 || k == 2 || k == 3 })
  if k = 2 ∨ k = 3 then s.fault Pg.CLK Flt.CLK_FAIL (1 + k) else s

/-- CLOCK_LOSS. -/
def State.clockLoss (s : State) (k : ClockLossKind) : State :=
  match k with
  | .reference => s.refLoss
  | .pll k => s.pllLoss k

/-- CLOCK_MONITOR: the deviation in ppm (R649). -/
def State.clockMonitor (s : State) (ppm : Nat) : State :=
  let s := s.wr Reg.CLK_REFPPM ppm
  if (toSigned 16 ppm).natAbs > 1000 then s.refLoss
  else if s.on refOk then s
  else
    let s := (s.setOn refOk true).modClk (fun c => { c with refLost := false })
    (s.endInstance Pg.CLK Flt.CLK_FAIL 0).pwmLetGo

/-! ### Supplies, retention, die temperature -/

/-- HUGOOD_FALL (R624, R654). -/
def State.hugoodFall (s : State) : State :=
  if s.hugood then ((s.writebackLow.setOn Fld.PWR_STAT_HUGOOD false).irq Pg.PWR Irq.PWR_HUFALL).evrShow else s

/-- HUGOOD_RISE (R624, R654). -/
def State.hugoodRise (s : State) : State :=
  if s.hugood then s else ((s.setOn Fld.PWR_STAT_HUGOOD true).irq Pg.PWR Irq.PWR_HURISE).gaspBack

/-- A warning begins (R407, R653). -/
def State.warningBegins (s : State) (vmain : Nat) : State :=
  let s := ((s.setOn Fld.PWR_STAT_WARN true).bump Fld.PWR_CNT_WARNS).irq Pg.PWR Irq.PWR_WARN
  let s := (s.fault Pg.PWR Flt.PWR_WARN 0 (BitVec.ofNat 32 vmain)).startWriteback
  if s.on Fld.FLT_STATE_STORM then s.endStorm else s

/-- VMAIN_WARNING: below WARN, or PFAIL_N low; HUGOOD falls at once below HUTHR (R653, R654). -/
def State.warning (s : State) (vmain : Nat) (pfailLow : Bool) : State :=
  let s := (s.put Fld.PWR_VMAIN_VMAIN vmain).setOn Fld.PWR_STAT_PFAIL pfailLow
  let s := if s.on Fld.PWR_STAT_WARN || !(pfailLow || decide (vmain < s.get Fld.PWR_BO_WARN)) then s else s.warningBegins vmain
  if vmain < s.get Fld.PWR_BO_HUTHR then s.hugoodFall else s

/-- WARNING_END: VMAIN above WARN with PFAIL_N high; with no warning standing HUGOOD is 1 again (R653, R654). -/
def State.warningEnd (s : State) (vmain : Nat) : State :=
  let s := (s.put Fld.PWR_VMAIN_VMAIN vmain).setOn Fld.PWR_STAT_PFAIL false
  if !s.on Fld.PWR_STAT_WARN || decide (vmain ≤ s.get Fld.PWR_BO_WARN) then s else
  ((s.setOn Fld.PWR_STAT_WARN false).endInstance Pg.PWR Flt.PWR_WARN 0).hugoodRise

/-- VIO_LOW (R652). -/
def State.vioFalls (s : State) (vio : Nat) : State :=
  let s := s.put Fld.PWR_VMAIN_VIO vio
  if s.on Fld.PWR_STAT_VIOLOW || decide (2950 ≤ vio) then s else
  ((s.setOn Fld.PWR_STAT_VIOLOW true).irq Pg.PWR Irq.PWR_VIOLOW).fault Pg.PWR Flt.VIO_LOW 0 (BitVec.ofNat 32 vio)

/-- VIO_RESTORED: VIO is back in its range (R650 to R652). -/
def State.vioReturns (s : State) (vio : Nat) : State :=
  let s := s.put Fld.PWR_VMAIN_VIO vio
  if s.on Fld.PWR_STAT_VIOLOW && decide (3135 ≤ vio ∧ vio ≤ 3465) then
    (s.setOn Fld.PWR_STAT_VIOLOW false).endInstance Pg.PWR Flt.VIO_LOW 0 else s

/-- SCRUB_PASS: corrected errors, and the blocks found with an uncorrectable one (R655). -/
def State.scrub (s : State) (corrected bad : Nat) : State :=
  let s := s.bump Fld.AON_SCRUB_PASSES
  let s := if corrected = 0 then s else (s.bumpBy Fld.AON_SCRUB_CORR corrected).irq Pg.AON Irq.AON_CORR
  if bad = 0 then s else
  let s := (s.wr Reg.AON_RETBAD (Nat.lor (s.rd Reg.AON_RETBAD) bad)).bumpBy Fld.AON_SCRUB_UNCORR (popCount 32 bad)
  let s := (s.irq Pg.AON Irq.AON_UNCORR).modClk (fun c => { c with retDue := Nat.lor c.retDue bad })
  s.modTwn (fun t => { t with eccAt := some s.nowNat })

/-- DIE_TEMPERATURE (R656). -/
def State.dieTemp (s : State) (t die : Nat) : State :=
  let s := s.wr Reg.PWR_DIE (t % 65536 + die % 8 * 65536)
  let v := toSigned 16 (t % 65536)
  let w : Int := s.get Fld.PWR_THERM_WARN
  if s.on Fld.PWR_STAT_DIEWARN then
    (if v ≤ w - 50 then (s.setOn Fld.PWR_STAT_DIEWARN false).endInstance Pg.PWR Flt.DIE_WARN 0 else s)
  else if v > w then
    ((s.setOn Fld.PWR_STAT_DIEWARN true).irq Pg.PWR Irq.PWR_DIEWARN).fault Pg.PWR Flt.DIE_WARN 0 (BitVec.ofNat 32 t)
  else s

/-- DIE_THERMAL: the latch sets and asserts its source (R657); a reset of level L0 clears the count it starts from. -/
def State.dieThermal (s : State) : State :=
  if s.svc.state = .transport ∨ s.clk.dieLatch then s else
  let s := (s.assertSource 10).modClk (fun c => { c with dieLatch := true })
  s.bump Fld.AON_THERM_L0

/-! ### Transport mode -/

/-- TRANSPORT accepted in READY: a write-back first (R658). -/
def State.transportBegin (s : State) : State := (s.modClk (fun c => { c with transportDue := true })).startWriteback

/-- Transport mode: the intake emptied into the MRAM, an EVENT record, every domain held, retention ceased (R658). -/
def State.transportEnter (s : State) : State :=
  let s := s.event 1 Pg.RST 0 []
  let s := s.flushArriving
  let s := s.copyBack s.evr.intake
  let s := (s.modEvr (fun e => { e with intake := [] })).saveOpTime
  let s := s.dropAll
  { s with
    svc := { s.svc with state := .transport }
    clk := { s.clk with held := levelReach 0, transportDue := false, asserted := 0, causes := 0, widest := 3, waitPll := [] } }

/-- The write-back ends; it is the step before transport mode when TRANSPORT waits for it (R225, R658). -/
def State.writebackEnds (s : State) (how : WritebackEnd) : State :=
  if s.est.writing.isNone then s else
  let good := s.endsGood how
  let s := s.endWriteback good
  if s.clk.transportDue && good && s.est.writing.isNone then s.transportEnter else s

/-- TRANSPORT_FAIL: 1 s without the write-back (R658). -/
def State.transportFails (s : State) : State :=
  if s.clk.transportDue then (s.modClk (fun c => { c with transportDue := false })).faultEvent Pg.RST Flt.TRANSPORT_FAIL 0 else s

/-- TRANSPORT_EXIT asserts POWER_ON (R659). -/
def State.transportExit (s : State) : State :=
  if s.svc.state = .transport then (s.setSvc .unconfigured).assertSource 0 else s

/-! ### The RST page -/

/-- RST_BOOTOK: the start is complete, and with it a trial (R643, R668, R679). -/
def State.bootOk (s : State) : State :=
  if !(s.clk.startPending && s.domUp 10) then s else
  let s := (s.modClk (fun c => { c with startPending := false })).put Fld.RST_BOOT_FAILS 0
  let s := { s with svc := { s.svc with appPaused := false } }
  let svn := (s.bank s.activeIdx).svn
  let s := if s.get Fld.RST_BOOT_RECOVERY = 0 ∧ s.rd Reg.UPD_SVNMIN < svn then s.wr Reg.UPD_SVNMIN svn else s
  if s.on Fld.UPD_BANKS_TRIAL && !s.on Fld.RST_BOOT_RECOVERY then
    let s := ((s.setOn Fld.UPD_BANKS_TRIAL false).bump Fld.UPD_CNT_ACTIVATIONS).irq Pg.UPD Irq.UPD_ACTIVATED
    s.dropLock.updShow
  else s

/-- APP_WDT asserts: no BOOTOK within 30 s, or the watchdog not served; both wait while the cores are halted (R634, R643,
R724). -/
def State.watchdog (s : State) : State :=
  if s.clk.held.contains 10 || s.on Fld.DBG_SESSION_HALTED then s else s.resetAssert 4

/-- BOOT_TIMEOUT (R643). -/
def State.bootTimeout (s : State) : State := if s.clk.startPending then s.watchdog else s

/-- SOFTWARE asserts with a level of its own (R639, R646). -/
def State.softAt (s : State) (lvl : Nat) : State := (s.modClk (fun c => { c with softLevel := lvl })).resetAssert 6

/-- A keyed write of RST_SWRST: the wider of LEVEL and the fused level (R639). -/
def State.softReset (s : State) (lvl : Nat) : State := s.softAt (min lvl (s.get ⟨Reg.RST_FUSE, 12, 2⟩))

/-- The boot-failure record is cleared (R646, R661). -/
def State.clearBoot (s : State) : State :=
  ((s.modClk (fun c => { c with failTimes := [], failedStart := false })).put Fld.RST_BOOT_FAILS 0).wr Reg.AON_BOOTLOG 0

/-- The levels written in RST_FUSEPRG lie within their sets, and the threshold within 2 to 8 (R635). -/
def State.fusesOk (s : State) : Bool :=
  (List.range 13).all (fun n => (allowedLevels n).contains (s.get ⟨Reg.RST_FUSEPRG, 2 * n, 2⟩)) &&
    decide (2 ≤ s.rd Reg.RST_BOOTPRG % 16 ∧ s.rd Reg.RST_BOOTPRG % 16 ≤ 8)

/-- RST_CMD (R635, R646, R661). -/
def State.rstCommand (s : State) (op : Nat) : State :=
  let reject := s.irq Pg.RST Irq.RST_CMDREJ
  match op with
  | 1 => if s.svc.state = .recovery then (s.clearBoot.setOn Fld.RST_BOOT_RECOVERY false).softAt 1 else reject
  | 2 =>
    if s.svc.state = .recovery ∧ ¬ s.on Fld.RST_FUSECFG_BURNT ∧ s.fusesOk then
      let levels := Nat.lor (s.rd Reg.RST_FUSEPRG) 0xFC000000
      let bootf := s.rd Reg.RST_BOOTPRG % 16
      (s.setOn Fld.RST_FUSECFG_BURNT true).modClk (fun c => { c with fuseNext := some (levels, bootf) })
    else reject
  | 3 => s.clearBoot
  | _ => s

end Sys2Proof.Machine
end

