-- ==== Sys2Proof/Machine/Update.lean ====
section
/-! DEFINITION. Firmware bundles: the update lock, writing and fetching, verification, activation, single images (R665 to
R685). An answer is a status of R503, a body and the state after it. -/

namespace Sys2Proof.Machine

/-- A service's answer: status, body, state (R503). -/
abbrev SvcAns := (Nat × List Byte) × State

/-- An answer with a REASON as its body (R681, R683). -/
def refusedWith (status reason : Nat) (s : State) : SvcAns := ((status, beBytes 1 reason), s)

/-- An answer OK with no body. -/
def okBare (s : State) : SvcAns := ((0, []), s)

/-! ### The lock -/

/-- The update lock is held by another origin or node (R674). -/
def State.lockedOut (s : State) (o : Origin) : Bool :=
  s.on Fld.UPD_LOCK_HELD && !(s.get Fld.UPD_LOCK_ORIGIN == originCode o && s.get Fld.UPD_LOCK_NODE == originNode o)

/-- Claim the lock, or renew it (R674). -/
def State.takeLock (s : State) (o : Origin) : State :=
  let now := s.nowNat
  let s := s.modUpd (fun u => { u with lastAt := now })
  if s.on Fld.UPD_LOCK_HELD then s else
  let s := (s.setOn Fld.UPD_LOCK_HELD true).put Fld.UPD_LOCK_ORIGIN (originCode o)
  (s.put Fld.UPD_LOCK_NODE (originNode o)).irq Pg.UPD Irq.UPD_LOCK

/-- A service of the holder renews the 60 s (R674). -/
def State.lockUsed (s : State) (o : Origin) : State :=
  let now := s.nowNat
  if s.on Fld.UPD_LOCK_HELD && !s.lockedOut o then s.modUpd (fun u => { u with lastAt := now }) else s

/-- UPD_LOCK.IDLE: seconds since the holder's last service. -/
def State.lockIdle (s : State) : Nat :=
  if s.on Fld.UPD_LOCK_HELD then min 255 ((s.nowNat - s.upd.lastAt) / 1000000000) else 0

/-- UPDATE_LOCK_TIMEOUT: 60 s without a service from the holder (R674). -/
def State.lockTimeout (s : State) : State :=
  if s.on Fld.UPD_LOCK_HELD && decide (s.nowNat ≥ s.upd.lastAt + 60000000000) then s.dropLock else s

/-! ### Bundle bytes -/

/-- The byte of a bank at an offset: the newest piece that covers it. -/
def BankState.byteAt (b : BankState) (o : Nat) : Option Byte :=
  (b.pieces.find? (fun p => decide (p.1 ≤ o ∧ o < p.1 + p.2.length))).bind (fun p => p.2[o - p.1]?)

/-- `n` bytes of a bank; bytes never written are 0. -/
def BankState.bytesAt (b : BankState) (o n : Nat) : List Byte := (List.range n).map (fun i => (b.byteAt (o + i)).getD 0)

/-- A big-endian number of a bank. -/
def BankState.numAt (b : BankState) (o n : Nat) : Nat := ofBe (b.bytesAt o n)

/-- LENGTH of the bundle header, once it has been written whole (R665). -/
def BankState.lengthKnown (b : BankState) : Option Nat :=
  if (List.range 4).all (fun i => (b.byteAt (0x10 + i)).isSome) then some (b.numAt 0x10 4) else none

/-- One manifest entry is well formed (R665, R666). -/
def BankState.entryOk (b : BankState) (len nimg i : Nat) : Bool :=
  let e := 0x20 + 80 * i
  let kind := b.numAt e 1
  let off := b.numAt (e + 12) 4
  let n := b.numAt (e + 16) 4
  decide (1 ≤ kind ∧ kind ≤ 6) && b.numAt (e + 1) 1 == 0 && b.numAt (e + 20) 12 == 0 && off % 4096 == 0 &&
    decide (0x20 + 80 * nimg ≤ off ∧ off + n ≤ len - 96) &&
    (kind != 1 || (b.numAt (e + 4) 2 == 0 && b.numAt (e + 6) 2 == 0))

/-- KINDs of the manifest in order. -/
def BankState.kinds (b : BankState) (nimg : Nat) : List Nat := (List.range nimg).map (fun i => b.numAt (0x20 + 80 * i) 1)

/-- Header and manifest are correct (R665 to R668). -/
def BankState.formatOk (b : BankState) (received : Nat) : Bool :=
  let len := b.numAt 0x10 4
  let nimg := b.numAt 0x14 4
  let kinds := b.kinds nimg
  b.numAt 0 4 == 0x54514255 && b.numAt 4 4 == 1 && decide (96 ≤ len ∧ len ≤ 0x1800000) && received == len &&
    decide (1 ≤ nimg ∧ nimg ≤ 8) && decide (b.numAt 0x18 4 ≤ 1) && b.numAt 0x1C 4 == 0 &&
    (List.range nimg).all (fun i => b.entryOk len nimg i) && decide (kinds.Nodup) &&
    (if kinds.contains 2 then kinds == [2] else kinds.contains 1)

/-- The manifest's images: IFREV, REQMIN, REQMAX, STEPMASK, digest by KIND (R666). -/
def BankState.manifest (b : BankState) : List (Nat × (Nat × Nat × Nat × Nat × Nat)) :=
  (List.range (b.numAt 0x14 4)).map (fun i =>
    let e := 0x20 + 80 * i
    (b.numAt e 1, (b.numAt (e + 2) 2, b.numAt (e + 4) 2, b.numAt (e + 6) 2, b.numAt (e + 8) 4, b.numAt (e + 32) 48)))

/-! ### Staging -/

/-- Set the phase. -/
def State.setPhase (s : State) (v : Nat) : State := s.put Fld.UPD_STAT_PHASE v

/-- Verification starts (R676). -/
def State.beginVerify (s : State) : State := (s.put ⟨Reg.UPD_PROG, 16, 16⟩ 0).setPhase 2

/-- A block enters the staging bank; the one that completes LENGTH starts verification (R676). -/
def State.stagePiece (s : State) (off : Nat) (data : List Byte) : State :=
  let b := s.bank s.stagingIdx
  let fresh := ((List.range data.length).filter (fun i => (b.byteAt (off + i)).isNone)).length
  let s := s.modBank s.stagingIdx (fun b => { b with pieces := (off, data) :: b.pieces })
  let s := (s.modUpd (fun u => { u with received := u.received + fresh })).updShow
  if (s.bank s.stagingIdx).lengthKnown = some s.upd.received then s.beginVerify else s

/-- The staging bank is emptied (R675). -/
def State.emptyStaging (s : State) : State :=
  let s := s.modBank s.stagingIdx (fun _ => bankReset)
  let s := (s.modUpd (fun u => { u with received := 0, fetch := none, armed := false })).wr64 Reg.UPD_ACTT 0
  ((s.put Fld.UPD_RESULT_REASON 0).wr Reg.UPD_PROG 0).updShow

/-- A request of this module to a neighbour: a service message in a frame of its class (R502, R677). -/
def State.askNeighbour (s : State) (lane cls svc : Nat) (body : List Byte) : State :=
  let m := beBytes 2 svc ++ beBytes 2 0 ++ beBytes 1 0 ++ beBytes 1 0 ++ beBytes 2 body.length ++ body
  s.egress lane (s.mkFrame cls 4 (s.get (Fld.FP_STATE_PEER lane)) m) none

/-- UPD_FETCH for the next piece (R677). -/
def State.fetchNext (s : State) : State :=
  match s.upd.fetch with
  | none => s
  | some (lane, bid, off, len) =>
    s.askNeighbour lane 3 0x308 (beBytes 8 bid ++ beBytes 4 off ++ beBytes 2 (min 1008 (len - off)) ++ beBytes 2 0)

/-- UPD_OFFER to the neighbours of the other UP fabric ports (R677). -/
def State.ripple (s : State) : State :=
  let b := s.bank s.stagingIdx
  match b.via with
  | none => s
  | some lane =>
    if !s.on Fld.UPD_CFG_RELAY then s else
    ((List.range 4).filter (fun n => n != lane && s.laneState n == 3)).foldl (fun (s : State) n =>
      s.askNeighbour n 2 0x307 (beBytes 8 b.bid ++ beBytes 4 b.version ++ beBytes 4 b.svn ++ beBytes 4 b.length)) s

/-- The signature of a bundle verifies over every byte before it, under the key that KEYID names (R665, R668). -/
def BankState.signatureOk (b : BankState) : Bool :=
  let n := b.numAt 0x10 4 - 96
  ecdsaHolds (Config.bundleKey (b.numAt 0x18 4)) (b.bytesAt 0 n) (b.numAt n 48) (b.numAt (n + 48) 48)

/-- The DIGEST of a manifest entry matches its image (R666). -/
def BankState.digestOk (b : BankState) (i : Nat) : Bool :=
  let e := 0x20 + 80 * i
  sha384Num (b.bytesAt (b.numAt (e + 12) 4) (b.numAt (e + 16) 4)) == b.numAt (e + 32) 48

/-- Every DIGEST of the manifest matches its image (R668). -/
def BankState.digestsOk (b : BankState) : Bool := (List.range (b.numAt 0x14 4)).all b.digestOk

/-- KIND of the first image whose DIGEST does not match, for UPD_RESULT (log 19). -/
def BankState.badKind (b : BankState) : Nat :=
  (((List.range (b.numAt 0x14 4)).find? (fun i => !b.digestOk i)).map (fun i => b.numAt (0x20 + 80 * i) 1)).getD 0

/-- The verdict on the bundle in the staging bank: 0, or its REASON (R668, R676). -/
def State.verdict (s : State) : Nat :=
  let b := s.bank s.stagingIdx
  if !b.formatOk s.upd.received then 1
  else if !b.signatureOk then 2
  else if !b.digestsOk then 3
  else if b.numAt 0xC 4 < s.rd Reg.UPD_SVNMIN then 4
  else 0

/-- VERIFICATION_DONE (R676, R677). -/
def State.verified (s : State) : State :=
  if s.get Fld.UPD_STAT_PHASE ≠ 2 || !s.appUp then s else
  let r := s.verdict
  let s := (s.put Fld.UPD_RESULT_REASON r).put Fld.UPD_RESULT_KIND (if r = 3 then (s.bank s.stagingIdx).badKind else 0)
  if r ≠ 0 then
    let s := (s.modUpd (fun u => { u with fetch := none })).bump Fld.UPD_CNT_REJECTS
    ((s.irq Pg.UPD Irq.UPD_REJECTED).faultEvent Pg.UPD Flt.UPD_REJECTED 0 (BitVec.ofNat 32 r)).setPhase 0
  else
    let k := s.stagingIdx
    let b := s.bank k
    let n := 0x20 + 80 * b.numAt 0x14 4
    let s := s.modBank k (fun b => { b with
      verified := true, version := b.numAt 8 4, svn := b.numAt 0xC 4, length := b.numAt 0x10 4, images := b.manifest
      bid := sha384Head (b.bytesAt 0 n) })
    let s := (s.modUpd (fun u => { u with fetch := none })).put ⟨Reg.UPD_PROG, 16, 16⟩ (s.upd.received / 1024)
    ((s.updShow).irq Pg.UPD Irq.UPD_STAGED).ripple

/-! ### Activation -/

/-- The twin condition of an activation: allowed now, after a handover, or not at all (R680). -/
inductive TwinGate where
  | now | handOver | no
  deriving DecidableEq, Repr

/-- The twin condition (R680). -/
def State.twinGate (s : State) : TwinGate :=
  let partner := match s.twn.partner with
    | some m => decide (m.healthySeconds.toNat ≥ s.get Fld.UPD_CFG_TWINGAP)
    | none => false
  let duty := match s.twn.partner with
    | some m => m.tstate.toNat == 3
    | none => false
  match s.tstate with
  | 0 => .now
  | 1 => .now
  | 4 => if partner && duty then .now else .no
  | 3 => if partner && s.on Fld.TWN_STATE_PELIG then .handOver else .no
  | _ => .no

/-- The image that runs in the block of a KIND accepts a MAIN revision; one as delivered accepts any (R671, R678; log 19). -/
def State.runningAccepts (s : State) (kind mainRev : Nat) : Bool :=
  match s.runningImage kind with
  | some im => decide (im.2.1 ≤ mainRev ∧ mainRev ≤ im.2.2.1)
  | none => true

/-- The island's active slot accepts a MAIN revision (R678). -/
def State.slotAccepts (s : State) (mainRev : Nat) : Bool :=
  match s.isl.images.find? (fun x => x.1 == s.get Fld.SFI_SLOT_ACTIVE) with
  | some (_, lo, hi, _) => decide (lo ≤ mainRev ∧ mainRev ≤ hi)
  | none => true

/-- REASON against an activation, 0 for none (R678). -/
def State.activateBar (s : State) : Nat :=
  let b := s.bank s.stagingIdx
  if !b.verified then 9
  else if s.clk.transportDue || s.anyPhase (fun v => v == 2 || v == 3) then 0xD
  else if s.twinGate = .no then 0xA
  else match b.image 1 with
    | none => 0xD
    | some m =>
      if !bitOf m.2.2.2.1 s.stepping then 5
      else if s.slotAccepts m.1 && (s.svc.state = .recovery || [4, 5, 6].all (fun k => !s.kindRuns k || s.runningAccepts k m.1)) then 0
      else 6

/-- The activation instant: banks swapped in TRIAL and the reset of the application cluster (R679, R680). -/
def State.activateNow (s : State) : State :=
  let s := (s.modUpd (fun u => { u with armed := false })).setPhase 5
  let s := (s.wr64 Reg.UPD_ACTT 0).wr Reg.TWN_HOTIME 0
  let s := (s.put Fld.UPD_BANKS_ACTIVE s.stagingIdx).setOn Fld.UPD_BANKS_TRIAL true
  if s.svc.state = .recovery then (s.setOn Fld.RST_BOOT_RECOVERY false).softAt 1
  else
    let s := s.resetAssert 11
    { s with svc := { s.svc with appPaused := true } }

/-- An activation is due: at once, or after the duty has handed over (R679, R680). -/
def State.activateDue (s : State) : State :=
  match s.twinGate with
  | .now => s.activateNow
  | .handOver =>
    let now := s.nowNat
    (((s.modUpd (fun u => { u with armed := true })).wr64 Reg.UPD_ACTT now).setPhase 4).handoverAsked
  | .no => ((s.modUpd (fun u => { u with armed := false })).put Fld.UPD_RESULT_REASON 0xA).updShow

/-- ACTIVATION: the armed instant has come (R530, R678). -/
def State.activation (s : State) : State :=
  if s.upd.armed && s.appUp && decide (toSigned 64 ((s.nowNat + 2 ^ 64 - s.rd64 Reg.UPD_ACTT) % 2 ^ 64) ≥ 0) then s.activateDue else s

/-! ### Services and commands -/

/-- What comes before an update service: EN and the lock; UPD_STATUS and UPD_FETCH, which write nothing, are served whoever
holds the lock (R674, UPD page; log 19). -/
def State.updGate (s : State) (o : Origin) (f : State → SvcAns) : SvcAns :=
  if !s.ens Pg.UPD then ((3, []), s)
  else if s.lockedOut o then refusedWith 7 7 s
  else f (s.lockUsed o)

/-- UPD_STATUS (R681). -/
def State.updStatusBody (s : State) : List Byte :=
  beBytes 1 (s.get Fld.UPD_STAT_PHASE) ++ beBytes 1 (s.get Fld.UPD_RESULT_REASON) ++
    [Reg.UPD_BANKS, Reg.UPD_VERA, Reg.UPD_VERB, Reg.UPD_VERREC, Reg.UPD_IMGST].flatMap (fun a => beBytes 4 (s.rd a)) ++
    beBytes 4 (s.rd Reg.UPD_LOCK + s.lockIdle * 65536)

/-- UPD_CLAIM. -/
def State.updClaim (s : State) (o : Origin) : SvcAns := s.updGate o (fun s => okBare (s.takeLock o))

/-- UPD_RELEASE. -/
def State.updRelease (s : State) (o : Origin) : SvcAns := s.updGate o (fun s => okBare s.dropLock)

/-- UPD_WRITE (R674 to R676). -/
def State.updWrite (s : State) (o : Origin) (lane off : Nat) (data : List Byte) : SvcAns :=
  s.updGate o (fun s =>
    if data.length > 1008 then ((5, []), s)
    else if off + data.length > 0x1800000 then refusedWith 0x15 0xB s
    else if (s.bank s.stagingIdx).verified then refusedWith 7 8 s
    else if s.get Fld.UPD_STAT_PHASE = 2 then refusedWith 8 0xD s
    else
      let s := s.takeLock o
      let via := match o with
        | .fabric _ => some lane
        | _ => none
      okBare ((s.modBank s.stagingIdx (fun b => { b with via := via })).stagePiece off data))

/-- UPD_VERIFY. -/
def State.updVerify (s : State) (o : Origin) : SvcAns :=
  s.updGate o (fun s =>
    let b := s.bank s.stagingIdx
    okBare (if b.verified then s else s.beginVerify))

/-- UPD_DISCARD. -/
def State.updDiscard (s : State) (o : Origin) : SvcAns := s.updGate o (fun s => okBare s.emptyStaging)

/-- UPD_ACTIVATE (R678 to R680). -/
def State.updActivate (s : State) (o : Origin) (imm : Bool) (acts actn : Nat) : SvcAns :=
  s.updGate o (fun s =>
    let r := s.activateBar
    let at_ : Int := ((acts * 1000000000 + actn : Nat) : Int)
    let ahead := at_ - (s.plantNs : Int)
    if r ≠ 0 then refusedWith 8 r s
    else if imm then okBare (s.takeLock o).activateDue
    else if actn > 999999999 ∨ ahead < 1000000000 ∨ ahead > 86400000000000 then refusedWith 0x15 0xD s
    else
      let s := ((s.takeLock o).modUpd (fun u => { u with armed := true })).wr64 Reg.UPD_ACTT ((s.nowNat + ahead.toNat) % 2 ^ 64)
      okBare (s.setPhase 4))

/-- The sender is the neighbour of an UP fabric port (R677). -/
def State.fromNeighbour (s : State) (o : Origin) (lane : Nat) : Bool :=
  match o with
  | .fabric n => decide (lane < 4) && s.laneState lane == 3 && s.get (Fld.FP_STATE_PEER lane) == n.toNat
  | _ => false

/-- A bank that holds a verified bundle of an identity. -/
def State.bankWith (s : State) (bid : Nat) : Option BankState :=
  [s.bank s.activeIdx, s.bank s.stagingIdx].find? (fun b => b.verified && b.bid == bid)

/-- UPD_OFFER (R677): HAVE, BUSY, or OK and the fetch begins. -/
def State.updOffer (s : State) (o : Origin) (lane bid len : Nat) : SvcAns :=
  if !s.ens Pg.UPD then ((3, []), s)
  else if !s.fromNeighbour o lane then ((6, []), s)
  else if (s.bankWith bid).isSome then ((0, beBytes 1 1), s.lockUsed o)
  else if s.lockedOut o then refusedWith 7 7 s
  else if (s.bank s.stagingIdx).verified then refusedWith 7 8 s
  else if len > 0x1800000 then refusedWith 0x15 0xB s
  else
    let s := (s.emptyStaging).takeLock o
    let s := s.modBank s.stagingIdx (fun b => { b with via := some lane })
    ((0, beBytes 1 0), (s.modUpd (fun u => { u with fetch := some (lane, bid, 0, len) })).fetchNext)

/-- UPD_FETCH (R677). -/
def State.updFetch (s : State) (o : Origin) (lane bid off len : Nat) : SvcAns :=
  if !s.ens Pg.UPD then ((3, []), s)
  else if !s.fromNeighbour o lane then ((6, []), s)
  else match s.bankWith bid with
    | none => refusedWith 8 9 s
    | some b =>
      if len > 1008 ∨ off + len > b.length then refusedWith 0x15 1 s
      else ((0, beBytes 4 off ++ beBytes 2 len ++ beBytes 2 0 ++ b.bytesAt off len), s)

/-- FETCH_RESPONSE: a piece arrives, the next one is fetched (R676, R677). -/
def State.fetchIn (s : State) (lane off : Nat) (data : List Byte) : State :=
  match s.upd.fetch with
  | none => s
  | some (l, bid, want, len) =>
    if l ≠ lane || want ≠ off || data.isEmpty || !s.appUp then s else
    let now := s.nowNat
    let s := s.modUpd (fun u => { u with fetch := some (l, bid, off + data.length, len), lastAt := now })
    let s := s.stagePiece off data
    if s.get Fld.UPD_STAT_PHASE = 2 then s else s.fetchNext

/-- UPD_LOAD of one image of the verified bundle in the staging bank (R669, R671, R673); `service` is whether the sender has
the Sahric Service role. -/
def State.updLoad (s : State) (o : Origin) (kind : Nat) (service : Bool) : SvcAns :=
  s.updGate o (fun s =>
    let b := s.bank s.stagingIdx
    let recovery := s.svc.state = .recovery
    if kind = 0 ∨ kind > 6 then refusedWith 0x15 0xD s
    else if !(recovery || (s.on Fld.UPD_CFG_TESTLOAD && service && (s.svc.state = .unconfigured || s.svc.state = .ready))) then
      refusedWith 8 0xD s
    else if !b.verified then refusedWith 8 9 s
    else match b.image kind with
      | none => refusedWith 8 0xD s
      | some im =>
        if kind = 1 then refusedWith 8 0xD s
        else if kind = 2 then
          (if recovery && service then okBare ((s.modBank 2 (fun _ => b)).updShow) else refusedWith 8 0xD s)
        else
          let fits := match (s.bank s.activeIdx).image 1 with
            | some m => s.imageFits m.1 im
            | none => bitOf im.2.2.2.1 s.stepping
          if !fits then refusedWith 8 (if bitOf im.2.2.2.1 s.stepping then 6 else 5) ((s.unstarted kind).updShow)
          else if kind = 3 then okBare (s.safetyImage im).mixedShow
          else
            let same := ((s.bank s.activeIdx).image kind).map (fun x => x.2.2.2.2) = some im.2.2.2.2
            let s := s.imageRuns kind im
            let s := if same then s else s.modUpd (fun u => { u with mixed := kind :: u.mixed })
            okBare s.mixedShow)

/-- UPD_CMD of an origin: a command that its service would turn away sets CMDREJ (R684). -/
def State.updCommand (s : State) (o : Origin) (op : Nat) : State :=
  let run : SvcAns → State := fun x => if x.1.1 = 0 then x.2 else x.2.irq Pg.UPD Irq.UPD_CMDREJ
  match op with
  | 1 => run (s.updClaim o)
  | 2 => run (s.updRelease o)
  | 3 => run (s.updVerify o)
  | 4 => run (s.updActivate o true 0 0)
  | 5 => run (s.updDiscard o)
  | 6 => run (s.updGate o (fun s =>
      if s.upd.armed then okBare (((s.modUpd (fun u => { u with armed := false })).wr64 Reg.UPD_ACTT 0).updShow)
      else refusedWith 8 0xD s))
  | _ => s

end Sys2Proof.Machine
end

