-- ==== Sys2Proof/Machine/Ageing.lean ====
section
/-! DEFINITION. The margin ledger: measurements, evaluation, re-planning, prediction, memory refresh (R686 to R699). -/

namespace Sys2Proof.Machine

/-- Change the hidden state of the ledger. -/
def State.modAge (s : State) (f : AgeState → AgeState) : State := { s with age := f s.age }

/-- The words of the AGE page that the ledger writes. -/
def ageWords : List Nat :=
  [Reg.AGE_SUM, Reg.AGE_NEXT, Reg.AGE_EVAL, Reg.AGE_ACT, Reg.AGE_CMPTRIM 0, Reg.AGE_CMPTRIM 1, Reg.AGE_CMPTRIM 2, Reg.AGE_REFRESH] ++
    (List.range 84).map (fun k => Reg.AGE_MVAL 0 + 4 * k)

/-! ### Margins -/

/-- The measured quantity of a margin: what was last measured, or the counts since the baseline (R686, R692). -/
def State.measuredOf (s : State) (i : Nat) : Rat :=
  if i = 1 then (s.age.refTrim : Rat) / 100
  else if 22 ≤ i ∧ i < 32 then
    ((s.rd (Reg.CTK_POPS (i - 22)) + 2 ^ 32 - (smGet (fun _ => 0) s.age.opsBase (i - 22))) % 2 ^ 32 : Nat)
  else if 32 ≤ i then smGet (fun _ => (0 : Rat)) s.ctk.breakDuty (i - 32)
  else smGet (fun _ => (0 : Rat)) s.age.measured i

/-- The quantity at which a margin reaches 0 (R686). -/
def State.marginLimit (s : State) (i : Nat) : Rat :=
  if i = 0 then 10
  else if i = 1 then 20 / 100
  else if i < 6 then 25 / 1000
  else if i < 18 then 8
  else if i = 18 then 10000000000
  else if i = 19 then 64
  else if i = 20 then 100000
  else if i = 21 then 32
  else if i < 32 then 100 * (s.get Fld.AGE_CTKRATE_OPS : Rat)
  else s.get Fld.AGE_CTKRATE_BRK

/-- A contactor margin is not evaluated while AGE_CTKREF or its rating is 0 (R686). -/
def State.notEvaluated (s : State) (i : Nat) : Bool :=
  decide (22 ≤ i) && (s.get Fld.AGE_CTKREF_IREF == 0 || decide (s.marginLimit i = 0))

/-- M of a margin in 0.01 %, between 0 and 100.00 % (R686). -/
def State.marginOf (s : State) (i : Nat) : Nat :=
  if s.notEvaluated i then s.get (Fld.AGE_MVAL_M i)
  else (ratRound (ratClamp 0 10000 (10000 * (1 - ratAbs (s.measuredOf i) / s.marginLimit i)))).toNat

/-- MARGIN_MEASUREMENT: margin `i`'s quantity; for the comparators, the measured offset gives the trim; for the reference, the
mean difference of the day; the drift rates stand since the calibrations (R686, R689, R690). -/
def State.measure (s : State) (i : Nat) (v : Word) : State :=
  let x := ratOf v
  let s := if 6 ≤ i ∧ i < 18 then
      let k := ratRound (ratClamp (-8) 8 (-(ratRound x : Int)))
      s.modAge (fun a => { a with measured := smInsert i (k : Rat) a.measured
                                  trims := (i - 6, k) :: a.trims.filter (fun t => t.1 != i - 6) })
    else if i = 1 then
      (if s.age.refCount = 0 then s else s.modAge (fun a => { a with
        measured := smInsert 1 (a.refSum / (a.refCount : Rat)) a.measured, refSum := 0, refCount := 0 }))
    else if 2 ≤ i ∧ i < 6 then s
    else s.modAge (fun a => { a with measured := smInsert i x a.measured })
  s.put (Fld.AGE_MVAL_M i) (s.marginOf i)

/-! ### Prediction -/

/-- Least-squares slope of samples, newest first, per day (R695). -/
def slopeOf (l : List Nat) : Rat :=
  let n : Rat := l.length
  let xs := (l.reverse.zip (List.range l.length)).map (fun p => ((p.2 : Rat), (p.1 : Rat)))
  let sx := (xs.map (fun p => p.1)).sum
  let sy := (xs.map (fun p => p.2)).sum
  let sxx := (xs.map (fun p => p.1 * p.1)).sum
  let sxy := (xs.map (fun p => p.1 * p.2)).sum
  (n * sxy - sx * sy) / (n * sxx - sx * sx)

/-- Run-out in days, none without 30 samples or a falling slope (R695). -/
def runOut (window m : Nat) (history : List Nat) : Option Nat :=
  let l := history.take window
  if l.length < 30 then none
  else
    let k := slopeOf l
    if k < 0 then some (min 0xFFFFFFFE (ratRound ((m : Rat) / ratAbs k)).toNat) else none

/-- A margin's daily samples, newest first. -/
def State.samplesOf (s : State) (i : Nat) : List Nat := smGet (fun _ => ([] : List Nat)) s.age.history i

/-! ### Re-planning -/

/-- The core set points of a step count (R688). -/
def State.showVcore (s : State) : State :=
  let mv := 800 + 10 * s.get Fld.AGE_ACT_VSTEP
  (s.put Fld.PWR_VCORE_SYS mv).put Fld.PWR_VCORE_APP mv

/-- The core set points are raised, never lowered (R688). -/
def State.planVcore (s : State) : State :=
  let l := s.measuredOf 0
  let v := (max 0 (min 8 (-(ratFloor (-(l - 2)))))).toNat
  if v ≤ s.get Fld.AGE_ACT_VSTEP then s else ((s.put Fld.AGE_ACT_VSTEP v).irq Pg.AGE Irq.AGE_ACTION).showVcore

/-- The reference trim cancels the mean difference, while the internal reference is selected (R689). -/
def State.planRef (s : State) : State :=
  if s.get Fld.ADC_CFG_REFSEL ≠ 0 then s else
  let d := smGet (fun _ => (0 : Rat)) s.age.measured 1
  let t := ratRound (ratClamp (-20) 20 (-(100 * d)))
  if t = s.age.refTrim then s else
  ((s.modAge (fun a => { a with refTrim := t })).put Fld.AGE_ACT_REFTRIM (ofSigned 8 t)).irq Pg.AGE Irq.AGE_ACTION

/-- Shortest calibration interval of the ledger in hours. -/
def State.ledgerInterval (s : State) : Option Nat := ((s.age.intervals.map (fun x => x.2)).min?)

/-- The converters' calibration intervals (R691). -/
def State.planIntervals (s : State) : State :=
  if s.get Fld.ADC_CALPER_PER = 0 then s else
  let hours := fun (k : Nat) =>
    let r := ratAbs (s.measuredOf (2 + k))
    if r = 0 then 65535 else (max 1 (min 65535 (ratFloor ((25 / 1000) / r)))).toNat
  let l := (List.range 4).map (fun k => (k, hours k))
  if l = s.age.intervals then s else
  let s := (s.modAge (fun a => { a with intervals := l })).irq Pg.AGE Irq.AGE_ACTION
  s.calEffective s.ledgerInterval

/-- COMPARATOR_TRIM: a waiting trim is applied while the comparator's LEVEL is 0 (R690). -/
def State.applyTrim (s : State) (n : Nat) : State :=
  match s.age.trims.find? (fun t => t.1 == n) with
  | none => s
  | some (_, k) =>
    if s.on (Fld.PRT_CMPSTAT_LEVEL n) then s else
    let s := s.modAge (fun a => { a with trims := a.trims.filter (fun t => t.1 != n) })
    let f : RegField := ⟨Reg.AGE_CMPTRIM (n / 4), 8 * (n % 4), 8⟩
    let old := s.get f
    let s := s.put f (ofSigned 8 k)
    (if old = ofSigned 8 k then s else s.irq Pg.AGE Irq.AGE_ACTION).keepWords ageWords

/-- ACTION of a LEDGER record: the present set point step, trim or interval of the margin, 0 for a margin without one
(R687; log 20). -/
def State.actionOf (s : State) (i : Nat) : Nat :=
  if i = 0 then s.get Fld.AGE_ACT_VSTEP
  else if i = 1 then s.get Fld.AGE_ACT_REFTRIM
  else if i < 6 then min 255 (smGet (fun _ => 0) s.age.intervals (i - 2))
  else if i < 18 then s.get ⟨Reg.AGE_CMPTRIM ((i - 6) / 4), 8 * ((i - 6) % 4), 8⟩
  else 0

/-! ### Evaluation -/

/-- A margin's state changes, with the faults of R695. -/
def State.marginState (s : State) (i v : Nat) : State :=
  let old := s.get (Fld.AGE_MVAL_STATE i)
  if old = v then s else
  let s := s.put (Fld.AGE_MVAL_STATE i) v
  let s := if old = 1 then s.endInstance Pg.AGE Flt.AGE_MARGIN_LOW i else if old = 2 then s.endInstance Pg.AGE Flt.AGE_MARGIN_OUT i else s
  if v = 1 then (s.irq Pg.AGE Irq.AGE_LOW).fault Pg.AGE Flt.AGE_MARGIN_LOW i
  else if v = 2 then (s.irq Pg.AGE Irq.AGE_OUT).fault Pg.AGE Flt.AGE_MARGIN_OUT i
  else s

/-- The LEDGER record of a margin (R609, R687). -/
def State.ledgerRecord (s : State) (i : Nat) : State :=
  let st := s.get (Fld.AGE_MVAL_STATE i)
  let act := s.actionOf i
  let last := s.age.records.find? (fun x => x.1 == i)
  let due := match last with
    | none => true
    | some (_, a, b, t) => a != st || b != act || decide (s.opsec ≥ t + 604800)
  if !due then s else
  let now := s.opsec
  let s := s.modAge (fun a => { a with records := smInsert i (st, act, now) a.records })
  s.raiseRec ⟨2, 4, Pg.AGE, i, beBytes 2 i ++ beBytes 1 st ++ beBytes 1 act ++ beBytes 4 (fpOf (s.measuredOf i)).toNat ++
    beBytes 2 (s.get (Fld.AGE_MVAL_M i)) ++ beBytes 2 0 ++ beBytes 4 (s.rd (Reg.AGE_MRUN i)), none⟩

/-- One margin at an evaluation (R687, R695). -/
def State.evaluateMargin (s : State) (i : Nat) : State :=
  if s.notEvaluated i then ((s.marginState i 3).wr (Reg.AGE_MRUN i) 0xFFFFFFFF).ledgerRecord i else
  let m := s.marginOf i
  let s := s.put (Fld.AGE_MVAL_M i) m
  let s := s.modAge (fun a => { a with history := smInsert i ((m :: smGet (fun _ => ([] : List Nat)) a.history i).take 720) a.history })
  let r := runOut (s.get Fld.AGE_CFG_WINDOW) m (s.samplesOf i)
  let s := s.wr (Reg.AGE_MRUN i) (r.getD 0xFFFFFFFF)
  let low := match r with
    | some d => decide (d ≤ s.get Fld.AGE_CFG_HORIZON)
    | none => false
  (s.marginState i (if m = 0 then 2 else if low then 1 else 0)).ledgerRecord i

/-- AGE_SUM and AGE_NEXT (AGE page). -/
def State.ageShow (s : State) : State :=
  let l := (List.range 42).filter (fun i => s.get (Fld.AGE_MVAL_STATE i) != 3)
  let least := l.foldl (fun (b : Nat × Nat) i => if s.get (Fld.AGE_MVAL_M i) < b.1 then (s.get (Fld.AGE_MVAL_M i), i) else b) (65536, 0)
  let next := l.foldl (fun (b : Nat × Nat) i => if s.rd (Reg.AGE_MRUN i) < b.1 then (s.rd (Reg.AGE_MRUN i), i) else b) (0xFFFFFFFF, 0)
  let bad := (l.filter (fun i => s.get (Fld.AGE_MVAL_STATE i) == 1 || s.get (Fld.AGE_MVAL_STATE i) == 2)).length
  let s := s.wr Reg.AGE_SUM (min 65535 least.1 + least.2 * 65536 + bad * 2 ^ 24)
  s.wr Reg.AGE_NEXT (min 65535 next.1 + next.2 * 65536)

/-- MARGIN_EVALUATION and EVALUATE (R687). -/
def State.evaluateAge (s : State) : State :=
  if !s.appUp then s else
  let s := s.planVcore.planRef.planIntervals
  let s := (s.each 42 State.evaluateMargin).wr Reg.AGE_EVAL s.opsec
  ((s.ageShow).irq Pg.AGE Irq.AGE_EVALUATED).keepWords ageWords

/-- CTK_REPLACED for a pair (R692). -/
def State.pairReplaced (s : State) (p : Nat) : State :=
  let n := s.rd (Reg.CTK_POPS p)
  let s := s.modAge (fun a => { a with opsBase := smInsert p n a.opsBase })
  { s with ctk := { s.ctk with breakDuty := s.ctk.breakDuty.filter (fun x => x.1 != p) } }

/-- AGE_CMD of an origin (R692, R698). -/
def State.ageCommand (s : State) (o : Origin) (op pair : Nat) : State :=
  match op with
  | 1 => s.evaluateAge
  | 2 =>
    if pair > 9 then s.irq Pg.AGE Irq.AGE_CMDREJ
    else (s.pairReplaced pair).auditCommand o Reg.AGE_CMD 0 (2 + 256 * pair)
  | _ => s

/-! ### Memory refresh -/

/-- Highest count of corrected words. -/
def worstCount (l : List RefreshBlock) : Nat := (l.map RefreshBlock.corrected).foldl max 0

/-- MRAM_REFRESH: blocks with 4 or more corrected words are rewritten (R686, R693). -/
def State.mramPass (s : State) (l : List RefreshBlock) : State :=
  if !s.appUp || !s.hugood then s else
  let n := (l.filter (fun b => decide (4 ≤ b.corrected))).length
  let s := s.modAge (fun a => { a with measured := smInsert 19 (worstCount l : Rat) a.measured })
  let s := s.put (Fld.AGE_MVAL_M 19) (s.marginOf 19)
  if n = 0 then s else ((s.bumpBy ⟨Reg.AGE_REFRESH, 0, 16⟩ n).irq Pg.AGE Irq.AGE_REFRESH).keepWords ageWords

/-- A NOR block lies in the bank of an index: A and B of 384 blocks, then the recovery region (R669; log 20). -/
def norBank (block : Nat) : Nat := if block < 384 then 0 else if block < 768 then 1 else 2

/-- One NOR block is refreshed under the update lock; one whose verify fails twice is not (R694). -/
def State.norBlock (s : State) (b : RefreshBlock) : State :=
  if b.corrected < 8 || !s.hugood || s.lockedOut .firmware || s.on Fld.UPD_BANKS_TRIAL ||
      (norBank b.block == s.stagingIdx && s.get Fld.UPD_STAT_PHASE == 1) then s else
  let s := (s.takeLock .firmware).dropLock
  if b.verified then (s.bump ⟨Reg.AGE_REFRESH, 16, 16⟩).irq Pg.AGE Irq.AGE_REFRESH
  else s.faultEvent Pg.AGE Flt.AGE_REFRESH_FAIL (b.block % 65536)

/-- NOR_REFRESH (R686, R693, R694). -/
def State.norPass (s : State) (l : List RefreshBlock) : State :=
  if !s.appUp then s else
  let s := s.modAge (fun a => { a with measured := smInsert 21 (worstCount l : Rat) a.measured })
  let s := s.put (Fld.AGE_MVAL_M 21) (s.marginOf 21)
  (l.foldl State.norBlock s).keepWords ageWords

/-! ### Services -/

/-- AGE_STATUS (R696). -/
def State.ageStatusBody (s : State) : List Byte :=
  beBytes 4 (s.rd Reg.AGE_SUM) ++ beBytes 4 (s.rd Reg.AGE_NEXT) ++ beBytes 4 (s.rd Reg.AGE_EVAL) ++
    (List.range 42).flatMap (fun i => beBytes 2 (s.get (Fld.AGE_MVAL_M i)) ++ beBytes 1 (s.get (Fld.AGE_MVAL_STATE i)) ++ beBytes 1 0 ++
      beBytes 4 (s.rd (Reg.AGE_MRUN i)))

/-- AGE_HISTORY: samples from a day on, the oldest held being day 0 (R696; log 20). -/
def State.ageHistoryBody (s : State) (i day : Nat) : List Byte :=
  let l := ((s.samplesOf i).reverse.drop day).take 500
  beBytes 2 day ++ beBytes 2 l.length ++ l.flatMap (fun m => beBytes 2 m)

end Sys2Proof.Machine
end

