-- ==== Sys2Proof/Machine/Debug.lean ====
section
/-! DEFINITION. The TAP, the authenticated debug session, and the test multiplexers (R716 to R725). -/

namespace Sys2Proof.Machine

/-- Change the hidden state of the TAP and the debug session. -/
def State.modDbg (s : State) (f : DbgState → DbgState) : State := { s with dbg := f s.dbg }

/-! ### The TAP -/

/-- TAP activity: it renews the session's 600 s (R720). -/
def State.tapActive (s : State) : State :=
  let now := s.nowNat
  s.modDbg (fun d => { d with lastAt := now })

/-- An instruction stands in the instruction register; what a boundary instruction did ends with it (R716, R718). -/
def State.setIr (s : State) (code : Nat) : State :=
  (s.tapActive.put Fld.DBG_JTAG_IR code).modDbg (fun d => { d with acting := false })

/-- Conditions of EXTEST, CLAMP and HIGHZ (R718). -/
def State.boundaryOk (s : State) : Bool :=
  (s.svc.state = .unconfigured || s.svc.state = .recovery) && (List.range 10).all s.pairOpen &&
    (List.range 4).all (fun p => s.get (phaseField p) ≤ 1) && s.rd Reg.SFI_OUTSTAT % 65536 == 0

/-- A boundary instruction is turned away (R718). -/
def State.blocked (s : State) : State :=
  ((s.modDbg (fun d => { d with acting := false })).setOn Fld.DBG_JTAG_BLOCKED true).irq Pg.DBG Irq.DBG_BLOCKED

/-- EXTEST, CLAMP or HIGHZ (R718). -/
def State.boundary (s : State) (code : Nat) : State :=
  let s := s.setIr code
  if s.boundaryOk then s.modDbg (fun d => { d with acting := true }) else s.blocked

/-- JTAG_CONDITION_LOSS: functional mode returns (R718). -/
def State.boundaryLost (s : State) : State := if s.dbg.acting && !s.boundaryOk then s.blocked else s

/-- SAMPLE/PRELOAD: the boundary cells take a pattern, of which those that drive keep their part (R716, R717). -/
def State.preload (s : State) (pattern : List Bool) : State :=
  (s.setIr 2).modDbg (fun d => { d with pattern := driveCells pattern })

/-! ### The session -/

/-- An audit record of kind COMMAND with origin DEBUG (R720). -/
def State.auditDebug (s : State) (old new : Nat) : State := s.auditCommand .debug Reg.DBG_SESSION old new

/-- RELEASE_RESET: the DEBUG source releases (R721, R724). -/
def State.dropDebugReset (s : State) : State :=
  if s.on Fld.DBG_SESSION_RSTHELD then (s.setOn Fld.DBG_SESSION_RSTHELD false).resetRelease 7 else s

/-- The session ends: halted cores resume and its reset source releases (R720, R721). -/
def State.endDebug (s : State) : State :=
  if !s.on Fld.DBG_SESSION_ACTIVE then s else
  let s := ((s.setOn Fld.DBG_SESSION_ACTIVE false).setOn Fld.DBG_SESSION_HALTED false).auditDebug 1 0
  (s.irq Pg.DBG Irq.DBG_END).dropDebugReset

/-- TEST_LOGIC_RESET: the instruction is IDCODE and functional mode returns; TRST_N low ends the session (R716, R718,
R720). -/
def State.testLogicReset (s : State) (trstLow : Bool) : State :=
  let s := (s.setIr 1).setOn Fld.DBG_JTAG_BLOCKED false
  if trstLow then s.endDebug else s

/-- The challenge of 48 bytes: UID, random value, session counter, stepping (R719). -/
def State.challengeBytes (s : State) (a b : BitVec 128) : List Byte :=
  beBytes 8 Config.moduleUid.toNat ++ beBytes 16 a.toNat ++ beBytes 16 b.toNat ++ beBytes 4 s.dbg.counter ++
    beBytes 1 s.stepping ++ beBytes 3 0

/-- AUTH shifts out a challenge (R719). -/
def State.authChallenge (s : State) : State :=
  let s := s.setIr 0x10
  if s.on Fld.DBG_JTAG_LOCKOUT then s else
  let (a, s) := s.drawNonce
  let (b, s) := s.drawNonce
  let now := s.nowNat
  let s := s.modDbg (fun d => { d with challenge := some (a, b, now) })
  s.emit (.tap (ofBe (s.challengeBytes a b)))

/-- A signature opens the session: it verifies over a challenge that has not been used and is at most 60 s old (R719). -/
def State.authGood (s : State) (x y : BitVec 384) : Bool :=
  match s.dbg.challenge with
  | none => false
  | some (a, b, at_) =>
    decide (s.nowNat ≤ at_ + 60000000000) && ecdsaHolds Config.debugKey (s.challengeBytes a b) x.toNat y.toNat

/-- A signature is shifted in under AUTH (R719, R720). -/
def State.authSignature (s : State) (x y : BitVec 384) : State :=
  let s := s.setIr 0x10
  if s.on Fld.DBG_JTAG_LOCKOUT then s else
  let good := s.authGood x y
  let now := s.nowNat
  let s := s.modDbg (fun d => { d with challenge := none })
  if good then
    let s := ((s.setOn Fld.DBG_SESSION_ACTIVE true).bump Fld.DBG_AUTHCNT_OK).irq Pg.DBG Irq.DBG_OPEN
    (s.modDbg (fun d => { d with counter := (d.counter + 1) % 2 ^ 32 })).auditDebug 0 1
  else
    let s := ((s.bump Fld.DBG_AUTHCNT_FAIL).irq Pg.DBG Irq.DBG_AUTHFAIL).auditDebug 0 0
    let times := now :: s.dbg.failures.filter (fun t => decide (now < t + 600000000000))
    let s := s.modDbg (fun d => { d with failures := times })
    if times.length ≥ 3 then s.setOn Fld.DBG_JTAG_LOCKOUT true else s

/-- AUTH. -/
def State.auth (s : State) (step : AuthStep) : State :=
  match step with
  | .challenge => s.authChallenge
  | .signature x y => s.authSignature x y

/-- AUTH_LOCKOUT_END (R719). -/
def State.lockoutEnd (s : State) : State :=
  (s.setOn Fld.DBG_JTAG_LOCKOUT false).modDbg (fun d => { d with failures := [] })

/-- DBG_SESSION.IDLE: seconds since the last TAP activity, while a session stands. -/
def State.debugIdle (s : State) : Nat :=
  if s.on Fld.DBG_SESSION_ACTIVE then min 65535 ((s.nowNat - s.dbg.lastAt) / 1000000000) else 0

/-- DEBUG_SESSION_TIMEOUT (R720). -/
def State.debugTimeout (s : State) : State := if 600 ≤ s.debugIdle then s.endDebug else s

/-- ASSERT_RESET: the DEBUG source asserts at its fused level; a level that reaches CORE ends the session, which held it
(R720, R721, R724). -/
def State.debugReset (s : State) : State :=
  let s := (s.setOn Fld.DBG_SESSION_RSTHELD true).resetAssert 7
  if s.on Fld.DBG_SESSION_RSTHELD then s else s.resetRelease 7

/-- DBG_CMD of an origin (R721, R724): DEBUG whatever EN holds, a Sahric Service session of HOST or FABRIC while EN is 1. -/
def State.dbgCommand (s : State) (o : Origin) (op : Nat) : State :=
  let may := match o with
    | .debug => s.on Fld.DBG_SESSION_ACTIVE
    | .host => s.ens Pg.DBG && s.roleOf o == some 3
    | .fabric _ => s.ens Pg.DBG && s.roleOf o == some 3
    | _ => false
  if op = 0 ∨ op > 5 then s
  else if !may then s.irq Pg.DBG Irq.DBG_CMDREJ
  else match op with
    | 1 => s.setOn Fld.DBG_SESSION_HALTED true
    | 2 => s.setOn Fld.DBG_SESSION_HALTED false
    | 3 => s.debugReset
    | 4 => s.dropDebugReset
    | _ => s.endDebug

/-! ### Test multiplexers -/

/-- Some enabled output has a code that is not of its kind: SELERR (R722). -/
def State.tmxCheck (s : State) : State :=
  let en := fun k => s.ens Pg.TMX && bitOf (s.get Fld.TMX_CFG_OUTEN) k
  let bad := (List.range 4).any (fun k => en k && decide (0x180 ≤ s.get (Fld.TMX_DSEL_CODE k))) ||
    (en 4 && decide (s.get Fld.TMX_ASEL_CODE < 0x180))
  if bad then s.irq Pg.TMX Irq.TMX_SELERR else s

end Sys2Proof.Machine
end

