-- ==== Sys2Proof/Machine/Access.lean ====
section
/-! DEFINITION. Register access up to its acceptance: what each word of the space is, the checks of an access in their
order (log 8), and reads (R30 to R54, R159, R552, R566, R726, R727, R729). -/

namespace Sys2Proof.Machine

/-! ### What a word is -/

/-- What a word is to an access: class, access code, writable bits, read-back values; `now` for a word whose writes wait for no
boundary, `serves` for one that is no stored configuration (log 8). -/
structure WordSpec where
  cls : RegClass
  acc : Access
  mask : Nat
  back : List Readback
  now : Bool
  serves : Bool
  deriving DecidableEq, Repr

/-- A read-only word. -/
def roWord : WordSpec := ⟨.none, .ro, 0, [], true, true⟩

/-- A word of the common header (R35 to R37). IRQE, IRQS, LOCK and ERRA belong to the register bus and take effect in the SYS
cycle of the write (DEDUCED from R38 and R54, log 8); EN waits for the boundary of its block like every class L field. -/
def headerSpec (p off : Nat) : Option WordSpec :=
  if off = 0x08 then some (if alwaysOn p then roWord else ⟨.live, .rw, 1, [], false, false⟩)
  else if off = 0x14 then some ⟨.live, .rw, (kindOf p).irqMask, [], true, false⟩
  else if off = 0x18 then some ⟨.live, .w1c, (kindOf p).irqMask, [], true, true⟩
  else if off = 0x1C then some ⟨.live, .wo, 3, [], true, true⟩
  else if off = 0x20 then some ⟨.live, .rw, 1, [], true, false⟩
  else if off = 0x24 then some ⟨.live, .w1c, 2 ^ 31, [], true, true⟩
  else if off ≤ 0x10 then some roWord
  else none

/-- Registers that take effect in the TIME domain at a cycle of their own, or hold data and no configuration. -/
def servesAt (a : Nat) : Bool :=
  decide (0x5100 ≤ a ∧ a < 0x5500) || a == Reg.TIM_DINC 0 || a == Reg.TIM_DINC 1 || decide (0x90800 ≤ a ∧ a < 0x91000) ||
  decide (0x1040 ≤ a ∧ a < 0x2000)

/-- Write-only words whose rule names its own instant: `LPE_SPIN0` to `LPE_SPIN4` (R338), the flush of a queue at its next
packet boundary (R153), the confirmation of the safety parameters at the next safety cycle (R444)
and the selection of `CHM_ZSEL`, whose copy comes at the next window start (R194). -/
def ownInstant (a : Nat) : Bool :=
  decide (0x61080 ≤ a ∧ a < 0x61094) || (List.range 4).any (fun q => a == Reg.SRQ_QCMD q) || a == Reg.SFI_CONFIRM || a == Reg.CHM_ZSEL

/-- A block register. -/
def rowSpec (a : Nat) (r : Row) : WordSpec := ⟨r.cls, r.acc, r.mask, r.back, ownInstant a, r.acc != .rw || servesAt a⟩

/-- Section `i` of bank `bank` is in force in a running loop (R352). -/
def State.coefFrozen (s : State) (i : Nat) (bank : Bool) : Bool :=
  (List.range 16).any (fun n => s.loopOn n && s.loopBank n == bank && (s.loopSecs n).contains i)

/-- A word of a CAN object (R563, R565, R576). -/
def State.objSpec (s : State) (x o w : Nat) : WordSpec :=
  match w with
  | 0 => ⟨.live, .rw, 0xFC0F0001, [], false, false⟩
  | 1 => ⟨.live, .rw, 0x1FFFFFFF, [], false, false⟩
  | 2 => ⟨.live, .rw, 0x1FFFFFFF, [], false, false⟩
  | 3 => ⟨.live, .wo, 0x9E800000, [], false, true⟩
  | 6 => if s.on (objDIR x o) then ⟨.live, .rw, 0xC00007FF, [⟨30, 2, 3, 3, 0⟩], false, false⟩ else roWord
  | _ => if 8 ≤ w then ⟨.live, .rw, 0xFFFFFFFF, [], false, true⟩ else roWord

/-- A word of a table window (R32, R157, R351, R352, R493, R563). -/
def State.windowSpec (s : State) (o : Origin) (a : Nat) : Option WordSpec :=
  if a < 0x50000 then some roWord
  else if a < 0x69800 then
    let b := decide (0x68C00 ≤ a)
    let off := a - (if b then 0x68C00 else 0x68000)
    if off % 0x20 = 0x1C then none else some ⟨if s.coefFrozen (off / 0x20) b then .frozen else .live, .rw, 2 ^ 32 - 1, [], false, false⟩
  else if a < 0x70000 then (if 0x69E00 ≤ a ∧ a < 0x6C000 then none else some roWord)
  else if a < 0x90000 then some (if o = .firmware then ⟨.live, .rw, 2 ^ 32 - 1, [], false, true⟩ else roWord)
  else
    let x := if a < 0xAA000 then 0 else 1
    let off := a - (0xA8000 + 0x2000 * x)
    some (s.objSpec x (off / 64) (off % 64 / 4))

/-- What the word at an address of page `p` or of one of its windows is to an origin; none for a reserved offset (R33). -/
def State.specAt (s : State) (o : Origin) (p a : Nat) : Option WordSpec :=
  if (pageAt a).isNone then s.windowSpec o a
  else if a % 0x1000 < 0x40 then headerSpec p (a % 0x1000)
  else (rowAt (kindOf p) (a % 0x1000)).map (rowSpec a)

/-- The address lies in a table window. -/
def inWindow (a : Nat) : Bool := (pageAt a).isNone && (ownerPage a).isSome

/-! ### Claims and locks -/

/-- Owner of a page's shadow claim (R44). -/
def State.claimOf (s : State) (p : Nat) : Option Origin := (s.acc.claims.find? (fun e => e.1 == p)).map (fun e => e.2)

/-- STAT.CPEND (R45). -/
def cpend (p : Nat) : RegField := ⟨Reg.stat p, 1, 1⟩

/-- CTRL or STAT says that the class F words of a page are frozen (R42). -/
def State.frozen (s : State) (p : Nat) : Bool := s.on (Fld.ctrlEn p) || s.ens p

/-! ### Readiness -/

/-- Reset domain of a page's registers; those of a sense ring live in SYS (R68). -/
def pageDomain (p : Nat) : Nat :=
  if p = 5 then 9
  else if p = Pg.PWM then 6
  else if p = Pg.LPE then 5
  else if p = Pg.ADC then 4
  else if 24 ≤ p ∧ p ≤ 29 then 9
  else if p = Pg.TIM ∨ p = Pg.TPO then 3
  else if p = Pg.CNA ∨ p = Pg.CNB then 8
  else 2

/-- Origins that wait for the page locks (R53). -/
def waitsForLocks : Origin → Bool
  | .host => true
  | .fabric _ => true
  | .twin => true
  | _ => false

/-- Origin SAFETY on its own pages: the island needs nothing but itself. -/
def islandOwn (o : Origin) (p : Nat) : Bool := decide (o = .safety) && (p == Pg.SFI || p == Pg.SCL)

/-- The block of page `p` can answer (R54 NOT_READY). -/
def State.busReady (s : State) (o : Origin) (p : Nat) : Bool := islandOwn o p || (s.domUp 2 && s.domUp (pageDomain p))

/-- R53: the stored lock states are not restored yet. -/
def State.locksOut (s : State) (o : Origin) : Bool := waitsForLocks o && !s.acc.locksRestored

/-! ### Roles -/

/-- Least role of a written value (R412, R508, R622, R639, R646, R661, R666, R692, R729). -/
def leastRole (a v : Nat) : Nat :=
  if a = Reg.EVR_CMD then (if v % 16 = 4 then 3 else 1)
  else if a = Reg.CTK_CMD then (if v % 16 = 3 then 2 else 1)
  else if a = Reg.RST_CMD then (if v % 16 = 2 then 3 else 1)
  else if a = Reg.RST_SWRST then (if v % 4 < 2 then 3 else 1)
  else if a = Reg.RST_FUSEPRG ∨ a = Reg.RST_BOOTPRG then 3
  else if a = Reg.UPD_CFG ∧ bitOf v 1 then 3
  else 1

/-- The value is one that R729 keeps from some roles. -/
def restricted (a v : Nat) : Bool :=
  (a == Reg.EVR_CMD && (v % 16 == 3 || v % 16 == 4)) || (a == Reg.CTK_CMD && v % 16 == 3) ||
  (a == Reg.RST_CMD && (1 ≤ v % 16 && v % 16 ≤ 3)) || a == Reg.RST_SWRST || (a == Reg.AGE_CMD && v % 16 == 2)

/-- Role key that a word belongs to, 1 to 3 (R508). -/
def roleKeyAt (a : Nat) : Option Nat := if 0x80100 ≤ a ∧ a < 0x80130 then some ((a - 0x80100) / 16 + 1) else none

/-- Lane, slot and word of a link-key word (R485). -/
def linkKeyAt (a : Nat) : Option (Nat × Nat × Nat) :=
  if 0x81000 ≤ a ∧ a < 0x86000 ∧ 0x60 ≤ a % 0x1000 ∧ a % 0x1000 < 0x80 then
    some ((a - 0x81000) / 0x1000, (a % 0x1000 - 0x60) / 16, a % 16 / 4)
  else none

/-- Registers that FIRMWARE alone writes (R535, R643). -/
def firmwareOnly (a : Nat) : Bool :=
  a == Reg.RST_BOOTOK || (List.range 2).any (fun d => a == Reg.TIM_DINC d || a == Reg.TIM_DADJ d)

/-- LPE_SPIN0 to LPE_SPIN4. -/
def spinAt (a : Nat) : Bool := decide (0x61080 ≤ a ∧ a < 0x61094)

/-- IRQE or IRQS of a page. -/
def irqWord (a : Nat) : Bool := (pageAt a).isSome && (a % 0x1000 == 0x14 || a % 0x1000 == 0x18)

/-- LOCK of a page. -/
def lockWord (a : Nat) : Bool := (pageAt a).isSome && a % 0x1000 == 0x20

/-- A session of role `r` may write `v` at `a` of page `p` (R49, R508, R729); `host` for the host's own service buffer and
setpoint frames (R63, R338). DESIGN CHOICE (log 8): two rows of R49's table cover IRQE and IRQS of DBG and TMX, and the row
that keeps those pages for Service is taken. -/
def State.roleWrites (s : State) (r p a v : Nat) (host : Bool) : Bool :=
  if p = Pg.DBG ∨ p = Pg.TMX then r == 3
  else if irqWord a then true
  else if p = Pg.SFI ∨ p = Pg.SCL then r == 2
  else if firmwareOnly a then false
  else if spinAt a then host && s.on Fld.LPE_CFG_SPHOST && 1 ≤ r
  else match roleKeyAt a with
    | some k => r == k && k != 3
    | none => if p = Pg.HST ∧ host ∧ (a = Reg.HST_SDOOR ∨ (0x5100 ≤ a ∧ a < 0x5500)) then true else decide (leastRole a v ≤ r)

/-- Whether an origin may write (R49, R50, R726, R729). -/
def State.mayWrite (s : State) (o : Origin) (p a v : Nat) : Bool :=
  match o with
  | .firmware => !(p == Pg.SFI || p == Pg.SCL) && (roleKeyAt a).isNone
  | .safety => p == Pg.SFI || p == Pg.SCL
  | .twin => (p == Pg.TWN || mirrorPages.contains p) && !lockWord a && !restricted a v && !spinAt a
  | .host => s.roleWrites (s.rd Reg.HST_ROLE % 4) p a v true
  | .fabric n =>
    match s.roleOf (.fabric n) with
    | none => false
    | some r => s.roleWrites r p a v false
  | .debug => s.roleWrites 3 p a v false

/-- `SRQ_QqDATA` of a queue. -/
def queDataAt (a : Nat) : Option Nat := (List.range 4).find? (fun q => a == Reg.SRQ_QDATA q)

/-- Whether an origin may read (R49, R50, R152, R726). -/
def State.mayRead (s : State) (o : Origin) (p a : Nat) : Bool :=
  let gated := p == Pg.DBG || p == Pg.TMX
  let reader := match queDataAt a with
    | none => true
    | some q => (match o with
      | .firmware => !s.on (Fld.SRQ_QCFG_READER q)
      | .host => s.on (Fld.SRQ_QCFG_READER q)
      | .fabric _ => s.on (Fld.SRQ_QCFG_READER q)
      | _ => false)
  reader && (match o with
    | .firmware => true
    | .safety => p == Pg.SFI || p == Pg.SCL
    | .twin => !gated
    | o => (match s.roleOf o with
      | none => false
      | some r => !gated || r == 3))

/-! ### Values as written -/

/-- Bits outside `mask` stay. -/
def mergeWord (old mask v : Nat) : Nat := Nat.lor (Nat.land old (0xFFFFFFFF - mask)) (Nat.land v mask)

/-- Written field values that read back as another. -/
def readBack (l : List Readback) (v : Nat) : Nat :=
  l.foldl (fun v b => if b.from_ ≤ bitsOf v b.lo b.width ∧ bitsOf v b.lo b.width ≤ b.to_ then putBits v b.lo b.width b.repl else v) v

/-- `FLT_CLASS`: no class milder than the code's mildest; a reserved code reads 0b11 (R408, R415). -/
def classStored (k v : Nat) : Nat :=
  (List.range 16).foldl (fun v c =>
    putBits v (2 * c) 2 (match faultRow (16 * k + c) with
      | some r => min r.mildest (bitsOf v (2 * c) 2)
      | none => 3)) v

/-- `PWR_BO`: WARN 4,550 to 4,750 mV, HUTHR 4,450 mV to WARN. -/
def boStored (v : Nat) : Nat :=
  let w := max 4550 (min 4750 (bitsOf v 0 16))
  putBits (putBits v 0 16 w) 16 16 (max 4450 (min w (bitsOf v 16 16)))

/-- The shadow of a class S word: last value written, or the active value (R41). -/
def State.shadowed (s : State) (a : Nat) : Nat :=
  match s.acc.shadow.find? (fun e => e.1 == a) with
  | some (_, w) => w.toNat
  | none => s.rd a

/-- `TPO_kWID`: 8 ns to PER - 8 ns, or to 4,000,000,000 ns in SINGLE (R545). -/
def State.widStored (s : State) (k v : Nat) : Nat :=
  max 8 (min (if s.shadowed (Reg.TPO_KCFG k) % 4 = 1 then 4000000000 else s.shadowed (Reg.TPO_KPER k) - 8) v)

/-- Values whose limits span fields or tables. -/
def State.specialStored (s : State) (a v : Nat) : Nat :=
  if a = Reg.PWR_BO then boStored v
  else if a = Reg.PWM_TRIG then min v (2 * s.get Fld.PWM_CAR_PER / 2 ^ s.get Fld.PWM_CFG_SPP - 1)
  else if (List.range 4).any (fun p => a == Reg.PWM_PHANG p) then min v (2 * s.get Fld.PWM_CAR_PER - 1)
  else if Reg.FLT_CLASS 0 ≤ a ∧ a < Reg.FLT_CLASS 16 then classStored ((a - Reg.FLT_CLASS 0) / 4) v
  else if a = Reg.TIM_DINC 0 ∨ a = Reg.TIM_DINC 1 then clampInc v
  else match (List.range 8).find? (fun k => a == Reg.TPO_KWID k) with
    | some k => s.widStored k v
    | none => v

/-- The word that a written value leaves over `old`. -/
def State.storedOver (s : State) (w : WordSpec) (a old v : Nat) : Nat := s.specialStored a (readBack w.back (mergeWord old w.mask v))

/-! ### The verdict on a write -/

/-- Pages whose EN stays 1 for now (R320, R364, R396, R446). -/
def State.enHeld (s : State) (p : Nat) : Bool :=
  (p == Pg.ADC && s.adcHeld) || (p == Pg.LPE && s.lpeHeld) || (p == Pg.CTK && s.ctkHeld) || (p == Pg.SFI && !s.deenergised)

/-- The write touches frozen content with a new value (R42, R320, R364, R396, R446). -/
def State.writesFrozen (s : State) (p a v : Nat) (w : WordSpec) : Bool :=
  (decide (w.cls = .frozen) && s.frozen p && s.storedOver w a (s.rd a) v != s.rd a) ||
  (a == Reg.ctrl p && s.on (Fld.ctrlEn p) && !bitOf v 0 && s.enHeld p)

/-- The write is of a class S word or of COMMIT. -/
def needsClaim (p a : Nat) (w : WordSpec) : Bool := decide (w.cls = .shadow) || a == Reg.commit p

/-- Another origin or node holds the claim (R44). -/
def State.claimedByOther (s : State) (o : Origin) (p : Nat) : Bool :=
  match s.claimOf p with
  | none => false
  | some x => decide (x ≠ o)

/-- Error code of a write to a word of page `p`, 0 for an accepted one (R33, R42, R44, R46, R51, R52, R54). -/
def State.wordVerdict (s : State) (o : Origin) (p a v : Nat) (w : WordSpec) : Nat :=
  if !s.busReady o p then 0xA
  else if !s.mayWrite o p a v then 6
  else if s.on (Fld.locked p) && !irqWord a && !lockWord a then 5
  else if w.acc = .ro then 3
  else if s.writesFrozen p a v w then 4
  else if needsClaim p a w && s.claimedByOther o p then 7
  else if needsClaim p a w && s.on (cpend p) then 8
  else if lockWord a && v / 65536 != 0xA5C3 then 9
  else if a == Reg.RST_SWRST && v / 65536 != 0x5A3C then 9
  else 0

/-- Error code of a write (R30, R31, R33, R53, R54). -/
def State.writeVerdict (s : State) (o : Origin) (a v : Nat) : Nat :=
  if s.locksOut o then 0xA
  else if a % 4 ≠ 0 then 2
  else match ownerPage a with
    | none => 1
    | some p =>
      match s.specAt o p a with
      | none => 1
      | some w => s.wordVerdict o p a v w

/-- Error code of a read; a reserved offset reads 0 without an error (R30, R31, R33, R53, R54). -/
def State.readVerdict (s : State) (o : Origin) (a : Nat) : Nat :=
  if s.locksOut o then 0xA
  else if a % 4 ≠ 0 then 2
  else match ownerPage a with
    | none => 1
    | some p => if !s.busReady o p then 0xA else if !s.mayRead o p a then 6 else 0

/-- A rejected access: ERRA of its page, or DEV_ERRA outside every page; nothing is kept while SYS is in reset (R31, R54). -/
def State.reject (s : State) (code : Nat) (o : Origin) (wr : Bool) (a v : Nat) : State :=
  if s.domUp 2 then s.rejectAt ((ownerPage a).getD Pg.DEV) code o wr a v else s

/-! ### Reads -/

/-- Words that follow other state: a second, a count or a line at the instant of the read. -/
def State.sstate (s : State) : Nat :=
  s.svc.state.code + 16 * (s.svc.role % 4) + 64 * bitNat s.dispatchOpenNow + 256 * (s.svc.branches % 256)

/-- Bits of page indices with a non-zero IRQS (`HST_IRQSUM0`, `HST_IRQSUM1`). -/
def State.irqSum (s : State) (first n : Nat) : Nat := maskOf n (fun k => s.irqs (first + k) != 0)

/-- STAT with its header fields (R36). -/
def State.statShown (s : State) (p : Nat) : Nat :=
  let v := s.rd (Reg.stat p) + 4 * bitNat (s.on (Fld.locked p))
  let v := if p = Pg.CLK ∧ Config.xsel then putBit v 14 true else v
  match s.claimOf p with
  | none => v
  | some o => v + 8 + 16 * originCode o

/-- Seconds, high and low, and nanoseconds of a clock in 2^-28 ns. -/
def clockWord (t k : Nat) : Nat := if k = 0 then clockSec t / 2 ^ 32 else if k = 1 then clockSec t % 2 ^ 32 else clockNs t

/-- Words of the TIM page that a clock shows (R528, R552). -/
def State.timeShown (s : State) (off : Nat) : Option Nat :=
  if off = 0x50 ∨ off = 0x54 ∨ off = 0x58 then some (clockWord s.tim.pt ((off - 0x50) / 4))
  else if off = 0x60 then some (s.nowNat / 2 ^ 32)
  else if off = 0x64 then some (s.nowNat % 2 ^ 32)
  else if off = 0x68 ∨ off = 0x6C ∨ off = 0x70 then some (clockWord (s.tim.p0 % (2 ^ 48 * 1000000000 * nsUnit : Nat)).toNat ((off - 0x68) / 4))
  else if 0x110 ≤ off ∧ off < 0x11C then some (clockWord s.tim.d0 ((off - 0x110) / 4))
  else if 0x150 ≤ off ∧ off < 0x15C then some (clockWord s.tim.d1 ((off - 0x150) / 4))
  else if off = 0x130 then some (s.syncAge 0)
  else if off = 0x170 then some (s.syncAge 1)
  else none

/-- Two words of a 64-bit quantity. -/
def pairWord (v a base : Nat) : Option Nat := if a = base then some (v / 2 ^ 32) else if a = base + 4 then some (v % 2 ^ 32) else none

/-- The words that follow other state, none for a word that reads as it stands. -/
def State.computed (s : State) (p a : Nat) : Option Nat :=
  let off := a % 0x1000
  if (pageAt a).isNone then
    (if 0x88000 ≤ a ∧ a < 0x90000 ∧ a % 32 = 20 then
      (s.fab.lsas.find? (fun l => l.origin == (a - 0x88000) / 32)).map (fun l => min 65535 ((s.nowNat - l.at_) / 1000000000))
    else none)
  else if off = 0x0C then some (s.statShown p)
  else if off = 0x18 then some (s.irqs p)
  else if p = Pg.TIM then s.timeShown off
  else if a = Reg.DEV_SSTATE then some s.sstate
  else if a = Reg.DEV_ORDER then some (bitNat Config.orderSx)
  else if a = Reg.DEV_UID ∨ a = Reg.DEV_UID + 4 then pairWord Config.moduleUid.toNat a Reg.DEV_UID
  else if a = Reg.FAB_UID ∨ a = Reg.FAB_UID + 4 then pairWord Config.moduleUid.toNat a Reg.FAB_UID
  else if 25 ≤ p ∧ p ≤ 29 ∧ (off = 0x58 ∨ off = 0x5C) then
    pairWord ((Config.laneMac (p - 25)).toNat % 2 ^ 48) a (Reg.FP_MAC (p - 25))
  else if a = Reg.HST_IRQSUM0 then some (s.irqSum 0 32)
  else if a = Reg.HST_IRQSUM1 then some (s.irqSum 32 9)
  else if a = Reg.SFI_PCV then some s.sfiPcv.toNat
  else if a = Reg.SCL_PCV then some s.sclPcv.toNat
  else if a = Reg.EVR_OPSEC ∨ a = Reg.AON_OPSEC then some s.opsec
  else if a = Reg.EVR_OPFRAC then some s.opfrac
  else if a = Reg.UPD_LOCK then some (s.rd a + 65536 * s.lockIdle)
  else if a = Reg.DBG_SESSION then some (s.rd a + 65536 * s.debugIdle)
  else if a = Reg.PRT_SNLEVEL then some s.snLevel
  else if a = Reg.PWR_VAON then some (Config.vaon s.nowNat).toNat
  else if a = Reg.THM_CHILLER then some (s.rd a + 2 ^ 24 * s.chillerAge)
  else none

/-- The value of a word as any origin sees it, latches and queues apart (R33, R41, R727). -/
def State.shown (s : State) (o : Origin) (p a : Nat) : Nat :=
  match s.specAt o p a with
  | none => 0
  | some w =>
    if w.acc = .wo ∧ (pageAt a).isSome then 0
    else match s.computed p a with
      | some v => v % 2 ^ 32
      | none => if w.cls = .shadow then s.shadowed a else s.rd a

/-- Words 4 to 15 of an object and the data words of its pair (R566). -/
def State.objLatched (s : State) (a : Nat) : List Nat :=
  let base := a - 12
  let x := if a < 0xAA000 then 0 else 1
  let o := (base - (0xA8000 + 0x2000 * x)) / 64
  (List.range 12).map (fun k => base + 16 + 4 * k) ++
    (if o % 2 = 0 ∧ s.on (objPAIR x o) then (List.range 8).map (fun k => base + 64 + 32 + 4 * k) else [])

/-- The upper half of a 64-bit quantity stands at `a` (R34). -/
def pairBase (p a : Nat) : Bool :=
  if (pageAt a).isNone then
    (decide (0x88000 ≤ a ∧ a < 0x90000) && a % 32 == 8) || (decide (0x20000 ≤ a ∧ a < 0x50000) && a % 64 == 0x38) ||
    (decide (0xA8000 ≤ a ∧ a < 0xAC000) && a % 64 == 0x10)
  else if 6 ≤ p ∧ p ≤ 9 then decide (0x100 ≤ a % 0x1000 ∧ a % 0x1000 < 0x300) && a % 8 == 0
  else match rowAt (kindOf p) (a % 0x1000) with
    | some r => r.words == 2 && (a % 0x1000 - r.off) % r.step == 0
    | none => false

/-- Words that a read of `a` latches until the origin's next such read (R159, R552, R566). -/
def State.latchSet (s : State) (a : Nat) : List Nat :=
  if 0x20000 ≤ a ∧ a < 0x50000 ∧ a % 64 = 0 then (List.range 15).map (fun k => a + 4 + 4 * k)
  else if a = Reg.TIM_PTSH then [Reg.TIM_PTSL, Reg.TIM_PTNS, Reg.TIM_MONO, Reg.TIM_MONO + 4]
  else if a = Reg.TIM_P0SH then [Reg.TIM_P0SL, Reg.TIM_P0NS]
  else if a = Reg.TIM_DTSH 0 then [Reg.TIM_DTSL 0, Reg.TIM_DTNS 0]
  else if a = Reg.TIM_DTSH 1 then [Reg.TIM_DTSL 1, Reg.TIM_DTNS 1]
  else if 0xA8000 ≤ a ∧ a < 0xAC000 ∧ a % 64 = 12 then s.objLatched a
  else []

/-- The latched copies that a read of `a` replaces: those of the same kind of read by the same origin. -/
def sameLatch (a b : Nat) : Bool :=
  if 0x20000 ≤ a ∧ a < 0x50000 then decide (0x20000 ≤ b ∧ b < 0x50000)
  else if 0xA8000 ≤ a ∧ a < 0xAC000 then decide (0xA8000 ≤ b ∧ b < 0xAC000)
  else if a = Reg.TIM_PTSH then decide (Reg.TIM_PTSL ≤ b ∧ b < Reg.TIM_P0SH)
  else if a = Reg.TIM_P0SH then decide (Reg.TIM_P0SL ≤ b ∧ b ≤ Reg.TIM_P0NS)
  else decide (a < b ∧ b < a + 12)

/-- A read makes its latches (R34, R159, R552, R566). -/
def State.makeLatches (s : State) (o : Origin) (p a : Nat) : State :=
  let set := s.latchSet a
  if !set.isEmpty then
    let keep := s.acc.latches.filter (fun l => !(decide (l.origin = o) && l.sticky && sameLatch a l.addr))
    let new := set.map (fun b => (⟨o, b, BitVec.ofNat 32 (s.shown o p b), true⟩ : Latch))
    { s with acc := { s.acc with latches := new ++ keep } }
  else if pairBase p a then
    let keep := s.acc.latches.filter (fun l => !(decide (l.origin = o) && !l.sticky && l.addr == a + 4))
    { s with acc := { s.acc with latches := ⟨o, a + 4, BitVec.ofNat 32 (s.shown o p (a + 4)), false⟩ :: keep } }
  else s

/-- The latched copy that an origin's read finds. -/
def State.latchAt (s : State) (o : Origin) (a : Nat) : Option Latch := s.acc.latches.find? (fun l => decide (l.origin = o) && l.addr == a)

/-- An accepted read: its value and what it changes. -/
def State.readWord (s : State) (o : Origin) (p a : Nat) : Word × State :=
  match queDataAt a with
  | some q => s.queueRead q
  | none =>
    match s.latchAt o a with
    | some l => (l.value, if l.sticky then s else { s with acc := { s.acc with latches := s.acc.latches.erase l } })
    | none => (BitVec.ofNat 32 (s.shown o p a), s.makeLatches o p a)

/-- A read of one word by an origin: its error code, its value, the state after (R30 to R54). -/
def State.busRead (s : State) (o : Origin) (a : Nat) : Nat × Word × State :=
  let c := s.readVerdict o a
  if c ≠ 0 then (c, 0, s.reject c o false a 0)
  else
    let x := s.readWord o ((ownerPage a).getD Pg.DEV) a
    (0, x.1, x.2)

end Sys2Proof.Machine
end

