-- ==== Sys2Proof/Machine/Effects.lean ====
section
/-! DEFINITION. What an accepted write does: enabling and disabling of blocks, command registers, boundaries, shadows and
commits, locks, transactions of several words, the restore of the stored configuration (R37 to R55, R59, R60, R642). -/

namespace Sys2Proof.Machine

/-! ### Enabling -/

/-- The block of a page is not started now: in recovery mode, or with an image that does not fit (R24, R645, R671). -/
def State.startBarred (s : State) (p : Nat) : Bool :=
  let unfit := fun (k : Nat) => s.get (imgField k) == 2
  let ring := decide (6 ≤ p ∧ p ≤ 9)
  (decide (s.svc.state = .recovery) && (ring || [Pg.LPE, Pg.PWM, Pg.CHM, Pg.CTK, Pg.TWN].contains p)) ||
  ((ring || p == Pg.CHM) && unfit 4) || (p == Pg.LPE && unfit 5) ||
  ((decide (24 ≤ p ∧ p ≤ 29) || p == Pg.CNA || p == Pg.CNB) && unfit 6)

/-- EN of a page has been set. -/
def State.pageOn (s : State) (p : Nat) : State :=
  if 6 ≤ p ∧ p ≤ 9 then s.ringOn (p - 6)
  else if p = Pg.SRQ then s.srqOn
  else if p = Pg.CHM then s.chmOn
  else if p = Pg.EST then s.estOn
  else if p = Pg.BAL then s.balOn
  else if p = Pg.THM then s.thmOn
  else if p = Pg.PWM then s.pwmOn.lpeRecheck.rowPrune
  else if p = Pg.LPE then s.lpeOn
  else if p = Pg.ADC then s.adcOn
  else if p = Pg.ISO then s.isoOn
  else if p = Pg.SFI then s.sfiEnable
  else if p = Pg.SCL then s.sclEnable
  else if p = Pg.FAB then s.fabEnable
  else if 25 ≤ p ∧ p ≤ 29 then s.laneEnable (p - 25) true
  else if p = Pg.TIM then s.timEnable
  else if p = Pg.TPO then (s.setEns Pg.TPO true).each 8 State.tpoSetup
  else if p = Pg.CNA ∨ p = Pg.CNB then s.canOn (p - Pg.CNA)
  else if p = Pg.TWN then s.twinOn
  else if p = Pg.TMX then (s.setEns Pg.TMX true).tmxCheck
  else s.setEns p true

/-- EN of a page has been cleared. -/
def State.pageOff (s : State) (p : Nat) : State :=
  if 6 ≤ p ∧ p ≤ 9 then s.ringOff (p - 6)
  else if p = Pg.SRQ then s.srqOff
  else if p = Pg.CHM then s.chmOff
  else if p = Pg.EST then s.estOff
  else if p = Pg.BAL then s.balOff
  else if p = Pg.THM then s.thmOff
  else if p = Pg.PWM then s.pwmOff
  else if p = Pg.LPE then s.lpeOff
  else if p = Pg.ADC then s.adcOff
  else if p = Pg.ISO then s.isoOff
  else if p = Pg.PRT then { (s.setEns Pg.PRT false) with prt := { s.prt with rowRuns := [] } }
  else if p = Pg.SFI then s.sfiDisable
  else if p = Pg.SCL then s.sclDisable
  else if p = Pg.FAB then s.fabDisable
  else if 25 ≤ p ∧ p ≤ 29 then s.laneEnable (p - 25) false
  else if p = Pg.TIM then s.timDisable
  else if p = Pg.TPO then (s.setEns Pg.TPO false).each 8 State.tpoSetup
  else if p = Pg.CNA ∨ p = Pg.CNB then s.canOff (p - Pg.CNA)
  else if p = Pg.TWN then s.twinOff
  else s.setEns p false

/-- A write of CTRL (R36, R40); EN of a block that is not started stays 0 (DEDUCED from R24 and R645, log 28). -/
def State.writeCtrl (s : State) (p : Nat) (b : Bool) : State :=
  if b == s.on (Fld.ctrlEn p) then s
  else if b then (if s.startBarred p then s else (s.setOn (Fld.ctrlEn p) true).pageOn p)
  else ((s.setOn (Fld.ctrlEn p) false).pageOff p).loadStale

/-! ### Command registers -/

/-- A command of SFI_CMD (R455). -/
def State.sfiCommand (s : State) (o : Origin) (op : Nat) : State :=
  match op with
  | 1 => s.safetyReset
  | 2 => s.clearOutFault
  | 3 => s.prepare
  | 4 => s.commit o
  | 5 => s.abandonIf
  | _ => s

/-- A command of SCL_CMD (R476); PDUs that it makes leave at once. -/
def State.sclCommand (s : State) (op n : Nat) : State :=
  match op with
  | 1 => (s.sclReturn n).drainScl
  | 2 => (s.connFail n 7).drainScl
  | _ => s

/-- A write of a command or key register of the ring, telemetry and estimation blocks. -/
def State.ringCommands (s : State) (o : Origin) (a v : Nat) : State :=
  match (List.range 4).find? (fun r => a == Reg.SR_CMD r) with
  | some r => s.ringCommand r (bitsOf v 0 4) (bitsOf v 8 6)
  | none =>
    match (List.range 4).find? (fun q => a == Reg.SRQ_QCMD q) with
    | some q => s.modQue q (fun x => { x with flush := Nat.lor x.flush (v % 16) })
    | none =>
      if a = Reg.CHM_CMD then s.chmCommand o (v % 16)
      else if a = Reg.EST_CMD then s.estCommand (v % 16)
      else if a = Reg.BAL_CMD then s.balCommand (v % 16)
      else if a = Reg.THM_CMD then s.thmCommand o (v % 16)
      else s

/-- A write of a command register of the converter, protection and safety blocks. -/
def State.powerCommands (s : State) (o : Origin) (a v : Nat) : State :=
  if a = Reg.LPE_SWAP then s.swapAsk o (v % 65536)
  else if a = Reg.LPE_CMD then s.lpeCommand (v % 16)
  else if spinAt a then
    let s := s.wr a v
    if a = Reg.LPE_SPIN 4 then s.submitFrame else s
  else if a = Reg.CTK_CMD then s.ctkCommand (v % 16) (bitsOf v 8 3)
  else if a = Reg.ADC_CMD then s.adcCommand (v % 16) (bitsOf v 8 2)
  else if a = Reg.FLT_CMD then (if v % 16 = 1 then s.ack else s)
  else if a = Reg.SFI_CONFIRM then (s.sfiConfirm o (BitVec.ofNat 32 v)).1
  else if a = Reg.SFI_CMD then s.sfiCommand o (v % 16)
  else if a = Reg.SCL_CMD then s.sclCommand (v % 16) (bitsOf v 8 3)
  else s

/-- A write of a command or key register of the other blocks. -/
def State.otherCommands (s : State) (o : Origin) (a v : Nat) : State :=
  match linkKeyAt a with
  | some (n, k, i) => s.keyWord o n k i (BitVec.ofNat 32 v)
  | none =>
  match roleKeyAt a with
  | some r => s.roleWord o r (a % 16 / 4) (BitVec.ofNat 32 v)
  | none =>
  match (List.range 5).find? (fun n => a == Reg.FP_CMD n) with
  | some n => s.laneCommand n (v % 16)
  | none =>
  match (List.range 2).find? (fun x => a == Reg.CN_CMD x) with
  | some x => s.canCommand x (v % 16) (bitsOf v 8 7)
  | none =>
  match (List.range 2).find? (fun d => a == Reg.TIM_DADJ d) with
  | some d => s.adjustDom d (toSigned 32 v)
  | none =>
    if a = Reg.FAB_CMD then s.fabCommand (v % 16) (bitsOf v 8 8)
    else if a = Reg.TIM_CMD then s.timCommand (v % 16) (bitsOf v 8 1)
    else if a = Reg.TWN_CMD then s.twinCommand (v % 16)
    else if a = Reg.EVR_CMD then s.evrCommand o (v % 16)
    else if a = Reg.UPD_CMD then s.updCommand o (v % 16)
    else if a = Reg.AGE_CMD then s.ageCommand o (v % 16) (bitsOf v 8 4)
    else if a = Reg.DBG_CMD then s.dbgCommand o (v % 16)
    else if a = Reg.RST_CMD then s.rstCommand (v % 16)
    else if a = Reg.RST_SWRST then s.softReset (v % 4)
    else if a = Reg.RST_BOOTOK then (if bitOf v 0 then s.bootOk else s)
    else s

/-- A write of a write-only register, `HST_SDOOR` apart. -/
def State.writeCommand (s : State) (o : Origin) (a v : Nat) : State :=
  ((s.ringCommands o a v).powerCommands o a v).otherCommands o a v

/-! ### Active values -/

/-- What follows a change of an active word. -/
def State.afterWrite (s : State) (p a old : Nat) : State :=
  let off := a % 0x1000
  let x := p - Pg.CNA
  if (pageAt a).isNone then
    (if 0xA8000 ≤ a ∧ a < 0xAC000 then s.canShow (if a < 0xAA000 then 0 else 1) else s)
  else if p = Pg.TMX then s.tmxCheck
  else if p = Pg.ADC then (if a = Reg.ADC_CALPER then s.calEffective s.ledgerInterval else s)
  else if p = Pg.TPO then (if 0x100 ≤ off ∧ off < 0x200 ∧ off % 32 < 0x18 then s.tpoSetup ((off - 0x100) / 32) else s)
  else if p = Pg.CNA ∨ p = Pg.CNB then (if a = Reg.CN_REF x then s.refSet x else s)
  else if p = Pg.PRT then s.each 12 (fun s n => if a = Reg.PRT_CMPCFG n then s.comparatorIdle n else s)
  else if a = Reg.CHM_ZSEL then s.zselWritten
  else if p = Pg.TIM ∧ 0x200 ≤ off ∧ off < 0x300 ∧ off % 32 = 0 then (if bitOf old 31 then s else s.armFabric ((off - 0x200) / 32))
  else if p = Pg.TIM ∧ 0x300 ≤ off ∧ off < 0x400 ∧ off % 32 = 0 then (if bitOf old 31 then s else s.armCan ((off - 0x300) / 32))
  else if 25 ≤ p ∧ p ≤ 29 ∧ off = 0x50 then (if bitOf old 24 != s.bit a 24 then s.txKeyChanged (p - 25) else s)
  else s

/-- An active word takes a value. -/
def State.writeActive (s : State) (p a v : Nat) : State :=
  let old := s.rd a
  (s.wr a v).afterWrite p a old

/-- Pages whose boundary is the next SYS or TIME cycle (R39). -/
def State.promptPage (s : State) (p : Nat) : Bool :=
  [0, 1, 2, 3, 4, 5, 17, 18, 21, 30, 35, 36, 37, 38, 39, 40].contains p || (p == Pg.LPE && !s.ens Pg.PWM)

/-- A write of a live word takes effect now (R39, R40). -/
def State.actsNow (s : State) (p : Nat) (w : WordSpec) : Bool := w.now || !s.ens p || s.promptPage p

/-- CAN controller and object of a word 3 in the object windows. -/
def word3At (a : Nat) : Option (Nat × Nat) :=
  if 0xA8000 ≤ a ∧ a < 0xAC000 ∧ a % 64 = 12 then some ((a - 0xA8000) / 0x2000, (a - 0xA8000) % 0x2000 / 64) else none

/-- A write of a command register, or of word 3 of a CAN object, takes effect. -/
def State.commandActs (s : State) (o : Origin) (a v : Nat) : State :=
  match word3At a with
  | some (x, n) => s.word3Write x n v
  | none => s.writeCommand o a v

/-- A class L write takes effect at its boundary: EN, a command, bits that clear, or a value (R8, R39). EN of a block that has
come to be held meanwhile stays 1 (R320, R364, R396, R446). -/
def State.takeEffect (s : State) (x : PendWrite) : State :=
  if x.addr = Reg.ctrl x.page then
    (if !bitOf x.value 0 && s.enHeld x.page then s else s.writeCtrl x.page (bitOf x.value 0))
  else match (s.specAt x.origin x.page x.addr).map WordSpec.acc with
    | some .wo => s.commandActs x.origin x.addr x.value
    | some .w1c => s.wr x.addr (Nat.land (s.rd x.addr) (0xFFFFFFFF - x.value))
    | _ => s.writeActive x.page x.addr (mergeWord (s.rd x.addr) x.mask x.value)

/-- The queue whose registers a word of the SRQ page is among. -/
def queueOf (a : Nat) : Option Nat := if Reg.SRQ_QCFG 0 ≤ a ∧ a < Reg.SRQ_QCFG 4 then some ((a - Reg.SRQ_QCFG 0) / 32) else none

/-- A waiting write takes effect at a boundary of page `p`, on SRQ one of queue `part` (R39). -/
def PendWrite.due (x : PendWrite) (p part : Nat) : Bool := x.page == p && ((queueOf x.addr).getD part == part)

/-- BOUNDARY_APPLY: the class L writes that wait for a boundary take effect in their order (R39). -/
def State.boundary_ (s : State) (p part : Nat) : State :=
  (s.acc.pendL.filter (fun x => x.due p part)).foldl State.takeEffect
    { s with acc := { s.acc with pendL := s.acc.pendL.filter (fun x => !x.due p part) } }

/-- A class L write waits for its boundary (R39). -/
def State.postpone (s : State) (o : Origin) (p a v mask : Nat) : State :=
  { s with acc := { s.acc with pendL := s.acc.pendL ++ [(⟨p, a, v, mask, o⟩ : PendWrite)] } }

/-- A value written at once is the last one accepted: none that waits comes over it (R48). -/
def State.overtake (s : State) (a : Nat) : State :=
  { s with acc := { s.acc with pendL := s.acc.pendL.filter (fun x => x.addr != a) } }

/-! ### Shadows -/

/-- The shadow and the claim of a page end (R45). -/
def State.dropShadow (s : State) (p : Nat) : State :=
  { s with acc := { s.acc with shadow := s.acc.shadow.filter (fun e => ownerPage e.1 != some p)
                               claims := s.acc.claims.filter (fun e => e.1 != p) } }

/-- Shadow words of a page with the active value each would replace. -/
def State.shadowChanges (s : State) (p : Nat) : List (Nat × Nat × Nat) :=
  ((s.acc.shadow.filter (fun e => ownerPage e.1 == some p)).map (fun e => (e.1, s.rd e.1, e.2.toNat))).filter (fun t => t.2.1 != t.2.2)

/-- A word enters the stored configuration (R642; log 9). -/
def State.remember (s : State) (a v : Nat) : State :=
  { s with acc := { s.acc with stored := smInsert a (BitVec.ofNat 32 v) s.acc.stored } }

/-- The commit of a page: all shadowed fields take their shadow values in one step (R45, R55). -/
def State.applyCommit (s : State) (p : Nat) : State :=
  let ch := s.shadowChanges p
  let o := (s.claimOf p).getD .firmware
  let s := (s.dropShadow p).setOn (cpend p) false
  let s := ch.foldl (fun (s : State) t => (s.wr t.1 t.2.2).remember t.1 t.2.2) s
  let s := ch.foldl (fun (s : State) t => s.afterWrite p t.1 t.2.1) s
  s.auditMany 2 o ch.length ch

/-- A write of COMMIT; DISCARD wins over GO (R45). -/
def State.writeCommit (s : State) (p v : Nat) : State :=
  if bitOf v 1 then s.dropShadow p
  else if bitOf v 0 then
    let s := s.setOn (cpend p) true
    if !s.ens p || s.promptPage p then s.applyCommit p else s
  else s

/-- COMMIT_APPLY (R45). -/
def State.commitDue (s : State) (p : Nat) : State := if s.on (cpend p) then s.applyCommit p else s

/-- SHADOW_LAPSE: a claim without a pending commit is discarded after 1 s (R47, R732). -/
def State.claimLapses (s : State) (p : Nat) : State :=
  match s.claimOf p with
  | none => s
  | some o =>
    if s.on (cpend p) then s else
    (s.dropShadow p).raiseRec ⟨2, 2, p, 5, auditBody 2 0xFF (originNode o) (Reg.commit p) (originCode o + 65536 * originNode o) 0 [], none⟩

/-- A shadowed write: the first one takes the claim (R44). -/
def State.writeShadow (s : State) (o : Origin) (p a v : Nat) : State :=
  let claims := if (s.claimOf p).isSome then s.acc.claims else (p, o) :: s.acc.claims
  { s with acc := { s.acc with shadow := smInsert a (BitVec.ofNat 32 v) s.acc.shadow, claims := claims } }

/-! ### Writes -/

/-- A live or frozen word is written, with its audit record (R39, R55, R408). -/
def State.writeLive (s : State) (o : Origin) (p a v : Nat) (w : WordSpec) : State :=
  let old := s.rd a
  let new := s.storedOver w a old v
  let cls := decide (Reg.FLT_CLASS 0 ≤ a ∧ a < Reg.FLT_CLASS 16) && new != v
  let s := if new = old ∧ !cls then s else if inWindow a then s else s.audit (if cls then 0xB else 1) o a old new
  let s := if w.serves then s else s.remember a new
  if s.actsNow p w then (s.overtake a).writeActive p a new else s.postpone o p a new w.mask

/-- Bits of `FPn_KEYCTL` that clear a key slot (R485). -/
def State.keyClears (s : State) (o : Origin) (p a v : Nat) : State :=
  if 25 ≤ p ∧ p ≤ 29 ∧ a % 0x1000 = 0x50 then
    let s := if bitOf v 28 then s.clearKey o (p - 25) 0 else s
    if bitOf v 29 then s.clearKey o (p - 25) 1 else s
  else s

/-- An accepted write of one word (R36 to R55); `atOnce` for a row of the table that stands for a command together with the
boundary at which it takes effect (log 8). -/
def State.writeWord (s : State) (atOnce : Bool) (o : Origin) (p a v : Nat) (w : WordSpec) : State :=
  if lockWord a then
    let old := s.rd a
    let new := v % 2
    (((if old = new then s else s.audit 6 o a old new)).wr a new).remember a new
  else if a = Reg.ctrl p then
    let old := bitNat (s.on (Fld.ctrlEn p))
    let s := if old = v % 2 then s else s.audit 1 o a old (v % 2)
    let s := s.remember a (v % 2)
    if atOnce || s.actsNow p w then (s.overtake a).writeCtrl p (bitOf v 0) else s.postpone o p a v w.mask
  else if a = Reg.irqe p then (s.wr a (Nat.land v w.mask)).remember a (Nat.land v w.mask)
  else if a = Reg.irqs p then s.wr (Reg.irqr p) (Nat.land (s.rd (Reg.irqr p)) (0xFFFFFFFF - Nat.land v w.mask))
  else if a = Reg.erra p then (if bitOf v 31 then s.wr a 0 else s)
  else if a = Reg.commit p then s.writeCommit p v
  else match w.acc with
      | .wo =>
        let s := if spinAt a && s.rd a != v then s.audit 1 o a (s.rd a) v else s
        if atOnce || s.actsNow p w then s.commandActs o a v else s.postpone o p a v w.mask
      | .w1c =>
        let new := Nat.land (s.rd a) (0xFFFFFFFF - v)
        let s := if new = s.rd a then s else s.audit 1 o a (s.rd a) new
        if atOnce || s.actsNow p w then s.wr a new else s.postpone o p a v w.mask
      | _ => if w.cls = .shadow then s.writeShadow o p a (s.storedOver w a (s.shadowed a) v)
        else (s.writeLive o p a v w).keyClears o p a v

/-- An accepted write goes to the partner when it is one that the partner may take (R594, R726). -/
def State.mirrorOut (s : State) (o : Origin) (p a v : Nat) : State :=
  if o ≠ .twin ∧ mirrorPages.contains p ∧ s.on Fld.TWN_CFG_MIRROR ∧ s.ens Pg.TWN ∧ s.mayWrite .twin p a v then
    s.sendTwin 4 (beBytes 4 a ++ beBytes 4 v)
  else s

/-- What an accepted write of `HST_SDOOR` does with its value. -/
abbrev Door := State → Nat → State

/-- A submission while a service runs is not taken (log 8). -/
def closedDoor : Door := fun s _ => s

/-- A write of one word by an origin: its error code and the state after; a table window's change is audited by its
transaction. -/
def State.writeOne_ (s : State) (atOnce : Bool) (door : Door) (o : Origin) (a v : Nat) : Nat × State :=
  let c := s.writeVerdict o a v
  if c ≠ 0 then (c, s.reject c o true a v) else
  let p := (ownerPage a).getD Pg.DEV
  match s.specAt o p a with
  | none => (1, s)
  | some w =>
    let t := (s.mirrorOut o p a v).writeWord atOnce o p a v w
    (0, if a = Reg.HST_SDOOR then door t v else t)

/-- The change of a window word that a transaction's record names (R55). -/
def windowChange (s t : State) (a : Nat) : List (Nat × Nat × Nat) :=
  let pend := (t.acc.pendL.reverse.find? (fun x => x.addr == a)).map (fun x => x.value)
  let new := pend.getD (t.rd a)
  if inWindow a && (word3At a).isNone && new != s.rd a then [(a, s.rd a, new)] else []

/-- A write of one word as a transaction of its own. -/
def State.busWriteBy (s : State) (atOnce : Bool) (door : Door) (o : Origin) (a v : Nat) : Nat × State :=
  let x := s.writeOne_ atOnce door o a v
  let ch := if x.1 = 0 then windowChange s x.2 a else []
  (x.1, x.2.auditMany 3 o ch.length ch)

/-- A write of one word that submits no service. -/
def State.busWrite (s : State) (o : Origin) (a v : Nat) : Nat × State := s.busWriteBy false closedDoor o a v

/-! ### Transactions of several words -/

/-- An incrementing burst of `n` words crosses a page or window boundary (R60). -/
def crosses (a n : Nat) (fixed : Bool) : Bool := !fixed && regionOf a != regionOf (a + 4 * (n - 1))

/-- The step of a burst's address. -/
def burstStep (fixed : Bool) : Nat := if fixed then 0 else 4

/-- Words written in order up to the first rejected one: how many, its code, the window changes, the state (R59). -/
def State.writeWords (s : State) (door : Door) (o : Origin) (fixed : Bool) :
    Nat → List Word → Nat × Nat × List (Nat × Nat × Nat) × State
  | _, [] => (0, 0, [], s)
  | a, v :: rest =>
    let x := s.writeOne_ false door o a v.toNat
    if x.1 ≠ 0 then (0, x.1, [], x.2)
    else
      let y := x.2.writeWords door o fixed (a + burstStep fixed) rest
      (y.1 + 1, y.2.1, windowChange s x.2 a ++ y.2.2.1, y.2.2.2)

/-- A write transaction: words applied, error code, state (R55, R59, R60). -/
def State.writeBurst (s : State) (door : Door) (o : Origin) (a : Nat) (fixed : Bool) (data : List Word) : Nat × Nat × State :=
  if s.locksOut o then (0, 0xA, s.reject 0xA o true a ((data.headD 0).toNat))
  else if crosses a data.length fixed then (0, 2, s.reject 2 o true a ((data.headD 0).toNat))
  else
    let x := s.writeWords door o fixed a data
    let ch := x.2.2.1
    (x.1, x.2.1, x.2.2.2.auditMany 3 o ch.length ch)

/-- Words read in order up to the first rejected one: the code, the data, the state (R59). -/
def State.readWords (s : State) (o : Origin) (fixed : Bool) : Nat → Nat → Nat × List Word × State
  | _, 0 => (0, [], s)
  | a, n + 1 =>
    let x := s.busRead o a
    if x.1 ≠ 0 then (x.1, [], x.2.2)
    else
      let y := x.2.2.readWords o fixed (a + burstStep fixed) n
      (y.1, x.2.1 :: y.2.1, y.2.2)

/-- A read transaction: error code, data, state (R59, R60). -/
def State.readBurst (s : State) (o : Origin) (a n : Nat) (fixed : Bool) : Nat × List Word × State :=
  if s.locksOut o then (0xA, [], s.reject 0xA o false a 0)
  else if crosses a n fixed then (2, [], s.reject 2 o false a 0)
  else s.readWords o fixed a n

/-! ### The stored configuration -/

/-- Pages in the order of R642; the pages that it does not list follow its step 4 (DEDUCED log 9). -/
def restoreOrder : List Nat :=
  [18, 17, 21, 19, 15, 16, 6, 7, 8, 9, 10, 11, 12, 13, 14, 30, 31, 34, 35, 38, 20, 3, 37, 39, 40, 1, 2, 4, 36, 24, 25, 26, 27, 28, 29, 32, 33, 5]

/-- Pages that the restore after a reset of level `lvl` covers (R642). -/
def restoredBy (lvl p : Nat) : Bool :=
  decide (lvl ≤ 1) || (12 ≤ p && p ≤ 14) || (lvl == 2 && [24, 25, 26, 27, 28, 29, 32, 33, 5].contains p)

/-- One page is restored: its words, then its EN; no audit record (R55, R642). -/
def State.restorePage (s : State) (p : Nat) : State :=
  let mine := s.acc.stored.filter (fun e => ownerPage e.1 == some p)
  let s := (mine.filter (fun e => e.1 != Reg.ctrl p && !lockWord e.1)).foldl
    (fun (s : State) e => s.writeActive p e.1 e.2.toNat) s
  let s := if p = Pg.AGE then s.showVcore else s
  let s := if p = Pg.EST ∧ s.clk.loadDue then ({ s with clk := { s.clk with loadDue := false } }).loadLearned else s
  if mine.any (fun e => e.1 == Reg.ctrl p && e.2 == 1) && !alwaysOn p then
    if s.startBarred p then s else (s.setOn (Fld.ctrlEn p) true).pageOn p
  else s

/-- The page locks are restored last (R53, R642). -/
def State.restoreLocks (s : State) : State :=
  let s := (s.acc.stored.filter (fun e => lockWord e.1)).foldl
    (fun (s : State) e => s.wr e.1 e.2.toNat) s
  { s with acc := { s.acc with locksRestored := true } }

/-- An adoption that is due with no drives held leaves the service state of a fresh start (R395). -/
def State.nothingHeld (s : State) : State :=
  if s.clk.adoptPending && !s.on Fld.CTK_HOLD_HELD then
    let s := { s with clk := { s.clk with adoptPending := false } }
    if s.svc.state = .tripped ∨ s.svc.state = .recovery then s else s.readyOr
  else s

/-- CONFIG_RESTORE, in a start that is not complete; after a reset of the island alone, its last step (R53, R642). -/
def State.configRestore (s : State) : State :=
  if !(s.clk.startPending && s.domUp 10) then (if s.appUp && !s.acc.locksRestored then s.restoreLocks else s) else
  let lvl := s.get Fld.RST_CAUSE_LEVEL
  let s := (restoreOrder.filter (restoredBy lvl)).foldl State.restorePage s
  s.restoreLocks.nothingHeld.maybeReady

end Sys2Proof.Machine
end

