-- ==== Sys2Proof/Machine/Services.lean ====
section
/-! DEFINITION. Service messages and the ways they come in: the gate that every request passes, each service, dispatch, host
sessions, the host port, mirrored writes and the notices that the module sends (R56 to R65, R502 to R518, R543, R544, R594,
R628, R681, R696). -/

namespace Sys2Proof.Machine

/-! ### The gate -/

/-- The class of a request is that of its service; the host path has none (R504, R628; log 21). -/
def requestClassOk (q : Req) (svc : Nat) : Bool := q.cls.toNat == svcClass svc || (svc == 0x201 && q.cls.toNat == 2)

/-- A request that is not served: it fails authentication, or travels in a wrong class (R13, R65, R483, R504). -/
def State.turnAway (s : State) (q : Req) (n : BitVec 10) : State :=
  if q.authentic then s.laneDiscard q.lane.val (Reg.FP_CNT_DISC q.lane.val)
  else s.authFail q.lane.val { s.mkFrame 2 4 s.ownAddr [] with src := n }

/-- Path, authentication and class of a request; then `f` answers it (R63, R65, R502 to R504). -/
def State.arrive (s : State) (q : Req) (svc : Nat) (f : State → SvcAns) : State :=
  match q.origin with
  | .host => if s.domUp 2 && s.domUp 9 then (let x := f s; x.2.respond q svc x.1.1 x.1.2) else s
  | .fabric n =>
    if !s.domUp 9 then s
    else if !q.authentic || !requestClassOk q svc then s.turnAway q n
    else (let x := f s; x.2.respond q svc x.1.1 x.1.2)
  | _ => s

/-- Recovery serves the register, update, recorder and time services, answers STRING_CMD and DISPATCH, and opens the host
sessions that RECOVERY_EXIT asks for (R24, R645; the sessions DESIGN CHOICE log 28). -/
def State.recoveryServes (s : State) (svc : Nat) : Bool :=
  decide (s.svc.state ≠ .recovery) || [1, 2, 3, 4, 7, 8, 9].contains svc || decide (0x100 ≤ svc ∧ svc < 0x400)

/-- A firmware service with the least role it asks of its requester (R24, R505); one that recovery does not serve is answered
NOT_READY (DESIGN CHOICE log 28). -/
def State.firmwareService (s : State) (q : Req) (svc least : Nat) (f : State → SvcAns) : State :=
  s.arrive q svc (fun s =>
    if !s.appUp || !s.recoveryServes svc then ((3, []), s)
    else match s.roleOf q.origin with
      | none => ((6, []), s)
      | some r => if r < least then ((6, []), s) else f s)

/-- A firmware service between neighbours, that asks for no role (R677, R681). -/
def State.neighbourService (s : State) (q : Req) (svc : Nat) (f : State → SvcAns) : State :=
  s.arrive q svc (fun s => if !s.appUp then ((3, []), s) else f s)

/-! ### Register services -/

/-- Status of a transaction from its error code (R58, R64). -/
def accessStatus (code : Nat) : Nat := if code = 0 then 0 else if code = 0xA then 3 else 2

/-- REG_READ (R64, R505). -/
def State.regRead (s : State) (q : Req) (a count : Nat) : State :=
  s.arrive q 1 (fun s =>
    if count > 63 then ((5, beBytes 4 0), s)
    else if (s.roleOf q.origin).isNone && !s.locksOut q.origin then ((6, beBytes 4 0), s)
    else
      let x := s.readBurst q.origin a (count + 1) false
      ((accessStatus x.1, beBytes 1 x.2.1.length ++ beBytes 3 0 ++ x.2.1.flatMap (fun w => beBytes 4 w.toNat)), x.2.2))

/-- REG_WRITE (R64, R505). -/
def State.regWrite (s : State) (door : Door) (q : Req) (a count : Nat) (data : List Word) : State :=
  s.arrive q 2 (fun s =>
    if count > 63 ∨ data.length ≠ count + 1 then ((5, beBytes 4 0), s)
    else if (s.roleOf q.origin).isNone && !s.locksOut q.origin then ((6, beBytes 4 0), s)
    else
      let x := s.writeBurst door q.origin a false data
      ((accessStatus x.2.1, beBytes 1 x.1 ++ beBytes 3 0), x.2.2))

/-! ### String commands -/

/-- TRANSPORT is allowed in READY (R22, R658). -/
def State.transportString (s : State) : Bool × State :=
  if s.svc.state = .ready then (true, s.transportBegin) else (false, s)

/-- The string command of a CMD byte; its first part is acceptance (R22, R507). -/
def State.stringAct (s : State) (cmd : Nat) : Bool × State :=
  match cmd with
  | 1 => s.connectString
  | 2 => s.runString
  | 3 => s.haltString
  | 4 => s.disconnectString
  | 5 => s.clearTrip
  | 6 => s.transportString
  | _ => (false, s)

/-- STRING_CMD (R22, R507, R615). -/
def State.stringCommand (s : State) (q : Req) (cmd : Nat) : State :=
  s.firmwareService q 3 0 (fun s =>
    if cmd = 0 ∨ cmd > 6 then ((0x15, []), s)
    else
      let x := s.stringAct cmd
      if x.1 then okBare (x.2.auditCommand q.origin Reg.DEV_SSTATE s.sstate x.2.sstate)
      else ((8, beBytes 4 x.2.sstate), x.2))

/-! ### Dispatch -/

/-- A plant-time instant in nanoseconds as 6 bytes of seconds and 4 of nanoseconds. -/
def plantBytes (ns : Nat) : List Byte := beBytes 6 (ns / 1000000000) ++ beBytes 4 (ns % 1000000000)

/-- ISET lies outside the applied limits (R512). -/
def State.limited (s : State) (iset : Word) : Bool :=
  decide (ratOf iset > (s.get Fld.LPE_LIMNOW_Lchg : Nat)) || decide (ratOf iset < -((s.get Fld.LPE_LIMNOW_Ldis : Nat) : Rat))

/-- The body of a DISPATCH answer (R512). -/
def State.dispatchBody (s : State) (d : DispatchBody) : List Byte :=
  beBytes 4 d.seq.toNat ++ beBytes 1 (s.svc.role % 4 + 4 * bitNat (s.limited d.iset)) ++ beBytes 1 0 ++ plantBytes s.plantNs ++
    beBytes 2 (s.get Fld.LPE_LIMNOW_Lchg) ++ beBytes 2 (s.get Fld.LPE_LIMNOW_Ldis)

/-- The command repeats the last accepted one whole (R511). -/
def State.dispatchRepeats (s : State) (d : DispatchBody) : Bool := decide (s.dsp.last = some d)

/-- A SEQ that is accepted (R511). -/
def State.dispatchSeqOk (s : State) (d : DispatchBody) : Bool :=
  match s.dsp.last with
  | none => true
  | some l => decide ((d.seq - l.seq).toInt > 0)

/-- Dispatch is open: for a standby, by the duty's service state that it follows (R23, R510). -/
def State.dispatchTaken (s : State) : Bool :=
  if s.svc.role = 2 then decide (s.svc.state = .running) && !s.svc.appPaused else s.dispatchOpenNow

/-- The plant time that a command names, in nanoseconds (R509). -/
def dispatchAct (d : DispatchBody) : Nat := d.acts.toNat * 1000000000 + d.actn.toNat

/-- Nanoseconds from the arrival to ACT (R510). -/
def State.dispatchAhead (s : State) (d : DispatchBody) : Int := (dispatchAct d : Int) - (s.plantNs : Int)

/-- Checks 2 to 10 in their order; 0 for a command that passes (R510). -/
def State.dispatchVerdict (s : State) (d : DispatchBody) : Nat :=
  if d.blen ≠ 28 then 5
  else if !d.reservedZero || d.actn.toNat > 999999999 || fpIsNan d.iset || fpIsInf d.iset then 0x15
  else if d.string.toNat ≠ s.get Fld.FAB_STRING_STRING then 0x14
  else if s.dispatchRepeats d then 0
  else if !s.dispatchSeqOk d then 0x13
  else if !s.dispatchTaken then 0x10
  else if !s.on Fld.TIM_STATE_SYNC then 0x17
  else if !d.imm && decide (s.dispatchAhead d < 200000) then 0x11
  else if !d.imm && decide (s.dispatchAhead d > (max 1 (s.get Fld.FAB_DISP_MAXAHEAD) * 1000000000 : Nat)) then 0x12
  else if s.lpe.frames.length ≥ 8 then 0x16
  else 0

/-- An accepted command becomes a setpoint frame (R513). -/
def State.dispatchSubmit (s : State) (q : Req) (d : DispatchBody) : State :=
  let now := s.nowNat
  let act : Instant := if d.imm then s.now else BitVec.ofInt 64 ((now : Int) + s.dispatchAhead d)
  let f : SpFrame := ⟨d.imm, d.seq.toNat % 65536, act, d.iset, d.ramp, s.now⟩
  let noted := match q.origin with
    | .fabric _ => d.notify
    | _ => false
  let s := ({ s with lpe := { s.lpe with frames := s.lpe.frames ++ [f] } }).spShow
  let s := { s with dsp := { s.dsp with
    last := some d, lastAt := now
    notify := if noted then s.dsp.notify ++ [(d.seq.toNat % 65536, d.seq.toNat, q)] else s.dsp.notify } }
  (s.setWord Reg.FAB_DSTAT d.seq).latchFault Pg.FAB Flt.DISPATCH_LOST

/-- The verdict is counted and shown (`FAB_DCNT`, `FAB_DLAST`, R524). -/
def State.dispatchNote (s : State) (q : Req) (v : Nat) : State :=
  let s := (s.put Fld.FAB_DLAST_STATUS v).put Fld.FAB_DLAST_SRC (originNode q.origin)
  if v = 0 then (s.bump Fld.FAB_DCNT_ACCEPTED).irq Pg.FAB Irq.FAB_DISPATCH
  else (s.bump Fld.FAB_DCNT_REJECTED).irq Pg.FAB Irq.FAB_DREJECT

/-- A command that has come in is decided (R510 to R515). -/
def State.dispatchDecide (s : State) (q : Req) (d : DispatchBody) : SvcAns :=
  let v := if !s.appUp then 0x10 else if (s.roleOf q.origin).isNone then 6 else s.dispatchVerdict d
  let fresh := v = 0 && !s.dispatchRepeats d
  let body := s.dispatchBody d
  ((v, body), (if fresh then s.dispatchSubmit q d else s).dispatchNote q v)

/-- A standby holds its answers (R514). -/
def State.dispatchHold (s : State) (q : Req) (d : DispatchBody) : State :=
  let now := s.nowNat
  let x := s.dispatchDecide q d
  { x.2 with dsp := { x.2.dsp with held := x.2.dsp.held ++ [(q, now, x.1.1, x.1.2)] } }

/-- DISPATCH (R509 to R515); while the cluster is down the fabric hardware answers NOT_OPEN, the host NOT_READY. -/
def State.dispatchIn (s : State) (q : Req) (d : DispatchBody) : State :=
  let holds := decide (s.svc.role = 2) && s.appUp && s.domUp 9
  match q.origin with
  | .host =>
    if holds && s.domUp 2 then s.dispatchHold q d
    else s.arrive q 4 (fun s => if !s.appUp then ((3, []), s) else s.dispatchDecide q d)
  | .fabric _ =>
    if holds && q.authentic && requestClassOk q 4 then s.dispatchHold q d
    else s.arrive q 4 (fun s => s.dispatchDecide q d)
  | _ => s

/-- A setpoint frame of the module's own (R516). -/
def State.submitStop (s : State) : State :=
  let f : SpFrame := ⟨true, s.rd Reg.FAB_DSTAT % 65536, s.now, 0, fpOf (((max 1 (s.get Fld.LPE_SLEW_STOP) : Nat) : Rat) / 10), s.now⟩
  if s.lpe.frames.length ≥ 8 then (s.bump Fld.LPE_SPCNT_DISC).irq Pg.LPE Irq.LPE_SPDISC
  else ({ s with lpe := { s.lpe with frames := s.lpe.frames ++ [f] } }).spShow

/-- DISPATCH_LOST: no DISPATCH accepted for WDT in RUNNING (R516). -/
def State.dispatchLoss (s : State) : State :=
  let wdt := s.get Fld.FAB_DISP_WDT
  if wdt = 0 || decide (s.svc.state ≠ .running) || !s.appUp || decide (s.nowNat < s.dsp.lastAt + wdt * 1000000) then s else
  let s := (s.irq Pg.FAB Irq.FAB_DLOST).fault Pg.FAB Flt.DISPATCH_LOST 0
  match s.get Fld.FAB_DISP_ACTION with
  | 0 => s
  | 2 => s.haltString.2
  | _ => s.submitStop

/-- A notice over the fabric, class 1 (R502, R517, R518). -/
def State.notice (s : State) (svc token dst : Nat) (body : List Byte) : State :=
  s.routeFrame (s.mkFrame 1 4 dst (messageBytes svc token 0xC0 0 body)) none

/-- STRING_REPORT to the valid subscribers (R518). -/
def State.sendReport (s : State) : State :=
  if !s.fabRuns || !s.appUp || !s.recoveryServes 6 then s else
  let body := beBytes 2 s.fab.reportSeq ++ beBytes 4 s.sstate ++ beBytes 2 (s.get Fld.EST_USOC_USOC) ++ beBytes 2 (s.get Fld.EST_USOC_UT) ++
    beBytes 2 (s.get Fld.EST_SLIM_Lchg) ++ beBytes 2 (s.get Fld.EST_SLIM_Ldis) ++ beBytes 2 (s.get Fld.LPE_LIMNOW_Lchg) ++
    beBytes 2 (s.get Fld.LPE_LIMNOW_Ldis) ++ beBytes 2 (s.get Fld.EST_UCAP_D) ++ beBytes 2 (s.get Fld.EST_UCAP_C) ++
    beBytes 4 (s.inWord 4).toNat ++ beBytes 4 (s.rd Reg.FAB_DSTAT) ++ beBytes 1 (s.get Fld.FLT_NSTAND_ACTIVE) ++
    beBytes 1 (s.get Fld.FLT_NSTAND_LATCHED) ++ plantBytes s.plantNs ++ beBytes 2 0
  let s := { s with fab := { s.fab with reportSeq := (s.fab.reportSeq + 1) % 65536 } }
  let s := if s.on Fld.FAB_REPDST_V0 then s.notice 6 0 (s.get Fld.FAB_REPDST_SUB0) body else s
  if s.on Fld.FAB_REPDST_V1 then s.notice 6 0 (s.get Fld.FAB_REPDST_SUB1) body else s

/-- DISPATCH_APPLIED for the commands whose frame a control sample has applied; `old` is the state before it (R517). -/
def State.appliedNotices (s old : State) : State :=
  let waits := fun (x : State) (n : Nat × Nat × Req) => x.lpe.frames.any (fun f => f.seq == n.1)
  let gone := s.dsp.notify.filter (fun n => !waits s n)
  let s := { s with dsp := { s.dsp with notify := s.dsp.notify.filter (waits s) } }
  let at_ := s.plantNs - (s.nowNat - old.lpe.sampleAt)
  gone.foldl (fun (s : State) n =>
    if waits old n && s.get Fld.LPE_SPSTAT_SEQ == n.1 && s.svc.role != 2 then
      s.notice 5 n.2.2.token.toNat (originNode n.2.2.origin) (beBytes 4 n.2.1 ++ plantBytes at_ ++ beBytes 2 0)
    else s) s

/-! ### Host sessions -/

/-- A session service is offered to the host alone (R504). -/
def State.sessionService (s : State) (q : Req) (svc : Nat) (f : State → SvcAns) : State :=
  s.arrive q svc (fun s =>
    match q.origin with
    | .host => if !s.appUp then ((3, []), s) else f s
    | _ => ((4, []), s))

/-- SESSION_CHALLENGE (R508). -/
def State.sessionChallenge (s : State) (q : Req) : State :=
  s.sessionService q 7 (fun s =>
    let x := s.drawNonce
    let now := s.nowNat
    ((0, beBytes 16 x.1.toNat), { x.2 with fab := { x.2.fab with challenge := some (x.1, now) } }))

/-- The key of a role; that of Sahric Service is fused (R508). -/
def State.roleKey (s : State) (r : Nat) : Option (BitVec 128) :=
  if r = 3 then some Config.serviceKey else (s.fab.roleKeys[r]?).getD none

/-- The TAG that opens a session on a challenge (R508). -/
def sessionTag (key challenge : BitVec 128) (role : Nat) : BitVec 128 :=
  gcmTag key (BitVec.ofNat 96 (challenge.toNat / 2 ^ 32))
    (beBytes 16 challenge.toNat ++ beBytes 1 role ++ beBytes 8 Config.moduleUid.toNat)

/-- A TAG opens a session: it verifies on the challenge that stands, issued within 10 s (R508). -/
def State.tagOpens (s : State) (key : BitVec 128) (role : Nat) (tag : BitVec 128) : Bool :=
  match s.fab.challenge with
  | none => false
  | some (c, t) => decide (s.nowNat ≤ t + 10000000000) && sessionTag key c role == tag

/-- SESSION_OPEN; one under a role's key uses the challenge up (R508). -/
def State.openSession (s : State) (role : Nat) (tag : BitVec 128) : SvcAns :=
  let good := decide (role ≤ s.get Fld.HST_CFG_MAXROLE) && ((s.roleKey role).all (fun key => s.tagOpens key role tag))
  let s := if (s.roleKey role).isSome then { s with fab := { s.fab with challenge := none } } else s
  if good then okBare (s.wr Reg.HST_ROLE role) else ((9, []), s)

/-- SESSION_OPEN by the host (R508). -/
def State.sessionOpen (s : State) (q : Req) (role : Nat) (tag : BitVec 128) : State :=
  s.sessionService q 8 (fun s => s.openSession role tag)

/-- SESSION_CLOSE (R508). -/
def State.sessionClose (s : State) (q : Req) : State := s.sessionService q 9 (fun s => okBare (s.wr Reg.HST_ROLE 0))

/-! ### Time, recorder, update and ageing services -/

/-- TIME_GET (R543). -/
def State.timeGetSvc (s : State) (q : Req) : State :=
  s.firmwareService q 0x100 0 (fun s =>
    ((0, beBytes 6 (clockSec s.tim.pt) ++ beBytes 4 (clockNs s.tim.pt) ++ beBytes 8 s.nowNat ++ beBytes 1 (s.rd Reg.TIM_STATE % 256) ++
      beBytes 1 0), s))

/-- TIME_SET (R544). -/
def State.timeSetSvc (s : State) (q : Req) (d mode sec ns : Nat) : State :=
  s.firmwareService q 0x101 1 (fun s =>
    let x := s.timeSet q.origin d mode sec ns
    match x.1 with
    | none => ((0x15, []), x.2)
    | some false => ((8, beBytes 4 s.sstate), x.2)
    | some true => okBare x.2)

/-- LOG_STATUS (R628). -/
def State.logStatusSvc (s : State) (q : Req) : State :=
  s.firmwareService q 0x200 0 (fun s =>
    let s := s.flushArriving
    ((0, beBytes 4 (s.statShown Pg.EVR) ++ s.logStatusBody.drop 4), s))

/-- LOG_READ (R628). -/
def State.logReadSvc (s : State) (q : Req) (area minsev fromSeq fromPcc : Nat) : State :=
  s.firmwareService q 0x201 0 (fun s =>
    let s := s.flushArriving
    match s.areaRecs area with
    | none => ((0x15, []), s)
    | some l => ((0, logReadBody l minsev fromSeq fromPcc), s))

/-- LOG_FREEZE (R619). -/
def State.logFreezeSvc (s : State) (q : Req) : State := s.firmwareService q 0x202 1 (fun s => okBare (s.evrCommand q.origin 1))

/-- LOG_RELEASE (R621). -/
def State.logReleaseSvc (s : State) (q : Req) : State := s.firmwareService q 0x203 1 (fun s => okBare (s.evrCommand q.origin 2))

/-- LOG_CLEAR (R622, R623). -/
def State.logClearSvc (s : State) (q : Req) (area : Nat) : State :=
  s.firmwareService q 0x204 0 (fun s =>
    if area > 1 then ((0x15, []), s)
    else if (s.roleOf q.origin).getD 0 < (if area = 1 then 3 else 1) then ((6, []), s)
    else if s.clearBusy then ((7, []), s)
    else
      let x := s.clearArea q.origin (area == 1)
      ((0, beBytes 4 x.2.1 ++ beBytes 4 x.2.2), x.1))

/-- LOG_MARK (R628). -/
def State.logMarkSvc (s : State) (q : Req) (text : List Byte) : State :=
  s.firmwareService q 0x205 0 (fun s =>
    if text.isEmpty || decide (text.length > 64) then ((5, []), s)
    else
      let x := s.makeMark text
      ((0, beBytes 4 x.2), x.1))

/-- UPD_STATUS (R681). -/
def State.updStatusSvc (s : State) (q : Req) : State :=
  s.firmwareService q 0x300 0 (fun s => ((0, s.updStatusBody), s.lockUsed q.origin))

/-- An update service of the Engineer role (R681). -/
def State.updService (s : State) (q : Req) (svc : Nat) (f : State → SvcAns) : State := s.firmwareService q svc 1 f

/-- UPD_LOAD (R673, R681). -/
def State.updLoadSvc (s : State) (q : Req) (kind : Nat) : State :=
  s.firmwareService q 0x309 1 (fun s => s.updLoad q.origin kind (s.roleOf q.origin == some 3))

/-- AGE_STATUS (R696). -/
def State.ageStatusSvc (s : State) (q : Req) : State := s.firmwareService q 0x500 0 (fun s => ((0, s.ageStatusBody), s))

/-- AGE_HISTORY (R696). -/
def State.ageHistorySvc (s : State) (q : Req) (i day : Nat) : State :=
  s.firmwareService q 0x501 0 (fun s => if i > 41 then ((0x15, []), s) else ((0, s.ageHistoryBody i day), s))

/-! ### Messages as bytes -/

/-- The DISPATCH body in bytes (R509). -/
def dispatchOf (b : List Byte) : DispatchBody :=
  let f := beAt b 6 1
  ⟨b.length, BitVec.ofNat 32 (beAt b 0 4), BitVec.ofNat 16 (beAt b 4 2), bitOf f 7, bitOf f 6,
    f % 64 == 0 && beAt b 7 1 == 0 && beAt b 26 2 == 0, BitVec.ofNat 48 (beAt b 8 6), BitVec.ofNat 32 (beAt b 14 4),
    BitVec.ofNat 32 (beAt b 18 4), BitVec.ofNat 32 (beAt b 22 4)⟩

/-- Words of a byte string. -/
def wordsOf (b : List Byte) : List Word := packWords (b.length / 4) b

/-- Body lengths that a service takes (R504 to R508, R543, R628, R681, R696); none for a code that is reserved. -/
def bodyFits (svc n : Nat) : Option Bool :=
  match svc with
  | 1 => some (n == 8)
  | 2 => some (decide (8 ≤ n) && n % 4 == 0)
  | 3 => some (n == 4)
  | 4 => some true
  | 7 => some (n == 0)
  | 8 => some (n == 20)
  | 9 => some (n == 0)
  | 0x100 => some (n == 0)
  | 0x101 => some (n == 16)
  | 0x200 => some (n == 0)
  | 0x201 => some (n == 12)
  | 0x202 => some (n == 0)
  | 0x203 => some (n == 0)
  | 0x204 => some (n == 4)
  | 0x205 => some (decide (1 ≤ n ∧ n ≤ 64))
  | 0x300 => some (n == 0)
  | 0x301 => some (n == 0)
  | 0x302 => some (n == 0)
  | 0x303 => some (decide (8 ≤ n))
  | 0x304 => some (n == 0)
  | 0x305 => some (n == 12)
  | 0x306 => some (n == 0)
  | 0x307 => some (n == 20)
  | 0x308 => some (n == 16)
  | 0x309 => some (n == 4)
  | 0x500 => some (n == 0)
  | 0x501 => some (n == 4)
  | _ => none

/-- The update services by their bytes (R681). -/
def State.serveUpd (s : State) (q : Req) (svc : Nat) (b : List Byte) : State :=
  let o := q.origin
  let lane := q.lane.val
  match svc with
  | 0x300 => s.updStatusSvc q
  | 0x301 => s.updService q svc (fun s => s.updClaim o)
  | 0x302 => s.updService q svc (fun s => s.updRelease o)
  | 0x303 => s.updService q svc (fun s =>
      if beAt b 4 2 + 8 ≠ b.length then ((5, []), s) else s.updWrite o lane (beAt b 0 4) (b.drop 8))
  | 0x304 => s.updService q svc (fun s => s.updVerify o)
  | 0x305 => s.updService q svc (fun s => s.updActivate o (bitOf (beAt b 0 1) 7) (beAt b 2 6) (beAt b 8 4))
  | 0x306 => s.updService q svc (fun s => s.updDiscard o)
  | 0x307 => s.neighbourService q svc (fun s => s.updOffer o lane (beAt b 0 8) (beAt b 16 4))
  | 0x308 => s.neighbourService q svc (fun s => s.updFetch o lane (beAt b 0 8) (beAt b 8 4) (beAt b 12 2))
  | _ => s.updLoadSvc q (beAt b 0 1)

/-- The other services by their bytes. -/
def State.serveBody (s : State) (door : Door) (q : Req) (svc : Nat) (b : List Byte) : State :=
  match svc with
  | 1 => s.regRead q (beAt b 0 4) (beAt b 4 1)
  | 2 => s.regWrite door q (beAt b 0 4) (beAt b 4 1) (wordsOf (b.drop 8))
  | 3 => s.stringCommand q (beAt b 0 1)
  | 4 => s.dispatchIn q (dispatchOf b)
  | 7 => s.sessionChallenge q
  | 8 => s.sessionOpen q (beAt b 0 1) (BitVec.ofNat 128 (beAt b 4 16))
  | 9 => s.sessionClose q
  | 0x100 => s.timeGetSvc q
  | 0x101 => s.timeSetSvc q (beAt b 0 1) (beAt b 1 1) (beAt b 4 6) (beAt b 10 4)
  | 0x200 => s.logStatusSvc q
  | 0x201 => s.logReadSvc q (beAt b 0 1) (beAt b 1 1) (beAt b 4 4) (beAt b 8 4)
  | 0x202 => s.logFreezeSvc q
  | 0x203 => s.logReleaseSvc q
  | 0x204 => s.logClearSvc q (beAt b 0 1)
  | 0x205 => s.logMarkSvc q b
  | 0x500 => s.ageStatusSvc q
  | 0x501 => s.ageHistorySvc q (beAt b 0 1) (beAt b 2 2)
  | _ => s.serveUpd q svc b

/-- A request is served by its bytes (R502 to R504). -/
def State.serveRequest (s : State) (door : Door) (q : Req) (svc : Nat) (b : List Byte) : State :=
  match bodyFits svc b.length with
  | none => s.arrive q svc (fun s => ((4, []), s))
  | some false => s.arrive q svc (fun s => ((5, []), s))
  | some true => s.serveBody door q svc b

/-- A SERVICE frame for this module: a request, or the answer to its own UPD_FETCH (R502, R677). -/
def State.serveFrame (s : State) (door : Door) (lane : Fin 5) (f : FabFrame) : State :=
  let m := f.payload
  let svc := beAt m 0 2
  let b := m.drop 8
  let flag := beAt m 4 1
  if m.length < 8 || decide (m.length > 1024) || beAt m 6 2 != b.length then s.laneDiscard lane.val (Reg.FP_CNT_DISC lane.val)
  else if bitOf flag 7 then
    (if svc = 0x308 ∧ beAt m 5 1 = 0 then s.fetchIn lane.val (beAt b 0 4) (b.drop 8) else s.dropFrame lane.val)
  else if flag ≠ 0 then s.laneDiscard lane.val (Reg.FP_CNT_DISC lane.val)
  else s.serveRequest door ⟨.fabric f.src, BitVec.ofNat 16 (beAt m 2 2), f.cls, lane, true⟩ svc b

/-! ### The host's service buffer -/

/-- Bytes of `HST_SREQ`. -/
def State.requestBytes (s : State) (n : Nat) : List Byte :=
  ((List.range ((n + 3) / 4)).flatMap (fun k => beBytes 4 (s.rd (Reg.HST_SREQ k)))).take n

/-- A submission through `HST_SDOOR` (R63). -/
def State.submitBy (door : Door) (s : State) (v : Nat) : State :=
  let len := v % 2048
  let head := s.requestBytes 8
  let svc := beAt head 0 2
  let q : Req := ⟨.host, BitVec.ofNat 16 (beAt head 2 2), BitVec.ofNat 2 (svcClass svc), 0, true⟩
  if len < 8 ∨ 1024 < len ∨ len ≠ 8 + beAt head 6 2 then s.respond q svc 5 []
  else if beAt head 4 1 ≠ 0 then s.arrive q svc (fun s => ((4, []), s))
  else s.serveRequest door q svc ((s.requestBytes len).drop 8)

/-- The host's submission; a submission that a served REG_WRITE makes is not taken (R63; log 21). -/
def hostDoor : Door := State.submitBy closedDoor

/-! ### The host port -/

/-- An opcode that writes. -/
def writesOpcode (op : Nat) : Bool := op == 2 || op == 3

/-- Bytes of a request ahead of its CRC (R57). -/
def requestText (op count : Byte) (a : Addr) (data : List Word) : List Byte :=
  [op, count] ++ beBytes 4 a.toNat ++ data.flatMap (fun w => beBytes 4 w.toNat)

/-- The request stands as R57 frames it and its CRC is right. -/
def requestOk (op count : Byte) (a : Addr) (data : List Word) (crc : Word) : Bool :=
  decide (data.length = if writesOpcode op.toNat then count.toNat + 1 else 0) && crc32c (requestText op count a data) == crc

/-- A checked request is carried out: its response (R57 to R61). DESIGN CHOICE (log 8): a reserved opcode with a COUNT above 63
is answered BAD_OPCODE, for the spec gives no order between the two. -/
def State.hostAccess (s : State) (op count a : Nat) (data : List Word) : ReadResponse × Nat × State :=
  if !(writesOpcode op || op == 0x0B || op == 0x0C || op == 0x0E) then (⟨4, []⟩, 0, s)
  else if count > 63 then (⟨5, []⟩, 0, s)
  else if op = 0x0E then (s.acc.lastRead, s.acc.lastRead.data.length, s)
  else if writesOpcode op then
    let x := s.writeBurst hostDoor .host a (op == 3) data
    (⟨accessStatus x.2.1, []⟩, x.1, x.2.2)
  else
    let x := s.readBurst .host a (count + 1) (op == 0x0C)
    let r : ReadResponse := ⟨accessStatus x.1, x.2.1⟩
    (r, x.2.1.length, { x.2.2 with acc := { x.2.2.acc with lastRead := r } })

/-- A whole request at the host port: its response and the state after (R57 to R61). -/
def State.hostRequest (s : State) (op count : Byte) (a : Addr) (data : List Word) (crc : Word) : ReadResponse × Nat × State :=
  if requestOk op count a data crc then s.hostAccess op.toNat count.toNat a.toNat data
  else (⟨1, []⟩, 0, (s.bump (whole Reg.HST_CRCERR)).rejectAt Pg.HST 0xB .host (writesOpcode op.toNat) a.toNat 0)

/-- The host port is out of reset (R24). -/
def State.hostUp (s : State) : Bool := s.domUp 2 && s.domUp 9

/-- The response on the wires: status, count, data and the CRC-32C over them (R57). -/
def hostResponse (status count : Nat) (data : List Word) : Out :=
  .hostResponse status count data (crc32c (beBytes 1 status ++ beBytes 1 count ++ data.flatMap (fun w => beBytes 4 w.toNat)))

/-- A request with its response on the wires (R57, R58). -/
def State.hostTransaction (s : State) (op count : Byte) (a : Addr) (data : List Word) (crc : Word) : State :=
  if !s.hostUp then s else
  let x := s.hostRequest op count a data crc
  x.2.2.emit (hostResponse x.1.status x.2.1 x.1.data)

/-- HOST_TRANSACTION_CUT: a request cut after its CRC has its effect, and its response is lost (R61). -/
def State.hostCut (s : State) (r : Option HostReq) : State :=
  if !s.hostUp then s else
  let s := s.bump (whole Reg.HST_ABORT)
  match r with
  | none => s
  | some r => (s.hostRequest r.opcode r.count r.addr r.data r.crc).2.2

/-! ### Mirrored writes -/

/-- A MIRROR write; one refused with NOT_READY is repeated at each Toll (R53, R594). -/
def State.mirrorIn (s : State) (a : Nat) (v : Word) : State :=
  if !s.ens Pg.TWN || s.laneState 4 != 3 then s else
  let x := s.busWrite .twin a v.toNat
  if x.1 = 0xA then x.2.modTwn (fun t => { t with refused := t.refused ++ [(a, v)] }) else x.2

/-- The refused mirror writes are made again (R53). -/
def State.mirrorAgain (s : State) : State :=
  let l := s.twn.refused
  l.foldl (fun (s : State) e => s.mirrorIn e.1 e.2) (s.modTwn (fun t => { t with refused := [] }))

end Sys2Proof.Machine
end

