-- ==== Sys2Proof/Machine/Operands.lean ====
section
/-! DEFINITION. How commands carry their operands: register writes and reads of an origin, and the addresses and codes that
operands stand for. -/

namespace Sys2Proof.Machine

/-- What a command answers. -/
abbrev Outcome := Host.Outcome State Fault Refusal

/-- A plain write of a register by an origin (R39 to R54). -/
def State.busCommand (s : State) (o : Origin) (a v : Nat) : State := (s.busWriteBy false hostDoor o a v).2

/-- A command that is the write of a register by an origin, together with the boundary at which the block applies it (R39 to
R54; log 8). -/
def State.command (s : State) (o : Origin) (a v : Nat) : State := (s.busWriteBy true hostDoor o a v).2

/-- A command that is the write of a register, with the effect that its operands give it. -/
def State.commandAs (s : State) (o : Origin) (a v : Nat) (f : State → State) : State :=
  let c := s.writeVerdict o a v
  if c = 0 then f s else s.reject c o true a v

/-- A command that is the read of a register by an origin; a read that is accepted returns its value, and one outside every page
and window, or of a queue's data by another than its reader, returns 0 (R31, R33, R49, R152). -/
def State.readBy (s : State) (o : Origin) (a : Nat) : State :=
  let x := s.busRead o a
  if x.1 = 0 ∨ x.1 = 1 ∨ (queDataAt a).isSome then x.2.2.emit (.word o a x.2.1) else x.2.2

/-- The south side. -/
def isSouth : Side → Bool
  | .north => false
  | .south => true

/-- Channel A is 0, channel B is 1. -/
def chanIdx : Chan → Nat
  | .a => 0
  | .b => 1

/-- Code of a failed self-check (`SFI_FAULT.CAUSE`, R454). -/
def causeCode : IslandCause → Nat
  | .lockstep => 1
  | .clock => 2
  | .ecc => 3
  | .watchdog => 4
  | .supply => 5
  | .program => 6
  | .selftest => 7

/-- Highest word of a link-key slot, whose write installs the key (R485). -/
def linkKeyTop (lane slot : Nat) : Nat := if slot = 0 then Reg.FP_KEY0 lane 3 else Reg.FP_KEY1 lane 3

/-- Highest word of a role key (R508). -/
def roleKeyTop (role : Nat) : Nat := 0x80100 + 16 * (role - 1) + 12

/-- Control register of a launch slot (R548). -/
def slotCtl : SlotKind → Nat → Nat
  | .fabricSlot, k => Reg.TIM_FLCTL k
  | .canSlot, k => Reg.TIM_CLCTL k

/-- The word whose read latches a time (R552). -/
def timeReadAddr : TimeRead → Nat
  | .plant => Reg.TIM_PTSH
  | .p0 => Reg.TIM_P0SH
  | .domain d => Reg.TIM_DTSH d.val

end Sys2Proof.Machine
end

