-- ==== Sys2Proof/Machine/Flags.lean ====
section
/-! DEFINITION. Conditions under which an event acts, and the events that several blocks answer together. -/

namespace Sys2Proof.Machine

/-- An event of a block acts only while its reset domain runs; one of a domain behind SYS needs SYS as well (R633, R637). -/
def State.upIn (s : State) (d : Nat) (f : State → State) : State :=
  if s.domUp d && (d == 1 || s.domUp 2) then f s else s

/-- An event of a page's block acts while its domain runs. -/
def State.pageUp (s : State) (p : Nat) (f : State → State) : State := s.upIn (pageDomain p) f

/-- The boundary of a page; on a CAN page it is an idle bus, where arbitration starts (R39, R573). -/
def State.boundaryOf (s : State) (p part : Nat) : State :=
  let t := s.boundary_ p part
  if p = Pg.CNA then t.canArbitrate 0 else if p = Pg.CNB then t.canArbitrate 1 else t

/-- A PDU comes over a network that runs: the fabric for 0, a CAN controller for 1 and 2 (R466, R467). -/
def State.networkUp (s : State) (net : Nat) (f : State → State) : State :=
  if net = 0 then s.upIn 9 f else if net ≤ 2 then s.upIn 8 f else s

/-- What the island hands over leaves while SYS runs (R467). -/
def State.safetyOut (s : State) : State := if s.domUp 2 then s.drainScl else s

/-- Both ports have aligned: the links stand and enumeration begins (R93, R121). -/
def State.portsTrained (s : State) (r : Nat) : State :=
  if s.mode r = 1 then (s.modRing r (fun g => { g with linkN := true, linkS := true })).beginEnum r else s

/-- A cell scan period begins (R122, R164, R240, R602). -/
def State.scanTickAll (s : State) : State :=
  let t := s.passMastership.scanTick.chmTick
  (t.balTick t.chm.pend.isSome).startHeals

/-- A scan's publication with what is checked on it (R130, R187, R242, R386). -/
def State.scanPublished (s : State) (deadline : Bool) : State :=
  if s.scanReady deadline then s.balMismatch.publishScan.chmScan.cellProtect else s

/-- The period of learned-data write-backs is over (R224). -/
def State.writebackDue (s : State) : State := if s.appUp then s.startWriteback else s

/-- A control sample, with its SAMPLE to the partner, its notices and the conditions of R597 (R328, R517, R591). -/
def State.sampleDone (s : State) : State :=
  let t := s.controlSample
  let t := if s.sampleReady then t.sampleOut.appliedNotices s else t
  let now := t.nowNat
  let t := if t.standing Flt.LOOP_NAN = 1 then t.modTwn (fun x => { x with nanAt := some now }) else t
  t.surrender

/-- The TOLL that a payload holds behind its kind (R592). -/
def tollOf (b : List Byte) : TollMsg :=
  ⟨BitVec.ofNat 32 (beAt b 0 4), bitOf (beAt b 4 1) 0, BitVec.ofNat 2 (beAt b 4 1 / 2), b.getD 5 0, b.getD 6 0, BitVec.ofNat 32 (beAt b 8 4),
    BitVec.ofNat 32 (beAt b 12 4), BitVec.ofNat 16 (beAt b 16 2), BitVec.ofNat 16 (beAt b 18 2), BitVec.ofNat 32 (beAt b 20 4)⟩

/-- The SAMPLE that a payload holds behind its kind (R591). -/
def sampleOf (b : List Byte) : SampleMsg :=
  ⟨BitVec.ofNat 64 (beAt b 0 8), BitVec.ofNat 32 (beAt b 8 4), (List.range 8).map (fun k => BitVec.ofNat 16 (beAt b (12 + 2 * k) 2)),
    BitVec.ofNat 32 (beAt b 28 4), BitVec.ofNat 32 (beAt b 32 4), (List.range 9).map (fun k => BitVec.ofNat 32 (beAt b (36 + 4 * k) 4))⟩

/-- A frame of the TWIN lane by its kind; a reserved kind is discarded (R13, R590). STATE, RELAY and LOG, whose layout is open, come
as commands of their own (log 17). -/
def State.twinFrame (s : State) (lane : Nat) (f : FabFrame) : State :=
  let b := f.payload.drop 1
  let kind := beAt f.payload 0 1
  if f.type.toNat ≠ 7 then s
  else if kind = 0 ∨ 7 < kind ∨ frameCls f ≠ twinClass kind then s.laneDiscard lane (Reg.FP_CNT_DISC lane)
  else if kind = 1 then (s.tollIn (tollOf b)).mirrorAgain
  else if kind = 2 then s.sampleIn_ (sampleOf b)
  else if kind = 3 then
    (if beAt b 0 1 = 0 then s.handoverAsked else if beAt b 0 1 = 1 then s.announced (beAt b 1 8) else s.acknowledged (beAt b 1 8))
  else if kind = 4 then s.mirrorIn (beAt b 0 4) (BitVec.ofNat 32 (beAt b 4 4))
  else s

/-- A frame in transit or for this module (R491, R492, R502, R590). -/
def State.forwardFrame (s : State) (lane : Fin 5) (f : FabFrame) : State :=
  match s.receive lane.val f with
  | (s, false) => s
  | (s, true) =>
    let src := srcOf lane.val f
    if lane.val = 4 then (s.twinFrame 4 f).freeBlocks src
    else if f.dst.toNat ≠ s.ownAddr then s.transit lane.val f
    else if s.conflicted s.ownAddr then (s.laneDiscard lane.val (Reg.FP_CNT_DISC lane.val)).freeBlocks src
    else if f.type.toNat = 4 then (s.serveFrame hostDoor lane f).freeBlocks src
    else if f.type.toNat = 6 then ((s.sclArrive f.payload).safetyOut).freeBlocks src
    else (s.laneDiscard lane.val (Reg.FP_CNT_DISC lane.val)).freeBlocks src

/-- DBGACC: one access of an open session; the capture that leaves is that of the access before (R720). -/
def State.dbgAccess (s : State) (wr : Bool) (a v : Nat) : State :=
  let s := s.setIr 0x11
  if !s.on Fld.DBG_SESSION_ACTIVE then s else
  let s := s.emit (.tap s.dbg.capture)
  if wr then
    let x := s.busWriteBy false hostDoor .debug a v
    x.2.modDbg (fun d => { d with capture := if x.1 = 0 then 0 else x.2.rd (Reg.erra ((ownerPage a).getD Pg.DEV)) })
  else
    let x := s.busRead .debug a
    x.2.2.modDbg (fun d => { d with capture := if x.1 = 0 then x.2.1.toNat else x.2.2.rd (Reg.erra ((ownerPage a).getD Pg.DEV)) })

end Sys2Proof.Machine
end

