-- ==== Sys2Proof/Machine/CmdAccess.lean ====
section
/-! DEFINITION. Meanings of the commands: Register access, the host port and the register services. -/

namespace Sys2Proof.Machine

/-- A write to a register that has no row of its own, checked for role, lock, class and claim, and applied by field
class (R39). -/
def execRegisterWrite (o : Origin) (a : Addr) (v : Word) (s : State) : Outcome :=
  done (s.busCommand o a.toNat v.toNat)

/-- At the block's natural boundary, a pending class L write takes effect; on SRQ the boundary is one of a queue (R39). -/
def execBoundaryApply (b : BoundaryOf) (s : State) : Outcome :=
  done (s.pageUp b.page.val (fun s => s.boundaryOf b.page.val b.part.val))

/-- A write of COMMIT.GO sets CPEND, so that the shadow is applied at the next boundary (R45). -/
def execCommitGo (o : Origin) (p : Fin 41) (s : State) : Outcome :=
  done (s.command o (Reg.commit p.val) 1)

/-- A write of COMMIT.DISCARD returns every shadow value to its active value and ends the claim (R45). -/
def execCommitDiscard (o : Origin) (p : Fin 41) (s : State) : Outcome :=
  done (s.command o (Reg.commit p.val) 2)

/-- At the boundary after GO, all shadowed fields of the page take their shadow values in one step; CPEND clears and the
claim ends (R45). -/
def execCommitApply (p : Fin 41) (s : State) : Outcome :=
  done (s.pageUp p.val (fun s => s.commitDue p.val))

/-- A claim left unused for 1 s is discarded and an audit record of kind SHADOW_LAPSE is made (R47). -/
def execShadowLapse (p : Fin 41) (s : State) : Outcome :=
  done (s.pageUp p.val (fun s => s.claimLapses p.val))

/-- A LOCK write with the key and LOCKED 1 locks the page (R51). -/
def execLockPage (o : Origin) (p : Fin 41) (s : State) : Outcome :=
  done (s.command o (Reg.lock p.val) 0xA5C30001)

/-- A LOCK write with the key and LOCKED 0 unlocks the page (R51). -/
def execUnlockPage (o : Origin) (p : Fin 41) (s : State) : Outcome :=
  done (s.command o (Reg.lock p.val) 0xA5C30000)

/-- Writing 1 to IRQS bits clears them in IRQR, unless an event of the same bit falls in the same cycle (R38). -/
def execIrqsClear (o : Origin) (p : Fin 41) (bits : Word) (s : State) : Outcome :=
  done (s.command o (Reg.irqs p.val) bits.toNat)

/-- Writing 1 to ERRA.VALID clears the page's error register (R54). -/
def execErraClear (o : Origin) (p : Fin 41) (s : State) : Outcome :=
  done (s.command o (Reg.erra p.val) 0x80000000)

/-- At the end of a second of identical rejections, one SUMMARY record gives their count (R55). -/
def execAuditSummary (o : Origin) (code : BitVec 4) (a : Addr) (s : State) : Outcome :=
  done (s.upIn 2 (fun s => s.runSummary code.toNat o a.toNat))

/-- A read of the lower word of a 64-bit quantity latches bits [31:0] for the reading origin (R34). -/
def execWordPairRead (o : Origin) (a : Addr) (s : State) : Outcome :=
  done (s.readBy o a.toNat)

/-- Host opcode 0x02 writes COUNT + 1 words at incrementing addresses after the CRC check (R57). -/
def execWriteIncrementing (count : Byte) (a : Addr) (data : List Word) (crc : Word) (s : State) : Outcome :=
  done (s.hostTransaction 0x02 count a data crc)

/-- Host opcode 0x03 writes COUNT + 1 words to one address (R57). -/
def execWriteFixed (count : Byte) (a : Addr) (data : List Word) (crc : Word) (s : State) : Outcome :=
  done (s.hostTransaction 0x03 count a data crc)

/-- Host opcode 0x0B reads COUNT + 1 words at incrementing addresses (R57). -/
def execReadIncrementing (count : Byte) (a : Addr) (crc : Word) (s : State) : Outcome :=
  done (s.hostTransaction 0x0B count a [] crc)

/-- Host opcode 0x0C reads COUNT + 1 words from one address (R57). -/
def execReadFixed (count : Byte) (a : Addr) (crc : Word) (s : State) : Outcome :=
  done (s.hostTransaction 0x0C count a [] crc)

/-- Host opcode 0x0E returns the last read response unchanged, without a new access (R61); a reserved opcode in its place is
answered BAD_OPCODE (R57). -/
def execResendLastRead (head : ResendHead) (a : Addr) (crc : Word) (s : State) : Outcome :=
  done (s.hostTransaction (head.reserved.getD 0x0E) head.count a [] crc)

/-- HOST_CS_N rising early ends a host transaction; HST_ABORT is incremented (R61). -/
def execHostTransactionCut (afterCrc : Option HostReq) (s : State) : Outcome :=
  done (s.hostCut afterCrc)

/-- A write of HST_SDOOR submits the service message in HST_SREQ, or answers BAD_LENGTH when it is not well formed
(R63). -/
def execHostServiceSubmit (o : Origin) (v : Word) (s : State) : Outcome :=
  done (s.command o Reg.HST_SDOOR v.toNat)

/-- Authenticated management service that reads registers with the semantics of host opcode 0x0B (R64). -/
def execRegRead (q : Req) (a : Addr) (count : Byte) (s : State) : Outcome :=
  done (s.regRead q a.toNat count.toNat)

/-- Authenticated management service that writes registers with the semantics of host opcode 0x02 (R64). -/
def execRegWrite (q : Req) (a : Addr) (count : Byte) (data : List Word) (s : State) : Outcome :=
  done (s.regWrite hostDoor q a.toNat count.toNat data)

end Sys2Proof.Machine
end

