-- ==== Sys2Proof/Machine/CmdAdc.lean ====
section
/-! DEFINITION. Meanings of the commands: Acquisition. -/

namespace Sys2Proof.Machine

/-- Setting ADC_CTRL.EN checks the configuration and proceeds through WAITREF and CALIB, or enters HALTED (R310). -/
def execAdcEnable (o : Origin) (s : State) : Outcome :=
  done (s.command o (Reg.ctrl Pg.ADC) 1)

/-- A write of ADC_CTRL.EN 0 is ignored while any phase switches; otherwise the block stops (R320). -/
def execAdcDisable (o : Origin) (s : State) : Outcome :=
  done (s.command o (Reg.ctrl Pg.ADC) 0)

/-- Every ADC_REGPER, each converter starts its regular sequence, or defers it and counts REGLATE (R306). -/
def execRegularSequence (conv : Fin 4) (s : State) : Outcome :=
  done (s.upIn 4 (fun s => s.regularStart conv.val))

/-- A conversion completes and its stamped result passes to the loop engine, protection, charge accumulators and other
consumers (R305). -/
def execConversionDone (conv : Fin 4) (input : Fin 24) (nanovolts : Int) (injected : Bool) (at_ : Instant) (s : State) : Outcome :=
  done (s.upIn 4 (fun s => s.converted conv.val input.val nanovolts injected at_))

/-- Every 1 ms, the reference is compared with the diverse bandgap and REFOK is updated (R313). -/
def execReferenceCheck (sample : RefSample) (s : State) : Outcome :=
  done (s.upIn 4 (fun s => s.refCheck sample))

/-- REFOK is not 1 within TMO of EN; ADC_REF is raised and the block proceeds to calibration (R313). -/
def execReferenceTimeout (s : State) : Outcome :=
  done (s.upIn 4 State.refTimeout)

/-- A periodic self-calibration of the next converter falls due and starts, or waits for the running one (R316). -/
def execCalibrationDue (s : State) : Outcome :=
  done (s.upIn 4 State.calDue)

/-- A self-calibration ends and replaces the converter's gain, offset and time (R314). -/
def execCalibrationDone (conv : Fin 4) (gain : Word) (offs : BitVec 16) (s : State) : Outcome :=
  done (s.upIn 4 (fun s => s.calEnd conv.val gain offs.toNat))

/-- ADC command that calibrates converter CONV (R325). -/
def execCalibrate (o : Origin) (conv : Fin 4) (s : State) : Outcome :=
  done (s.command o Reg.ADC_CMD (1 + 256 * conv.val))

/-- ADC command that sets ADC_CNT and ADC_KSTAT.RUN to 0 (R325). -/
def execAdcClearCounts (o : Origin) (s : State) : Outcome :=
  done (s.command o Reg.ADC_CMD 2)

/-- At the end of each 1 ms interval, the current imbalance is checked and KFAIL is updated (R323). -/
def execKirchhoffInterval (s : State) : Outcome :=
  done (s.upIn 4 State.kirchhoff)

end Sys2Proof.Machine
end

