-- ==== Sys2Proof/Machine/CmdAge.lean ====
section
/-! DEFINITION. Meanings of the commands: Ageing. -/

namespace Sys2Proof.Machine

/-- At its cadence, a margin's wear quantity is measured (R686). -/
def execMarginMeasurement (i : Fin 42) (value : Word) (s : State) : Outcome :=
  done (s.upIn 2 (fun s => s.measure i.val value))

/-- Every 24 h, margins are sampled, re-planned, predicted and recorded (R687). -/
def execMarginEvaluation (s : State) : Outcome :=
  done (s.upIn 2 State.evaluateAge)

/-- Ageing command that evaluates every margin now (R698). -/
def execEvaluate (o : Origin) (s : State) : Outcome :=
  done (s.command o Reg.AGE_CMD 1)

/-- Ageing command that resets the baselines of pair PAIR (R692). -/
def execCtkReplaced (o : Origin) (pair : BitVec 4) (s : State) : Outcome :=
  done (s.command o Reg.AGE_CMD (2 + 256 * pair.toNat))

/-- A new comparator trim is applied at the first cycle with LEVEL 0 (R690). -/
def execComparatorTrim (n : Fin 12) (s : State) : Outcome :=
  done (s.upIn 2 (fun s => s.applyTrim n.val))

/-- Every 7 days, MRAM blocks are read and refreshed where errors were corrected (R693). -/
def execMramRefresh (blocks : List RefreshBlock) (s : State) : Outcome :=
  done (s.upIn 2 (fun s => s.mramPass blocks))

/-- Every 30 days, NOR blocks are margin-read and refreshed through a scratch copy (R694). -/
def execNorRefresh (blocks : List RefreshBlock) (s : State) : Outcome :=
  done (s.upIn 2 (fun s => s.norPass blocks))

/-- Ageing service that returns AGE_SUM, AGE_NEXT, AGE_EVAL and the value, state and run-out of every margin (R696). -/
def execAgeStatus (q : Req) (s : State) : Outcome :=
  done (s.ageStatusSvc q)

/-- Ageing service that returns up to 500 daily samples of one margin from a given day (R696). -/
def execAgeHistory (q : Req) (index : Byte) (fromDay : BitVec 16) (s : State) : Outcome :=
  done (s.ageHistorySvc q index.toNat fromDay.toNat)

end Sys2Proof.Machine
end

