-- ==== Sys2Proof/Machine/CmdCan.lean ====
section
/-! DEFINITION. Meanings of the commands: CAN. -/

namespace Sys2Proof.Machine

/-- Setting CNx_CTRL.EN checks the bit timing and starts integration, or stays DISABLED (R562). -/
def execCanEnable (o : Origin) (x : Fin 2) (s : State) : Outcome :=
  done (s.command o (Reg.ctrl (Pg.CNA + x.val)) 1)

/-- After 11 recessive bits, the controller joins the bus (R559). -/
def execCanIntegrated (x : Fin 2) (s : State) : Outcome :=
  done (s.upIn 8 (fun s => s.canJoin x.val))

/-- A received data frame is stored in the first matching receive object, or discarded (R567). -/
def execCanFrameReceive (x : Fin 2) (f : CanFrame) (s : State) : Outcome :=
  done (s.upIn 8 (fun s => s.canFrameIn x.val f))

/-- A received remote frame is acknowledged, stored nowhere and counted (R557). -/
def execCanRemoteFrame (x : Fin 2) (s : State) : Outcome :=
  done (s.upIn 8 (fun s => s.canRemoteIn x.val))

/-- A write of TXRQ 1 requests the sending of an object (R568). -/
def execTransmitRequest (o : Origin) (x : Fin 2) (obj : Fin 128) (v : Word) (s : State) : Outcome :=
  done (s.command o (objAddr x.val obj.val 3) (putBit v.toNat 31 true))

/-- A write of TXRQ 0 aborts an object's request (R563). -/
def execTransmitWithdraw (o : Origin) (x : Fin 2) (obj : Fin 128) (v : Word) (s : State) : Outcome :=
  done (s.command o (objAddr x.val obj.val 3) (putBit v.toNat 31 false))

/-- An object is sent without error; TXOK is set and TXRQ clears (R568). -/
def execCanTransmitDone (x : Fin 2) (obj : Fin 128) (sent : CanSent) (s : State) : Outcome :=
  done (s.upIn 8 (fun s => s.canSent x.val obj.val sent.sof.toNat sent.loopNs))

/-- A detected bus error changes the error counters and the fault-confinement state (R573). -/
def execCanError (x : Fin 2) (e : CanErr) (sending : Option (Fin 128)) (dataPhase : Bool) (heavy : Bool) (s : State) : Outcome :=
  done (s.upIn 8 (fun s => s.canErrorIn x.val e (sending.map (fun o => o.val)) dataPhase heavy))

/-- 128 occurrences of 11 recessive bits end recovery, with the kept object first (R574). -/
def execBusOffRecovered (x : Fin 2) (s : State) : Outcome :=
  done (s.upIn 8 (fun s => s.canRecovered x.val))

/-- A request is handed to the other controller or the fabric when its target becomes available (R577). -/
def execFailover (x : Fin 2) (obj : Fin 128) (s : State) : Outcome :=
  done (s.upIn 8 (fun s => s.failoverObj x.val obj.val))

/-- Firmware serves a receive interrupt and writes MONO into the object's STAMP (R569). -/
def execReceiveStamp (x : Fin 2) (obj : Fin 128) (s : State) : Outcome :=
  done (s.upIn 8 (fun s => s.stampObj x.val obj.val))

/-- A receive interrupt pending longer than 20 µs sets STAMPQ (R569). -/
def execStampLate (x : Fin 2) (obj : Fin 128) (s : State) : Outcome :=
  done (s.upIn 8 (fun s => s.stampLateObj x.val obj.val))

/-- At each multiple of PER, the reference object is requested with the previous SOF instant (R570). -/
def execReferenceMessage (x : Fin 2) (s : State) : Outcome :=
  done (s.upIn 8 (fun s => s.refRequest x.val))

/-- CAN command that starts bus-off recovery (R580). -/
def execRecover (o : Origin) (x : Fin 2) (s : State) : Outcome :=
  done (s.command o (Reg.CN_CMD x.val) 1)

/-- CAN command RELEASE that ends the collision hold of object OBJ (R580). -/
def execCanRelease (o : Origin) (x : Fin 2) (obj : Fin 128) (s : State) : Outcome :=
  done (s.command o (Reg.CN_CMD x.val) (2 + 256 * obj.val))

/-- CAN command ABORT that clears TXRQ of object OBJ unless TXBUSY (R580). -/
def execCanAbort (o : Origin) (x : Fin 2) (obj : Fin 128) (s : State) : Outcome :=
  done (s.command o (Reg.CN_CMD x.val) (3 + 256 * obj.val))

/-- CAN command that sets CNx_CNT and CNx_ECNT to 0 (R580). -/
def execCanClearCounts (o : Origin) (x : Fin 2) (s : State) : Outcome :=
  done (s.command o (Reg.CN_CMD x.val) 4)

/-- A read of word 3 of an object latches its words for the reading origin (R566). -/
def execCanObjectRead (o : Origin) (x : Fin 2) (obj : Fin 128) (s : State) : Outcome :=
  done (s.readBy o (objAddr x.val obj.val 3))

end Sys2Proof.Machine
end

