-- ==== Sys2Proof/Machine/CmdCell.lean ====
section
/-! DEFINITION. Meanings of the commands: Estimation, balancing and cell temperature. -/

namespace Sys2Proof.Machine

/-- Every 100 ms, each cell's charge, SOC, uncertainty, observations, limits and reserves are updated, and group E is
published (R203). -/
def execEstimatorUpdate (s : State) : Outcome :=
  done (s.upIn 2 (fun s => s.estimate.cellUnmon))

/-- Setting EST_CTRL.EN starts the estimator, or enters HALTED when EST_RATED is 0 or the chemistry table fails (R229).
-/
def execEstimatorEnable (o : Origin) (s : State) : Outcome :=
  done (s.command o (Reg.ctrl Pg.EST) 1)

/-- Estimator command that starts a learned-data write-back (R230). -/
def execWriteback (o : Origin) (s : State) : Outcome :=
  done (s.command o Reg.EST_CMD 1)

/-- Every EST_WB.PERIOD minutes of operating time, a write-back starts (R224). -/
def execWritebackPeriod (s : State) : Outcome :=
  done (s.upIn 2 State.writebackDue)

/-- A write-back ends: the target copy becomes active, or the write-back is abandoned as torn; a held write-back then
starts (R225). -/
def execWritebackCompletion (how : WritebackEnd) (s : State) : Outcome :=
  done (s.upIn 2 (fun s => s.writebackEnds how))

/-- Estimator command that checks both learned-data copies and loads the valid newer one (R227). -/
def execReload (o : Origin) (s : State) : Outcome :=
  done (s.command o Reg.EST_CMD 2)

/-- Estimator command that disqualifies every open learning cycle with cause RESTART (R230). -/
def execRestartLearn (o : Origin) (s : State) : Outcome :=
  done (s.command o Reg.EST_CMD 3)

/-- At each planning period, targets are computed and eligible switches are chosen within NMAX_eff (R238). -/
def execBalancePlanning (s : State) : Outcome :=
  done (s.upIn 2 State.plan)

/-- Balancing command that makes a planning instant at the next boundary and ends STOP_ALL (R262). -/
def execReplan (o : Origin) (s : State) : Outcome :=
  done (s.command o Reg.BAL_CMD 1)

/-- Balancing command that sets every BTARGET to 0 and opens every switch at the next applying tick (R243). -/
def execStopAll (o : Origin) (s : State) : Outcome :=
  done (s.command o Reg.BAL_CMD 2)

/-- Clearing BAL_CTRL.EN zeroes every target and opens every switch (R243). -/
def execBalancingDisable (o : Origin) (s : State) : Outcome :=
  done (s.command o (Reg.ctrl Pg.BAL) 0)

/-- Once a second, temperature points are checked, substituted and modelled, and group T and B are published (R250). -/
def execThermalScan (_ : Unit) (s : State) : Outcome :=
  done (s.upIn 2 State.thermalScan)

/-- Thermal command that clears the over-temperature latch when every TH is below the hysteresis (R258). -/
def execClearOt (o : Origin) (s : State) : Outcome :=
  done (s.command o Reg.THM_CMD 1)

/-- Thermal command that clears every faulty-point mark (R264). -/
def execClearSensor (o : Origin) (s : State) : Outcome :=
  done (s.command o Reg.THM_CMD 2)

/-- Every THM_COOL.PERIOD, the cooling payload is loaded into its CAN object and sent (R259). -/
def execCoolingDemand (s : State) : Outcome :=
  done (s.upIn 2 State.coolingSend)

/-- No chiller frame for 5 s sets CHLOST and raises CHILLER_LOST (R261). -/
def execChillerTimeout (s : State) : Outcome :=
  done (s.upIn 2 State.chillerSilent)

end Sys2Proof.Machine
end

