-- ==== Sys2Proof/Machine/CmdChime.lean ====
section
/-! DEFINITION. Meanings of the commands: Chime. -/

namespace Sys2Proof.Machine

/-- Setting CHM_CTRL.EN checks the configuration, and either starts windows and writes the supervisors or enters HALTED
(R170). -/
def execChimeEnable (o : Origin) (s : State) : Outcome :=
  done (s.command o (Reg.ctrl Pg.CHM) 1)

/-- Clearing CHM_CTRL.EN removes the tone sum and the tone clamp at the next control sample (R174). -/
def execChimeDisable (o : Origin) (s : State) : Outcome :=
  done (s.command o (Reg.ctrl Pg.CHM) 0)

/-- 1 ms after a window ends, COLLECT_PHASOR requests are issued per tone and position (R189). -/
def execPhasorCollectionStart (s : State) : Outcome :=
  done (s.upIn 7 State.collectPhasors)

/-- A phasor report is accepted and queued as class 1 (R189). -/
def execPhasorReport (r : Fin 4) (port : Side) (f : RingFrame) (s : State) : Outcome :=
  done (s.upIn 7 (fun s => s.ringReceive r.val port f))

/-- At the window end plus CHM_COLDL, collection ends and LATE is set for any missing report (R189). -/
def execPhasorCollectionDeadline (s : State) : Outcome :=
  done (s.upIn 2 State.phasorDeadline)

/-- Chime command that copies averages into the reference fields of records with NAVG of at least 16 (R192). -/
def execCaptureRef (o : Origin) (s : State) : Outcome :=
  done (s.command o Reg.CHM_CMD 1)

/-- Chime command RESTART that discards all windows, sets T_ref afresh and enters FILLING (R197). -/
def execChimeRestart (o : Origin) (s : State) : Outcome :=
  done (s.command o Reg.CHM_CMD 2)

/-- Chime command that sets NAVG to 0 in every impedance record (R191). -/
def execClearAvg (o : Origin) (s : State) : Outcome :=
  done (s.command o Reg.CHM_CMD 3)

end Sys2Proof.Machine
end

