-- ==== Sys2Proof/Machine/CmdDebug.lean ====
section
/-! DEFINITION. Meanings of the commands: TAP and debug. -/

namespace Sys2Proof.Machine

/-- TAP instruction that selects the IDCODE register (R716). -/
def execIdcode (s : State) : Outcome :=
  done ((s.setIr 1).emit (.tap 0x1307256B))

/-- TAP instruction SAMPLE/PRELOAD (R716). -/
def execSamplePreload (pattern : List Bool) (s : State) : Outcome :=
  done (s.preload pattern)

/-- TAP instruction that drives boundary cells, only under the conditions of R718 (R718). -/
def execExtest (s : State) : Outcome :=
  done (s.boundary 3)

/-- TAP instruction CLAMP, only under the conditions of R718 (R718). -/
def execClamp (s : State) : Outcome :=
  done (s.boundary 4)

/-- TAP instruction HIGHZ, only under the conditions of R718 (R718). -/
def execHighz (s : State) : Outcome :=
  done (s.boundary 5)

/-- TAP instruction BYPASS, which reserved codes also select (R716). -/
def execBypass (opcode : Byte) (s : State) : Outcome :=
  done (s.setIr opcode.toNat)

/-- A condition of R718 ceases during EXTEST, CLAMP or HIGHZ; functional mode returns and BLOCKED is set (R718). -/
def execJtagConditionLoss (s : State) : Outcome :=
  done (s.boundaryLost)

/-- The TAP enters test-logic-reset, or TRST_N goes low; functional mode returns (R718). -/
def execTestLogicReset (trstLow : Bool) (s : State) : Outcome :=
  done (s.testLogicReset trstLow)

/-- TAP instruction AUTH that gives a challenge and verifies the debug signature to open a session (R719). -/
def execAuth (step : AuthStep) (s : State) : Outcome :=
  done (s.auth step)

/-- The 10 min AUTH lockout ends (R719). -/
def execAuthLockoutEnd (s : State) : Outcome :=
  done (s.lockoutEnd)

/-- A DBGACC update performs one register access for the debug session (R720). -/
def execDbgacc (wr : Bool) (a : Addr) (d : Word) (s : State) : Outcome :=
  done (s.dbgAccess wr a.toNat d.toNat)

/-- 600 s without TAP activity ends the debug session (R720). -/
def execDebugSessionTimeout (s : State) : Outcome :=
  done (s.debugTimeout)

/-- Debug command that halts the application cores (R724). -/
def execHaltApp (o : Origin) (s : State) : Outcome :=
  done (s.command o Reg.DBG_CMD 1)

/-- Debug command that resumes the application cores (R724). -/
def execResumeApp (o : Origin) (s : State) : Outcome :=
  done (s.command o Reg.DBG_CMD 2)

/-- Debug command that asserts the DEBUG reset source (R724). -/
def execAssertReset (o : Origin) (s : State) : Outcome :=
  done (s.command o Reg.DBG_CMD 3)

/-- Debug command that releases the DEBUG reset source (R724). -/
def execReleaseReset (o : Origin) (s : State) : Outcome :=
  done (s.command o Reg.DBG_CMD 4)

/-- Debug command that ends the debug session (R724). -/
def execEndSession (o : Origin) (s : State) : Outcome :=
  done (s.command o Reg.DBG_CMD 5)

end Sys2Proof.Machine
end

