-- ==== Sys2Proof/Machine/CmdFabric.lean ====
section
/-! DEFINITION. Meanings of the commands: Fabric, dispatch and sessions. -/

namespace Sys2Proof.Machine

/-- Setting FAB_CTRL.EN brings up the links, or halts the fabric on an invalid address (R487). -/
def execFabricEnable (o : Origin) (s : State) : Outcome :=
  done (s.command o (Reg.ctrl Pg.FAB) 1)

/-- A lane reaches PCS synchronisation and auto-negotiation and begins sending HELLO (R486). -/
def execPcsSync (lane : Fin 5) (s : State) : Outcome :=
  done (s.upIn 9 (fun s => s.pcsUp lane.val))

/-- A lane loses PCS synchronisation and the port leaves UP (R486). -/
def execPcsSyncLoss (lane : Fin 5) (s : State) : Outcome :=
  done (s.upIn 9 (fun s => s.pcsDown lane.val))

/-- A session-opening HELLO is verified and the session key is derived, followed by CREDIT (R486). -/
def execHello (lane : Fin 5) (f : FabFrame) (s : State) : Outcome :=
  done (s.upIn 9 (fun s => s.helloIn lane.val f))

/-- A keep-alive HELLO is checked against the session nonce (R486). -/
def execKeepaliveHello (lane : Fin 5) (f : FabFrame) (s : State) : Outcome :=
  done (s.upIn 9 (fun s => s.keepalive lane.val f))

/-- Every 1 ms, an unopened port repeats its session-opening HELLO (R486). -/
def execHelloRepeat (lane : Fin 5) (s : State) : Outcome :=
  done (s.upIn 9 (fun s => s.helloAgain lane.val))

/-- Every 100 ms, an UP port sends a keep-alive HELLO and CREDIT (R486). -/
def execKeepaliveTimer (lane : Fin 5) (s : State) : Outcome :=
  done (s.upIn 9 (fun s => s.keepaliveSend lane.val))

/-- Three missed keep-alives take the port back to a new session (R486). -/
def execKeepaliveLoss (lane : Fin 5) (s : State) : Outcome :=
  done (s.upIn 9 (fun s => s.keepaliveLost lane.val))

/-- A CREDIT frame reports the blocks freed and opens the session or lifts a stall (R494). -/
def execCredit (lane : Fin 5) (f : FabFrame) (s : State) : Outcome :=
  done (s.upIn 9 (fun s => s.creditIn lane.val f))

/-- An LSA is stored and flooded when newer, and address conflicts are marked (R489). -/
def execLsa (lane : Fin 5) (f : FabFrame) (s : State) : Outcome :=
  done (s.upIn 9 (fun s => s.lsaIn lane.val f))

/-- 10 s after one conflicting LSA ages out, the CONFLICT mark ends (R492). -/
def execConflictEnd (a : BitVec 10) (s : State) : Outcome :=
  done (s.upIn 9 (fun s => s.conflictOver a.toNat))

/-- Every 1 s, or on a port change, the node originates its own LSA (R489). -/
def execLsaOriginate (s : State) : Outcome :=
  done (s.upIn 9 State.originate)

/-- A stored LSA not refreshed for 10 s is discarded (R489). -/
def execLsaAgeOut (origin : BitVec 10) (uid : BitVec 64) (s : State) : Outcome :=
  done (s.upIn 9 (fun s => s.lsaAge origin.toNat uid.toNat))

/-- After an LSA change, firmware computes primary and alternate ports and writes the route table (R490). -/
def execRouteComputation (s : State) : Outcome :=
  done (s.upIn 9 State.computeRoutes)

/-- A routed frame in transit is checked, its TTL decremented, and forwarded by the route table (R491). -/
def execFrameForward (lane : Fin 5) (f : FabFrame) (s : State) : Outcome :=
  done (s.upIn 9 (fun s => s.forwardFrame lane f))

/-- No CREDIT for 10 ms while frames wait puts the port in STALLED (R500). -/
def execCreditStall (lane : Fin 5) (s : State) : Outcome :=
  done (s.upIn 9 (fun s => s.stall lane.val))

/-- 60 s after isolation, the port restarts its link (R501). -/
def execIsolationExpiry (lane : Fin 5) (s : State) : Outcome :=
  done (s.upIn 9 (fun s => s.isolationOver lane.val))

/-- Port command RESTART that restarts the link at step 2 of R486 (R526). -/
def execLinkRestart (o : Origin) (lane : Fin 5) (s : State) : Outcome :=
  done (s.command o (Reg.FP_CMD lane.val) 1)

/-- Port command ISOLATE that isolates the port at once (R526). -/
def execPortIsolate (o : Origin) (lane : Fin 5) (s : State) : Outcome :=
  done (s.command o (Reg.FP_CMD lane.val) 2)

/-- Port command RELEASE that ends isolation (R526). -/
def execPortRelease (o : Origin) (lane : Fin 5) (s : State) : Outcome :=
  done (s.command o (Reg.FP_CMD lane.val) 3)

/-- The write of the highest key word installs a link key and sets its VALID bit (R485). -/
def execKeyInstall (o : Origin) (lane : Fin 5) (slot : Fin 2) (w : Word) (s : State) : Outcome :=
  done (s.command o (linkKeyTop lane.val slot.val) w.toNat)

/-- A write of CLR0 or CLR1 clears a key slot (R485). -/
def execKeyClear (o : Origin) (lane : Fin 5) (slot : Fin 2) (s : State) : Outcome :=
  done (s.command o (Reg.FP_KEYCTL lane.val) (putBit (s.rd (Reg.FP_KEYCTL lane.val)) (28 + slot.val) true))

/-- Changing FPn_KEYCTL.TXKEY restarts the link (R485). -/
def execTxkeyChange (o : Origin) (lane : Fin 5) (slot : Fin 2) (s : State) : Outcome :=
  done (s.command o (Reg.FP_KEYCTL lane.val) (putBit (s.rd (Reg.FP_KEYCTL lane.val)) 24 (slot.val == 1)))

/-- A new Gong is entered in the table, flooded, and raises GONG when its zone matches (R519). -/
def execGong (lane : Fin 5) (f : FabFrame) (s : State) : Outcome :=
  done (s.upIn 9 (fun s => s.gongIn lane.val f))

/-- An ORIGIN and GSEQ pair leaves the Gong table after 10 s (R519). -/
def execGongPairExpiry (origin : BitVec 16) (gseq : BitVec 16) (s : State) : Outcome :=
  done (s.upIn 9 (fun s => s.pairExpires origin.toNat gseq.toNat))

/-- Fabric command that originates a Gong with the REASON written (R521). -/
def execGongSend (o : Origin) (reason : Byte) (s : State) : Outcome :=
  done (s.command o Reg.FAB_CMD (2 + 256 * reason.toNat))

/-- A dispatch command is checked in order, answered and, when accepted, submitted to the loop engine (R510). -/
def execDispatch (q : Req) (d : DispatchBody) (s : State) : Outcome :=
  done (s.dispatchIn q d)

/-- No dispatch accepted for WDT in RUNNING raises DISPATCH_LOST and takes the configured action (R516). -/
def execDispatchLost (s : State) : Outcome :=
  done (s.upIn 9 State.dispatchLoss)

/-- Every report period, a STRING_REPORT goes to each subscriber (R518). -/
def execStringReport (s : State) : Outcome :=
  done (s.upIn 9 State.sendReport)

/-- Host service that returns a fresh 16-byte challenge (R508). -/
def execSessionChallenge (q : Req) (s : State) : Outcome :=
  done (s.sessionChallenge q)

/-- Host service that verifies the tag and gives the host session its role (R508). -/
def execSessionOpen (q : Req) (role : Byte) (tag : BitVec 128) (_ : Unit) (s : State) : Outcome :=
  done (s.sessionOpen q role.toNat tag)

/-- Host service that returns HST_ROLE to Operator (R508). -/
def execSessionClose (q : Req) (s : State) : Outcome :=
  done (s.sessionClose q)

/-- A write of the last word of a role key installs it (R508). -/
def execRoleKeyInstall (o : Origin) (role : Fin 3) (w : Word) (s : State) : Outcome :=
  done (s.command o (roleKeyTop (role.val + 1)) w.toNat)

/-- Fabric command that runs route computation now (R523). -/
def execRecompute (o : Origin) (s : State) : Outcome :=
  done (s.command o Reg.FAB_CMD 1)

/-- Fabric command that sets FAB_DCNT, FAB_GONGCNT and FAB_AUTHCNT to 0 (R523). -/
def execFabClearCounts (o : Origin) (s : State) : Outcome :=
  done (s.command o Reg.FAB_CMD 3)

end Sys2Proof.Machine
end

