-- ==== Sys2Proof/Machine/CmdLoop.lean ====
section
/-! DEFINITION. Meanings of the commands: Loop engine. -/

namespace Sys2Proof.Machine

/-- When the injected results are in, the engine runs its loops, forms IREF and the duties and hands them to the PWM
unit (R328). -/
def execControlSample (s : State) : Outcome :=
  done (s.upIn 5 State.sampleDone)

/-- A SETPOINT frame submitted by a write of LPE_SPIN4 is checked and queued, or discarded (R339). -/
def execSetpoint (o : Origin) (w4 : Word) (s : State) : Outcome :=
  done (s.command o (Reg.LPE_SPIN 4) w4.toNat)

/-- A CLEAR frame removes every pending setpoint frame at once (R339). -/
def execSetpointClear (o : Origin) (w4 : Word) (s : State) : Outcome :=
  done (s.command o (Reg.LPE_SPIN 4) w4.toNat)

/-- A write of LPE_SWAP requests a bank swap of the named loops (R353). -/
def execSwapRequest (o : Origin) (v : Word) (s : State) : Outcome :=
  done (s.command o Reg.LPE_SWAP v.toNat)

/-- The sequencer is not idle one T_s after an abandon; the lock-up reset source asserts (R361). -/
def execLoopLockup (s : State) : Outcome :=
  done (s.resetAssert 12)

/-- Loop engine command that starts the test generator and capture at the next sample (R366). -/
def execTestStart (o : Origin) (s : State) : Outcome :=
  done (s.command o Reg.LPE_CMD 1)

/-- Loop engine command that ends the test signal at the next sample (R373). -/
def execTestStop (o : Origin) (s : State) : Outcome :=
  done (s.command o Reg.LPE_CMD 2)

/-- Loop engine command that starts a capture without injection (R369). -/
def execCapture (o : Origin) (s : State) : Outcome :=
  done (s.command o Reg.LPE_CMD 3)

/-- Loop engine command that sets LPE_OVR and LPE_SPCNT to 0 (R373). -/
def execLpeClearCounts (o : Origin) (s : State) : Outcome :=
  done (s.command o Reg.LPE_CMD 4)

/-- Setting LPE_CTRL.EN checks the loop configuration and timing, and enters RUNNING or HALTED (R371). -/
def execLpeEnable (o : Origin) (s : State) : Outcome :=
  done (s.command o (Reg.ctrl Pg.LPE) 1)

/-- A write of LPE_CTRL.EN 0 is ignored while a phase is in BUSRAMP or RUN (R364). -/
def execLpeDisable (o : Origin) (s : State) : Outcome :=
  done (s.command o (Reg.ctrl Pg.LPE) 0)

end Sys2Proof.Machine
end

