-- ==== Sys2Proof/Machine/CmdProt.lean ====
section
/-! DEFINITION. Meanings of the commands: Protection, contactors, insulation and faults. -/

namespace Sys2Proof.Machine

/-- A comparator input beyond its threshold for the filter time asserts, latches, counts, feeds Snare and raises
CMP_TRIP (R381). -/
def execComparatorAssert (x : CompSample) (s : State) : Outcome :=
  done (s.upIn 2 (fun s => s.comparatorOn x))

/-- A comparator input back inside its threshold by the hysteresis returns to normal (R381). -/
def execComparatorReturn (x : CompSample) (s : State) : Outcome :=
  done (s.upIn 2 (fun s => s.comparatorOff x))

/-- Every millisecond, the protection derate limits are formed from ILIM and the bus-voltage ramps (R384). -/
def execProtectionContribution (s : State) : Outcome :=
  done (s.upIn 2 State.protContribution)

/-- A row's input beyond its test throughout TIME raises the row's fault (R385). -/
def execDigitalLimitFail (row : Fin 6) (inst : Fin 8) (s : State) : Outcome :=
  done (s.upIn 2 (fun s => s.rowFail row.val inst.val))

/-- A row's results inside the test throughout TIME turn its fault LATCHED (R385). -/
def execDigitalLimitRecover (row : Fin 6) (inst : Fin 8) (s : State) : Outcome :=
  done (s.upIn 2 (fun s => s.rowRecover row.val inst.val))

/-- A change of an auxiliary-contact input advances the contactor sequence or reveals a weld, drop-out or safety opening
(R388). -/
def execAuxChange (p : Fin 10) (readsOpen : Bool) (s : State) : Outcome :=
  done (s.upIn 2 (fun s => s.auxChange p.val readsOpen))

/-- A pair does not read closed within CLOSE; its drives are released and CTK_NOCLOSE is raised (R388). -/
def execContactorCloseTimeout (p : Fin 10) (s : State) : Outcome :=
  done (s.upIn 2 (fun s => s.closeTimeout p.val))

/-- A pair does not read open within OPEN; CTK_WELD is raised (R388). -/
def execContactorOpenTimeout (p : Fin 10) (s : State) : Outcome :=
  done (s.upIn 2 (fun s => s.openTimeout p.val))

/-- VSTR comes within DV of the joined branch voltage; the main pair closes and the precharge pair opens (R390). -/
def execPrechargeComplete (s : State) : Outcome :=
  done (s.upIn 2 State.prechargeDone)

/-- Precharge is not reached in TMO; every pair opens, PRECHARGE_FAIL is raised and the state returns to READY (R390).
-/
def execPrechargeTimeout (s : State) : Outcome :=
  done (s.upIn 2 State.prechargeFail)

/-- Contactor command that joins branch BR in CONNECTED when its voltage matches (R391). -/
def execJoin (o : Origin) (b : Fin 8) (s : State) : Outcome :=
  done (s.command o Reg.CTK_CMD (2 + 256 * b.val))

/-- Contactor command that separates branch BR (R391). -/
def execSeparate (o : Origin) (b : Fin 8) (s : State) : Outcome :=
  done (s.command o Reg.CTK_CMD (1 + 256 * b.val))

/-- Contactor command that clears CTK_WELD when every AUX reads 1 (R401). -/
def execClearWeld (o : Origin) (s : State) : Outcome :=
  done (s.command o Reg.CTK_CMD 3)

/-- Four ISTR results lie within ZBAND; the main and precharge pairs open, then the branch pairs (R392). -/
def execControlledOpening (s : State) : Outcome :=
  done (s.upIn 2 State.controlledOpen)

/-- Zero current is not reached within ZTMO; the pairs open and CTK_BREAK_LOAD is raised (R392). -/
def execZeroTimeout (s : State) : Outcome :=
  done (s.upIn 2 State.zeroTimeout)

/-- A write of CTK_CTRL.EN 0 is ignored while any pair is commanded closed (R396). -/
def execCtkDisable (o : Origin) (s : State) : Outcome :=
  done (s.command o (Reg.ctrl Pg.CTK) 0)

/-- After an L1 release, held drive states that agree with readback are adopted (R395). -/
def execHoldoverAdopt (s : State) : Outcome :=
  done (s.upIn 2 State.holdAdopt)

/-- The 50 ms hold-over ends without adoption; the drives go inactive and CTK_HOLDOVER_LOST is raised (R395). -/
def execHoldoverEnd (s : State) : Outcome :=
  done (s.holdEnd)

/-- At the end of each injection half-period, R_iso is computed and tested against the limits (R397). -/
def execInsulationHalfPeriod (_go : Unit) (_ended : Unit) (s : State) : Outcome :=
  done (s.upIn 2 State.isoHalf)

/-- Setting ISO_CTRL.EN starts the monitor, or halts it when UINJ, RM or HALF is 0 (R399). -/
def execIsoEnable (o : Origin) (s : State) : Outcome :=
  done (s.command o (Reg.ctrl Pg.ISO) 1)

/-- Handling of a fault ends and the next queued fault is handled (R406). -/
def execFaultDequeue (s : State) : Outcome :=
  done (s.upIn 2 State.dequeue)

/-- An event fault code turns from ACTIVE to LATCHED in the cycle after its raise (R731). -/
def execEventCodeLatch (s : State) : Outcome :=
  done (s.upIn 2 State.latchEvents)

/-- 1 ms passes without ALARM and RING_ALARM turns LATCHED (R731). -/
def execAlarmQuiet (s : State) : Outcome :=
  done (s.upIn 2 State.alarmQuiet)

/-- 1 ms passes without NaN and LOOP_NAN turns LATCHED (R731). -/
def execNanQuiet (s : State) : Outcome :=
  done (s.upIn 2 State.nanQuiet)

/-- After QUIET with an empty queue, the storm ends with one FAULT_STORM record (R407). -/
def execStormEnd (s : State) : Outcome :=
  done (s.upIn 2 State.stormQuiet)

/-- Fault manager command ACK that turns every LATCHED code into NONE, except CTK_WELD (R401). -/
def execFaultAck (o : Origin) (s : State) : Outcome :=
  done (s.command o Reg.FLT_CMD 1)

end Sys2Proof.Machine
end

