-- ==== Sys2Proof/Machine/CmdPwm.lean ====
section
/-! DEFINITION. Meanings of the commands: Converter and PWM. -/

namespace Sys2Proof.Machine

/-- Setting PWM_CTRL.EN checks the configuration; rejected phases stay DISABLED (R280). -/
def execPwmEnable (o : Origin) (s : State) : Outcome :=
  done (s.command o (Reg.ctrl Pg.PWM) 1)

/-- Clearing PWM_CTRL.EN acts as HALT in RUNNING, or sets the outputs low at once otherwise (R290). -/
def execPwmDisable (o : Origin) (s : State) : Outcome :=
  done (s.command o (Reg.ctrl Pg.PWM) 0)

/-- A PWM sample trigger leaves for the ADC and the loop engine (R278). -/
def execSampleTrigger (s : State) : Outcome :=
  done (s.upIn 6 State.trigger)

/-- At its valley, or peak with DUPD, each cell loads its latest duty through clamp, dead time and minimum pulse (R279).
-/
def execDutyLoad (cell : Fin 8) (peak : Bool) (s : State) : Outcome :=
  done (s.upIn 6 (fun s => s.carrierPoint cell.val peak))

/-- At a phase-0 valley with every flying capacitor in window, the phases leave FCPRE for RUN or BUSRAMP (R284). -/
def execFlyingCapReady (s : State) : Outcome :=
  done (s.upIn 6 State.capReady)

/-- The flying-capacitor check is not met within TMO and the start fails (R285). -/
def execFcTimeout (s : State) : Outcome :=
  done (s.upIn 6 State.capTimeout)

/-- V_bus reaches TARGET − 1 % and the phases enter RUN (R284). -/
def execBusRampDone (s : State) : Outcome :=
  done (s.upIn 6 State.rampDone)

/-- The bus target is not reached within TMO and the start fails (R286). -/
def execBusTimeout (s : State) : Outcome :=
  done (s.upIn 6 State.rampTimeout)

/-- ISET_r is 0 and ISTR is in the zero band; outputs go low at the next valley and the phases enter IDLE (R346). -/
def execStopComplete (s : State) : Outcome :=
  done (s.upIn 6 State.stopOver)

/-- A gate-driver fault input low for DGL is latched and feeds Snare when unmasked (R292). -/
def execGateDriverFaultInput (n : Fin 8) (s : State) : Outcome :=
  done (s.upIn 6 (fun s => s.gateFault n.val))

/-- An asserted gate-driver fault input returns high; its PRT_SNLEVEL and PWM_GDFSTAT.LEVEL bits fall and
GATE_DRIVER_FAULT turns from ACTIVE to LATCHED under R400 (R292). -/
def execGateDriverInputRelease (n : Fin 8) (s : State) : Outcome :=
  done (s.upIn 6 (fun s => s.gateClear n.val))

end Sys2Proof.Machine
end

