-- ==== Sys2Proof/Machine/CmdRecord.lean ====
section
/-! DEFINITION. Meanings of the commands: Event recorder. -/

namespace Sys2Proof.Machine

/-- A record enters the intake, is stamped, and may displace a lower-severity record (R614). -/
def execRecordIntake (s : State) : Outcome :=
  done (s.upIn 2 State.intakeOne)

/-- The writer appends a record to the MRAM, or holds, diverts or reclaims as required (R614). -/
def execRecordWrite (m : MediaResult) (s : State) : Outcome :=
  done (s.upIn 2 (fun s => s.writeOne m))

/-- Recorder command that freezes the log and directs records to the holding buffer (R619). -/
def execFreeze (o : Origin) (s : State) : Outcome :=
  done (s.command o Reg.EVR_CMD 1)

/-- Recorder command RELEASE that ends a freeze and appends the held records (R621). -/
def execEvrRelease (o : Origin) (s : State) : Outcome :=
  done (s.command o Reg.EVR_CMD 2)

/-- Recorder command that clears the main area (R622). -/
def execClearMain (o : Origin) (s : State) : Outcome :=
  done (s.command o Reg.EVR_CMD 3)

/-- Recorder command that clears the reserve (R622). -/
def execClearReserve (o : Origin) (s : State) : Outcome :=
  done (s.command o Reg.EVR_CMD 4)

/-- Recorder command that tests a segment and clears MEDIAFLT when it passes (R627). -/
def execMediaTest (o : Origin) (passes : Bool) (s : State) : Outcome :=
  done (s.commandAs o Reg.EVR_CMD 5 (fun s => s.mediaTestRun passes))

/-- Every 10 min while MEDIAFLT is 1, the media test runs (R627). -/
def execMediaTestTimer (passes : Bool) (s : State) : Outcome :=
  done (s.upIn 2 (fun s => if s.on Fld.EVR_STAT_MEDIAFLT then s.mediaTestRun passes else s))

/-- FRZMAX after a freeze began, the freeze ends (R621). -/
def execFreezeTimeout (s : State) : Outcome :=
  done (s.upIn 2 (fun s => s.endFreeze .firmware))

/-- Every 60 s, operating time and SEQ are stored in the MRAM (R612). -/
def execOptimeSave (s : State) : Outcome :=
  done (s.saveOpTime)

/-- Recorder service that returns the recorder state (R628). -/
def execLogStatus (q : Req) (s : State) : Outcome :=
  done (s.logStatusSvc q)

/-- Recorder service that returns records from a cursor (R628). -/
def execLogRead (q : Req) (area : Byte) (minsev : Byte) (fromSeq : Word) (fromPcc : Word) (s : State) : Outcome :=
  done (s.logReadSvc q area.toNat minsev.toNat fromSeq.toNat fromPcc.toNat)

/-- Recorder service that freezes the log (R619). -/
def execLogFreeze (q : Req) (s : State) : Outcome :=
  done (s.logFreezeSvc q)

/-- Recorder service that ends a freeze (R621). -/
def execLogRelease (q : Req) (s : State) : Outcome :=
  done (s.logReleaseSvc q)

/-- Recorder service that clears the main area or the reserve (R622). -/
def execLogClear (q : Req) (area : Byte) (s : State) : Outcome :=
  done (s.logClearSvc q area.toNat)

/-- Recorder service that makes a MARK record with text (R628). -/
def execLogMark (q : Req) (text : List Byte) (s : State) : Outcome :=
  done (s.logMarkSvc q text)

end Sys2Proof.Machine
end

