-- ==== Sys2Proof/Machine/CmdReset.lean ====
section
/-! DEFINITION. Meanings of the commands: Reset, clocks and power. -/

namespace Sys2Proof.Machine

/-- A reset source asserts and holds every domain that its level reaches (R636). -/
def execResetAssert (src : Fin 16) (s : State) : Outcome :=
  done (s.resetAssert src.val)

/-- The last source releases and the domains leave reset in order, with the service state set by R22 (R637). -/
def execResetRelease (src : Fin 16) (s : State) : Outcome :=
  done (s.resetRelease src.val)

/-- A PLL locks and its waiting domain is released (R638). -/
def execPllLock (k : Fin 5) (s : State) : Outcome :=
  done (s.pllLock k.val)

/-- Firmware restores the stored configuration in order, ending with the page locks (R642). -/
def execConfigRestore (s : State) : Outcome :=
  done (s.configRestore)

/-- A keyed write of RST_SWRST asserts SOFTWARE at the chosen level (R639). -/
def execSoftwareReset (o : Origin) (v : Word) (s : State) : Outcome :=
  done (s.command o Reg.RST_SWRST v.toNat)

/-- A write of RST_BOOTOK completes the start and ends an update trial (R643). -/
def execBootOk (o : Origin) (v : Word) (s : State) : Outcome :=
  done (s.command o Reg.RST_BOOTOK v.toNat)

/-- No BOOTOK within 30 s asserts APP_WDT as a failed start (R643). -/
def execBootTimeout (s : State) : Outcome :=
  done (s.bootTimeout)

/-- Reset command that clears the boot-failure record and resets at L1 (R646). -/
def execRecoveryExit (o : Origin) (s : State) : Outcome :=
  done (s.command o Reg.RST_CMD 1)

/-- Reset command that burns the fuse table in recovery mode (R635). -/
def execFuseBurn (o : Origin) (s : State) : Outcome :=
  done (s.command o Reg.RST_CMD 2)

/-- Reset command that clears the boot-failure record (R661). -/
def execClearBoot (o : Origin) (s : State) : Outcome :=
  done (s.command o Reg.RST_CMD 3)

/-- The application watchdog is not served for 500 ms and asserts APP_WDT (R634). -/
def execAppWatchdog (s : State) : Outcome :=
  done (s.watchdog)

/-- Every 1 ms, the reference is counted against the 32.768 kHz crystal (R649). -/
def execClockMonitor (ppm : BitVec 16) (s : State) : Outcome :=
  done (s.clockMonitor ppm.toNat)

/-- Reference loss or PLL unlock forces the PWM outputs low and raises CLK_FAIL (R649). -/
def execClockLoss (k : ClockLossKind) (s : State) : Outcome :=
  done (s.clockLoss k)

/-- VMAIN below WARN or PFAIL_N low starts a warning and a write-back (R653). -/
def execVmainWarning (vmain : BitVec 16) (pfailLow : Bool) (s : State) : Outcome :=
  done (s.warning vmain.toNat pfailLow)

/-- VMAIN above WARN with PFAIL_N high ends the warning (R653). -/
def execWarningEnd (vmain : BitVec 16) (s : State) : Outcome :=
  done (s.warningEnd vmain.toNat)

/-- HUGOOD falls and the writer diverts records to the last-gasp area (R654). -/
def execHugoodFall (s : State) : Outcome :=
  done (s.hugoodFall)

/-- HUGOOD returns to 1 (R654). -/
def execHugoodRise (s : State) : Outcome :=
  done (s.hugoodRise)

/-- VIO falls below 2.95 V and VIO_LOW is raised (R652). -/
def execVioLow (vio : BitVec 16) (s : State) : Outcome :=
  done (s.vioFalls vio.toNat)

/-- The scrubber checks retained SRAM, correcting and marking errors (R655). -/
def execScrubPass (corrected : Nat) (bad : Word) (s : State) : Outcome :=
  done (s.scrub corrected bad.toNat)

/-- Every 1 ms, the hottest die reading is taken and DIEWARN is updated (R656). -/
def execDieTemperature (t : BitVec 16) (die : BitVec 3) (s : State) : Outcome :=
  done (s.dieTemp t.toNat die.toNat)

/-- At 140 °C, the die thermal latch sets and asserts DIE_THERMAL (R657). -/
def execDieThermal (s : State) : Outcome :=
  done (s.dieThermal)

/-- The transport write-back does not complete within 1 s and the module stays in READY (R658). -/
def execTransportFail (s : State) : Outcome :=
  done (s.transportFails)

/-- RESET_N held low 100 ms, or VAON reapplied, ends transport mode with POWER_ON (R659). -/
def execTransportExit (s : State) : Outcome :=
  done (s.transportExit)

/-- VIO rises back into its range; PWR_STAT.VIOLOW clears, VIO_LOW turns LATCHED, and the module may again drive balls
under R651 (R652). -/
def execVioRestored (vio : BitVec 16) (s : State) : Outcome :=
  done (s.vioReturns vio.toNat)

end Sys2Proof.Machine
end

