-- ==== Sys2Proof/Machine/CmdRing.lean ====
section
/-! DEFINITION. Meanings of the commands: Sense rings. -/

namespace Sys2Proof.Machine

/-- Setting SRx_CTRL.EN starts port training and then enumeration (R121). -/
def execRingEnable (o : Origin) (r : Fin 4) (s : State) : Outcome :=
  done (s.command o (Reg.ctrl (Pg.SR r.val)) 1)

/-- Clearing SRx_CTRL.EN stops every transaction, returns every tag and sends IDLE only (R121). -/
def execRingDisable (o : Origin) (r : Fin 4) (s : State) : Outcome :=
  done (s.command o (Reg.ctrl (Pg.SR r.val)) 0)

/-- Both ports have aligned to commas and enumeration by R93 begins (R121). -/
def execPortTrainingDone (r : Fin 4) (s : State) : Outcome :=
  done (s.upIn 7 (fun s => s.portsTrained r.val))

/-- A received ring frame is checked; an acceptable response retires its tag and drives enumeration, re-forming or
healing, and any other frame is discarded and counted (R88). -/
def execRingFrameReceive (r : Fin 4) (port : Side) (f : RingFrame) (s : State) : Outcome :=
  done (s.upIn 7 (fun s => s.ringReceive r.val port f))

/-- The module receives its own request back as the echo, which for a broadcast retires the tag (R83). -/
def execRequestEcho (r : Fin 4) (port : Side) (tag : BitVec 4) (s : State) : Outcome :=
  done (s.upIn 7 (fun s => s.takeEcho r.val tag.toNat (isSouth port)))

/-- A transaction's deadline passes without an acceptable response; the tag returns and the request is repeated or
recorded as failed (R89). -/
def execTransactionTimeout (r : Fin 4) (tag : BitVec 4) (s : State) : Outcome :=
  done (s.upIn 7 (fun s => s.timedOut r.val tag.toNat))

/-- After a BUSY response, the backoff expires and the request is repeated with a new tag (R90). -/
def execRetryBackoff (r : Fin 4) (k : Nat) (s : State) : Outcome :=
  done (s.upIn 7 (fun s => s.backoffOver r.val k))

/-- An ALARM character on a receive port counts, sets the IRQ bit and feeds Snare when ALSNARE is 1 (R76). -/
def execAlarmDetect (r : Fin 4) (port : Side) (s : State) : Outcome :=
  done (s.upIn 7 (fun s => s.alarmAt r.val port))

/-- An ALARM_STATUS response is taken; an unattributed ALARM is recorded (R112). -/
def execAlarmStatusReport (r : Fin 4) (port : Side) (f : RingFrame) (s : State) : Outcome :=
  done (s.upIn 7 (fun s => s.ringReceive r.val port f))

/-- A module port declares link loss on signal loss or code violations; in RING this starts re-forming (R103). -/
def execLinkLoss (r : Fin 4) (port : Side) (s : State) : Outcome :=
  done (s.upIn 7 (fun s => s.portLost r.val port))

/-- A port declares its link up again after 64 consecutive valid characters (R103). -/
def execLinkRecovery (r : Fin 4) (port : Side) (s : State) : Outcome :=
  done (s.upIn 7 (fun s => s.portUp r.val port))

/-- A LINK_LOST notice arrives and the module re-forms the ring into halves (R106). -/
def execLinkLost (r : Fin 4) (port : Side) (pos : Byte) (lost : Side) (s : State) : Outcome :=
  done (s.upIn 7 (fun s => s.linkLostNotice r.val port pos.toNat lost))

/-- The links at the break have been up for HEAL.TIME; with AUTOHEAL the ring heals at the next scan period (R110). -/
def execHealTimer (r : Fin 4) (s : State) : Outcome :=
  done (s.upIn 7 (fun s => s.healTimer r.val))

/-- Ring command that heals the ring now by R111 (R119). -/
def execHeal (o : Origin) (r : Fin 4) (s : State) : Outcome :=
  done (s.command o (Reg.SR_CMD r.val) 2)

/-- Ring command that enumerates the ring afresh by R93 (R119). -/
def execEnumerate (o : Origin) (r : Fin 4) (s : State) : Outcome :=
  done (s.command o (Reg.SR_CMD r.val) 1)

/-- Ring command that isolates a position by folding its neighbours and re-forming (R113). -/
def execIsolate (o : Origin) (r : Fin 4) (pos : BitVec 6) (s : State) : Outcome :=
  done (s.command o (Reg.SR_CMD r.val) (3 + 256 * pos.toNat))

/-- Ring command RELEASE that opens an isolated position's neighbours, heals and re-checks its identity (R119). -/
def execRingRelease (o : Origin) (r : Fin 4) (pos : BitVec 6) (s : State) : Outcome :=
  done (s.command o (Reg.SR_CMD r.val) (4 + 256 * pos.toNat))

/-- Ring command that broadcasts RESET and then enumerates (R119). -/
def execResetSupervisors (o : Origin) (r : Fin 4) (s : State) : Outcome :=
  done (s.command o (Reg.SR_CMD r.val) 5)

/-- A 10 ms window ends in which the per-SRC count of R112 stayed at 8 or below, and SUP_HOSTILE turns LATCHED (R731).
-/
def execHostileWindowEnd (r : Fin 4) (s : State) : Outcome :=
  done (s.upIn 7 (fun s => s.hostileWindow r.val))

end Sys2Proof.Machine
end

