-- ==== Sys2Proof/Machine/CmdSafety.lean ====
section
/-! DEFINITION. Meanings of the commands: Safety island and safety layer. -/

namespace Sys2Proof.Machine

/-- Every 1 ms, the island evaluates functions, outputs, readback and connections and writes the output balls (R434). -/
def execSafetyCycle (rbA : BitVec 4) (rbB : BitVec 4) (shadowEqual : Bool) (s : State) : Outcome :=
  done (s.upIn 1 (fun s => (s.safetyCycle rbA.toNat rbB.toNat shadowEqual).slotShow.safetyOut))

/-- A safety input channel takes a new filtered level, moving functions toward stop, permit or maintenance (R422). -/
def execFilteredEdge (n : Fin 8) (ch : Chan) (raw : RawLevel) (s : State) : Outcome :=
  done (s.upIn 1 (fun s => (s.filteredEdge n.val (chanIdx ch) raw).safetyOut))

/-- A test-pulse source pulses low, and channels that do not follow are marked with an input fault (R423). -/
def execTestPulse (source : Chan) (levelsA : BitVec 8) (levelsB : BitVec 8) (s : State) : Outcome :=
  done (s.upIn 1 (fun s => (s.testPulses (chanIdx source) levelsA.toNat levelsB.toNat).safetyOut))

/-- A channel disagreement lasting DISC latches a discrepancy fault (R424). -/
def execDiscrepancyTimeout (n : Fin 8) (s : State) : Outcome :=
  done (s.upIn 1 (fun s => (s.discrepancy n.val).safetyOut))

/-- T1 expires for a category 1 function; it enters STOPPED and asserts the stop line (R428). -/
def execT1Expiry (n : Fin 8) (s : State) : Outcome :=
  done (s.upIn 1 (fun s => (s.t1Over n.val).safetyOut))

/-- STOPDONE rises and ends a category 1 stop early, without the stop line (R428). -/
def execStopdone (s : State) : Outcome :=
  done (s.upIn 1 (fun s => (s.stopDoneRises).safetyOut))

/-- Release of a reset device pressed for 0.1 s to 5 s returns functions in AWAIT_RESET to PERMIT (R429). -/
def execResetDeviceRelease (n : Fin 8) (_go : Unit) (s : State) : Outcome :=
  done (s.upIn 1 (fun s => (s.deviceReleased n.val).safetyOut))

/-- A reset device non-safe for more than 5 s raises SFI_INPUT_FAULT (R429). -/
def execResetDeviceStuck (n : Fin 8) (s : State) : Outcome :=
  done (s.upIn 1 (fun s => (s.deviceStuck n.val).safetyOut))

/-- Island command RESET that acts on every function and consumed connection in AWAIT_RESET or WAITRESET (R429). -/
def execSafetyReset (o : Origin) (s : State) : Outcome :=
  done (s.command o Reg.SFI_CMD 1)

/-- Island command that clears an output fault while both readbacks read low (R440). -/
def execClearOutflt (o : Origin) (s : State) : Outcome :=
  done (s.command o Reg.SFI_CMD 2)

/-- The MAINTOFF outputs have been off for TDEEN and MAINTON outputs may switch on (R433). -/
def execMaintonDelay (s : State) : Outcome :=
  done (s.upIn 1 (fun s => (s.maintDelay).safetyOut))

/-- 500 µs into its cycle, a channel that is on receives its Rimshot off-pulse (R437). -/
def execRimshotPulse (ch : Fin 8) (s : State) : Outcome :=
  done (s.upIn 1 (fun s => (s.rimStart ch.val).safetyOut))

/-- The pulse ends and the channel switches on again unless an off demand stands (R438). -/
def execRimshotPulseEnd (ch : Fin 8) (readLow : Bool) (s : State) : Outcome :=
  done (s.upIn 1 (fun s => (s.rimEnd ch.val readLow).safetyOut))

/-- RBT after the pulse, the verdict is made, or discarded under R439 (R438). -/
def execRimshotCheck (ch : Fin 8) (readHigh : Bool) (s : State) : Outcome :=
  done (s.upIn 1 (fun s => (s.rimVerdict ch.val readHigh).safetyOut))

/-- An island self-check fails; outputs go off, the stop line asserts and the island enters FAULT (R419). -/
def execIslandSelfCheckFail (cause : IslandCause) (s : State) : Outcome :=
  done (s.upIn 1 (fun s => (s.selfCheckFail (causeCode cause)).safetyOut))

/-- 100 ms after a fault, the island resets itself by its own source (R419). -/
def execIslandFaultReset (s : State) : Outcome :=
  done (s.upIn 1 (fun s => (s.faultReset).slotShow.safetyOut))

/-- Every 10 s, the island checks its program image by CRC (R419). -/
def execProgramCrcCheck (ok : Bool) (s : State) : Outcome :=
  done (s.upIn 1 (fun s => (if ok then s else s.selfCheckFail (causeCode .program)).safetyOut))

/-- The island leaves INIT: RUN when the restored check value matches, otherwise UNCONFIRMED (R445). -/
def execIslandInitDone (s : State) : Outcome :=
  done (s.upIn 1 (fun s => (s.initDone).safetyOut))

/-- Setting SFI_CTRL.EN checks the parameter block and enters INVALID or UNCONFIRMED (R443). -/
def execSafetyEnable (o : Origin) (s : State) : Outcome :=
  done (s.command o (Reg.ctrl Pg.SFI) 1)

/-- A write of SFI_CTRL.EN 0 is ignored unless de-energised, and otherwise withdraws confirmation (R446). -/
def execSafetyDisable (o : Origin) (s : State) : Outcome :=
  done (s.command o (Reg.ctrl Pg.SFI) 0)

/-- A write of SFI_CONFIRM equal to SFI_PCV stores and confirms the parameters and enters RUN (R444). -/
def execSafetyConfirm (o : Origin) (v : Word) (s : State) : Outcome :=
  done (s.command o Reg.SFI_CONFIRM v.toNat)

/-- Island command that has the new slot import the state record and run in shadow (R447). -/
def execHandoverPrepare (o : Origin) (s : State) : Outcome :=
  done (s.command o Reg.SFI_CMD 3)

/-- Island command that passes computation to the new slot at a cycle end (R449). -/
def execHandoverCommit (o : Origin) (s : State) : Outcome :=
  done (s.command o Reg.SFI_CMD 4)

/-- Island command that abandons a prepared handover (R448). -/
def execHandoverAbandon (o : Origin) (s : State) : Outcome :=
  done (s.command o Reg.SFI_CMD 5)

/-- No commit within 60 s of HOPREP abandons the handover (R448). -/
def execHandoverPrepareTimeout (s : State) : Outcome :=
  done (s.upIn 1 (fun s => (s.prepareTimeout).safetyOut))

/-- 60 s after a commit, the new slot becomes the start slot (R449). -/
def execStartSlotSwitch (s : State) : Outcome :=
  done (s.upIn 1 (fun s => (s.startSlotSwitch).safetyOut))

/-- Setting SCL_CTRL.EN checks the connection block; the consumers begin OPENING or all stay CLOSED (R474). -/
def execSclEnable (o : Origin) (s : State) : Outcome :=
  done (s.command o (Reg.ctrl Pg.SCL) 1)

/-- A SAFETY frame or CAN object delivers a Moluzal PDU to the island's queue (R466). -/
def execSafetyFrame (net : BitVec 2) (pdu : List Byte) (s : State) : Outcome :=
  done (s.upIn 1 (fun s => s.networkUp net.toNat (fun s => (s.sclArrive pdu).safetyOut)))

/-- An OPEN PDU at a producer is compared by PCHK and starts RUN or is answered CLOSE (R468). -/
def execSclOpen (s : State) : Outcome :=
  done (s.upIn 1 (fun s => (s.sclOpenPdu).safetyOut))

/-- A DATA PDU is checked by SEQ and updates the consumer's permit (R463). -/
def execSclData (s : State) : Outcome :=
  done (s.upIn 1 (fun s => (s.sclDataPdu).safetyOut))

/-- A STATUS PDU gives the producer the consumer's time (R465). -/
def execSclStatus (s : State) : Outcome :=
  done (s.upIn 1 (fun s => (s.sclStatusPdu).safetyOut))

/-- A received CLOSE PDU fails the connection with reason PEERCLOSE (R469). -/
def execSclClose (s : State) : Outcome :=
  done (s.upIn 1 (fun s => (s.sclClosePdu).safetyOut))

/-- In compatibility mode, CMPWIN expires with one copy, which is discarded (R471). -/
def execCmpwinExpiry (n : Fin 8) (s : State) : Outcome :=
  done (s.upIn 1 (fun s => (s.sclSingle n.val).safetyOut))

/-- Every PERIOD, the producer sends DATA, the consumer STATUS, or an opening consumer OPEN (R465). -/
def execSclSendPeriod (n : Fin 8) (s : State) : Outcome :=
  done (s.upIn 1 (fun s => (s.sclPeriod n.val).safetyOut))

/-- AGE exceeds WDT, or a producer hears no STATUS for WDT, and the connection fails (R464). -/
def execSclWatchdog (n : Fin 8) (s : State) : Outcome :=
  done (s.upIn 1 (fun s => (s.connWatch n.val).safetyOut))

/-- 1 s after a failure, a consumer returns to OPENING (R469). -/
def execSclReopenTimer (n : Fin 8) (s : State) : Outcome :=
  done (s.upIn 1 (fun s => (s.sclReturn n.val).safetyOut))

/-- Safety layer command that sends connection CONN back to OPENING (R476). -/
def execReopen (o : Origin) (n : Fin 8) (s : State) : Outcome :=
  done (s.command o Reg.SCL_CMD (1 + 256 * n.val))

/-- Safety layer command CLOSE that fails connection CONN with reason COMMAND (R476). -/
def execSclCloseCommand (o : Origin) (n : Fin 8) (s : State) : Outcome :=
  done (s.command o Reg.SCL_CMD (2 + 256 * n.val))

end Sys2Proof.Machine
end

