-- ==== Sys2Proof/Machine/CmdScan.lean ====
section
/-! DEFINITION. Meanings of the commands: Scans and telemetry queues. -/

namespace Sys2Proof.Machine

/-- At each 10 ms grid instant less OFFSET, a cell scan TICK is launched on every enabled ring (R122). -/
def execCellScanTick (s : State) : Outcome :=
  done (s.upIn 7 State.scanTickAll)

/-- At S + 100 µs, COLLECT_SCAN requests are issued to every reachable position (R128). -/
def execScanCollectionStart (s : State) : Outcome :=
  done (s.upIn 7 State.collectScan)

/-- A cell scan report is accepted under its SEQ, queued, and written into the inactive bank of the cell state table
(R129). -/
def execScanReport (r : Fin 4) (port : Side) (f : RingFrame) (s : State) : Outcome :=
  done (s.upIn 7 (fun s => s.ringReceive r.val port f))

/-- When all positions have reported or the collection deadline passes, group V is published and SCAN_DONE is set
(R130). -/
def execScanPublication (deadline : Bool) (s : State) : Outcome :=
  done (s.upIn 7 (fun s => s.scanPublished deadline))

/-- From S + 2 ms of a temperature scan, COLLECT_TEMP requests are issued (R131). -/
def execTempCollectionStart (s : State) : Outcome :=
  done (s.upIn 7 State.collectTemp)

/-- A temperature report is accepted under its SEQ and passed to the queue and the thermal manager (R131). -/
def execTempReport (r : Fin 4) (port : Side) (f : RingFrame) (s : State) : Outcome :=
  done (s.upIn 7 (fun s => s.ringReceive r.val port f))

/-- At S + 900 ms, temperature collection ends and TEMP_DONE is set (R131). -/
def execTempDeadline (s : State) : Outcome :=
  done (s.upIn 7 State.endTemp)

/-- At the calibration period, or after a mode change, a TICK of kind 0x04 is launched from each transmitting port
(R133). -/
def execDelayCalibration (r : Fin 4) (s : State) : Outcome :=
  done (s.upIn 7 (fun s => s.launchCal r.val))

/-- The calibration tick returns to its port; T_ret is measured and each position's path delay is computed (R135). -/
def execCalibrationTickReturn (r : Fin 4) (port : Side) (tret : Nat) (reports : List DcalReport) (s : State) : Outcome :=
  done (s.upIn 7 (fun s => s.calReturn r.val (isSouth port) tret reports))

/-- A request that waited for queue space is issued once the reservation fits (R147). -/
def execQueueStallIssue (r : Fin 4) (k : Nat) (s : State) : Outcome :=
  done (s.upIn 7 (fun s => s.unstall r.val k))

/-- A read of SRQ_QqDATA returns the next word of the selected packet and removes the packet at its last word (R151). -/
def execQueueDataRead (o : Origin) (q : Fin 4) (s : State) : Outcome :=
  done (s.readBy o (Reg.SRQ_QDATA q.val))

/-- A write of SRQ_QqCMD.FLUSH requests the removal of the committed packets of the selected classes (R153). -/
def execQueueFlush (o : Origin) (q : Fin 4) (classes : BitVec 4) (s : State) : Outcome :=
  done (s.command o (Reg.SRQ_QCMD q.val) classes.toNat)

/-- At the first write-side packet boundary, the flush removes the selected committed packets (R153). -/
def execFlushBoundary (q : Fin 4) (s : State) : Outcome :=
  done (s.upIn 2 (fun s => s.flushQueue q.val))

/-- Clearing SRQ_CTRL.EN empties all queues, returns reservations and clears counts (R155). -/
def execQueueDisable (o : Origin) (s : State) : Outcome :=
  done (s.command o (Reg.ctrl Pg.SRQ) 0)

/-- A read of word 0 of a cell state table entry latches the whole entry for the reading origin (R159). -/
def execCellEntryRead (o : Origin) (entry : Fin 3072) (s : State) : Outcome :=
  done (s.readBy o (0x20000 + 64 * entry.val))

end Sys2Proof.Machine
end

