-- ==== Sys2Proof/Machine/CmdString.lean ====
section
/-! DEFINITION. Meanings of the commands: String commands and contributions. -/

namespace Sys2Proof.Machine

/-- String command that runs the connect sequence from READY: branches, precharge, main pair (R390). -/
def execConnect (q : Req) (s : State) : Outcome :=
  done (s.stringCommand q 1)

/-- String command that starts the converter from CONNECTED and enters RUNNING (R284). -/
def execRun (q : Req) (s : State) : Outcome :=
  done (s.stringCommand q 2)

/-- String command that moves RUNNING to STOPPING, with a current ramp to zero (R22). -/
def execHalt (q : Req) (s : State) : Outcome :=
  done (s.stringCommand q 3)

/-- String command that opens the pairs from CONNECTED by the controlled opening (R392). -/
def execDisconnect (q : Req) (s : State) : Outcome :=
  done (s.stringCommand q 4)

/-- String command that clears Snare when no unmasked source is asserted and no class A or B fault stands (R379). -/
def execClearTrip (q : Req) (s : State) : Outcome :=
  done (s.stringCommand q 5)

/-- String command that writes back learned data and enters transport mode from READY (R658). -/
def execTransport (q : Req) (s : State) : Outcome :=
  done (s.stringCommand q 6)

/-- A derate contribution that has not been renewed for 2 s (estimator) or 5 s (thermal) is replaced by its fallback
limit (R16). -/
def execContributionFallback (c : Contributor) (s : State) : Outcome :=
  done (s.upIn 5 (fun s => s.fallback c))

end Sys2Proof.Machine
end

