-- ==== Sys2Proof/Machine/CmdTime.lean ====
section
/-! DEFINITION. Meanings of the commands: Time. -/

namespace Sys2Proof.Machine

/-- An accepted Sync moves the domain toward LOCKED and the servo steps or trims it (R535). -/
def execPtpSync (lane : Fin 4) (m : PtpMsg) (s : State) : Outcome :=
  done (s.upIn 3 (fun s => s.upIn 9 (fun s => s.syncIn lane.val m)))

/-- A Follow_Up completes a two-step Sync measurement (R539). -/
def execPtpFollowUp (lane : Fin 4) (m : PtpMsg) (s : State) : Outcome :=
  done (s.upIn 3 (fun s => s.upIn 9 (fun s => s.followUpIn lane.val m)))

/-- An Announce takes part in the BMCA for its domain (R541). -/
def execPtpAnnounce (lane : Fin 4) (m : PtpMsg) (s : State) : Outcome :=
  done (s.upIn 3 (fun s => s.upIn 9 (fun s => s.announceIn lane.val m)))

/-- A Pdelay_Req is answered with Pdelay_Resp and its follow-up (R539). -/
def execPtpPdelayReq (lane : Fin 4) (m : PtpMsg) (s : State) : Outcome :=
  done (s.upIn 3 (fun s => s.upIn 9 (fun s => s.pdelayReq lane.val m)))

/-- A Pdelay_Resp gives a peer delay measurement (R539). -/
def execPtpPdelayResp (lane : Fin 4) (m : PtpMsg) (s : State) : Outcome :=
  done (s.upIn 3 (fun s => s.upIn 9 (fun s => s.pdelayResp lane.val m)))

/-- A Pdelay_Resp_Follow_Up completes the peer delay measurement (R539). -/
def execPtpPdelayRespFollowUp (lane : Fin 4) (m : PtpMsg) (s : State) : Outcome :=
  done (s.upIn 3 (fun s => s.upIn 9 (fun s => s.pdelayFollow lane.val m)))

/-- Once a second, each PTP port sends Pdelay_Req (R539). -/
def execPdelayTimer (lane : Fin 4) (s : State) : Outcome :=
  done (s.upIn 3 (fun s => s.upIn 9 (fun s => s.pdelayTick lane.val)))

/-- A MASTER domain sends Sync and Announce at its intervals (R541). -/
def execPtpMasterTimer (d : Fin 2) (s : State) : Outcome :=
  done (s.upIn 3 (fun s => s.upIn 9 (fun s => s.masterTick d.val)))

/-- No Sync for 3 intervals puts a LOCKED domain in HOLDOVER (R532). -/
def execSyncTimeout (d : Fin 2) (s : State) : Outcome :=
  done (s.upIn 3 (fun s => s.syncLost d.val))

/-- HOLDOVER or ACQUIRING beyond TIM_HOLD.TIME puts the domain in UNSYNC (R532). -/
def execHoldoverTimeout (d : Fin 2) (s : State) : Outcome :=
  done (s.upIn 3 (fun s => s.holdLost d.val))

/-- No better Announce for announceReceiptTimeout lets a GMCAP domain become MASTER (R541). -/
def execAnnounceTimeout (d : Fin 2) (s : State) : Outcome :=
  done (s.upIn 3 (fun s => s.announceLost d.val))

/-- A FIRMWARE write of TIM_DdADJ steps the domain clock (R535). -/
def execDomainAdjust (o : Origin) (d : Fin 2) (v : Word) (s : State) : Outcome :=
  done (s.command o (Reg.TIM_DADJ d.val) v.toNat)

/-- A FIRMWARE write of TIM_DdINC changes the domain's rate within ±500 ppm (R535). -/
def execIncrementWrite (o : Origin) (d : Fin 2) (v : Word) (s : State) : Outcome :=
  done (s.command o (Reg.TIM_DINC d.val) v.toNat)

/-- The residual reaches 0 and the slew ends (R536). -/
def execSlewEnd (s : State) : Outcome :=
  done (s.upIn 3 State.slewOver)

/-- The preferred domain LOCKED or MASTER for 60 s becomes active again (R538). -/
def execRevertTimer (s : State) : Outcome :=
  done (s.upIn 3 State.revert)

/-- Time command SWITCH that makes domain DOM active when it is synchronised (R538). -/
def execDomainSwitch (o : Origin) (d : Fin 2) (s : State) : Outcome :=
  done (s.command o Reg.TIM_CMD (1 + 256 * d.val))

/-- Time command that sets TIM_CNT, TIM_PTPCNT and every slot STAT to 0 (R553). -/
def execTimClearCounts (o : Origin) (s : State) : Outcome :=
  done (s.command o Reg.TIM_CMD 2)

/-- Time service that returns plant time, MONO and state from one TIME cycle (R543). -/
def execTimeGet (q : Req) (s : State) : Outcome :=
  done (s.timeGetSvc q)

/-- Time service that sets or offsets a FREE domain clock (R544). -/
def execTimeSet (q : Req) (dom : Byte) (mode : Byte) (sec : BitVec 48) (ns : Word) (s : State) : Outcome :=
  done (s.timeSetSvc q dom.toNat mode.toNat sec.toNat ns.toNat)

/-- A time pulse output reaches a leading-edge instant and goes active (R545). -/
def execTpoLeadingEdge (k : Fin 8) (s : State) : Outcome :=
  done (s.upIn 3 (fun s => s.tpoLead k.val))

/-- A time pulse output reaches the end of its width and goes inactive (R545). -/
def execTpoTrailingEdge (k : Fin 8) (s : State) : Outcome :=
  done (s.upIn 3 (fun s => s.tpoTrail k.val))

/-- Setting a launch slot's EN checks its header and arms it, or sets LREJ (R549). -/
def execLaunchArm (o : Origin) (kind : SlotKind) (s_ : Fin 8) (v : Word) (s : State) : Outcome :=
  done (s.command o (slotCtl kind s_.val) v.toNat)

/-- MONO reaches a fabric slot's instant and its frame enters the class 1 queue, or counts MISSED (R548). -/
def execFabricLaunch (s_ : Fin 8) (s : State) : Outcome :=
  done (s.upIn 3 (fun s => s.launchFabric s_.val))

/-- MONO reaches a CAN slot's instant and the object's transmit request is set (R548). -/
def execCanLaunch (s_ : Fin 8) (s : State) : Outcome :=
  done (s.upIn 3 (fun s => s.launchCan s_.val))

/-- A read of TIM_PTSH, TIM_P0SH or TIM_DdTSH latches the associated words for the reading origin from one TIME cycle
(R552). -/
def execPlantTimeRead (o : Origin) (what : TimeRead) (s : State) : Outcome :=
  done (s.readBy o (timeReadAddr what))

end Sys2Proof.Machine
end

