-- ==== Sys2Proof/Machine/CmdTwin.lean ====
section
/-! DEFINITION. Meanings of the commands: Twin operation. -/

namespace Sys2Proof.Machine

/-- The partner's ownership line falls, which arms a takeover (R598). -/
def execOwnInFall (s : State) : Outcome :=
  done (s.upIn 2 State.ownInFalls)

/-- By the second trigger after OWN_IN falls, the standby takes control and raises TWIN_TAKEOVER (R598). -/
def execTakeover (s : State) : Outcome :=
  done (s.upIn 2 State.takeOver)

/-- At start, OWN_IN low for 100 ms or 400 ms lets the module raise OWN_OUT (R588). -/
def execOwnershipStart (_ : Unit) (s : State) : Outcome :=
  done (s.upIn 2 State.ownStart)

/-- Both OWN lines high longer than 40 ns; the non-home module drops OWN_OUT (R588). -/
def execOwnershipConflict (s : State) : Outcome :=
  done (s.upIn 2 State.ownConflict)

/-- Every 100 ms, each module sends TOLL (R592). -/
def execTollSend (s : State) : Outcome :=
  done (s.upIn 9 State.tollOut)

/-- A received TOLL updates the partner's health, state and CRC (R592). -/
def execToll (m : TollMsg) (s : State) : Outcome :=
  done (s.upIn 9 (fun s => (s.tollIn m).mirrorAgain))

/-- No TOLL for TMO marks the partner LOST (R592). -/
def execPartnerLost (s : State) : Outcome :=
  done (s.upIn 2 State.partnerGone)

/-- A SAMPLE frame from the duty is compared with the standby's sample and its states are tracked (R593). -/
def execTwinSample (m : SampleMsg) (s : State) : Outcome :=
  done (s.upIn 9 (fun s => s.sampleIn_ m))

/-- A HANDOVER request from the incoming module is answered by an announcement (R596). -/
def execHandoverRequest (s : State) : Outcome :=
  done (s.upIn 9 State.handoverAsked)

/-- A HANDOVER announcement names the instant H (R596). -/
def execHandoverAnnouncement (h : Instant) (s : State) : Outcome :=
  done (s.upIn 9 (fun s => s.announced h.toNat))

/-- At H, outputs go low, ownership passes and contactor drive moves to the incoming module (R596). -/
def execHandoverInstant (ownInHigh : Bool) (s : State) : Outcome :=
  done (s.upIn 2 (fun s => s.handoverAt ownInHigh))

/-- An unacknowledged announcement leaves ownership with the duty and raises TWIN_HANDOVER (R596). -/
def execHandoverAckTimeout (s : State) : Outcome :=
  done (s.upIn 2 State.handoverUnanswered)

/-- A MIRROR frame applies the partner's configuration write with origin TWIN (R594). -/
def execMirror (a : Addr) (v : Word) (s : State) : Outcome :=
  done (s.upIn 9 (fun s => s.mirrorIn a.toNat v))

/-- CFGCRC differing for 10 s raises TWIN_CONFIG (R594). -/
def execConfigMismatchTimer (s : State) : Outcome :=
  done (s.upIn 2 State.configDiffers)

/-- A STATE frame gives the standby learned records for its next update (R595). -/
def execState (cells : List (Fin 3072 × List Word)) (s : State) : Outcome :=
  done (s.upIn 9 (fun s => s.stateIn (cells.map (fun c => (c.1.val, c.2)))))

/-- At least every 10 s, the duty sends its learned records (R595). -/
def execStateSendTimer (s : State) : Outcome :=
  done (s.upIn 9 State.stateOut)

/-- A RELAY frame carries reports of the delegate ring half to the master (R602). -/
def execRelay (r : Fin 4) (f : RingFrame) (s : State) : Outcome :=
  done (s.upIn 9 (fun s => s.relayIn r.val f))

/-- A LOG frame stores the partner's records with FWD set (R626). -/
def execLog (records : List (List Byte)) (s : State) : Outcome :=
  done (s.upIn 9 (fun s => s.logIn records))

/-- The home standby healthy for 60 s requests a handover (R599). -/
def execRevertDue (s : State) : Outcome :=
  done (s.upIn 2 State.revertAsk)

/-- Every 10 min, the twin self-test starts (R597). -/
def execSelfTestTimer (s : State) : Outcome :=
  done (s.upIn 2 (fun s => s.startSelfTest.surrender))

/-- The 10 ms self-test ends and sets SELF (R597). -/
def execSelfTestDone (passed : Bool) (s : State) : Outcome :=
  done (s.upIn 2 (fun s => (s.endSelfTest passed).surrender))

/-- Twin command HANDOVER that has the duty hand over when PELIG is 1 (R605). -/
def execHandoverCommand (o : Origin) (s : State) : Outcome :=
  done (s.command o Reg.TWN_CMD 1)

/-- Twin command that runs the self-test (R605). -/
def execSelftest (o : Origin) (s : State) : Outcome :=
  done (s.command o Reg.TWN_CMD 2)

/-- Twin command that resets the partner through PARTNER_RST_N (R600). -/
def execPartnerReset (o : Origin) (s : State) : Outcome :=
  done (s.command o Reg.TWN_CMD 3)

/-- The partner lost for KILL while OWN_IN is high is reset (R600). -/
def execPartnerKill (s : State) : Outcome :=
  done (s.upIn 2 State.killPartner)

/-- Twin command that cycles the partner's power (R601). -/
def execPowerCycle (o : Origin) (s : State) : Outcome :=
  done (s.command o Reg.TWN_CMD 4)

/-- The partner still lost 10 s after a reset has its power cycled (R601). -/
def execPowerCycleDue (s : State) : Outcome :=
  done (s.upIn 2 State.powerCycleNow)

/-- After OFF, PARTNER_PWR_EN goes high again (R601). -/
def execPartnerPowerRestore (s : State) : Outcome :=
  done (s.upIn 2 State.powerBack)

/-- Twin command that holds PARTNER_PWR_EN low until ADMIT (R605). -/
def execPowerOff (o : Origin) (s : State) : Outcome :=
  done (s.command o Reg.TWN_CMD 5)

/-- Twin command that sets PARTNER_PWR_EN high and admits a new partner (R605). -/
def execTwinAdmit (o : Origin) (s : State) : Outcome :=
  done (s.command o Reg.TWN_CMD 6)

/-- Twin command CLEAR that sets the partner reset count to 0 (R605). -/
def execTwinClear (o : Origin) (s : State) : Outcome :=
  done (s.command o Reg.TWN_CMD 7)

/-- The module's own 10 ms assertion of PARTNER_RST_N ends; it releases the line and, 1 µs later, takes the line as a
reset source of its own again (R586). -/
def execPartnerResetEnd (s : State) : Outcome :=
  done (s.resetEnds)

end Sys2Proof.Machine
end

