-- ==== Sys2Proof/Machine/CmdUpdate.lean ====
section
/-! DEFINITION. Meanings of the commands: Firmware update. -/

namespace Sys2Proof.Machine

/-- Update service that returns phase, banks, versions and lock (R681). -/
def execUpdStatus (q : Req) (s : State) : Outcome :=
  done (s.updStatusSvc q)

/-- Update service that claims the update lock (R674). -/
def execUpdClaim (q : Req) (s : State) : Outcome :=
  done (s.updService q 0x301 (fun s => s.updClaim q.origin))

/-- Update service that releases the update lock (R674). -/
def execUpdRelease (q : Req) (s : State) : Outcome :=
  done (s.updService q 0x302 (fun s => s.updRelease q.origin))

/-- Update service that writes a block of the bundle into the staging bank (R676). -/
def execUpdWrite (q : Req) (offset : Word) (data : List Byte) (s : State) : Outcome :=
  done (s.updService q 0x303 (fun s => s.updWrite q.origin q.lane.val offset.toNat data))

/-- Update service that starts verification of the staging bank (R676). -/
def execUpdVerify (q : Req) (s : State) : Outcome :=
  done (s.updService q 0x304 (fun s => s.updVerify q.origin))

/-- Update service that activates the staged bundle at once or arms it (R678). -/
def execUpdActivate (q : Req) (imm : Bool) (acts : BitVec 48) (actn : Word) (s : State) : Outcome :=
  done (s.updService q 0x305 (fun s => s.updActivate q.origin imm acts.toNat actn.toNat))

/-- Update service that empties the staging bank (R675). -/
def execUpdDiscard (q : Req) (s : State) : Outcome :=
  done (s.updService q 0x306 (fun s => s.updDiscard q.origin))

/-- A neighbour offers a bundle, which is answered HAVE, BUSY or OK and then fetched (R677). -/
def execUpdOffer (q : Req) (bid : BitVec 64) (_version : Word) (_svn : Word) (length : Word) (s : State) : Outcome :=
  done (s.neighbourService q 0x307 (fun s => s.updOffer q.origin q.lane.val bid.toNat length.toNat))

/-- A neighbour fetches a piece of a verified bundle (R677). -/
def execUpdFetch (q : Req) (bid : BitVec 64) (offset : Word) (len : BitVec 16) (s : State) : Outcome :=
  done (s.neighbourService q 0x308 (fun s => s.updFetch q.origin q.lane.val bid.toNat offset.toNat len.toNat))

/-- Update service that loads one image into its block in recovery or test (R673). -/
def execUpdLoad (q : Req) (kind : Byte) (s : State) : Outcome :=
  done (s.updLoadSvc q kind.toNat)

/-- Update command that claims the update lock (R674). -/
def execClaim (o : Origin) (s : State) : Outcome :=
  done (s.command o Reg.UPD_CMD 1)

/-- Update command RELEASE that releases the update lock (R684). -/
def execUpdateRelease (o : Origin) (s : State) : Outcome :=
  done (s.command o Reg.UPD_CMD 2)

/-- Update command that starts verification (R684). -/
def execVerify (o : Origin) (s : State) : Outcome :=
  done (s.command o Reg.UPD_CMD 3)

/-- Update command that activates at once (R684). -/
def execActivate (o : Origin) (s : State) : Outcome :=
  done (s.command o Reg.UPD_CMD 4)

/-- Update command that empties the staging bank (R684). -/
def execDiscard (o : Origin) (s : State) : Outcome :=
  done (s.command o Reg.UPD_CMD 5)

/-- Update command that cancels an ARMED activation (R684). -/
def execDisarm (o : Origin) (s : State) : Outcome :=
  done (s.command o Reg.UPD_CMD 6)

/-- Verification ends with the bank STAGED and offers sent, or rejected with REASON (R676). -/
def execVerificationDone (_u : Unit) (s : State) : Outcome :=
  done (s.upIn 2 State.verified)

/-- 60 s without a service from the holder ends the update lock (R674). -/
def execUpdateLockTimeout (s : State) : Outcome :=
  done (s.upIn 2 State.lockTimeout)

/-- The activation instant is reached; UPDATE asserts at L3 and the new bank starts in TRIAL (R679). -/
def execActivation (s : State) : Outcome :=
  done (s.upIn 2 State.activation)

/-- A response to this module's own UPD_FETCH arrives from the offering neighbour; its data is written into the staging
bank and, when LENGTH is complete, verification starts (R677). -/
def execFetchResponse (lane : Fin 5) (offset : Word) (data : List Byte) (s : State) : Outcome :=
  done (s.upIn 9 (fun s => s.fetchIn lane.val offset.toNat data))

end Sys2Proof.Machine
end

