-- ==== Sys2Proof/Machine/Dispatch.lean ====
section
/-! DEFINITION. One arm per command, each a direct call of its meaning. -/

namespace Sys2Proof.Machine

def exec (i : Instr) (s : State) : Host.Outcome State Fault Refusal :=
  match i with
  | .registerWrite o a v => Sys2Proof.Machine.execRegisterWrite o a v s
  | .boundaryApply b => Sys2Proof.Machine.execBoundaryApply b s
  | .commitGo o p => Sys2Proof.Machine.execCommitGo o p s
  | .commitDiscard o p => Sys2Proof.Machine.execCommitDiscard o p s
  | .commitApply p => Sys2Proof.Machine.execCommitApply p s
  | .shadowLapse p => Sys2Proof.Machine.execShadowLapse p s
  | .lockPage o p => Sys2Proof.Machine.execLockPage o p s
  | .unlockPage o p => Sys2Proof.Machine.execUnlockPage o p s
  | .irqsClear o p bits => Sys2Proof.Machine.execIrqsClear o p bits s
  | .erraClear o p => Sys2Proof.Machine.execErraClear o p s
  | .auditSummary o code a => Sys2Proof.Machine.execAuditSummary o code a s
  | .wordPairRead o a => Sys2Proof.Machine.execWordPairRead o a s
  | .writeIncrementing count a data crc => Sys2Proof.Machine.execWriteIncrementing count a data crc s
  | .writeFixed count a data crc => Sys2Proof.Machine.execWriteFixed count a data crc s
  | .readIncrementing count a crc => Sys2Proof.Machine.execReadIncrementing count a crc s
  | .readFixed count a crc => Sys2Proof.Machine.execReadFixed count a crc s
  | .resendLastRead head a crc => Sys2Proof.Machine.execResendLastRead head a crc s
  | .hostTransactionCut afterCrc => Sys2Proof.Machine.execHostTransactionCut afterCrc s
  | .hostServiceSubmit o v => Sys2Proof.Machine.execHostServiceSubmit o v s
  | .regRead q a count => Sys2Proof.Machine.execRegRead q a count s
  | .regWrite q a count data => Sys2Proof.Machine.execRegWrite q a count data s
  | .connect q => Sys2Proof.Machine.execConnect q s
  | .run q => Sys2Proof.Machine.execRun q s
  | .halt q => Sys2Proof.Machine.execHalt q s
  | .disconnect q => Sys2Proof.Machine.execDisconnect q s
  | .clearTrip q => Sys2Proof.Machine.execClearTrip q s
  | .transport q => Sys2Proof.Machine.execTransport q s
  | .contributionFallback c => Sys2Proof.Machine.execContributionFallback c s
  | .ringEnable o r => Sys2Proof.Machine.execRingEnable o r s
  | .ringDisable o r => Sys2Proof.Machine.execRingDisable o r s
  | .portTrainingDone r => Sys2Proof.Machine.execPortTrainingDone r s
  | .ringFrameReceive r port f => Sys2Proof.Machine.execRingFrameReceive r port f s
  | .requestEcho r port tag => Sys2Proof.Machine.execRequestEcho r port tag s
  | .transactionTimeout r tag => Sys2Proof.Machine.execTransactionTimeout r tag s
  | .retryBackoff r k => Sys2Proof.Machine.execRetryBackoff r k s
  | .alarmDetect r port => Sys2Proof.Machine.execAlarmDetect r port s
  | .alarmStatusReport r port f => Sys2Proof.Machine.execAlarmStatusReport r port f s
  | .linkLoss r port => Sys2Proof.Machine.execLinkLoss r port s
  | .linkRecovery r port => Sys2Proof.Machine.execLinkRecovery r port s
  | .linkLost r port pos lost => Sys2Proof.Machine.execLinkLost r port pos lost s
  | .healTimer r => Sys2Proof.Machine.execHealTimer r s
  | .heal o r => Sys2Proof.Machine.execHeal o r s
  | .enumerate o r => Sys2Proof.Machine.execEnumerate o r s
  | .isolate o r pos => Sys2Proof.Machine.execIsolate o r pos s
  | .ringRelease o r pos => Sys2Proof.Machine.execRingRelease o r pos s
  | .resetSupervisors o r => Sys2Proof.Machine.execResetSupervisors o r s
  | .cellScanTick => Sys2Proof.Machine.execCellScanTick s
  | .scanCollectionStart => Sys2Proof.Machine.execScanCollectionStart s
  | .scanReport r port f => Sys2Proof.Machine.execScanReport r port f s
  | .scanPublication deadline => Sys2Proof.Machine.execScanPublication deadline s
  | .tempCollectionStart => Sys2Proof.Machine.execTempCollectionStart s
  | .tempReport r port f => Sys2Proof.Machine.execTempReport r port f s
  | .tempDeadline => Sys2Proof.Machine.execTempDeadline s
  | .delayCalibration r => Sys2Proof.Machine.execDelayCalibration r s
  | .calibrationTickReturn r port tret reports => Sys2Proof.Machine.execCalibrationTickReturn r port tret reports s
  | .queueStallIssue r k => Sys2Proof.Machine.execQueueStallIssue r k s
  | .queueDataRead o q => Sys2Proof.Machine.execQueueDataRead o q s
  | .queueFlush o q classes => Sys2Proof.Machine.execQueueFlush o q classes s
  | .flushBoundary q => Sys2Proof.Machine.execFlushBoundary q s
  | .queueDisable o => Sys2Proof.Machine.execQueueDisable o s
  | .cellEntryRead o entry => Sys2Proof.Machine.execCellEntryRead o entry s
  | .chimeEnable o => Sys2Proof.Machine.execChimeEnable o s
  | .chimeDisable o => Sys2Proof.Machine.execChimeDisable o s
  | .phasorCollectionStart => Sys2Proof.Machine.execPhasorCollectionStart s
  | .phasorReport r port f => Sys2Proof.Machine.execPhasorReport r port f s
  | .phasorCollectionDeadline => Sys2Proof.Machine.execPhasorCollectionDeadline s
  | .captureRef o => Sys2Proof.Machine.execCaptureRef o s
  | .chimeRestart o => Sys2Proof.Machine.execChimeRestart o s
  | .clearAvg o => Sys2Proof.Machine.execClearAvg o s
  | .estimatorUpdate => Sys2Proof.Machine.execEstimatorUpdate s
  | .estimatorEnable o => Sys2Proof.Machine.execEstimatorEnable o s
  | .writeback o => Sys2Proof.Machine.execWriteback o s
  | .writebackPeriod => Sys2Proof.Machine.execWritebackPeriod s
  | .writebackCompletion how => Sys2Proof.Machine.execWritebackCompletion how s
  | .reload o => Sys2Proof.Machine.execReload o s
  | .restartLearn o => Sys2Proof.Machine.execRestartLearn o s
  | .balancePlanning => Sys2Proof.Machine.execBalancePlanning s
  | .replan o => Sys2Proof.Machine.execReplan o s
  | .stopAll o => Sys2Proof.Machine.execStopAll o s
  | .balancingDisable o => Sys2Proof.Machine.execBalancingDisable o s
  | .thermalScan go => Sys2Proof.Machine.execThermalScan go s
  | .clearOt o => Sys2Proof.Machine.execClearOt o s
  | .clearSensor o => Sys2Proof.Machine.execClearSensor o s
  | .coolingDemand => Sys2Proof.Machine.execCoolingDemand s
  | .chillerTimeout => Sys2Proof.Machine.execChillerTimeout s
  | .pwmEnable o => Sys2Proof.Machine.execPwmEnable o s
  | .pwmDisable o => Sys2Proof.Machine.execPwmDisable o s
  | .sampleTrigger => Sys2Proof.Machine.execSampleTrigger s
  | .dutyLoad cell peak => Sys2Proof.Machine.execDutyLoad cell peak s
  | .flyingCapReady => Sys2Proof.Machine.execFlyingCapReady s
  | .fcTimeout => Sys2Proof.Machine.execFcTimeout s
  | .busRampDone => Sys2Proof.Machine.execBusRampDone s
  | .busTimeout => Sys2Proof.Machine.execBusTimeout s
  | .stopComplete => Sys2Proof.Machine.execStopComplete s
  | .gateDriverFaultInput n => Sys2Proof.Machine.execGateDriverFaultInput n s
  | .adcEnable o => Sys2Proof.Machine.execAdcEnable o s
  | .adcDisable o => Sys2Proof.Machine.execAdcDisable o s
  | .regularSequence conv => Sys2Proof.Machine.execRegularSequence conv s
  | .conversionDone conv input nanovolts injected at_ => Sys2Proof.Machine.execConversionDone conv input nanovolts injected at_ s
  | .referenceCheck sample => Sys2Proof.Machine.execReferenceCheck sample s
  | .referenceTimeout => Sys2Proof.Machine.execReferenceTimeout s
  | .calibrationDue => Sys2Proof.Machine.execCalibrationDue s
  | .calibrationDone conv gain offs => Sys2Proof.Machine.execCalibrationDone conv gain offs s
  | .calibrate o conv => Sys2Proof.Machine.execCalibrate o conv s
  | .adcClearCounts o => Sys2Proof.Machine.execAdcClearCounts o s
  | .kirchhoffInterval => Sys2Proof.Machine.execKirchhoffInterval s
  | .controlSample => Sys2Proof.Machine.execControlSample s
  | .setpoint o w4 => Sys2Proof.Machine.execSetpoint o w4 s
  | .setpointClear o w4 => Sys2Proof.Machine.execSetpointClear o w4 s
  | .swapRequest o v => Sys2Proof.Machine.execSwapRequest o v s
  | .loopLockup => Sys2Proof.Machine.execLoopLockup s
  | .testStart o => Sys2Proof.Machine.execTestStart o s
  | .testStop o => Sys2Proof.Machine.execTestStop o s
  | .capture o => Sys2Proof.Machine.execCapture o s
  | .lpeClearCounts o => Sys2Proof.Machine.execLpeClearCounts o s
  | .lpeEnable o => Sys2Proof.Machine.execLpeEnable o s
  | .lpeDisable o => Sys2Proof.Machine.execLpeDisable o s
  | .comparatorAssert x => Sys2Proof.Machine.execComparatorAssert x s
  | .comparatorReturn x => Sys2Proof.Machine.execComparatorReturn x s
  | .protectionContribution => Sys2Proof.Machine.execProtectionContribution s
  | .digitalLimitFail row inst => Sys2Proof.Machine.execDigitalLimitFail row inst s
  | .digitalLimitRecover row inst => Sys2Proof.Machine.execDigitalLimitRecover row inst s
  | .auxChange p readsOpen => Sys2Proof.Machine.execAuxChange p readsOpen s
  | .contactorCloseTimeout p => Sys2Proof.Machine.execContactorCloseTimeout p s
  | .contactorOpenTimeout p => Sys2Proof.Machine.execContactorOpenTimeout p s
  | .prechargeComplete => Sys2Proof.Machine.execPrechargeComplete s
  | .prechargeTimeout => Sys2Proof.Machine.execPrechargeTimeout s
  | .join o b => Sys2Proof.Machine.execJoin o b s
  | .separate o b => Sys2Proof.Machine.execSeparate o b s
  | .clearWeld o => Sys2Proof.Machine.execClearWeld o s
  | .controlledOpening => Sys2Proof.Machine.execControlledOpening s
  | .zeroTimeout => Sys2Proof.Machine.execZeroTimeout s
  | .ctkDisable o => Sys2Proof.Machine.execCtkDisable o s
  | .holdoverAdopt => Sys2Proof.Machine.execHoldoverAdopt s
  | .holdoverEnd => Sys2Proof.Machine.execHoldoverEnd s
  | .insulationHalfPeriod go ended => Sys2Proof.Machine.execInsulationHalfPeriod go ended s
  | .isoEnable o => Sys2Proof.Machine.execIsoEnable o s
  | .faultDequeue => Sys2Proof.Machine.execFaultDequeue s
  | .eventCodeLatch => Sys2Proof.Machine.execEventCodeLatch s
  | .alarmQuiet => Sys2Proof.Machine.execAlarmQuiet s
  | .nanQuiet => Sys2Proof.Machine.execNanQuiet s
  | .stormEnd => Sys2Proof.Machine.execStormEnd s
  | .faultAck o => Sys2Proof.Machine.execFaultAck o s
  | .safetyCycle rbA rbB shadowEqual => Sys2Proof.Machine.execSafetyCycle rbA rbB shadowEqual s
  | .filteredEdge n ch raw => Sys2Proof.Machine.execFilteredEdge n ch raw s
  | .testPulse source levelsA levelsB => Sys2Proof.Machine.execTestPulse source levelsA levelsB s
  | .discrepancyTimeout n => Sys2Proof.Machine.execDiscrepancyTimeout n s
  | .t1Expiry n => Sys2Proof.Machine.execT1Expiry n s
  | .stopdone => Sys2Proof.Machine.execStopdone s
  | .resetDeviceRelease n go => Sys2Proof.Machine.execResetDeviceRelease n go s
  | .resetDeviceStuck n => Sys2Proof.Machine.execResetDeviceStuck n s
  | .safetyReset o => Sys2Proof.Machine.execSafetyReset o s
  | .clearOutflt o => Sys2Proof.Machine.execClearOutflt o s
  | .maintonDelay => Sys2Proof.Machine.execMaintonDelay s
  | .rimshotPulse ch => Sys2Proof.Machine.execRimshotPulse ch s
  | .rimshotPulseEnd ch readLow => Sys2Proof.Machine.execRimshotPulseEnd ch readLow s
  | .rimshotCheck ch readHigh => Sys2Proof.Machine.execRimshotCheck ch readHigh s
  | .islandSelfCheckFail cause => Sys2Proof.Machine.execIslandSelfCheckFail cause s
  | .islandFaultReset => Sys2Proof.Machine.execIslandFaultReset s
  | .programCrcCheck ok => Sys2Proof.Machine.execProgramCrcCheck ok s
  | .islandInitDone => Sys2Proof.Machine.execIslandInitDone s
  | .safetyEnable o => Sys2Proof.Machine.execSafetyEnable o s
  | .safetyDisable o => Sys2Proof.Machine.execSafetyDisable o s
  | .safetyConfirm o v => Sys2Proof.Machine.execSafetyConfirm o v s
  | .handoverPrepare o => Sys2Proof.Machine.execHandoverPrepare o s
  | .handoverCommit o => Sys2Proof.Machine.execHandoverCommit o s
  | .handoverAbandon o => Sys2Proof.Machine.execHandoverAbandon o s
  | .handoverPrepareTimeout => Sys2Proof.Machine.execHandoverPrepareTimeout s
  | .startSlotSwitch => Sys2Proof.Machine.execStartSlotSwitch s
  | .sclEnable o => Sys2Proof.Machine.execSclEnable o s
  | .safetyFrame net pdu => Sys2Proof.Machine.execSafetyFrame net pdu s
  | .sclOpen => Sys2Proof.Machine.execSclOpen s
  | .sclData => Sys2Proof.Machine.execSclData s
  | .sclStatus => Sys2Proof.Machine.execSclStatus s
  | .sclClose => Sys2Proof.Machine.execSclClose s
  | .cmpwinExpiry n => Sys2Proof.Machine.execCmpwinExpiry n s
  | .sclSendPeriod n => Sys2Proof.Machine.execSclSendPeriod n s
  | .sclWatchdog n => Sys2Proof.Machine.execSclWatchdog n s
  | .sclReopenTimer n => Sys2Proof.Machine.execSclReopenTimer n s
  | .reopen o n => Sys2Proof.Machine.execReopen o n s
  | .sclCloseCommand o n => Sys2Proof.Machine.execSclCloseCommand o n s
  | .fabricEnable o => Sys2Proof.Machine.execFabricEnable o s
  | .pcsSync lane => Sys2Proof.Machine.execPcsSync lane s
  | .pcsSyncLoss lane => Sys2Proof.Machine.execPcsSyncLoss lane s
  | .hello lane f => Sys2Proof.Machine.execHello lane f s
  | .keepaliveHello lane f => Sys2Proof.Machine.execKeepaliveHello lane f s
  | .helloRepeat lane => Sys2Proof.Machine.execHelloRepeat lane s
  | .keepaliveTimer lane => Sys2Proof.Machine.execKeepaliveTimer lane s
  | .keepaliveLoss lane => Sys2Proof.Machine.execKeepaliveLoss lane s
  | .credit lane f => Sys2Proof.Machine.execCredit lane f s
  | .lsa lane f => Sys2Proof.Machine.execLsa lane f s
  | .conflictEnd a => Sys2Proof.Machine.execConflictEnd a s
  | .lsaOriginate => Sys2Proof.Machine.execLsaOriginate s
  | .lsaAgeOut origin uid => Sys2Proof.Machine.execLsaAgeOut origin uid s
  | .routeComputation => Sys2Proof.Machine.execRouteComputation s
  | .frameForward lane f => Sys2Proof.Machine.execFrameForward lane f s
  | .creditStall lane => Sys2Proof.Machine.execCreditStall lane s
  | .isolationExpiry lane => Sys2Proof.Machine.execIsolationExpiry lane s
  | .linkRestart o lane => Sys2Proof.Machine.execLinkRestart o lane s
  | .portIsolate o lane => Sys2Proof.Machine.execPortIsolate o lane s
  | .portRelease o lane => Sys2Proof.Machine.execPortRelease o lane s
  | .keyInstall o lane slot w => Sys2Proof.Machine.execKeyInstall o lane slot w s
  | .keyClear o lane slot => Sys2Proof.Machine.execKeyClear o lane slot s
  | .txkeyChange o lane slot => Sys2Proof.Machine.execTxkeyChange o lane slot s
  | .gong lane f => Sys2Proof.Machine.execGong lane f s
  | .gongPairExpiry origin gseq => Sys2Proof.Machine.execGongPairExpiry origin gseq s
  | .gongSend o reason => Sys2Proof.Machine.execGongSend o reason s
  | .dispatch q d => Sys2Proof.Machine.execDispatch q d s
  | .dispatchLost => Sys2Proof.Machine.execDispatchLost s
  | .stringReport => Sys2Proof.Machine.execStringReport s
  | .sessionChallenge q => Sys2Proof.Machine.execSessionChallenge q s
  | .sessionOpen q role tag u => Sys2Proof.Machine.execSessionOpen q role tag u s
  | .sessionClose q => Sys2Proof.Machine.execSessionClose q s
  | .roleKeyInstall o role w => Sys2Proof.Machine.execRoleKeyInstall o role w s
  | .recompute o => Sys2Proof.Machine.execRecompute o s
  | .fabClearCounts o => Sys2Proof.Machine.execFabClearCounts o s
  | .ptpSync lane m => Sys2Proof.Machine.execPtpSync lane m s
  | .ptpFollowUp lane m => Sys2Proof.Machine.execPtpFollowUp lane m s
  | .ptpAnnounce lane m => Sys2Proof.Machine.execPtpAnnounce lane m s
  | .ptpPdelayReq lane m => Sys2Proof.Machine.execPtpPdelayReq lane m s
  | .ptpPdelayResp lane m => Sys2Proof.Machine.execPtpPdelayResp lane m s
  | .ptpPdelayRespFollowUp lane m => Sys2Proof.Machine.execPtpPdelayRespFollowUp lane m s
  | .pdelayTimer lane => Sys2Proof.Machine.execPdelayTimer lane s
  | .ptpMasterTimer d => Sys2Proof.Machine.execPtpMasterTimer d s
  | .syncTimeout d => Sys2Proof.Machine.execSyncTimeout d s
  | .holdoverTimeout d => Sys2Proof.Machine.execHoldoverTimeout d s
  | .announceTimeout d => Sys2Proof.Machine.execAnnounceTimeout d s
  | .domainAdjust o d v => Sys2Proof.Machine.execDomainAdjust o d v s
  | .incrementWrite o d v => Sys2Proof.Machine.execIncrementWrite o d v s
  | .slewEnd => Sys2Proof.Machine.execSlewEnd s
  | .revertTimer => Sys2Proof.Machine.execRevertTimer s
  | .domainSwitch o d => Sys2Proof.Machine.execDomainSwitch o d s
  | .timClearCounts o => Sys2Proof.Machine.execTimClearCounts o s
  | .timeGet q => Sys2Proof.Machine.execTimeGet q s
  | .timeSet q dom mode sec ns => Sys2Proof.Machine.execTimeSet q dom mode sec ns s
  | .tpoLeadingEdge k => Sys2Proof.Machine.execTpoLeadingEdge k s
  | .tpoTrailingEdge k => Sys2Proof.Machine.execTpoTrailingEdge k s
  | .launchArm o kind s_ v => Sys2Proof.Machine.execLaunchArm o kind s_ v s
  | .fabricLaunch s_ => Sys2Proof.Machine.execFabricLaunch s_ s
  | .canLaunch s_ => Sys2Proof.Machine.execCanLaunch s_ s
  | .canEnable o x => Sys2Proof.Machine.execCanEnable o x s
  | .canIntegrated x => Sys2Proof.Machine.execCanIntegrated x s
  | .canFrameReceive x f => Sys2Proof.Machine.execCanFrameReceive x f s
  | .canRemoteFrame x => Sys2Proof.Machine.execCanRemoteFrame x s
  | .transmitRequest o x obj v => Sys2Proof.Machine.execTransmitRequest o x obj v s
  | .transmitWithdraw o x obj v => Sys2Proof.Machine.execTransmitWithdraw o x obj v s
  | .canTransmitDone x obj sof => Sys2Proof.Machine.execCanTransmitDone x obj sof s
  | .canError x e sending dataPhase heavy => Sys2Proof.Machine.execCanError x e sending dataPhase heavy s
  | .busOffRecovered x => Sys2Proof.Machine.execBusOffRecovered x s
  | .failover x obj => Sys2Proof.Machine.execFailover x obj s
  | .receiveStamp x obj => Sys2Proof.Machine.execReceiveStamp x obj s
  | .stampLate x obj => Sys2Proof.Machine.execStampLate x obj s
  | .referenceMessage x => Sys2Proof.Machine.execReferenceMessage x s
  | .recover o x => Sys2Proof.Machine.execRecover o x s
  | .canRelease o x obj => Sys2Proof.Machine.execCanRelease o x obj s
  | .canAbort o x obj => Sys2Proof.Machine.execCanAbort o x obj s
  | .canClearCounts o x => Sys2Proof.Machine.execCanClearCounts o x s
  | .canObjectRead o x obj => Sys2Proof.Machine.execCanObjectRead o x obj s
  | .ownInFall => Sys2Proof.Machine.execOwnInFall s
  | .takeover => Sys2Proof.Machine.execTakeover s
  | .ownershipStart u => Sys2Proof.Machine.execOwnershipStart u s
  | .ownershipConflict => Sys2Proof.Machine.execOwnershipConflict s
  | .tollSend => Sys2Proof.Machine.execTollSend s
  | .toll m => Sys2Proof.Machine.execToll m s
  | .partnerLost => Sys2Proof.Machine.execPartnerLost s
  | .twinSample m => Sys2Proof.Machine.execTwinSample m s
  | .handoverRequest => Sys2Proof.Machine.execHandoverRequest s
  | .handoverAnnouncement h => Sys2Proof.Machine.execHandoverAnnouncement h s
  | .handoverInstant ownInHigh => Sys2Proof.Machine.execHandoverInstant ownInHigh s
  | .handoverAckTimeout => Sys2Proof.Machine.execHandoverAckTimeout s
  | .mirror a v => Sys2Proof.Machine.execMirror a v s
  | .configMismatchTimer => Sys2Proof.Machine.execConfigMismatchTimer s
  | .state cells => Sys2Proof.Machine.execState cells s
  | .stateSendTimer => Sys2Proof.Machine.execStateSendTimer s
  | .relay r f => Sys2Proof.Machine.execRelay r f s
  | .log records => Sys2Proof.Machine.execLog records s
  | .revertDue => Sys2Proof.Machine.execRevertDue s
  | .selfTestTimer => Sys2Proof.Machine.execSelfTestTimer s
  | .selfTestDone passed => Sys2Proof.Machine.execSelfTestDone passed s
  | .handoverCommand o => Sys2Proof.Machine.execHandoverCommand o s
  | .selftest o => Sys2Proof.Machine.execSelftest o s
  | .partnerReset o => Sys2Proof.Machine.execPartnerReset o s
  | .partnerKill => Sys2Proof.Machine.execPartnerKill s
  | .powerCycle o => Sys2Proof.Machine.execPowerCycle o s
  | .powerCycleDue => Sys2Proof.Machine.execPowerCycleDue s
  | .partnerPowerRestore => Sys2Proof.Machine.execPartnerPowerRestore s
  | .powerOff o => Sys2Proof.Machine.execPowerOff o s
  | .twinAdmit o => Sys2Proof.Machine.execTwinAdmit o s
  | .twinClear o => Sys2Proof.Machine.execTwinClear o s
  | .recordIntake => Sys2Proof.Machine.execRecordIntake s
  | .recordWrite m => Sys2Proof.Machine.execRecordWrite m s
  | .freeze o => Sys2Proof.Machine.execFreeze o s
  | .evrRelease o => Sys2Proof.Machine.execEvrRelease o s
  | .clearMain o => Sys2Proof.Machine.execClearMain o s
  | .clearReserve o => Sys2Proof.Machine.execClearReserve o s
  | .mediaTest o passes => Sys2Proof.Machine.execMediaTest o passes s
  | .mediaTestTimer passes => Sys2Proof.Machine.execMediaTestTimer passes s
  | .freezeTimeout => Sys2Proof.Machine.execFreezeTimeout s
  | .optimeSave => Sys2Proof.Machine.execOptimeSave s
  | .logStatus q => Sys2Proof.Machine.execLogStatus q s
  | .logRead q area minsev fromSeq fromPcc => Sys2Proof.Machine.execLogRead q area minsev fromSeq fromPcc s
  | .logFreeze q => Sys2Proof.Machine.execLogFreeze q s
  | .logRelease q => Sys2Proof.Machine.execLogRelease q s
  | .logClear q area => Sys2Proof.Machine.execLogClear q area s
  | .logMark q text => Sys2Proof.Machine.execLogMark q text s
  | .resetAssert src => Sys2Proof.Machine.execResetAssert src s
  | .resetRelease src => Sys2Proof.Machine.execResetRelease src s
  | .pllLock k => Sys2Proof.Machine.execPllLock k s
  | .configRestore => Sys2Proof.Machine.execConfigRestore s
  | .softwareReset o v => Sys2Proof.Machine.execSoftwareReset o v s
  | .bootOk o v => Sys2Proof.Machine.execBootOk o v s
  | .bootTimeout => Sys2Proof.Machine.execBootTimeout s
  | .recoveryExit o => Sys2Proof.Machine.execRecoveryExit o s
  | .fuseBurn o => Sys2Proof.Machine.execFuseBurn o s
  | .clearBoot o => Sys2Proof.Machine.execClearBoot o s
  | .appWatchdog => Sys2Proof.Machine.execAppWatchdog s
  | .clockMonitor ppm => Sys2Proof.Machine.execClockMonitor ppm s
  | .clockLoss k => Sys2Proof.Machine.execClockLoss k s
  | .vmainWarning vmain pfailLow => Sys2Proof.Machine.execVmainWarning vmain pfailLow s
  | .warningEnd vmain => Sys2Proof.Machine.execWarningEnd vmain s
  | .hugoodFall => Sys2Proof.Machine.execHugoodFall s
  | .hugoodRise => Sys2Proof.Machine.execHugoodRise s
  | .vioLow vio => Sys2Proof.Machine.execVioLow vio s
  | .scrubPass corrected bad => Sys2Proof.Machine.execScrubPass corrected bad s
  | .dieTemperature t die => Sys2Proof.Machine.execDieTemperature t die s
  | .dieThermal => Sys2Proof.Machine.execDieThermal s
  | .transportFail => Sys2Proof.Machine.execTransportFail s
  | .transportExit => Sys2Proof.Machine.execTransportExit s
  | .updStatus q => Sys2Proof.Machine.execUpdStatus q s
  | .updClaim q => Sys2Proof.Machine.execUpdClaim q s
  | .updRelease q => Sys2Proof.Machine.execUpdRelease q s
  | .updWrite q offset data => Sys2Proof.Machine.execUpdWrite q offset data s
  | .updVerify q => Sys2Proof.Machine.execUpdVerify q s
  | .updActivate q imm acts actn => Sys2Proof.Machine.execUpdActivate q imm acts actn s
  | .updDiscard q => Sys2Proof.Machine.execUpdDiscard q s
  | .updOffer q bid version svn length => Sys2Proof.Machine.execUpdOffer q bid version svn length s
  | .updFetch q bid offset len => Sys2Proof.Machine.execUpdFetch q bid offset len s
  | .updLoad q kind => Sys2Proof.Machine.execUpdLoad q kind s
  | .claim o => Sys2Proof.Machine.execClaim o s
  | .updateRelease o => Sys2Proof.Machine.execUpdateRelease o s
  | .verify o => Sys2Proof.Machine.execVerify o s
  | .activate o => Sys2Proof.Machine.execActivate o s
  | .discard o => Sys2Proof.Machine.execDiscard o s
  | .disarm o => Sys2Proof.Machine.execDisarm o s
  | .verificationDone u => Sys2Proof.Machine.execVerificationDone u s
  | .updateLockTimeout => Sys2Proof.Machine.execUpdateLockTimeout s
  | .activation => Sys2Proof.Machine.execActivation s
  | .marginMeasurement k value => Sys2Proof.Machine.execMarginMeasurement k value s
  | .marginEvaluation => Sys2Proof.Machine.execMarginEvaluation s
  | .evaluate o => Sys2Proof.Machine.execEvaluate o s
  | .ctkReplaced o pair => Sys2Proof.Machine.execCtkReplaced o pair s
  | .comparatorTrim n => Sys2Proof.Machine.execComparatorTrim n s
  | .mramRefresh blocks => Sys2Proof.Machine.execMramRefresh blocks s
  | .norRefresh blocks => Sys2Proof.Machine.execNorRefresh blocks s
  | .idcode => Sys2Proof.Machine.execIdcode s
  | .samplePreload pattern => Sys2Proof.Machine.execSamplePreload pattern s
  | .extest => Sys2Proof.Machine.execExtest s
  | .clamp => Sys2Proof.Machine.execClamp s
  | .highz => Sys2Proof.Machine.execHighz s
  | .bypass opcode => Sys2Proof.Machine.execBypass opcode s
  | .jtagConditionLoss => Sys2Proof.Machine.execJtagConditionLoss s
  | .testLogicReset trstLow => Sys2Proof.Machine.execTestLogicReset trstLow s
  | .auth step => Sys2Proof.Machine.execAuth step s
  | .authLockoutEnd => Sys2Proof.Machine.execAuthLockoutEnd s
  | .dbgacc wr a d => Sys2Proof.Machine.execDbgacc wr a d s
  | .debugSessionTimeout => Sys2Proof.Machine.execDebugSessionTimeout s
  | .haltApp o => Sys2Proof.Machine.execHaltApp o s
  | .resumeApp o => Sys2Proof.Machine.execResumeApp o s
  | .assertReset o => Sys2Proof.Machine.execAssertReset o s
  | .releaseReset o => Sys2Proof.Machine.execReleaseReset o s
  | .endSession o => Sys2Proof.Machine.execEndSession o s
  | .gateDriverInputRelease n => Sys2Proof.Machine.execGateDriverInputRelease n s
  | .vioRestored vio => Sys2Proof.Machine.execVioRestored vio s
  | .hostileWindowEnd r => Sys2Proof.Machine.execHostileWindowEnd r s
  | .partnerResetEnd => Sys2Proof.Machine.execPartnerResetEnd s
  | .fetchResponse lane offset data => Sys2Proof.Machine.execFetchResponse lane offset data s
  | .ageStatus q => Sys2Proof.Machine.execAgeStatus q s
  | .ageHistory q index fromDay => Sys2Proof.Machine.execAgeHistory q index fromDay s
  | .plantTimeRead o what => Sys2Proof.Machine.execPlantTimeRead o what s

end Sys2Proof.Machine
end

