-- ==== Sys2Proof/Safety.lean ====
section
/-! DEFINITION. What counts as a safe run, in the terms that claims use: the outputs that follow the state, and the canonical
form of the register space. -/

namespace Sys2Proof.Machine

/-- The output lines show what the state says: IRQ_N and its ball (R62), the dispatch-open line (R23), the PWM outputs that carry
pulses (R291, R584, R649, R651), the test multiplexers (R722) and the balls that boundary cells hold (R717, R718). -/
structure State.LinesFollow (s : State) : Prop where
  irq : s.pins.irqN = s.irqLine
  dispatch : s.pins.dispatchOpen = s.dispatchOpenNow
  pwm : s.pins.pwmOut = s.pwmDriven
  tmx : s.pins.tmxOut = s.tmxLevels
  irqBall : s.pins.irqDriven = s.irqBall
  tmxA : s.pins.tmxA = s.tmxAnalog
  cells : s.pins.cells = s.boundaryPins

/-- The register space is in its one canonical form: addresses rising, no word listed at its reset value. -/
def State.regsWf (s : State) : Bool := smWf resetWord s.regs

/-- A run of `k` steps goes on: it meets neither a fault nor a refusal. -/
def runsOn : Nat → State → Prop
  | 0, _ => True
  | k + 1, s => ∃ t, step s = .next t ∧ runsOn k t

/-- Nothing drives the converter: no PWM output carries pulses. -/
def State.quiet (s : State) : Prop := s.pins.pwmOut = 0

/-! ### When a command has its own effect -/

/-- The reset domain of an event runs, and the SYS domain where the event lies behind it (R633, R637). -/
def State.Up (s : State) (d : Nat) : Prop := s.domUp d = true ∧ (d = 1 ∨ s.domUp 2 = true)

/-- The module accepts the write of `v` at `a` by an origin: no check of R54 turns it away. -/
def State.Accepts (s : State) (o : Origin) (a v : Nat) : Prop := s.writeVerdict o a v = 0

/-- The state in which a block's own start begins: the accepted write of CTRL.EN 1 is mirrored, audited and remembered, one
that waits is overtaken, and EN is set (R36, R48, R55, R594, R642). -/
def State.enabling (s : State) (o : Origin) (p : Nat) : State :=
  ((((s.mirrorOut o p (Reg.ctrl p) 1).audit 1 o (Reg.ctrl p) 0 1).remember (Reg.ctrl p) 1).overtake (Reg.ctrl p)).setOn (Fld.ctrlEn p) true

/-- The state in which a block's own stop begins: the accepted write of CTRL.EN 0 is mirrored, audited and remembered, one
that waits is overtaken, and EN is cleared (R36, R48, R55, R594, R642). -/
def State.disabling (s : State) (o : Origin) (p : Nat) : State :=
  ((((s.mirrorOut o p (Reg.ctrl p) 0).audit 1 o (Reg.ctrl p) 1 0).remember (Reg.ctrl p) 0).overtake (Reg.ctrl p)).setOn (Fld.ctrlEn p) false

/-- A request that reaches the module: through the host port, or over the fabric with a tag that verifies and in the class of
its service (R63, R483, R504). -/
def State.Reached (s : State) (q : Req) (svc : Nat) : Prop :=
  (q.origin = .host ∧ s.Up 9) ∨
  (∃ n, q.origin = .fabric n ∧ s.domUp 9 = true ∧ q.authentic = true ∧ requestClassOk q svc = true)

/-- A request that the firmware serves: the cluster runs, recovery mode does not turn the service away, and the requester's role
suffices (R24, R505). -/
def State.Served (s : State) (q : Req) (svc least : Nat) : Prop :=
  s.Reached q svc ∧ s.appUp = true ∧ s.recoveryServes svc = true ∧ ∃ r, s.roleOf q.origin = some r ∧ least ≤ r

/-- Everything behind the register space is as before: the service state, the blocks, the clocks and the queue of commands.
The record intake, the outbox, the access ports' own state and the output lines are left to the statement. -/
structure State.SameBlocks (s t : State) : Prop where
  pending : t.pending = s.pending
  free : t.free = s.free
  svc : t.svc = s.svc
  faults : t.flt = s.flt ∧ t.ctk = s.ctk ∧ t.prt = s.prt ∧ t.iso = s.iso
  converter : t.pwm = s.pwm ∧ t.adc = s.adc ∧ t.lpe = s.lpe
  clocks : t.tim = s.tim ∧ t.clk = s.clk
  cells : t.rings = s.rings ∧ t.tel = s.tel ∧ t.chm = s.chm ∧ t.est = s.est ∧ t.bal = s.bal ∧ t.thm = s.thm
  safety : t.isl = s.isl ∧ t.scl = s.scl
  links : t.fab = s.fab ∧ t.dsp = s.dsp ∧ t.can = s.can ∧ t.twn = s.twn
  support : t.upd = s.upd ∧ t.age = s.age ∧ t.dbg = s.dbg

/-- As `SameBlocks`, but for the frame counter of the TWIN lane, which an accepted write that goes to the partner moves (R484,
R594). -/
def State.SameButMirror (s t : State) : Prop :=
  (t.fab = s.fab ∨ ∃ c, t.fab = (s.modLane 4 (fun l => { l with txCtr := c })).fab) ∧ s.SameBlocks { t with fab := s.fab }

end Sys2Proof.Machine
end

