-- ==== Sys2Proof/Certificates/Slice0/Obligations.lean ====
section
/-! DEFINITION. What is claimed of the module, for the provers: register access, the lines, and for every command that it
completes with the effect that its rules give it. A completion names the whole next state, so it also says what the command
leaves alone; `settle` brings the output lines up to date with the state. -/

open Sys2Proof Sys2Proof.Machine

/-- A step takes the command at the front of the queue and is that command on the state with the queue's rest. Where the
rules leave an order or a value open, it rests on the model's choices (log 11). -/
def Obligations.StepRunsFrontCommand : Prop :=
  ∀ (s : State) (c : Instr) (rest : List Instr), s.pending = c :: rest → step s = exec c { s with pending := rest }

/-- With no command waiting, a step is one cycle of the TIME clock while its domain runs (the model's choice, log 3): outside
a slew the domain clocks, plant time and the monotonic count advance by the increments, the operating time by 4 ns (R528,
R612), a Chime window whose tick was launched opens at its T0 while SYS runs (R165), and nothing else changes; while the TIME
domain is in reset nothing changes. -/
def Obligations.EmptyQueueCountsTime : Prop :=
  (∀ s : State, s.pending = [] → s.domUp 3 = true → s.on Fld.TIM_STATE_SLEWING = false →
    step s = .next (settle
      (let u := { s with
        tim := { s.tim with d0 := s.tim.d0 + s.domInc 0, d1 := s.tim.d1 + s.domInc 1,
                            pt := s.tim.pt + s.domInc s.activeDom, mono := s.tim.mono + s.domInc s.activeDom }
        evr := { s.evr with opTime := s.evr.opTime + 4 * nsUnit } }
       if s.domUp 2 then u.chmAdvance u.nowNat else u))) ∧
  (∀ (s : State) (now : Nat), s.chm.pend = none → s.chmAdvance now = s) ∧
  (∀ (s : State) (now t0 : Nat), s.chm.pend = some t0 → now < t0 → s.chmAdvance now = s) ∧
  (∀ (s : State) (now t0 : Nat), s.chm.pend = some t0 → t0 ≤ now →
    s.chmAdvance now = ({ s with chm := { s.chm with pend := none } }).chmOpen t0) ∧
  (∀ s : State, s.pending = [] → s.domUp 3 = false → step s = .next (settle s))

/-- No command and no step ends in a fault or a refusal: the spec gives every command an effect, and an operand or a state
that a rule turns away has the effect that the rule gives it. Where the rules leave an order or a value open, it rests on the
model's choices (log 11). -/
def Obligations.EveryStepGoesOn : Prop :=
  (∀ (c : Instr) (s : State), ∃ t, exec c s = .next t) ∧ (∀ (k : Nat) (s : State), runsOn k s)

/-- After every step from every state, IRQ_N is asserted exactly when some page with its mask bit set has a non-zero IRQS,
the dispatch line, the PWM outputs, the test multiplexers and the balls that boundary cells hold follow the state. After
every step, IRQ_N is asserted if and only if some page whose mask bit is set has a non-zero IRQS (R62). Where the rules leave
an order or a value open, it rests on the model's choices (log 11). -/
def Obligations.LinesFollowEveryStep : Prop :=
  (∀ s t : State, step s = .next t → t.LinesFollow) ∧
  (∀ s t : State, step s = .next t →
    (t.pins.irqN = true ↔ ∃ p : Nat, p < 41 ∧ t.irqMasked p = true ∧ Nat.land (t.rd (Reg.irqr p)) (t.rd (Reg.irqe p)) ≠ 0))

/-- After every step from every state in which Snare is active, no PWM output carries pulses (R291), nor while VIO is low
(R651), nor in a module that does not own (R584). -/
def Obligations.SnareSilencesConverter : Prop :=
  ∀ s t : State, step s = .next t → (t.snare = true ∨ t.on Fld.PWR_STAT_VIOLOW = true ∨ t.owns = false) → t.quiet

/-- After reset no command waits, the register space lists nothing, the lines follow, and the registers read their reset
values: FAB_RKEYV 0x8 (the Service key), HST_CFG 0x2, the host session an Operator, Snare inactive. Where the rules leave an
order or a value open, it rests on the model's choices (log 1). -/
def Obligations.ResetHolds : Prop :=
  State.reset.pending = [] ∧ State.reset.regsWf = true ∧ State.reset.LinesFollow ∧ (∀ a : Nat, State.reset.word a = resetWord a) ∧
  State.reset.rd Reg.FAB_RKEYV = 8 ∧ State.reset.rd (Reg.HST_CFG) = 2 ∧ State.reset.rd Reg.HST_ROLE = 0 ∧
  State.reset.snare = false

/-- A register reads what was last written to it, every other register keeps its value, and writing keeps the register space
in its one canonical form; a field keeps every other field. Where the rules leave an order or a value open, it rests on the
model's choices (log 11). -/
def Obligations.RegisterSpaceLaws : Prop :=
  (∀ (s : State) (a b : Nat) (w : Word), (s.setWord a w).word b = if a = b then w else s.word b) ∧
  (∀ (s : State) (a : Nat) (w : Word), s.regsWf = true → (s.setWord a w).regsWf = true) ∧
  (∀ (s : State) (f g : RegField) (v : Nat), f.lo + f.width ≤ 32 → (s.put f v).get f = v % 2 ^ f.width ∧
    ((f.addr ≠ g.addr ∨ f.lo + f.width ≤ g.lo ∨ g.lo + g.width ≤ f.lo) → (s.put f v).get g = s.get g))

/-- A write that the module turns away changes no register but the ERRA of its page (R54): from every state with SYS running
the command goes on, ERRA holds VALID, the code, the origin, WR and the offset, and every other word is as before. Where the
rules leave an order or a value open, it rests on the model's choices (log 8). -/
def Obligations.RejectedWriteLeavesRegisters : Prop :=
  ∀ (s : State) (o : Origin) (a : Addr) (v : Word), s.domUp 2 = true → s.writeVerdict o a.toNat v.toNat ≠ 0 →
    ∃ t, exec (.registerWrite o a v) s = .next t ∧
      (let e := Reg.erra ((ownerPage a.toNat).getD Pg.DEV)
       t.rd e = (2 ^ 31 + s.writeVerdict o a.toNat v.toNat * 2 ^ 27 + originCode o * 2 ^ 24 + 2 ^ 23 + a.toNat % 4096) % 2 ^ 32 ∧
       ∀ b : Nat, b ≠ e → t.word b = s.word b)

/-- An accepted write of a live or frozen register of the EST, BAL, THM, PWM, LPE, PRT, ISO or SRQ page that acts now stores
the written value under the register's writable bits; the register holds it afterwards, every other word is as before, and
the value becomes stored configuration (R39, R642). The setup of a comparator that stands asserted is the one exception: with
its EN at 0 the comparator is idle, and its trip ends (R382). Where the rules leave an order or a value open, it rests on the
model's choices (log 8, log 9). -/
def Obligations.RegisterWriteStores : Prop :=
  (∀ (s : State) (o : Origin) (a : Addr) (v : Word) (p : Nat) (w : WordSpec),
    ([Pg.EST, Pg.BAL, Pg.THM, Pg.PWM, Pg.LPE, Pg.PRT, Pg.ISO, Pg.SRQ] : List Nat).contains p = true →
    pageAt a.toNat = some p → 0x40 ≤ a.toNat % 0x1000 → s.specAt o p a.toNat = some w → w.acc = .rw → w.cls ≠ .shadow → w.serves = false →
    s.Accepts o a.toNat v.toNat → s.actsNow p w = true →
    (∀ n : Nat, n < 12 → a.toNat = Reg.PRT_CMPCFG n → s.on (Fld.PRT_CMPSTAT_LEVEL n) = false) →
    ∃ t, exec (.registerWrite o a v) s = .next t ∧
      t.rd a.toNat = s.storedOver w a.toNat (s.rd a.toNat) v.toNat % 2 ^ 32 ∧
      (∀ b : Nat, b ≠ a.toNat → t.word b = s.word b) ∧
      t.acc.stored = smInsert a.toNat (BitVec.ofNat 32 (s.storedOver w a.toNat (s.rd a.toNat) v.toNat)) s.acc.stored) ∧
  (∀ (s : State) (n : Nat), s.on (Fld.PRT_CMPCFG_EN n) = false → s.on (Fld.PRT_CMPSTAT_LEVEL n) = true →
    s.comparatorIdle n = (s.setOn (Fld.PRT_CMPSTAT_LEVEL n) false).endInstance Pg.PRT Flt.CMP_TRIP n)

/-- The register space is accessed in aligned 32-bit words only: once the origin's locks are restored (before, the answer is
NOT_READY, R53), a read or a write at an address that is no multiple of 4 has the error code ALIGN (0x2), and a write with it
changes no register but the ERRA that records it. Where the rules leave an order or a value open, it rests on the model's
choices (log 8). -/
def Obligations.MisalignedAccessRejected : Prop :=
  (∀ (s : State) (o : Origin) (a v : Nat), a % 4 ≠ 0 → s.locksOut o = false → s.readVerdict o a = 2 ∧ s.writeVerdict o a v = 2) ∧
  (∀ (s : State) (o : Origin) (a : Addr) (v : Word), a.toNat % 4 ≠ 0 → s.domUp 2 = true →
    ∃ t, exec (.registerWrite o a v) s = .next t ∧
      ∀ b : Nat, b ≠ Reg.erra ((ownerPage a.toNat).getD Pg.DEV) → t.word b = s.word b)

/-- FIRMWARE has no accepted write on the SFI and SCL pages, and SAFETY has none outside them, in any state. -/
def Obligations.FirmwareAndSafetyWrites : Prop :=
  (∀ (s : State) (a p v : Nat), ownerPage a = some p → (p = Pg.SFI ∨ p = Pg.SCL) → s.writeVerdict .firmware a v ≠ 0) ∧
  (∀ (s : State) (a v : Nat), (∀ p, ownerPage a = some p → p ≠ Pg.SFI ∧ p ≠ Pg.SCL) → s.writeVerdict .safety a v ≠ 0)

/-- On a locked page no write is accepted but those of IRQE, IRQS and LOCK; a write of a defined word that no check ahead of
the lock turns away (R30, R31, R33, R49, R53) has the error code LOCKED (0x5), and the three words never do. Where the rules
leave an order or a value open, it rests on the model's choices (log 8). -/
def Obligations.LockedPageWrites : Prop :=
  ∀ (s : State) (o : Origin) (p a v : Nat), ownerPage a = some p → s.on (Fld.locked p) = true →
    (irqWord a = false → lockWord a = false → s.writeVerdict o a v ≠ 0) ∧
    (irqWord a = false → lockWord a = false → a % 4 = 0 → s.locksOut o = false → (s.specAt o p a).isSome = true →
      s.busReady o p = true → s.mayWrite o p a v = true → s.writeVerdict o a v = 5) ∧
    ((irqWord a = true ∨ lockWord a = true) → s.writeVerdict o a v ≠ 5)

/-- A write of LOCK whose KEY is not 0xA5C3 is never accepted, has the error code BAD_KEY (0x9) unless a check ahead of it
turns the access away (R49, R53), and changes no register but the ERRA that records it. Where the rules leave an order or a
value open, it rests on the model's choices (log 8). -/
def Obligations.LockNeedsKey : Prop :=
  (∀ (s : State) (o : Origin) (p : Fin 41) (v : Nat), v / 65536 ≠ 0xA5C3 →
    s.writeVerdict o (Reg.lock p.val) v ≠ 0 ∧
    (s.locksOut o = false → s.busReady o p.val = true → s.mayWrite o p.val (Reg.lock p.val) v = true →
      s.writeVerdict o (Reg.lock p.val) v = 9)) ∧
  (∀ (s : State) (o : Origin) (p : Fin 41) (v : Word), v.toNat / 65536 ≠ 0xA5C3 → s.domUp 2 = true →
    ∃ t, exec (.registerWrite o (BitVec.ofNat 32 (Reg.lock p.val)) v) s = .next t ∧
      ∀ b : Nat, b ≠ Reg.erra p.val → t.word b = s.word b)

/-- What the short commands leave alone: an accepted LOCK write changes that LOCK, IRQS its page's IRQR, ERRA itself and GO
its page's STAT, a discard and every read no register; nothing behind the register space changes with any of them but the
frame counter of the TWIN lane when the write goes to the partner (R594); IDCODE, SAMPLE/PRELOAD and BYPASS change DBG_JTAG
and the state of the TAP. Where the rules leave an order or a value open, it rests on the model's choices (log 8). -/
def Obligations.AccessFrames : Prop :=
  (∀ (s t : State) (o : Origin) (p : Fin 41), s.Accepts o (Reg.lock p.val) 0xA5C30001 → exec (.lockPage o p) s = .next t →
    s.SameBlocks t ∧ ∀ b, b ≠ Reg.lock p.val → t.word b = s.word b) ∧
  (∀ (s t : State) (o : Origin) (p : Fin 41), s.Accepts o (Reg.lock p.val) 0xA5C30000 → exec (.unlockPage o p) s = .next t →
    s.SameBlocks t ∧ ∀ b, b ≠ Reg.lock p.val → t.word b = s.word b) ∧
  (∀ (s t : State) (o : Origin) (p : Fin 41) (bits : Word), s.Accepts o (Reg.irqs p.val) bits.toNat →
    exec (.irqsClear o p bits) s = .next t → s.SameButMirror t ∧ ∀ b, b ≠ Reg.irqr p.val → t.word b = s.word b) ∧
  (∀ (s t : State) (o : Origin) (p : Fin 41), s.Accepts o (Reg.erra p.val) 0x80000000 → exec (.erraClear o p) s = .next t →
    s.SameButMirror t ∧ ∀ b, b ≠ Reg.erra p.val → t.word b = s.word b) ∧
  (∀ (s t : State) (o : Origin) (p : Fin 41), s.Accepts o (Reg.commit p.val) 1 → s.ens p.val = true → s.promptPage p.val = false →
    exec (.commitGo o p) s = .next t → s.SameButMirror t ∧ ∀ b, b ≠ Reg.stat p.val → t.word b = s.word b) ∧
  (∀ (s t : State) (o : Origin) (p : Fin 41), s.Accepts o (Reg.commit p.val) 2 → exec (.commitDiscard o p) s = .next t →
    s.SameButMirror t ∧ ∀ b, t.word b = s.word b) ∧
  (∀ (s t : State) (o : Origin) (a : Addr), s.readVerdict o a.toNat = 0 → queDataAt a.toNat = none →
    exec (.wordPairRead o a) s = .next t → s.SameBlocks t ∧ ∀ b, t.word b = s.word b) ∧
  (∀ (s t : State), (exec .idcode s = .next t ∨ (∃ p, exec (.samplePreload p) s = .next t) ∨ ∃ c, exec (.bypass c) s = .next t) →
    s.SameBlocks { t with dbg := s.dbg } ∧ ∀ b, b ≠ Fld.DBG_JTAG_IR.addr → t.word b = s.word b)

/-- Accepted writes of the common header and of COMMIT (R38, R45, R51, R54): LOCK takes LOCKED, with an audit record when it
changes; IRQS clears the bits written; ERRA clears; GO pends on a page that waits for its boundary and acts at once on the
others; DISCARD ends shadow and claim. Where the rules leave an order or a value open, it rests on the model's choices (log
8). -/
def Obligations.HeaderCommandsComplete : Prop :=
  (∀ (s : State) (o : Origin) (p : Fin 41), s.Accepts o (Reg.lock p.val) 0xA5C30001 →
    exec (.lockPage o p) s = .next (settle
      (((if s.rd (Reg.lock p.val) = 1 then s else s.audit 6 o (Reg.lock p.val) (s.rd (Reg.lock p.val)) 1).wr (Reg.lock p.val) 1).remember
        (Reg.lock p.val) 1))) ∧
  (∀ (s : State) (o : Origin) (p : Fin 41), s.Accepts o (Reg.lock p.val) 0xA5C30000 →
    exec (.unlockPage o p) s = .next (settle
      (((if s.rd (Reg.lock p.val) = 0 then s else s.audit 6 o (Reg.lock p.val) (s.rd (Reg.lock p.val)) 0).wr (Reg.lock p.val) 0).remember
        (Reg.lock p.val) 0))) ∧
  (∀ (s : State) (o : Origin) (p : Fin 41) (bits : Word), s.Accepts o (Reg.irqs p.val) bits.toNat →
    exec (.irqsClear o p bits) s = .next (settle ((s.mirrorOut o p.val (Reg.irqs p.val) bits.toNat).wr (Reg.irqr p.val)
      (Nat.land (s.rd (Reg.irqr p.val)) (0xFFFFFFFF - Nat.land bits.toNat (kindOf p.val).irqMask))))) ∧
  (∀ (s : State) (o : Origin) (p : Fin 41), s.Accepts o (Reg.erra p.val) 0x80000000 →
    exec (.erraClear o p) s = .next (settle ((s.mirrorOut o p.val (Reg.erra p.val) 0x80000000).wr (Reg.erra p.val) 0))) ∧
  (∀ (s : State) (o : Origin) (p : Fin 41), s.Accepts o (Reg.commit p.val) 1 → s.ens p.val = true → s.promptPage p.val = false →
    exec (.commitGo o p) s = .next (settle ((s.mirrorOut o p.val (Reg.commit p.val) 1).setOn (cpend p.val) true))) ∧
  (∀ (s : State) (o : Origin) (p : Fin 41), s.Accepts o (Reg.commit p.val) 1 →
    (let u := (s.mirrorOut o p.val (Reg.commit p.val) 1).setOn (cpend p.val) true
     (u.ens p.val = false ∨ u.promptPage p.val = true) → exec (.commitGo o p) s = .next (settle (u.applyCommit p.val)))) ∧
  (∀ (s : State) (o : Origin) (p : Fin 41), s.Accepts o (Reg.commit p.val) 2 →
    exec (.commitDiscard o p) s = .next (settle ((s.mirrorOut o p.val (Reg.commit p.val) 2).dropShadow p.val)))

/-- Boundaries, commits, lapsed claims and summaries (R39, R45, R47, R55): the writes that wait for a page's boundary, on SRQ for that of the queue, take effect in their order; a pending commit is applied; a claim without one is
discarded with its record; a run of rejections is summed. Where the rules leave an order or a value open, it rests on the
model's choices (log 8, log 18). -/
def Obligations.BoundaryEventsComplete : Prop :=
  (∀ (s : State) (p : Fin 41) (q : Fin 4), s.Up (pageDomain p.val) → p.val ≠ Pg.CNA → p.val ≠ Pg.CNB →
    exec (.boundaryApply ⟨p, q⟩) s = .next (settle ((s.acc.pendL.filter (fun x => x.due p.val q.val)).foldl State.takeEffect
      { s with acc := { s.acc with pendL := s.acc.pendL.filter (fun x => !x.due p.val q.val) } }))) ∧
  (∀ (s : State) (x : Fin 2) (q : Fin 4), s.Up 8 →
    exec (.boundaryApply ⟨⟨Pg.CNA + x.val, by have := x.isLt; unfold Pg.CNA; omega⟩, q⟩) s =
      .next (settle ((s.boundary_ (Pg.CNA + x.val) q.val).canArbitrate x.val))) ∧
  (∀ (s : State) (p : Fin 41), s.Up (pageDomain p.val) → s.on (cpend p.val) = true →
    exec (.commitApply p) s = .next (settle (s.applyCommit p.val))) ∧
  (∀ (s : State) (p : Fin 41) (o : Origin), s.Up (pageDomain p.val) → s.claimOf p.val = some o → s.on (cpend p.val) = false →
    exec (.shadowLapse p) s = .next (settle ((s.dropShadow p.val).raiseRec
      ⟨2, 2, p.val, 5, auditBody 2 0xFF (originNode o) (Reg.commit p.val) (originCode o + 65536 * originNode o) 0 [], none⟩))) ∧
  (∀ (s : State) (o : Origin) (code : BitVec 4) (a : Addr) (r : RejectRun), s.Up 2 →
    s.acc.runs.find? (fun r => decide (r.origin = o) && r.code == code.toNat && r.addr == a.toNat) = some r → r.extra ≠ 0 →
    exec (.auditSummary o code a) s = .next (settle ({ s with acc := { s.acc with runs := s.acc.runs.filter (fun x =>
        !(decide (x.origin = o) && x.code == code.toNat && x.addr == a.toNat)) } }.raiseRec
      ⟨3, 6, (ownerPage a.toNat).getD 0xFF, 1, beBytes 4 r.extra ++ beBytes 2 code.toNat ++ beBytes 1 (originCode o) ++ beBytes 1 0 ++
        beBytes 2 (originNode o) ++ beBytes 4 a.toNat ++ beBytes 4 r.seq, none⟩)))

/-- Reads through a register port (R34, R151, R159, R552, R566): an accepted read of a word with no latched copy returns the
word as the origin sees it and latches what belongs to it; a queue's data word takes the next word of the packet. Where the
rules leave an order or a value open, it rests on the model's choices (log 8). -/
def Obligations.ReadsComplete : Prop :=
  (∀ (s : State) (o : Origin) (a : Addr) (p : Nat), s.readVerdict o a.toNat = 0 → ownerPage a.toNat = some p →
    queDataAt a.toNat = none → s.latchAt o a.toNat = none →
    exec (.wordPairRead o a) s = .next (settle ((s.makeLatches o p a.toNat).emit
      (.word o a.toNat (BitVec.ofNat 32 (s.shown o p a.toNat)))))) ∧
  (∀ (s : State) (o : Origin) (q : Fin 4), s.readVerdict o (Reg.SRQ_QDATA q.val) = 0 →
    exec (.queueDataRead o q) s = .next (settle ((s.queueRead q.val).2.emit (.word o (Reg.SRQ_QDATA q.val) (s.queueRead q.val).1)))) ∧
  (∀ (s : State) (o : Origin) (e : Fin 3072), s.readVerdict o (0x20000 + 64 * e.val) = 0 → s.latchAt o (0x20000 + 64 * e.val) = none →
    exec (.cellEntryRead o e) s = .next (settle ((s.makeLatches o Pg.SRQ (0x20000 + 64 * e.val)).emit
      (.word o (0x20000 + 64 * e.val) (BitVec.ofNat 32 (s.shown o Pg.SRQ (0x20000 + 64 * e.val))))))) ∧
  (∀ (s : State) (o : Origin) (x : Fin 2) (n : Fin 128), s.readVerdict o (objAddr x.val n.val 3) = 0 →
    s.latchAt o (objAddr x.val n.val 3) = none →
    exec (.canObjectRead o x n) s = .next (settle ((s.makeLatches o (Pg.CNA + x.val) (objAddr x.val n.val 3)).emit
      (.word o (objAddr x.val n.val 3) (BitVec.ofNat 32 (s.shown o (Pg.CNA + x.val) (objAddr x.val n.val 3))))))) ∧
  (∀ (s : State) (o : Origin) (k : TimeRead), s.readVerdict o (timeReadAddr k) = 0 → s.latchAt o (timeReadAddr k) = none →
    exec (.plantTimeRead o k) s = .next (settle ((s.makeLatches o Pg.TIM (timeReadAddr k)).emit
      (.word o (timeReadAddr k) (BitVec.ofNat 32 (s.shown o Pg.TIM (timeReadAddr k)))))))

/-- Requests framed by R57 whose CRC is right, while the host port runs (R57 to R61): writes and reads of at most 64 words
are transactions of the HOST origin, answered with their status, the words applied and the data; 0x0E repeats the last read
response and a reserved opcode is answered BAD_OPCODE; every response carries its CRC-32C; a transaction cut before its CRC
only counts in HST_ABORT. The service buffer and the register services (R63, R64):
an accepted write of HST_SDOOR submits the message of HST_SREQ; REG_READ and REG_WRITE of the host, of at most 64 words, are
answered with the words applied or read. Where the rules leave an order or a value open, it rests on the model's choices (log
8, log 21). -/
def Obligations.HostPortComplete : Prop :=
  ((∀ (s : State) (count : Byte) (a : Addr) (data : List Word) (crc : Word), s.Up 9 → count.toNat ≤ 63 →
    requestOk 0x02 count a data crc = true →
    exec (.writeIncrementing count a data crc) s = .next (settle
      (let x := s.writeBurst hostDoor .host a.toNat false data
       x.2.2.emit (hostResponse (accessStatus x.2.1) x.1 [])))) ∧
  (∀ (s : State) (count : Byte) (a : Addr) (data : List Word) (crc : Word), s.Up 9 → count.toNat ≤ 63 →
    requestOk 0x03 count a data crc = true →
    exec (.writeFixed count a data crc) s = .next (settle
      (let x := s.writeBurst hostDoor .host a.toNat true data
       x.2.2.emit (hostResponse (accessStatus x.2.1) x.1 [])))) ∧
  (∀ (s : State) (count : Byte) (a : Addr) (crc : Word), s.Up 9 → count.toNat ≤ 63 → requestOk 0x0B count a [] crc = true →
    exec (.readIncrementing count a crc) s = .next (settle
      (let x := s.readBurst .host a.toNat (count.toNat + 1) false
       ({ x.2.2 with acc := { x.2.2.acc with lastRead := ⟨accessStatus x.1, x.2.1⟩ } }).emit
         (hostResponse (accessStatus x.1) x.2.1.length x.2.1)))) ∧
  (∀ (s : State) (count : Byte) (a : Addr) (crc : Word), s.Up 9 → count.toNat ≤ 63 → requestOk 0x0C count a [] crc = true →
    exec (.readFixed count a crc) s = .next (settle
      (let x := s.readBurst .host a.toNat (count.toNat + 1) true
       ({ x.2.2 with acc := { x.2.2.acc with lastRead := ⟨accessStatus x.1, x.2.1⟩ } }).emit
         (hostResponse (accessStatus x.1) x.2.1.length x.2.1)))) ∧
  (∀ (s : State) (count : Byte) (a : Addr) (crc : Word), s.Up 9 → count.toNat ≤ 63 → requestOk 0x0E count a [] crc = true →
    exec (.resendLastRead ⟨none, count⟩ a crc) s = .next (settle (s.emit
      (hostResponse s.acc.lastRead.status s.acc.lastRead.data.length s.acc.lastRead.data)))) ∧
  (∀ (s : State) (op count : Byte) (a : Addr) (crc : Word), s.Up 9 → op ∉ ([0x02, 0x03, 0x0B, 0x0C, 0x0E] : List Byte) →
    requestOk op count a [] crc = true →
    exec (.resendLastRead ⟨some op, count⟩ a crc) s = .next (settle (s.emit (hostResponse 4 0 [])))) ∧
  (∀ s : State, s.Up 9 → exec (.hostTransactionCut none) s = .next (settle (s.bump (whole Reg.HST_ABORT))))) ∧
  ((∀ (s : State) (o : Origin) (v : Word), s.Accepts o Reg.HST_SDOOR v.toNat →
    exec (.hostServiceSubmit o v) s = .next (settle (hostDoor s v.toNat))) ∧
  (∀ (s : State) (q : Req) (a : Addr) (count : Byte), s.Reached q 1 → s.roleOf q.origin ≠ none → count.toNat ≤ 63 →
    exec (.regRead q a count) s = .next (settle
      (let x := s.readBurst q.origin a.toNat (count.toNat + 1) false
       x.2.2.respond q 1 (accessStatus x.1) (beBytes 1 x.2.1.length ++ beBytes 3 0 ++ x.2.1.flatMap (fun w => beBytes 4 w.toNat))))) ∧
  (∀ (s : State) (q : Req) (a : Addr) (count : Byte) (data : List Word), s.Reached q 2 → s.roleOf q.origin ≠ none → count.toNat ≤ 63 →
    data.length = count.toNat + 1 →
    exec (.regWrite q a count data) s = .next (settle
      (let x := s.writeBurst hostDoor q.origin a.toNat false data
       x.2.2.respond q 2 (accessStatus x.2.1) (beBytes 1 x.1 ++ beBytes 3 0)))))

/-- Served for the host or for a node with a grant, each string command that the service state allows is carried out, audited
and answered OK (R22, R392, R507, R658): HALT leaves RUNNING for STOPPING, DISCONNECT begins the controlled opening of every
pair, CLEAR_TRIP clears Snare and returns to READY or CONNECTED, TRANSPORT begins transport mode, RUN starts the converter,
CONNECT closes the branches chosen by R390. Where the rules leave an order or a value open, it rests on the model's choices
(log 21, log 16). -/
def Obligations.StringCommandsComplete : Prop :=
  (∀ (s : State) (q : Req), s.Served q 3 0 → s.svc.state = .running →
    exec (.halt q) s = .next (settle ((s.halt.auditCommand q.origin Reg.DEV_SSTATE s.sstate s.halt.sstate).respond q 3 0 []))) ∧
  (∀ (s : State) (q : Req), s.Served q 3 0 → s.svc.state = .connected →
    exec (.disconnect q) s = .next (settle
      (let t := s.beginOpening s.drivenBranches true true
       (t.auditCommand q.origin Reg.DEV_SSTATE s.sstate t.sstate).respond q 3 0 []))) ∧
  (∀ (s : State) (q : Req), s.Served q 3 0 → s.svc.state = .tripped → s.snStanding = [] → s.tripBars = [] →
    exec (.clearTrip q) s = .next (settle
      (let u := s.clearSnare.irq Pg.FLT Irq.FLT_CLEARED
       let t := u.setSvc (if u.pairOpen 8 then .ready else .connected)
       (t.auditCommand q.origin Reg.DEV_SSTATE s.sstate t.sstate).respond q 3 0 []))) ∧
  (∀ (s : State) (q : Req), s.Served q 3 0 → s.svc.state = .ready →
    exec (.transport q) s = .next (settle
      ((s.transportBegin.auditCommand q.origin Reg.DEV_SSTATE s.sstate s.transportBegin.sstate).respond q 3 0 []))) ∧
  (∀ (s : State) (q : Req), s.Served q 3 0 → s.svc.state = .connected → s.standingBars = false → s.ctk.opening = none →
    s.on Fld.UPD_STAT_MIXED = false →
    exec (.run q) s = .next (settle
      ((s.startConverter.auditCommand q.origin Reg.DEV_SSTATE s.sstate s.startConverter.sstate).respond q 3 0 []))) ∧
  (∀ (s : State) (q : Req), s.Served q 3 0 → s.mayConnect = true → s.allOpen = true → s.connectBranches ≠ [] →
    exec (.connect q) s = .next (settle
      (let others := (List.range 8).filter (fun b => bitOf (s.get Fld.CTK_CFG_BRMASK) b && !s.connectBranches.contains b)
       let u := others.foldl (fun (u : State) b => u.ctkEvent Flt.BRANCH_NOJOIN b)
         (s.put Fld.CTK_SEQ_EXCL (maskOf 8 (fun b => others.contains b)))
       let t := (s.connectBranches.foldl State.closePair u).setSeq 2
       (t.auditCommand q.origin Reg.DEV_SSTATE s.sstate t.sstate).respond q 3 0 [])))

/-- An accepted CTRL.EN 1 of a block that stands off and may start (R36, R37) is mirrored, audited and remembered, sets EN
and starts the block: a ring trains (R121), Chime opens its first window with both counts 0, or reports CONFIG_ERR (R170),
the estimator counts on from its last update, else from here, or reports CHEMERR (R200, R201, R215, R229), a CAN controller
integrates or reports CONFIG_ERR (R559, R562). An accepted CTRL.EN 1 starts the converter's blocks: the PWM unit arms its
phases at their offsets (R270), SAFE under an active Snare (R291), or reports CONFIG_ERR (R280), and the loops and digital
rows are checked again (R357); the converters wait for the reference (R310, R318); the loop engine is ready (R357, R371); the
insulation monitor injects its first polarity (R399). An accepted CTRL.EN 1 starts the island's functions in CONFIRM, or
reports CONFIG_ERR (R443), the safety connections (R474) and the fabric, whose lanes come up unless the own address is 0 or
0x3FF (R487). Where the rules leave an order or a value open, it rests on the model's choices (log 28). -/
def Obligations.BlocksStart : Prop :=
  ((∀ (s : State) (o : Origin) (r : Fin 4), s.Accepts o (Reg.ctrl (Pg.SR r.val)) 1 → s.on (Fld.ctrlEn (Pg.SR r.val)) = false →
    s.startBarred (Pg.SR r.val) = false →
    exec (.ringEnable o r) s = .next (settle (((s.enabling o (Pg.SR r.val)).setOn (Fld.ens (Pg.SR r.val)) true).enterMode r.val 1))) ∧
  (∀ (s : State) (o : Origin), s.Accepts o (Reg.ctrl Pg.CHM) 1 → s.on (Fld.ctrlEn Pg.CHM) = false → s.startBarred Pg.CHM = false →
    exec (.chimeEnable o) s = .next (settle
      (let u := (s.enabling o Pg.CHM).setOn (Fld.ens Pg.CHM) true
       if u.chmValid then
         let w := (u.chmRestart.wr Reg.CHM_WCOUNT 0).wr Reg.CHM_RCOUNT 0
         w.allPositions.foldl (fun (t : State) x => t.chmConfigure x.1 x.2) w
       else (u.put Fld.CHM_STAT_STATE 4).irq Pg.CHM Irq.CHM_CONFIG_ERR))) ∧
  (∀ (s : State) (o : Origin), s.Accepts o (Reg.ctrl Pg.EST) 1 → s.on (Fld.ctrlEn Pg.EST) = false → s.startBarred Pg.EST = false →
    exec (.estimatorEnable o) s = .next (settle
      (let u := (s.enabling o Pg.EST).setOn (Fld.ens Pg.EST) true
       if u.rated = 0 || !u.chemOk then (u.put Fld.EST_STAT_STATE 2).irq Pg.EST Irq.EST_CHEMERR
       else
         let w := u.put Fld.EST_STAT_STATE 1
         let f := { w with est := { w.est with fresh := true, dqdv := [] } }
         if f.est.lastUpdate.isSome then f else
         { f with est := { f.est with
           qaccSeen := f.est.qacc, lastUpdate := some f.nowNat
           cells := (List.range 3072).map (fun i =>
             (i, { (f.estCell i) with bleedSeen := f.rd (cellWord i 9), bleedShare := 0, bleedLeft := 0 })) } }))) ∧
  (∀ (s : State) (o : Origin) (x : Fin 2), s.Accepts o (Reg.ctrl (Pg.CNA + x.val)) 1 → s.on (Fld.ctrlEn (Pg.CNA + x.val)) = false →
    s.startBarred (Pg.CNA + x.val) = false →
    exec (.canEnable o x) s = .next (settle ((s.enabling o (Pg.CNA + x.val)).canOn x.val)))) ∧
  ((∀ (s : State) (o : Origin), s.Accepts o (Reg.ctrl Pg.PWM) 1 → s.on (Fld.ctrlEn Pg.PWM) = false → s.startBarred Pg.PWM = false →
    exec (.pwmEnable o) s = .next (settle
      (let e := s.enabling o Pg.PWM
       let u := (e.setOn (Fld.ens Pg.PWM) true).setOn Fld.PWM_STAT_SAFE e.snare
       let ofs := if e.ens Pg.PWM then u.pwm.offsets else (List.range 4).map (fun p => u.get (Fld.PWM_PHANG_OFS p))
       let w := { u with pwm := { u.pwm with disabling := false, offsets := ofs } }
       let t := if w.pwmBad then (w.allPhases 0).irq Pg.PWM Irq.PWM_CONFIG_ERR
         else if w.switching || w.anyPhase (fun v => v == 2) then w
         else w.allPhases (if w.snare then 5 else 1)
       t.lpeRecheck.rowPrune))) ∧
  (∀ (s : State) (o : Origin), s.Accepts o (Reg.ctrl Pg.ADC) 1 → s.on (Fld.ctrlEn Pg.ADC) = false → s.startBarred Pg.ADC = false →
    (s.enabling o Pg.ADC).ens Pg.ADC = false →
    exec (.adcEnable o) s = .next (settle
      (let u := (s.enabling o Pg.ADC).setOn (Fld.ens Pg.ADC) true
       if u.adcBad then (u.put Fld.ADC_STAT_STATE 4).irq Pg.ADC Irq.ADC_CONFIG_ERR
       else
         ({ u with adc := { u.adc with refGood := 0 }, age := { u.age with trimApplied := u.age.refTrim } }).put
           Fld.ADC_STAT_STATE 1))) ∧
  (∀ (s : State) (o : Origin), s.Accepts o (Reg.ctrl Pg.LPE) 1 → s.on (Fld.ctrlEn Pg.LPE) = false → s.startBarred Pg.LPE = false →
    (s.enabling o Pg.LPE).ens Pg.LPE = false →
    exec (.lpeEnable o) s = .next (settle
      (let u := ((s.enabling o Pg.LPE).setOn (Fld.ens Pg.LPE) true).showTimes
       if u.lpeBad then (u.put Fld.LPE_STAT_STATE 2).irq Pg.LPE Irq.LPE_CONFIG_ERR else u.put Fld.LPE_STAT_STATE 1))) ∧
  (∀ (s : State) (o : Origin), s.Accepts o (Reg.ctrl Pg.ISO) 1 → s.on (Fld.ctrlEn Pg.ISO) = false → s.startBarred Pg.ISO = false →
    exec (.isoEnable o) s = .next (settle
      (let u := (s.enabling o Pg.ISO).setOn (Fld.ens Pg.ISO) true
       if u.get Fld.ISO_NET_UINJ = 0 ∨ u.get Fld.ISO_NET_RM = 0 ∨ u.get Fld.ISO_CFG_HALF = 0 then
         (u.setOn Fld.ISO_STAT_HALTED true).irq Pg.ISO Irq.ISO_CONFIG_ERR
       else
         let w := ({ u with iso := { isoReset with startAt := u.nowNat } } : State).setOn Fld.ISO_STAT_HALTED false
         if w.owns then w.emit (.ball "ISO_INJ" true) else w)))) ∧
  ((∀ (s : State) (o : Origin), s.Accepts o (Reg.ctrl Pg.SFI) 1 → s.on (Fld.ctrlEn Pg.SFI) = false → s.startBarred Pg.SFI = false →
    exec (.safetyEnable o) s = .next (settle
      (let e := s.enabling o Pg.SFI
       let u := (e.setEns Pg.SFI true).modIsl (fun x => { x with storedEn := true })
       if e.get Fld.SFI_STAT_STATE ≠ 1 then u
       else if u.sfiBad then (u.put Fld.SFI_STAT_STATE 2).irq Pg.SFI Irq.SFI_CONFIG_ERR
       else u.put Fld.SFI_STAT_STATE 3))) ∧
  (∀ (s : State) (o : Origin), s.Accepts o (Reg.ctrl Pg.SCL) 1 → s.on (Fld.ctrlEn Pg.SCL) = false → s.startBarred Pg.SCL = false →
    exec (.sclEnable o) s = .next (settle
      (let u := (s.enabling o Pg.SCL).setEns Pg.SCL true
       if u.sclBad then u.irq Pg.SCL Irq.SCL_CONFIG_ERR else u.connUse.islandLines))) ∧
  (∀ (s : State) (o : Origin), s.Accepts o (Reg.ctrl Pg.FAB) 1 → s.on (Fld.ctrlEn Pg.FAB) = false → s.startBarred Pg.FAB = false →
    exec (.fabricEnable o) s = .next (settle
      (let u := (s.enabling o Pg.FAB).setEns Pg.FAB true
       if u.ownAddr = 0 ∨ u.ownAddr = 0x3FF then (u.put Fld.FAB_STAT_STATE 2).irq Pg.FAB Irq.FAB_CONFIG_ERR
       else (u.put Fld.FAB_STAT_STATE 1).each 5 State.laneCheck))))

/-- An accepted CTRL.EN 0 of a block that stands on is mirrored, audited and remembered, clears EN and stops the block, and a
STALE image that waits for the block is loaded (R670): a ring's tags all return and its ports idle (R121), the queues empty
(R155, R163), no tone stays on the reference (R174), every balancing switch opens (R243), the converter stops by its ramp or
at once (R290), the loop engine and the contactor sequencer stand off. EN of the ADC unit cannot be cleared while a phase is
in FCPRE, BUSRAMP or RUN, that of the island not while an output is energised (R320, R446): such a write is turned away;
otherwise the converters stop with every result 0 (R319), and the island returns to CONFIG with its confirmation withdrawn
and every output off (R443). Where the rules leave an order or a value open, it rests on the model's choices (log 8). -/
def Obligations.BlocksStop : Prop :=
  ((∀ (s : State) (o : Origin) (r : Fin 4), s.Accepts o (Reg.ctrl (Pg.SR r.val)) 0 → s.on (Fld.ctrlEn (Pg.SR r.val)) = true →
    exec (.ringDisable o r) s = .next (settle
      (let u := (((s.disabling o (Pg.SR r.val)).newEpoch r.val).enterMode r.val 0).setReach r.val 0
       let w := u.modRing r.val (fun g => { ringReset with
         free := g.free, linkN := g.linkN, linkS := g.linkS, failed := g.failed, unsol := g.unsol, silent := g.silent })
       (((w.setOn (Fld.ens (Pg.SR r.val)) false).queShow r.val).emit (.ringIdle r.val)).loadStale))) ∧
  (∀ (s : State) (o : Origin), s.Accepts o (Reg.ctrl Pg.SRQ) 0 → s.on (Fld.ctrlEn Pg.SRQ) = true →
    exec (.queueDisable o) s = .next (settle
      (let u := ((s.disabling o Pg.SRQ).setOn (Fld.ens Pg.SRQ) false).emptyQueues
       let d := u.each 4 (fun t r => (t.dropCollects r 2).dropCollects r 4)
       let w := d.each 4 (fun t r => t.modRing r (fun g => { g with scanDue := [], scanBad := [], tempDue := [] }))
       State.loadStale { w with tel := { w.tel with scanOn := false, tempOn := false, bank := [], scanColl := false, tempColl := false } }))) ∧
  (∀ (s : State) (o : Origin), s.Accepts o (Reg.ctrl Pg.CHM) 0 → s.on (Fld.ctrlEn Pg.CHM) = true →
    exec (.chimeDisable o) s = .next (settle
      (let e := s.disabling o Pg.CHM
       let u := (e.chmRestart.put Fld.CHM_STAT_STATE 0).setOn (Fld.ens Pg.CHM) false
       let w := (if e.tonesOn then u else u.setApplied []).setOn Fld.CHM_STAT_SCALED false
       (if w.chm.zsel then w.copyZ else w).removeTones.loadStale))) ∧
  (∀ (s : State) (o : Origin), s.Accepts o (Reg.ctrl Pg.BAL) 0 → s.on (Fld.ctrlEn Pg.BAL) = true →
    exec (.balancingDisable o) s = .next (settle ((s.disabling o Pg.BAL).balStop.setOn (Fld.ens Pg.BAL) false).loadStale)) ∧
  (∀ (s : State) (o : Origin), s.Accepts o (Reg.ctrl Pg.PWM) 0 → s.on (Fld.ctrlEn Pg.PWM) = true →
    exec (.pwmDisable o) s = .next (settle
      (let u := (s.disabling o Pg.PWM).setOn (Fld.ctrlEn Pg.PWM) false
       State.loadStale (if u.svc.state = .running then
         let h := u.halt
         { h with pwm := { h.pwm with disabling := true } }
       else if u.svc.state = .stopping then { u with pwm := { u.pwm with disabling := true } }
       else u.pwmDead)))) ∧
  (∀ (s : State) (o : Origin), s.Accepts o (Reg.ctrl Pg.LPE) 0 → s.on (Fld.ctrlEn Pg.LPE) = true →
    exec (.lpeDisable o) s = .next (settle
      (let u := (((s.disabling o Pg.LPE).abortTest.setOn (Fld.ctrlEn Pg.LPE) false).setOn (Fld.ens Pg.LPE) false).put Fld.LPE_STAT_STATE 0
       State.loadStale
         { u with lpe := { u.lpe with sampleOpen := false, testArmed := false, capArmed := false, testStop := false } }))) ∧
  (∀ (s : State) (o : Origin), s.Accepts o (Reg.ctrl Pg.CTK) 0 → s.on (Fld.ctrlEn Pg.CTK) = true →
    exec (.ctkDisable o) s = .next (settle ((s.disabling o Pg.CTK).setEns Pg.CTK false).loadStale))) ∧
  ((∀ (s : State) (o : Origin), s.Accepts o (Reg.ctrl Pg.ADC) 0 → s.on (Fld.ctrlEn Pg.ADC) = true →
    s.adcHeld = false ∧ exec (.adcDisable o) s = .next (settle (s.disabling o Pg.ADC).adcOff.loadStale)) ∧
  (∀ (s : State) (o : Origin), s.Accepts o (Reg.ctrl Pg.SFI) 0 → s.on (Fld.ctrlEn Pg.SFI) = true →
    s.deenergised = true ∧ exec (.safetyDisable o) s = .next (settle (s.disabling o Pg.SFI).sfiDisable.loadStale)))

/-- The commands of SRx_CMD on a ring in service, accepted (R119): HEAL opens the folded supervisors (R111) unless an extra
supervisor stands, ENUMERATE begins enumeration (R93), ISOLATE folds the neighbours of a legal position (R113), RELEASE ends
its isolation and heals, RESET_SUPERVISORS broadcasts RESET and enumerates; an accepted QUE_CMD asks for a flush of the
classes written (R153). Where the rules leave an order or a value open, it rests on the model's choices (log 12). -/
def Obligations.RingCommandsComplete : Prop :=
  (∀ (s : State) (o : Origin) (r : Fin 4), s.Accepts o (Reg.SR_CMD r.val) 2 → s.inService r.val = true →
    s.on (Fld.SR_STATE_EXTRA r.val) = false →
    exec (.heal o r) s = .next (settle (((s.beginHeal r.val).procStep r.val 12).flow r.val))) ∧
  (∀ (s : State) (o : Origin) (r : Fin 4), s.Accepts o (Reg.SR_CMD r.val) 1 → s.inService r.val = true →
    exec (.enumerate o r) s = .next (settle (s.beginEnum r.val))) ∧
  (∀ (s : State) (o : Origin) (r : Fin 4) (p : BitVec 6), s.Accepts o (Reg.SR_CMD r.val) (3 + 256 * p.toNat) → s.inService r.val = true →
    1 ≤ p.toNat → p.toNat ≤ s.nsup r.val →
    exec (.isolate o r p) s = .next (settle (s.isolatePos r.val p.toNat))) ∧
  (∀ (s : State) (o : Origin) (r : Fin 4) (p : BitVec 6), s.Accepts o (Reg.SR_CMD r.val) (4 + 256 * p.toNat) → s.inService r.val = true →
    1 ≤ p.toNat → p.toNat ≤ s.nsup r.val →
    exec (.ringRelease o r p) s = .next (settle
      (let u := if s.get (Fld.SR_PINFO_CAUSE r.val (p.toNat - 1)) = 5 then s.unquarantine r.val p.toNat else s
       let w := u.modRing r.val (fun g => { g with
         mutedN := g.mutedN && p.toNat != 1, mutedS := g.mutedS && p.toNat != u.nsup r.val, isolatedAt := none })
       ((w.beginHeal r.val).procStep r.val 12).flow r.val))) ∧
  (∀ (s : State) (o : Origin) (r : Fin 4), s.Accepts o (Reg.SR_CMD r.val) 5 → s.inService r.val = true →
    exec (.resetSupervisors o r) s = .next (settle (((s.resetRing r.val).flow r.val).beginEnum r.val))) ∧
  (∀ (s : State) (o : Origin) (q : Fin 4) (classes : BitVec 4), s.Accepts o (Reg.SRQ_QCMD q.val) classes.toNat →
    exec (.queueFlush o q classes) s = .next (settle ((s.mirrorOut o Pg.SRQ (Reg.SRQ_QCMD q.val) classes.toNat).modQue q.val
      (fun x => { x with flush := Nat.lor x.flush (classes.toNat % 16) })))) ∧
  (∀ (s : State) (o : Origin) (r : Fin 4) (p : BitVec 6), s.Accepts o (Reg.SR_CMD r.val) (3 + 256 * p.toNat) →
    (s.inService r.val = false ∨ p.toNat = 0 ∨ s.nsup r.val < p.toNat) →
    exec (.isolate o r p) s = .next (settle (s.irq (Pg.SR r.val) Irq.SR_CMDREJ)))

/-- Frames and deadlines (R83, R86 to R91): a clean, well-formed response without ERR that matches an issued transaction
returns its tag, enters the queue when its purpose has a class, and acts for its purpose; the tags of reports are those of
alarm, scan, temperature and phasor requests; the echo of a RESET broadcast returns its tag, and one of a path test that
comes back at the south port shows the ring closed (R83, R93, R111); a deadline repeats the request while repeats are left; a
backoff that ends issues the repeat. A response that fails a check of R79, R80 or R112 changes no transaction and is only
counted: a bad CRC in CRC and UNSOL (R88), a reserved header value or a length beyond 1,024 in DISC, a code violation in
CODE, each with a rewind of its reservation. Where the rules leave an order or a value open, it rests on the model's choices
(log 12, log 23). -/
def Obligations.RingFramesComplete : Prop :=
  ((∀ (s : State) (r : Fin 4) (port : Side) (f : RingFrame) (t : RingTxn), s.Up 7 → s.portActs r.val (port == .south) = true →
    s.listens r.val = false →
    f.line = .clean → f.len.toNat ≤ 1024 → frameCheckOk f = true → frameBadHeader f = false → f.err = false →
    s.matching r.val f = some t →
    (let q := (s.retire r.val t.tag).enqueuePacket r.val t false f.payload
     let fin := fun (u : State) => (((u.configureNew r.val).flow r.val).tempCheck).relayReport r.val t f
     exec (.ringFrameReceive r port f) s = .next (settle (fin (q.answered r.val t true (port == .south) f.payload))) ∧
     (t.req.purpose = .alarm → exec (.alarmStatusReport r port f) s =
       .next (settle (fin (q.takeAlarm r.val (ofBe (f.payload.take 4) != 0))))) ∧
     (t.req.purpose = .scan → exec (.scanReport r port f) s = .next (settle (fin (q.takeScan r.val t.req.dst f.payload)))) ∧
     (t.req.purpose = .temp → exec (.tempReport r port f) s = .next (settle (fin (q.takeTemp r.val t.req.dst f.payload)))) ∧
     (∀ k : Nat, t.req.purpose = .phasor k →
       exec (.phasorReport r port f) s = .next (settle (fin (q.takePhasor r.val t.req.dst k f.payload)))))) ∧
  (∀ (s : State) (r : Fin 4) (port : Side) (tag : BitVec 4) (t : RingTxn), s.Up 7 → s.portActs r.val (port == .south) = true →
    (s.ring r.val).txns.find? (fun x => x.tag == tag.toNat) = some t →
    (port = .south → t.south = false → (t.req.purpose = .path ∨ t.req.purpose = .healPath) →
      exec (.requestEcho r port tag) s = .next (settle (s.modRing r.val (fun g => { g with through := true })))) ∧
    (t.req.purpose = .reset → exec (.requestEcho r port tag) s = .next (settle ((s.retire r.val tag.toNat).flow r.val))) ∧
    (t.req.purpose ≠ .reset → t.req.purpose ≠ .path → t.req.purpose ≠ .healPath →
      exec (.requestEcho r port tag) s = .next (settle s))) ∧
  (∀ (s : State) (r : Fin 4) (tag : BitVec 4) (t : RingTxn), s.Up 7 → (s.ring r.val).txns.find? (fun x => x.tag == tag.toNat) = some t →
    (let u := (s.retire r.val tag.toNat).bump (whole (Reg.SR_CNT_TMO r.val))
     exec (.transactionTimeout r tag) s = .next (settle ((((if t.req.left = 0 then (u.recordFailed r.val t.req 0).answered r.val t
       false false [] else u.repeatReq r.val t.req).configureNew r.val).flow r.val).tempCheck)))) ∧
  (∀ (s : State) (r : Fin 4) (k : Nat) (q : RingReq), s.Up 7 → (s.ring r.val).backoff[k]? = some q →
    exec (.retryBackoff r k) s = .next (settle (((s.modRing r.val (fun g => { g with backoff := g.backoff.eraseIdx k })).repeatReq r.val
      q).flow r.val)))) ∧
  (∀ (s : State) (r : Fin 4) (port : Side) (f : RingFrame), s.Up 7 → s.portActs r.val (port == .south) = true →
    s.listens r.val = false →
    (f.line = .codeViolation →
      exec (.ringFrameReceive r port f) s = .next (settle ((s.bump (whole (Reg.SR_CNT_CODE r.val))).rewind r.val f))) ∧
    (f.line = .clean → 1024 < f.len.toNat →
      exec (.ringFrameReceive r port f) s = .next (settle ((s.bump (whole (Reg.SR_CNT_DISC r.val))).rewind r.val f))) ∧
    (f.line = .clean → f.len.toNat ≤ 1024 → frameCheckOk f = false →
      (let u := (s.bump (whole (Reg.SR_CNT_CRC r.val))).rewind r.val f
       exec (.ringFrameReceive r port f) s = .next (settle (if f.rsp then u.bump (whole (Reg.SR_CNT_UNSOL r.val)) else u)))) ∧
    (f.line = .clean → f.len.toNat ≤ 1024 → frameCheckOk f = true → frameBadHeader f = true →
      exec (.ringFrameReceive r port f) s = .next (settle ((s.bump (whole (Reg.SR_CNT_DISC r.val))).rewind r.val f))))

/-- Line and link events of an enabled ring that is not muted (R76, R93, R103 to R113): training ends in enumeration; an
ALARM is counted, fed to Snare by ALSNARE, raises RING_ALARM and asks every reachable position for its status; a lost link or
a new fold of a ring in service re-forms it, of another one is kept for its next step, and a recovered link is noted; the
heal timer lets AUTOHEAL act at the next scan; a window of R112 clears the counts and ends SUP_HOSTILE where quiet. Where the
rules leave an order or a value open, it rests on the model's choices (log 12, log 23). -/
def Obligations.RingLineEventsComplete : Prop :=
  (∀ (s : State) (r : Fin 4), s.Up 7 → s.mode r.val = 1 →
    exec (.portTrainingDone r) s = .next (settle ((s.modRing r.val (fun g => { g with linkN := true, linkS := true })).beginEnum r.val))) ∧
  (∀ (s : State) (r : Fin 4) (port : Side), s.Up 7 → s.portActs r.val (port == .south) = true →
    exec (.alarmDetect r port) s = .next (settle
      (let u := ((s.bump (Fld.SR_ALARM_COUNT r.val)).setOn (Fld.SR_ALARM_LASTPORT r.val) (port == .south)).irq (Pg.SR r.val) Irq.SR_ALARM
       let feeds := u.on (Fld.SR_CFG_ALSNARE r.val)
       let v := (if feeds then u.snareBy (0x19 + r.val) else u).fault (Pg.SR r.val) Flt.RING_ALARM (ringInst r.val 0) 0 (!feeds)
       if v.mode r.val < 3 || (v.ring r.val).alarmLeft ≠ 0 then v else
         let ps := v.positions r.val (v.reach r.val)
         let w := v.modRing r.val (fun g => { g with alarmLeft := ps.length, alarmNamed := false })
         (ps.foldl (fun (x : State) p => x.request r.val .alarm 9 p none [] 4) w).flow r.val))) ∧
  (∀ (s : State) (r : Fin 4) (port : Side), s.Up 7 → s.ens (Pg.SR r.val) = true →
    exec (.linkLoss r port) s = .next (settle
      (let u := ((s.bump (whole (Reg.SR_CNT_LOS r.val))).modRing r.val (fun g =>
         if port == .south then { g with linkS := false } else { g with linkN := false })).delegate r.val
       if u.inService r.val then ((u.beginReform r.val).procStep r.val 12).flow r.val
       else u.modRing r.val (fun g => { g with broken := true })))) ∧
  (∀ (s : State) (r : Fin 4) (port : Side), s.Up 7 → s.ens (Pg.SR r.val) = true →
    exec (.linkRecovery r port) s = .next (settle
      (let u : State := { s with twn := { s.twn with delegates := putBit s.twn.delegates r.val false } }
       (if u.listens r.val then u.enterMode r.val 3 else u).modRing r.val (fun g =>
         if port == .south then { g with linkS := true } else { g with linkN := true })))) ∧
  (∀ (s : State) (r : Fin 4) (port : Side) (pos : Byte) (lost : Side), s.Up 7 → s.portActs r.val (port == .south) = true → 1 ≤ pos.toNat → pos.toNat ≤ s.nsup r.val →
    (s.ring r.val).folds.contains (pos.toNat, lost == .south) = false →
    exec (.linkLost r port pos lost) s = .next (settle
      (let u := ((s.bump (whole (Reg.SR_CNT_LOS r.val))).modRing r.val (fun g =>
         { g with folds := (pos.toNat, lost == .south) :: g.folds })).delegate r.val
       if u.inService r.val then ((u.beginReform r.val).procStep r.val 12).flow r.val
       else u.modRing r.val (fun g => { g with broken := true })))) ∧
  (∀ (s : State) (r : Fin 4), s.Up 7 → (s.mode r.val == 5 || s.mode r.val == 7) = true → s.on (Fld.SR_CFG_AUTOHEAL r.val) = true →
    s.on (Fld.SR_STATE_EXTRA r.val) = false → s.positions r.val (fun p => s.get (Fld.SR_PINFO_CAUSE r.val (p - 1)) == 5) = [] →
    exec (.healTimer r) s = .next (settle (s.modRing r.val (fun g => { g with healDue := true })))) ∧
  (∀ (s : State) (r : Fin 4), s.Up 7 →
    exec (.hostileWindowEnd r) s = .next (settle (((s.flt.instances.filter (fun x => x.1 == Flt.SUP_HOSTILE && x.2 / 64 == r.val &&
        smGet (fun _ => (0 : Nat)) (s.ring r.val).unsol (x.2 % 64) ≤ 8)).map Prod.snd).foldl
      (fun (x : State) i => x.endInstance (Pg.SR r.val) Flt.SUP_HOSTILE i) (s.modRing r.val (fun g => { g with unsol := [] })))))

/-- A cell scan period (R122 to R126, R164, R240, R602): the ring ticks go out, Chime opens its window when the instant is
due, the balancing masks take effect, and the rings that wait heal. A scan's collection asks every reachable position that
owes a report (R128); a publication, due once all have reported or at the deadline, checks balancing, publishes group V,
feeds Chime and checks cell protection (R130, R187, R242, R386). Temperature collections ask, the ONCOUNT reads of the ledger
among them (R244), and end likewise (R131). Where the rules leave an order or a value open, it rests on the model's choices
(log 12). -/
def Obligations.ScansComplete : Prop :=
  (∀ s : State, s.Up 7 →
    exec .cellScanTick s = .next (settle
      (let t := s.passMastership.scanTick.chmTick
       (t.balTick t.chm.pend.isSome).startHeals))) ∧
  (∀ s : State, s.Up 7 → s.tel.scanOn = true →
    exec .scanCollectionStart s = .next (settle
      ((List.range 4).foldl (fun (u : State) r => if u.scans r then (u.recollect r).flow r else u)
        { s with tel := { s.tel with scanColl := true } }))) ∧
  (∀ (s : State) (deadline : Bool), s.Up 7 → s.tel.scanOn = true →
    (deadline = true ∨ ∀ r : Nat, r < 4 → s.owing r = []) →
    exec (.scanPublication deadline) s = .next (settle s.balMismatch.publishScan.chmScan.cellProtect)) ∧
  (∀ s : State, s.Up 7 → s.tel.tempOn = true →
    exec .tempCollectionStart s = .next (settle
      (((List.range 4).foldl (fun (u : State) r => if u.scans r then (u.recollect r).flow r else u)
        { s with tel := { s.tel with tempColl := true } }).askCounts))) ∧
  (∀ s : State, s.Up 7 → s.tel.tempOn = true →
    exec .tempDeadline s = .next (settle
      (let u := s.each 4 (fun x r => (x.modRing r (fun g => { g with tempDue := [] })).dropCollects r 4)
       let w : State := { u with tel := { u.tel with tempOn := false, tempColl := false } }
       (w.put Fld.SRQ_SCANSTAT_TSEQ (w.tel.tick.getD 2 0)).irq Pg.SRQ Irq.SRQ_TEMP_DONE)))

/-- A calibration tick leaves an enabled ring in service from each transmitting port (R133), and turns at the south port of a
closed ring (R134); its return is entered as T_ret, each report makes a SAMPLE_WAIT write where the wait has moved by more
than 0.5 ns, and a missing report or passage makes the calibration bad (R135, R136, R139); a stalled request goes out once
its reservation fits (R147); a flush drops the packets of its classes and counts them (R153). Where the rules leave an order
or a value open, it rests on the model's choices (log 12). -/
def Obligations.CalibrationAndQueuesComplete : Prop :=
  (∀ (s : State) (r : Fin 4), s.Up 7 → s.scans r.val = true →
    exec (.delayCalibration r) s = .next (settle
      (let u := (s.nextTick 4).sendTick r.val 4
       u.modRing r.val (fun g => { g with
         calLaunch := some u.tim.mono
         calPorts := if s.mode r.val = 3 then 5 else bitNat (!(s.ring r.val).mutedN) + 2 * bitNat (!(s.ring r.val).mutedS)
         calWrites := 0, calBad := false })))) ∧
  (∀ (s : State) (r : Fin 4) (tret : Nat) (reports : List DcalReport), s.Up 7 → (s.ring r.val).calLaunch.isSome = true →
    bitOf (s.ring r.val).calPorts 0 = true →
    exec (.calibrationTickReturn r .north tret reports) s = .next (settle
      (let q := s.turnTick r.val
       let asked := q.positions r.val (fun p => q.posIn r.val p && (q.routeTo r.val p).1 == false)
       let e := if asked.all (fun p => reports.any (fun x => x.pos == p)) then q
         else q.modRing r.val (fun g => { g with calBad := true })
       let a := e.put ⟨Fld.SRQ_DLOOPA_NORTH.addr + 4 * r.val, Fld.SRQ_DLOOPA_NORTH.lo, Fld.SRQ_DLOOPA_NORTH.width⟩ (min 65535 tret)
       let b := if a.mode r.val = 3 then
         a.put ⟨Fld.SRQ_DLOOPA_SOUTH.addr + 4 * r.val, Fld.SRQ_DLOOPA_SOUTH.lo, Fld.SRQ_DLOOPA_SOUTH.width⟩ 0 else a
       let c := b.modRing r.val (fun g => { g with calPorts := putBit g.calPorts 0 false })
       ((reports.foldl (fun (u : State) x =>
         if !u.posIn r.val x.pos then u else
         match x.delta with
         | none => u.modRing r.val (fun g => { g with calBad := true })
         | some d =>
           let wait := ratRound (((4 * u.get Fld.SRQ_ALIGN_OFFSET : Nat) : Rat) - (((tret : Int) - d - (x.fwd : Int) : Int) : Rat) / 2)
           let v := if wait < 0 then u.modRing r.val (fun g => { g with calBad := true }) else u
           let far := match (v.ring r.val).waits.find? (fun y => y.1 == x.pos) with
             | none => true
             | some y => decide (y.2 > wait.toNat + 2 ∨ wait.toNat > y.2 + 2)
           if !far then v else
           (v.modRing r.val (fun g => { g with waits := smInsert x.pos wait.toNat g.waits, calWrites := g.calWrites + 1 })).request r.val
             .wait 5 x.pos none (beBytes 2 0x408 ++ beBytes 4 wait.toNat) 0) c).calCheck r.val).flow r.val))) ∧
  (∀ (s : State) (r : Fin 4) (k : Nat) (q : RingReq), s.Up 7 → (s.ring r.val).stalled[k]? = some q → s.inService r.val = true →
    s.wanted r.val q = true → q.need ≤ s.roomFor r.val (q.purpose.cls.getD 3) → (s.ring r.val).free ≠ [] →
    exec (.queueStallIssue r k) s = .next (settle ((s.modRing r.val (fun g => { g with stalled := g.stalled.eraseIdx k })).issue r.val
      q q.need))) ∧
  (∀ (s : State) (q : Fin 4), s.Up 2 →
    exec (.flushBoundary q) s = .next (settle
      (((s.modQue q.val (fun x => { x with packets := x.packets.filter (fun p => !bitOf x.flush p.cls), flush := 0 })).bumpBy
        (Fld.SRQ_QCNT_FLUSHED q.val) ((s.que q.val).packets.filter (fun p => bitOf (s.que q.val).flush p.cls)).length).queShow q.val)))

/-- A collection, after what fell due in the meantime, asks every position in service of the enabled rings for each tone
(R189); at the deadline, positions that owe a report are discarded with reason 2, the window joins the span, and a whole span
gives every cell its result, counts it and publishes group Z (R169, R187 to R191); CAPTURE_REF takes the averages of at least
16 results as references (R192), RESTART begins the windows afresh (R197), CLEAR_AVG drops the averages (R191). Where the
rules leave an order or a value open, it rests on the model's choices (log 13, log 7). -/
def Obligations.ChimeComplete : Prop :=
  (∀ (s : State) (w : ChmWindow), s.Up 7 → (s.chmAdvance s.nowNat).chm.coll = some w →
    exec .phasorCollectionStart s = .next (settle
      (let q := s.chmAdvance s.nowNat
       let ps := q.allPositions.filter (fun x => bitOf (q.get Fld.CHM_CFG_RINGS) x.1)
       let due := q.tones.flatMap (fun k => ps.map (fun x => (x.1, x.2, k)))
       (due.foldl (fun (u : State) x =>
         u.request x.1 (.phasor x.2.2) 8 x.2.1 none (beBytes 1 x.2.2) (8 + 8 * u.cellsOf x.1 x.2.1))
         { q with chm := { q.chm with due := due } }).each 4 (fun u r => u.flow r)))) ∧
  (∀ (s : State) (w : ChmWindow), s.Up 2 → (s.chmAdvance s.nowNat).chm.coll = some w →
    exec .phasorCollectionDeadline s = .next (settle
      (let q := s.chmAdvance s.nowNat
       let a := if q.chm.due.isEmpty then q else q.irq Pg.CHM Irq.CHM_LATE
       let b := a.chm.due.foldl (fun (u : State) x => u.collNote (.pos x.1 x.2.1) 2) a
       let span := b.get Fld.CHM_WIN_NSPAN
       let ws := (b.chm.coll.toList ++ b.chm.span).take span
       let c := b.each 4 (fun u r => u.dropCollects r 3)
       let d : State := { c with chm := { c.chm with coll := none, due := [], span := ws } }
       if ws.length < span then d else
         let e := d.each 3072 (fun u i => u.cellResult ws.reverse i)
         let f := ((({ e with free := e.free + 49152 } : State).bumpBy (whole Reg.CHM_RCOUNT) 1).publish Fld.SRQ_CSTSEQ_Z)
         (if b.on Fld.CHM_CFG_BLEED then { f with chm := { f.chm with span := [] } } else f).irq Pg.CHM Irq.CHM_RESULT))) ∧
  (∀ (s : State) (o : Origin), s.Accepts o Reg.CHM_CMD 1 →
    exec (.captureRef o) s = .next (settle
      (let t := s.mirrorOut o Pg.CHM Reg.CHM_CMD 1
       let taken := fun (z : ZRec) =>
         if z.navg ≥ 16 then { z with refRe := z.zreAvg, refIm := z.zimAvg, refOk := true } else { z with refOk := false }
       let l := (t.chm.table.map (fun x => (x.1, taken x.2))).filter (fun x => x.2 != zrecReset)
       ({ t with chm := { t.chm with table := l } } : State).auditCommand o Reg.CHM_CMD 0 1))) ∧
  (∀ (s : State) (o : Origin), s.Accepts o Reg.CHM_CMD 2 → s.chmRuns = true →
    exec (.chimeRestart o) s = .next (settle
      (let t := (s.mirrorOut o Pg.CHM Reg.CHM_CMD 2).put Fld.CHM_STAT_STATE 1
       { t with chm := { t.chm with run := none, coll := none, span := [], tref := none, since := 0, gapLeft := 0, due := [],
                                        pend := none } }))) ∧
  (∀ (s : State) (o : Origin), s.Accepts o Reg.CHM_CMD 3 →
    exec (.clearAvg o) s = .next (settle
      (let t := s.mirrorOut o Pg.CHM Reg.CHM_CMD 3
       let l := (t.chm.table.map (fun x => (x.1, ({ x.2 with navg := 0 } : ZRec)))).filter (fun x => x.2 != zrecReset)
       { t with chm := { t.chm with table := l } })))

/-- The 100 ms update of an enabled, ready estimator (R203) leaves its instant and no fresh start behind, and checks the
cells without monitoring; a write-back, while the hold-up supply is good, starts from the values at its start with the next
sequence number, into the other copy, whose MAGIC is lost first, one asked for meanwhile is held (R224, R225), and it ends
sealed with that copy active (R223, R225) or torn with the open cycles disqualified (R226); RELOAD of a stopped estimator
takes the newer valid copy, or reports LD_NONE when neither fits (R227, R228); RESTART_LEARN disqualifies every open cycle
with cause 5 (R230). Where the rules leave an order or a value open, it rests on the model's choices (log 13, log 7). -/
def Obligations.EstimatorComplete : Prop :=
  (∀ s : State, s.Up 2 → s.ens Pg.EST = true → s.get Fld.EST_STAT_STATE = 1 → s.appUp = true →
    exec .estimatorUpdate s = .next (settle s.estimate.cellUnmon) ∧
    s.estimate.est.lastUpdate = some s.nowNat ∧ s.estimate.est.fresh = false) ∧
  (∀ (s : State) (o : Origin), s.Accepts o Reg.EST_CMD 1 → s.est.writing = none →
    exec (.writeback o) s = .next (settle
      (let t := s.mirrorOut o Pg.EST Reg.EST_CMD 1
       let u := t.setCopy t.targetB (fun c => { c with magic := 0 })
       if u.on Fld.PWR_STAT_HUGOOD then
         ({ u with est := { u.est with writing := some ⟨t.targetB, t.ldSnapshot, false⟩ } } : State).setOn Fld.EST_STAT_LDBUSY true
       else u.ldTorn))) ∧
  (∀ s : State, s.Up 2 → s.appUp = true → s.est.writing.isSome = true →
    exec .writebackPeriod s = .next (settle { s with est := { s.est with held := true } })) ∧
  (∀ s : State, s.Up 2 → s.appUp = true → s.est.writing = none →
    exec .writebackPeriod s = .next (settle s.startWriteback)) ∧
  (∀ (s : State) (w : Writeback), s.Up 2 → s.est.writing = some w → s.est.held = false → s.clk.transportDue = false →
    (let u := ({ s with est := { s.est with writing := none } } : State).setOn Fld.EST_STAT_LDBUSY false
     exec (.writebackCompletion .verified) s = .next (settle
       ((((((u.setCopy w.toB (fun _ => w.snap.sealed)).setOn Fld.EST_STAT_ACTIVE w.toB).wr Reg.EST_LDSEQ w.snap.seq).bump
         Fld.EST_LDCNT_WRITES).irq Pg.EST Irq.EST_LDWRITE))) ∧
     (∀ how : WritebackEnd, how = .readbackWrong ∨ (how = .hugoodLost ∧ w.low = true) →
       exec (.writebackCompletion how) s = .next (settle
         (let v := (((u.bump Fld.EST_LDCNT_TORN).irq Pg.EST Irq.EST_LDTORN).faultEvent Pg.EST Flt.LD_TORN 0).disqualifyAll 4 (fun _ => true)
          if v.est.held then ({ v with est := { v.est with held := false } } : State).startWriteback else v))))) ∧
  (∀ (s : State) (o : Origin), s.Accepts o Reg.EST_CMD 2 → s.get Fld.EST_STAT_STATE = 0 →
    exec (.reload o) s = .next (settle (s.mirrorOut o Pg.EST Reg.EST_CMD 2).loadLearned)) ∧
  (∀ (s : State) (o : Origin), s.Accepts o Reg.EST_CMD 3 →
    exec (.restartLearn o) s = .next (settle ((s.est.cells.map Prod.fst).foldl (fun (u : State) i => u.disqualify i 5)
      (s.mirrorOut o Pg.EST Reg.EST_CMD 3))))

/-- A planning instant of the enabled planner (R234 to R240) forms the targets of every joined branch, none under STOP_ALL,
and closes at most the position's limit of eligible cells, the greatest targets first; REPLAN asks for one and ends STOP_ALL,
STOP_ALL makes every target 0 and opens every switch (R262). Where the rules leave an order or a value open, it rests on the
model's choices (log 14). -/
def Obligations.BalancingComplete : Prop :=
  (∀ s : State, s.Up 2 → s.ens Pg.BAL = true → s.appUp = true →
    exec .balancePlanning s = .next (settle
      (let a : State := { s with bal := { s.bal with planDue := false } }
       let per := ((List.range 8).filter a.branchIn).map (fun b => a.branchTargets b)
       let noref := (per.filter Option.isNone).length
       let b := (a.setTargets (if a.bal.stopAll then [] else per.flatMap (fun x => x.getD []))).put Fld.BAL_LIMITED_NOREF noref
       let c := if noref = 0 then b else b.irq Pg.BAL Irq.BAL_NOREF
       let ndie : Nat := (c.allPositions.filter (fun x => decide (c.nmaxEff x.1 x.2 < c.get Fld.BAL_SCHED_NMAX))).length
       let d := c.put Fld.BAL_LIMITED_NDIE ndie
       let e := if ndie = 0 then d else d.irq Pg.BAL Irq.BAL_DIELIMIT
       let l := e.allPositions.flatMap (fun x =>
         (e.byTarget ((e.posCells x.1 x.2).filter (fun i => e.eligible i && e.holdOver i))).take (e.nmaxEff x.1 x.2))
       ((e.setClosed l).writeMasks).irq Pg.BAL Irq.BAL_PLANNED))) ∧
  (∀ (s : State) (o : Origin), s.Accepts o Reg.BAL_CMD 1 →
    exec (.replan o) s = .next (settle
      (let t := s.mirrorOut o Pg.BAL Reg.BAL_CMD 1
       { t with bal := { t.bal with planDue := true, stopAll := false } }))) ∧
  (∀ (s : State) (o : Origin), s.Accepts o Reg.BAL_CMD 2 →
    exec (.stopAll o) s = .next (settle
      (let t := (((s.mirrorOut o Pg.BAL Reg.BAL_CMD 2).setTargets []).setClosed []).writeMasks
       { t with bal := { t.bal with stopAll := true } })))

/-- The one-second scan of a disabled unit takes the measured temperatures alone, publishes groups T and B and lets the
planner open or plan (R158, R266); an enabled one also models, checks, substitutes, derates and latches over-temperature
(R249 to R257). CLEAR_OT ends the latch once every TH is cool, and is audited with no other effect while one is not (R258),
CLEAR_SENSOR clears every faulty mark (R264); the cooling payload goes into its object (R259), and 5 s without the chiller's
frame lose it (R261). Where the rules leave an order or a value open, it rests on the model's choices (log 14, log 7). -/
def Obligations.ThermalComplete : Prop :=
  (∀ s : State, s.Up 2 → s.appUp = true → s.ens Pg.THM = false →
    exec (.thermalScan ()) s = .next (settle (s.scanPlain.scanEnds s.nowNat))) ∧
  (∀ s : State, s.Up 2 → s.appUp = true → s.ens Pg.THM = true →
    exec (.thermalScan ()) s = .next (settle ((s.scanChecked s.scanAge).scanEnds s.nowNat))) ∧
  (∀ (s : State) (o : Origin), s.Accepts o Reg.THM_CMD 1 → s.on Fld.THM_STAT_OTLATCH = true →
    (∀ i : Nat, i < 3072 → s.thOf i ≤ ((s.geti Fld.THM_OT_TLATCH - s.get Fld.THM_OT_HYST : Int) : Rat)) →
    exec (.clearOt o) s = .next (settle
      ((((s.mirrorOut o Pg.THM Reg.THM_CMD 1).setOn Fld.THM_STAT_OTLATCH false).irq Pg.THM Irq.THM_OT_CLEARED).latchFault Pg.THM Flt.CELL_OT))) ∧
  (∀ (s : State) (o : Origin) (i : Nat), s.Accepts o Reg.THM_CMD 1 → i < 3072 →
    ((s.geti Fld.THM_OT_TLATCH - s.get Fld.THM_OT_HYST : Int) : Rat) < s.thOf i →
    exec (.clearOt o) s = .next (settle ((s.mirrorOut o Pg.THM Reg.THM_CMD 1).auditCommand o Reg.THM_CMD 0 1))) ∧
  (∀ (s : State) (o : Origin), s.Accepts o Reg.THM_CMD 2 →
    exec (.clearSensor o) s = .next (settle
      (let t := (s.mirrorOut o Pg.THM Reg.THM_CMD 2).each 32 (fun u k => u.wr (Reg.THM_PFLT k) 0)
       let l := t.thm.points.map (fun x => (x.1, ({ x.2 with bad := 0, good := 0 } : TempPoint)))
       (({ t with thm := { t.thm with points := l } } : State).latchFault Pg.THM Flt.TEMP_SENSOR).pfltShow))) ∧
  (∀ s : State, s.Up 2 → s.on Fld.THM_CFG_COOLEN = true → s.ens Pg.THM = true →
    exec .coolingDemand s = .next (settle
      ((s.coolPayload.2.putBytes (s.get Fld.THM_COOL_CTRLSEL) (s.get Fld.THM_COOL_TXOBJ) s.coolPayload.1).canRequest
        (s.get Fld.THM_COOL_CTRLSEL) (s.get Fld.THM_COOL_TXOBJ)))) ∧
  (∀ (s : State) (t : Nat), s.Up 2 → s.on Fld.THM_COOL_RXEN = true → s.thm.chillerAt = some t → t + 5000000000 ≤ s.nowNat →
    s.on Fld.THM_STAT_CHLOST = false →
    exec .chillerTimeout s = .next (settle
      (((s.setOn Fld.THM_STAT_CHLOST true).irq Pg.THM Irq.THM_CHILLER_LOST).fault Pg.THM Flt.CHILLER_LOST 0)))

/-- Events of the PWM unit while its domain runs (R267 to R297). A sample trigger, after a Chime window that is due has
started, leaves the enabled unit with a phase not DISABLED unless it comes closer than 1.25 periods of the last, and opens a
control sample while the loops run; else it does nothing. A carrier point of the enabled unit ends a wait for the phase-0
valley, slides the offset at an even cell's valley, loads the cell of a phase not DISABLED and times its pulses while the
phase switches; with the unit disabled it does nothing. Ready capacitors lead to BUSRAMP, or to RUN on a live bus; a full bus
to RUN; each timeout fails the start with its cause. A stop that has reached zero current returns the phases to idle and ends
as its cause says. A gate-driver fault input is shown; where it is evaluated it trips, or is reported as suppressed when
masked; its release ends the fault. Where the rules leave an order or a value open, it rests on the model's choices
(log 15). -/
def Obligations.ConverterEventsComplete : Prop :=
  (∀ s : State, s.Up 6 →
    let now := s.nowNat
    let t := s.chmAdvance now
    (t.ens Pg.PWM = true → t.anyPhase (fun v => v != 0) = true →
      (∀ l, t.pwm.lastTrig = some l → t.tsUnits * 5 / 4 ≤ ((now - l : Nat) : Rat)) →
      exec .sampleTrigger s = .next (settle
        (let u := ({ t with pwm := { t.pwm with lastTrig := some now, trigs := t.pwm.trigs + 1 } } : State).emit (.trigger (t.trigCount t.pwm.trigs))
         let runs := u.ens Pg.LPE && u.get Fld.LPE_STAT_STATE == 1
         let v := if runs && u.lpe.sampleOpen then u.overrun else u
         let w : State := { v.injTrigger.1 with lpe := { v.injTrigger.1.lpe with sampleOpen := runs, sampleAt := now, inj := [] } }
         if runs && v.injTrigger.2 then w.skipSample else w))) ∧
    ((t.ens Pg.PWM = false ∨ t.anyPhase (fun v => v != 0) = false ∨
        ∃ l, t.pwm.lastTrig = some l ∧ ((now - l : Nat) : Rat) < t.tsUnits * 5 / 4) →
      exec .sampleTrigger s = .next (settle t))) ∧
  (∀ (s : State) (c : Fin 8) (peak : Bool), s.Up 6 →
    (s.ens Pg.PWM = false → exec (.dutyLoad c peak) s = .next (settle s)) ∧
    (s.ens Pg.PWM = true →
      let a := if c.val = 0 ∧ peak = false then s.valley0 else s
      let b := if c.val % 2 = 0 ∧ peak = false then a.carrierTurn c.val else a
      ((b.cellEn c.val = false ∨ b.get (phaseField (c.val / 2)) = 0) → exec (.dutyLoad c peak) s = .next (settle b)) ∧
      (b.cellEn c.val = true → b.get (phaseField (c.val / 2)) ≠ 0 →
        let old := b.pwmCell c.val
        let x := if peak = true ∧ old.switching = true then old else b.cellSettings c.val old
        let y := if peak = false ∨ b.on Fld.PWM_CFG_DUPD = true then b.loadCell c.val x else (b, x)
        let d := y.1.setCell c.val y.2
        (d.phaseSwitching (c.val / 2) = false → exec (.dutyLoad c peak) s = .next (settle d)) ∧
        (d.phaseSwitching (c.val / 2) = true → old.switching = true → exec (.dutyLoad c peak) s = .next (settle
          (d.timePulses c.val old y.2 (!peak) (peak || !d.on Fld.PWM_CFG_DUPD)))) ∧
        (d.phaseSwitching (c.val / 2) = true → old.switching = false → exec (.dutyLoad c peak) s = .next (settle
          (if peak then d.timePulses c.val { y.2 with upper := .suppressed } { y.2 with switching := true, lower := .normal } false true
           else d)))))) ∧
  (∀ s : State, s.Up 6 → s.pwm.starting = true → s.phasesAre 2 = true → s.capsReady = true →
    exec .flyingCapReady s = .next (settle (s.enterSwitching (if s.pwm.liveBus then 4 else 3)))) ∧
  (∀ s : State, s.Up 6 → s.pwm.starting = true → s.phasesAre 2 = true → exec .fcTimeout s = .next (settle (s.failStart 4))) ∧
  (∀ s : State, s.Up 6 → s.pwm.starting = true → s.phasesAre 3 = true → (s.get Fld.PWM_BTGT_TARGET : Rat) * 99 / 100 ≤ s.inVal 13 →
    exec .busRampDone s = .next (settle (s.enterSwitching 4))) ∧
  (∀ s : State, s.Up 6 → s.pwm.starting = true → s.phasesAre 3 = true → exec .busTimeout s = .next (settle (s.failStart 5))) ∧
  (∀ s : State, s.Up 6 → s.svc.state = .stopping → s.pwm.failing = false → s.ctk.opening = none →
    (s.lpe.stopDone = true ∨ s.switching = false ∧ ratAbs (s.inVal 4) ≤ s.zband) →
    let t : State := { s.phasesIdle with lpe := { s.phasesIdle.lpe with stopDone := false } }
    (s.svc.stopCause = some .halt → exec .stopComplete s = .next (settle { t with svc := { s.svc with state := .connected, stopCause := none } })) ∧
    (s.svc.stopCause = some .cat1 → exec .stopComplete s = .next (settle (t.beginOpening t.drivenBranches true true))) ∧
    (s.svc.stopCause = some .classC → exec .stopComplete s = .next (settle
      ((t.setOn Fld.FLT_INFORCE_OPENALL true).beginOpening t.drivenBranches true true))) ∧
    (s.svc.stopCause = some .classCBranch → exec .stopComplete s = .next (settle
      (let mask := bitsOf (t.rd Reg.FLT_INFORCE) 8 8
       let left := Nat.land t.drivenBranches (255 - mask)
       t.beginOpening mask (left == 0) (left == 0))))) ∧
  (∀ (s : State) (n : Fin 8), s.Up 6 →
    let t := s.setBit Reg.PWM_GDFSTAT (8 + n.val) true
    (s.gdEvaluated n.val = false → exec (.gateDriverFaultInput n) s = .next (settle t)) ∧
    (s.gdEvaluated n.val = true → exec (.gateDriverFaultInput n) s = .next (settle
      (let u := (t.setBit Reg.PWM_GDFSTAT n.val true).irq Pg.PWM Irq.PWM_GDF
       if s.gdMasked n.val then u.fault Pg.PWM Flt.GATE_DRIVER_FAULT n.val 0 true else
         ((if u.get Fld.PWM_GDFSTAT_FIRST = 15 then u.put Fld.PWM_GDFSTAT_FIRST n.val else u).snareBy (0x10 + n.val)).fault Pg.PWM
           Flt.GATE_DRIVER_FAULT n.val)))) ∧
  (∀ (s : State) (n : Fin 8), s.Up 6 →
    exec (.gateDriverInputRelease n) s = .next (settle
      ((s.setBit Reg.PWM_GDFSTAT (8 + n.val) false).endInstance Pg.PWM Flt.GATE_DRIVER_FAULT n.val)))

/-- Events of the converters while they run (R199, R302 to R323): a regular sequence starts, is deferred behind a late one,
or lets the last branch currents stand in while it calibrates; a conversion of the slot whose turn it is stores its result,
injected, regular or of the interleaved stream; the second reference comparison within REFCFG.WIN sets REFOK, one outside
clears it and reports ADC_REF; a silent reference fails after TMO; calibration runs in turn and stores its factors; CALIBRATE
starts one unless one runs, CLEAR_COUNTS clears the counts; the Kirchhoff interval compares the means of the millisecond that
ended. Where the rules leave an order or a value open, it rests on the model's choices (log 15, log 20). -/
def Obligations.MeasurementComplete : Prop :=
  (∀ (s : State) (k : Fin 4), s.Up 4 → s.adcRuns = true → s.ilv k.val = false →
    (s.calibrating k.val = true → exec (.regularSequence k) s = .next (settle (s.missSlots (s.regSlots k.val)))) ∧
    (s.calibrating k.val = false → s.adc.regLeft.getD k.val [] = [] →
      exec (.regularSequence k) s = .next (settle { s with adc := { s.adc with
        regLeft := updAt s.adc.regLeft k.val (fun _ => s.regSlots k.val) } })) ∧
    (s.calibrating k.val = false → s.adc.regLeft.getD k.val [] ≠ [] →
      exec (.regularSequence k) s = .next (settle
        (let u := (s.bump Fld.ADC_CNT_REGLATE).irq Pg.ADC Irq.ADC_REGLATE
         { u with adc := { u.adc with regDeferred := putBit u.adc.regDeferred k.val true } })))) ∧
  (∀ (s : State) (k : Fin 4) (n : Fin 24) (nv : Int) (t : Instant) (l : List Nat), s.Up 4 → s.adcRuns = true →
    takeSlot (s.adc.injLeft.getD k.val []) n.val = some l →
    exec (.conversionDone k n nv true t) s = .next (settle
      (let a : State := { s with adc := { s.adc with injLeft := updAt s.adc.injLeft k.val (fun _ => l), midway := putBit s.adc.midway k.val false } }
       let u := (a.storeResult k.val n.val nv t).noteResult n.val t
       { u with lpe := { u.lpe with inj := smInsert n.val (u.inWord n.val) u.lpe.inj } }))) ∧
  (∀ (s : State) (k : Fin 4) (n : Fin 24) (nv : Int) (t : Instant) (l : List Nat), s.Up 4 → s.adcRuns = true → s.ilv k.val = false →
    (s.adc.injLeft.getD k.val [] = [] ∨ bitOf s.adc.midway k.val = true) → takeSlot (s.adc.regLeft.getD k.val []) n.val = some l →
    exec (.conversionDone k n nv false t) s = .next (settle
      (let again := l.isEmpty && bitOf s.adc.regDeferred k.val
       let a : State := { s with adc := { s.adc with
         regLeft := updAt s.adc.regLeft k.val (fun _ => if again then s.regSlots k.val else l)
         regDeferred := if again then putBit s.adc.regDeferred k.val false else s.adc.regDeferred
         midway := putBit s.adc.midway k.val false } }
       let u := (a.storeResult k.val n.val nv t).noteResult n.val t
       if 5 ≤ n.val ∧ n.val ≤ 12 then u.branchResult (n.val - 5) (u.clipped n.val) t.toNat else u))) ∧
  (∀ (s : State) (k : Fin 4) (nv : Int) (t : Instant), s.Up 4 → s.adcRuns = true → s.ilv k.val = true → s.calibrating k.val = false →
    (s.adc.streamBy ≠ some k.val ∨ s.calibrating (standIn k.val) = true) →
    exec (.conversionDone k 4 nv false t) s = .next (settle
      (let u := (({ s with adc := { s.adc with streamBy := some k.val } } : State).storeResult k.val 4 nv t).noteResult 4 t
       if u.lpe.sampleOpen && decide (u.lpe.sampleAt ≤ t.toNat) && !u.lpe.inj.any (fun x => x.1 == 4) then
         { u with lpe := { u.lpe with inj := smInsert 4 (u.inWord 4) u.lpe.inj } }
       else u))) ∧
  (∀ (s : State) (x : RefSample), s.Up 4 → s.ens Pg.ADC = true →
    let t := ({ s with adc := { s.adc with refUv := x.selected } } : State).noteRef x
    (t.refWithin x = false → exec (.referenceCheck x) s = .next (settle
      (let u := ({ t with adc := { t.adc with refGood := 0 } } : State).setOn Fld.ADC_STAT_REFOK false
       if t.on Fld.ADC_STAT_REFOK then u.refFault else u))) ∧
    (t.refWithin x = true → exec (.referenceCheck x) s = .next (settle
      (let u : State := { t with adc := { t.adc with refGood := t.adc.refGood + 1 } }
       if t.adc.refGood + 1 < 2 then u else
         let w := (u.setOn Fld.ADC_STAT_REFOK true).latchFault Pg.ADC Flt.ADC_REF
         if w.get Fld.ADC_STAT_STATE = 1 then w.initialCal else w)))) ∧
  (∀ s : State, s.Up 4 → s.ens Pg.ADC = true → s.on Fld.ADC_STAT_REFOK = false →
    (s.get Fld.ADC_STAT_STATE = 1 → exec .referenceTimeout s = .next (settle s.refFault.initialCal)) ∧
    (s.get Fld.ADC_STAT_STATE = 4 → exec .referenceTimeout s = .next (settle s.refFault))) ∧
  (∀ s : State, s.Up 4 → s.adcRuns = true → s.rd Reg.ADC_CALEFF % 65536 ≠ 0 →
    exec .calibrationDue s = .next (settle
      ((s.put ⟨Reg.ADC_CALEFF, 16, 2⟩ (bitsOf (s.rd Reg.ADC_CALEFF) 16 2 + 1)).queueCal (bitsOf (s.rd Reg.ADC_CALEFF) 16 2)))) ∧
  (∀ (s : State) (k : Fin 4) (gain : Word) (offs : BitVec 16), s.Up 4 → s.calibrating k.val = true →
    exec (.calibrationDone k gain offs) s = .next (settle
      (let d := s.noteDrift k.val gain offs.toNat
       let a := (d.setWord (Reg.ADC_XGAIN k.val) gain).wr (Reg.ADC_XOFFS k.val) (offs.toNat % 65536)
       let b := ((a.wr (Reg.ADC_XCALT k.val) a.opsec).keepWords [Reg.ADC_XGAIN k.val, Reg.ADC_XOFFS k.val, Reg.ADC_XCALT k.val]).irq Pg.ADC
         Irq.ADC_CAL_DONE
       let u := b.put Fld.ADC_STAT_CALBUSY (putBit (b.get Fld.ADC_STAT_CALBUSY) k.val false)
       if u.get Fld.ADC_STAT_STATE = 2 then
         let left := putBit u.adc.initialCal k.val false
         let w : State := { u with adc := { u.adc with initialCal := left } }
         if left = 0 then (w.put Fld.ADC_STAT_STATE 3).irq Pg.ADC Irq.ADC_RUNNING else w
       else match u.adc.calQueue with
         | [] => u
         | j :: rest => ({ u with adc := { u.adc with calQueue := rest } } : State).startCal j))) ∧
  (∀ (s : State) (o : Origin) (k : Fin 4), s.Accepts o Reg.ADC_CMD (1 + 256 * k.val) → s.adcRuns = true → s.get Fld.ADC_STAT_CALBUSY = 0 →
    exec (.calibrate o k) s = .next (settle ((s.mirrorOut o Pg.ADC Reg.ADC_CMD (1 + 256 * k.val)).startCal k.val))) ∧
  (∀ (s : State) (o : Origin) (k : Fin 4), s.Accepts o Reg.ADC_CMD (1 + 256 * k.val) →
    (s.adcRuns = false ∨ s.get Fld.ADC_STAT_CALBUSY ≠ 0) →
    exec (.calibrate o k) s = .next (settle ((s.mirrorOut o Pg.ADC Reg.ADC_CMD (1 + 256 * k.val)).irq Pg.ADC Irq.ADC_CMDREJ))) ∧
  (∀ (s : State) (o : Origin), s.Accepts o Reg.ADC_CMD 2 →
    exec (.adcClearCounts o) s = .next (settle (((s.mirrorOut o Pg.ADC Reg.ADC_CMD 2).wr Reg.ADC_CNT 0).put Fld.ADC_KSTAT_RUN 0))) ∧
  (∀ s : State, s.Up 4 → (s.adcRuns = false ∨ s.on Fld.ADC_CFG_KEN = false) →
    exec .kirchhoffInterval s = .next (settle { s with adc := { s.adc with
      kSum := s.adc.kSum.filter (fun x => decide (s.plantMs s.nowNat - 1 < x.1 / 32)) } })) ∧
  (∀ (s : State) (m : Rat), s.Up 4 → s.adcRuns = true → s.on Fld.ADC_CFG_KEN = true →
    (let ms := s.plantMs s.nowNat - 1
     let mean := intervalMean s.adc.kSum ms
     let bs := (List.range 8).filter (fun b => bitOf (s.get Fld.ADC_KCFG_BRMASK) b)
     mean 4 = some m → (∀ b : Nat, b ∈ bs → (mean (5 + b)).isSome = true) →
     exec .kirchhoffInterval s = .next (settle
       (let d := m - (bs.map (fun b => (mean (5 + b)).getD 0)).sum
        let u := ({ s with adc := { s.adc with kSum := s.adc.kSum.filter (fun x => decide (ms < x.1 / 32)) } } : State).put Fld.ADC_KSTAT_DIFF (satSigned 16 (ratRound (d * 10)))
        let tol := (u.get Fld.ADC_KTOL_TOLA : Rat) / 10 + (u.get Fld.ADC_KTOL_TOLR : Rat) / 1000 * ratAbs m
        let confirm := max 1 (u.get Fld.ADC_KCFG_CONFIRM)
        if ratAbs d > tol then
          let w : State := { (u.bump Fld.ADC_KSTAT_RUN) with adc := { u.adc with kPass := 0 } }
          if w.get Fld.ADC_KSTAT_RUN ≥ confirm && !w.on Fld.ADC_STAT_KFAIL then
            ((w.setOn Fld.ADC_STAT_KFAIL true).irq Pg.ADC Irq.ADC_KIRCHHOFF).fault Pg.ADC Flt.KIRCHHOFF 0 (fpOf d)
          else w
        else
          let w : State := { (u.put Fld.ADC_KSTAT_RUN 0) with adc := { u.adc with kPass := u.adc.kPass + 1 } }
          if u.adc.kPass + 1 ≥ confirm && w.on Fld.ADC_STAT_KFAIL then (w.setOn Fld.ADC_STAT_KFAIL false).latchFault Pg.ADC Flt.KIRCHHOFF
          else w))))

/-- A setpoint frame submitted by the write of its last word, audited where that changes (R55, R339): a well-formed one waits
with the instant it names, or the present one when immediate, the clearing one empties the queue, any other is discarded and
counted. A sample whose inputs are ready is computed and handed over (R328); swaps, tests and captures wait for the next
sample (R353, R368, R369); a lost contributor is replaced by its fallback (R16); a locked-up engine asserts its reset source
(R636). Where the rules leave an order or a value open, it rests on the model's choices (log 15, log 7). -/
def Obligations.LoopsComplete : Prop :=
  (∀ (s : State) (o : Origin) (w4 : Word), s.Accepts o (Reg.LPE_SPIN 4) w4.toNat →
    (let was := s.rd (Reg.LPE_SPIN 4)
     let u := (if was = w4.toNat then s else s.audit 1 o (Reg.LPE_SPIN 4) was w4.toNat).wr (Reg.LPE_SPIN 4) w4.toNat
     let h := u.rd (Reg.LPE_SPIN 0)
     (bitsOf h 16 11 = 0 → bitsOf h 28 4 = 2 →
       exec (.setpointClear o w4) s = .next (settle ({ u with lpe := { u.lpe with frames := [] } } : State).spShow)) ∧
     (bitsOf h 16 11 = 0 → bitsOf h 28 4 = 1 → fpIsNan (u.word (Reg.LPE_SPIN 3)) = false → fpIsInf (u.word (Reg.LPE_SPIN 3)) = false →
       u.lpe.frames.length < 8 →
       exec (.setpoint o w4) s = .next (settle
         (let act : Instant := if bitOf h 27 then u.now else BitVec.ofNat 64 (u.rd (Reg.LPE_SPIN 1) * 2 ^ 32 + u.rd (Reg.LPE_SPIN 2))
          ({ u with lpe := { u.lpe with frames := u.lpe.frames ++
            [⟨bitOf h 27, h % 65536, act, u.word (Reg.LPE_SPIN 3), u.word (Reg.LPE_SPIN 4), u.now⟩] } } : State).spShow))) ∧
     ((bitsOf h 16 11 ≠ 0 ∨ (bitsOf h 28 4 ≠ 2 ∧ (bitsOf h 28 4 ≠ 1 ∨ fpIsNan (u.word (Reg.LPE_SPIN 3)) = true ∨
         fpIsInf (u.word (Reg.LPE_SPIN 3)) = true ∨ 8 ≤ u.lpe.frames.length))) →
       exec (.setpoint o w4) s = .next (settle ((u.bump Fld.LPE_SPCNT_DISC).irq Pg.LPE Irq.LPE_SPDISC))))) ∧
  (∀ s : State, s.Up 5 → s.sampleReady = true →
    exec .controlSample s = .next (settle
      (let t := s.controlSample.sampleOut.appliedNotices s
       let now := t.nowNat
       (if t.standing Flt.LOOP_NAN = 1 then t.modTwn (fun x => { x with nanAt := some now }) else t).surrender))) ∧
  (∀ (s : State) (o : Origin) (v : Word), s.Accepts o Reg.LPE_SWAP v.toNat →
    exec (.swapRequest o v) s = .next (settle
      (let t := s.mirrorOut o Pg.LPE Reg.LPE_SWAP v.toNat
       { t with lpe := { t.lpe with swapReq := Nat.lor t.lpe.swapReq (v.toNat % 65536 % 65536), swapBy := o } }))) ∧
  (∀ s : State, exec .loopLockup s = .next (settle (s.resetAssert 12))) ∧
  (∀ (s : State) (o : Origin), s.Accepts o Reg.LPE_CMD 1 → s.lpe.capRun = false → s.lpe.capArmed = false → s.lpe.testArmed = false →
    s.on Fld.LPE_STAT_TEST = false → s.phasesAre 4 = true → s.testNodeOk (s.get Fld.LPE_TEST_SEL) = true → s.get Fld.LPE_TEST_TYPE ≠ 0 →
    exec (.testStart o) s = .next (settle
      (let t := s.mirrorOut o Pg.LPE Reg.LPE_CMD 1
       { t with lpe := { t.lpe with testArmed := true } }))) ∧
  (∀ (s : State) (o : Origin), s.Accepts o Reg.LPE_CMD 2 → s.lpe.capRun = true →
    exec (.testStop o) s = .next (settle
      (let t := s.mirrorOut o Pg.LPE Reg.LPE_CMD 2
       { t with lpe := { t.lpe with testStop := true } }))) ∧
  (∀ (s : State) (o : Origin), s.Accepts o Reg.LPE_CMD 3 → s.lpe.capRun = false → s.lpe.capArmed = false → s.lpe.testArmed = false →
    exec (.capture o) s = .next (settle
      (let t := s.mirrorOut o Pg.LPE Reg.LPE_CMD 3
       { t with lpe := { t.lpe with capArmed := true } }))) ∧
  (∀ (s : State) (o : Origin), s.Accepts o Reg.LPE_CMD 4 →
    exec (.lpeClearCounts o) s = .next (settle (((s.mirrorOut o Pg.LPE Reg.LPE_CMD 4).wr Reg.LPE_OVR 0).wr Reg.LPE_SPCNT 0))) ∧
  (∀ s : State, s.Up 5 → s.lpe.est.isSome = true →
    exec (.contributionFallback .estimator) s = .next (settle
      (({ s with lpe := { s.lpe with est := none } } : State).irq Pg.LPE Irq.LPE_FALLBACK))) ∧
  (∀ s : State, s.Up 5 → s.lpe.thm.isSome = true →
    exec (.contributionFallback .thermal) s = .next (settle
      (({ s with lpe := { s.lpe with thm := none } } : State).irq Pg.LPE Irq.LPE_FALLBACK)))

/-- Layers while SYS runs (R377, R381 to R385): an enabled comparator whose input has stood beyond a
threshold for its filter time is latched and counted, raises CMP_TRIP, and trips Snare unless its SNARE bit is 0; back by its
hysteresis, it ends the fault; the protection contribution is formed anew; a digital
row whose instance lies beyond its test fails once, and recovers with its last instance. Where the rules leave an order or a
value open, it rests on the model's choices (log 16). -/
def Obligations.ProtectionComplete : Prop :=
  (∀ (s : State) (x : CompSample), s.Up 2 → s.on (Fld.PRT_CMPCFG_EN x.comparator.val) = true →
    s.get (Fld.PRT_CMPCFG_INPUT x.comparator.val) = x.input.val → s.on (Fld.PRT_CMPSTAT_LEVEL x.comparator.val) = false →
    (s.cmpBeyond x.comparator.val (x.nanovolts : Rat)).2 = true → 5 * s.get (Fld.PRT_CMPCFG_FILT x.comparator.val) ≤ x.heldNs →
    exec (.comparatorAssert x) s = .next (settle
      (let n := x.comparator
       let a : State := { s with prt := { s.prt with
         cmpHigh := putBit s.prt.cmpHigh n.val (s.cmpBeyond n.val (x.nanovolts : Rat)).1 } }
       let u := (((a.setOn (Fld.PRT_CMPSTAT_LEVEL n.val) true).setOn (Fld.PRT_CMPSTAT_LATCH n.val) true).bump
         (Fld.PRT_CMPSTAT_COUNT n.val)).irq Pg.PRT Irq.PRT_CMP
       if u.on (Fld.PRT_CMPCFG_SNARE n.val) then (u.snareBy n.val).fault Pg.PRT Flt.CMP_TRIP n.val
       else u.fault Pg.PRT Flt.CMP_TRIP n.val 0 true))) ∧
  (∀ (s : State) (x : CompSample), s.Up 2 → s.on (Fld.PRT_CMPCFG_EN x.comparator.val) = true →
    s.get (Fld.PRT_CMPCFG_INPUT x.comparator.val) = x.input.val → s.on (Fld.PRT_CMPSTAT_LEVEL x.comparator.val) = true →
    s.cmpBack x.comparator.val (x.nanovolts : Rat) = true →
    exec (.comparatorReturn x) s = .next (settle
      ((s.setOn (Fld.PRT_CMPSTAT_LEVEL x.comparator.val) false).endInstance Pg.PRT Flt.CMP_TRIP x.comparator.val))) ∧
  (∀ s : State, s.Up 2 → s.ens Pg.PRT = true →
    (let hi := if s.inValid 13 then rampOf (s.get Fld.PRT_VBHI_START : Rat) (s.get Fld.PRT_VBHI_END : Rat) (s.inVal 13) else 0
     let lo := if s.inValid 13 then rampOf (-(s.get Fld.PRT_VBLO_START : Rat)) (-(s.get Fld.PRT_VBLO_END : Rat)) (-(s.inVal 13)) else 0
     let ibr := s.get Fld.PRT_ILIM_IBR
     let parts := (if s.get Fld.PRT_ILIM_ISTR = 0 then [] else [(s.get Fld.PRT_ILIM_ISTR : Rat)]) ++
       (if ibr = 0 then [] else ((List.range 8).filter s.branchIn).map (fun b => ratDiv (ibr : Rat) (s.branchShare b)))
     let base : Option Rat := parts.foldl (fun m v => match m with
       | none => some v
       | some y => some (min y v)) none
     ∃ t, exec .protectionContribution s = .next t ∧ t.lpe.prtC = protLimit base lo ∧ t.lpe.prtD = protLimit base hi ∧
       (t.rd Reg.PRT_CONTRIB = ((match protLimit base lo with
         | none => 65535
         | some a => satNat 16 (ratRound a)) + (match protLimit base hi with
         | none => 65535
         | some a => satNat 16 (ratRound a)) * 65536) % 2 ^ 32))) ∧
  (∀ s : State, s.Up 2 → s.ens Pg.PRT = false → exec .protectionContribution s = .next (settle s)) ∧
  (∀ (s : State) (row : Fin 6) (i : Fin 8), s.Up 2 → s.ens Pg.PRT = true → s.rowTests row.val i.val = true →
    s.inValid (rowInput row.val i.val) = true → s.rowHeld row.val i.val true = true → s.prt.failed.contains (row.val, i.val) = false →
    exec (.digitalLimitFail row i) s = .next (settle
      (let u : State := { s with prt := { s.prt with failed := (row.val, i.val) :: s.prt.failed } }
       let v := ((u.setOn (Fld.PRT_DLSTAT_LEVEL row.val) true).setOn (Fld.PRT_DLSTAT_LATCH row.val) true).put (Fld.PRT_DLSTAT_INST row.val) i.val
       (v.irq Pg.PRT Irq.PRT_DLIM).fault Pg.PRT (0x10 + row.val) i.val (fpOf (v.inVal (rowInput row.val i.val)))))) ∧
  (∀ (s : State) (row : Fin 6) (i : Fin 8), s.Up 2 → s.inValid (rowInput row.val i.val) = true → s.rowHeld row.val i.val false = true →
    s.prt.failed.contains (row.val, i.val) = true →
    exec (.digitalLimitRecover row i) s = .next (settle
      (let left := s.prt.failed.filter (fun x => x != (row.val, i.val))
       let u : State := { s with prt := { s.prt with failed := left } }
       (if left.any (fun x => x.1 == row.val) then u else u.setOn (Fld.PRT_DLSTAT_LEVEL row.val) false).endInstance Pg.PRT (0x10 + row.val) i.val)))

/-- Events of the pairs while SYS runs (R387 to R395): a readback that changes moves the pair's state, and the connect,
opening and rest sequences with it; a pair that does not read closed is opened with CTK_NOCLOSE, one that does not read open
is welded; precharge closes the main pair within DV, or fails back to READY; JOIN and SEPARATE drive a branch pair;
CLEAR_WELD clears every weld once all pairs read open (R401); a controlled opening goes at zero current, or by force after
ZTMO; held drives are adopted when they agree with readback, and lost at the end. Where the rules leave an order or a value
open, it rests on the model's choices (log 16). -/
def Obligations.ContactorsComplete : Prop :=
  (∀ (s : State) (p : Fin 10), s.Up 2 → s.pairOpen p.val = true → s.get (pairField p.val) = 1 → s.pairDriven p.val = true →
    exec (.auxChange p false) s = .next (settle
      (let a := s.setBit Reg.CTK_AUX p.val false
       let b := if p.val < 8 then a.setBranches (putBit a.svc.branches p.val true) else a
       let c := if b.pairDriven p.val then b.put (pairField p.val) 2 else if b.owns then b.weld p.val else b
       c.advanceConnect.advanceOpening.openingRest))) ∧
  (∀ (s : State) (p : Fin 10), s.Up 2 → s.pairOpen p.val = false → s.get (pairField p.val) = 3 →
    exec (.auxChange p true) s = .next (settle
      (let a := s.setBit Reg.CTK_AUX p.val true
       let b := if p.val < 8 then a.setBranches (putBit a.svc.branches p.val false) else a
       (b.put (pairField p.val) 0).advanceConnect.advanceOpening.openingRest))) ∧
  (∀ (s : State) (p : Fin 10), s.Up 2 → s.get (pairField p.val) = 1 → s.owns = true →
    exec (.contactorCloseTimeout p) s = .next (settle
      ((((s.drivePair p.val false).put (pairField p.val) 5).ctkEvent Flt.CTK_NOCLOSE p.val).advanceConnect))) ∧
  (∀ (s : State) (p : Fin 10), s.Up 2 → s.get (pairField p.val) = 3 → s.owns = true →
    exec (.contactorOpenTimeout p) s = .next (settle
      ((((s.put (pairField p.val) 4).irq Pg.CTK Irq.CTK_FAIL).fault Pg.CTK Flt.CTK_WELD p.val).advanceOpening.openingRest))) ∧
  (∀ s : State, s.Up 2 → s.get Fld.CTK_SEQ_STATE = 3 → s.pairOpen 9 = false → s.inValid 14 = true →
    ratAbs (s.inVal 14 - s.meanBranch) ≤ (s.get Fld.CTK_PRE_DV : Rat) / 10 →
    exec .prechargeComplete s = .next (settle ((s.closePair 8).setSeq 4))) ∧
  (∀ s : State, s.Up 2 → s.get Fld.CTK_SEQ_STATE = 3 →
    exec .prechargeTimeout s = .next (settle (((s.openAllNow.setSvc .ready).ctkEvent Flt.PRECHARGE_FAIL 0).openingRest))) ∧
  (∀ (s : State) (o : Origin) (b : Fin 8) (u : Rat), s.Accepts o Reg.CTK_CMD (2 + 256 * b.val) → s.svc.state = .connected →
    bitOf (s.get Fld.CTK_CFG_BRMASK) b.val = true → s.branchVolt b.val = some u → s.inValid 14 = true →
    ratAbs (u - s.inVal 14) ≤ (s.rd Reg.CTK_JOIN % 65536 : Nat) / (10 : Rat) → s.branchBarred b.val = false → s.pairDriven b.val = false →
    exec (.join o b) s = .next (settle ((s.mirrorOut o Pg.CTK Reg.CTK_CMD (2 + 256 * b.val)).closePair b.val))) ∧
  (∀ (s : State) (o : Origin) (b : Fin 8), s.Accepts o Reg.CTK_CMD (1 + 256 * b.val) → (s.svc.state = .connected ∨ s.svc.state = .ready) →
    s.pairDriven b.val = true →
    exec (.separate o b) s = .next (settle ((s.mirrorOut o Pg.CTK Reg.CTK_CMD (1 + 256 * b.val)).openPair b.val))) ∧
  (∀ (s : State) (o : Origin), s.Accepts o Reg.CTK_CMD 3 → s.allOpen = true →
    exec (.clearWeld o) s = .next (settle
      (((s.mirrorOut o Pg.CTK Reg.CTK_CMD 3).each 10 (fun u p => if u.get (pairField p) = 4 then u.put (pairField p) 0 else u)).clearFault
        Flt.CTK_WELD))) ∧
  (∀ s : State, s.Up 2 → s.openingWaits = true → s.zeroCurrent = true →
    exec .controlledOpening s = .next (settle s.openingGo.openingRest)) ∧
  (∀ s : State, s.Up 2 → s.openingWaits = true →
    exec .zeroTimeout s = .next (settle (s.openingGo.openingRest.ctkEvent Flt.CTK_BREAK_LOAD 0))) ∧
  (∀ s : State, s.Up 2 → s.on Fld.CTK_HOLD_HELD = true → s.acc.locksRestored = true → s.heldAgrees = true →
    bitOf (s.get Fld.CTK_HOLD_DRV) 16 = true →
    exec .holdoverAdopt s = .next (settle
      (let drv := s.get Fld.CTK_HOLD_DRV
       let a := ((s.setOn Fld.CTK_HOLD_HELD false).setOn Fld.CTK_HOLD_ADOPTED true).irq Pg.CTK Irq.CTK_HOLDOVER
       let b := a.each 10 (fun u p => if bitOf drv (2 * p) then (u.drivePair p true).put (pairField p) 2 else u)
       let c := b.setBranches (maskOf 8 (fun k => !b.pairOpen k))
       let d : State := { c with clk := { c.clk with adoptPending := false } }
       let e := if d.pairDriven 9 then d.openPair 9 else d
       (if c.svc.state = .tripped ∨ c.svc.state = .recovery then e else e.setSvc .connected).setSeq 5))) ∧
  (∀ s : State, s.on Fld.CTK_HOLD_HELD = true →
    exec .holdoverEnd s = .next (settle
      (let a := ((s.setOn Fld.CTK_HOLD_HELD false).wr Reg.CTK_DRIVE 0).irq Pg.CTK Irq.CTK_HOLDOVER
       let b : State := { a with clk := { a.clk with adoptPending := false } }
       ((if s.svc.state = .tripped ∨ s.svc.state = .recovery then b else b.readyOr).setSeq 0).ctkEvent Flt.CTK_HOLDOVER_LOST 0)))

/-- The first half-period of a running monitor only stores its voltage, the mean of its last tenth, and changes the polarity,
a later one forms R and tests it against both limits (R397, R398). A handled fault whose reaction is complete gives way to
the next, or ends the reaction in force (R403 to R406); event codes turn LATCHED (R731), as do the ring alarm and the loop
NaN when quiet; a storm ends once quiet with an empty queue (R407); ACK returns every LATCHED code but CTK_WELD to NONE
(R401). Where the rules leave an order or a value open, it rests on the model's choices (log 16, log 23). -/
def Obligations.FaultHandlingComplete : Prop :=
  (∀ s : State, s.Up 2 → s.ens Pg.ISO = true → s.on Fld.ISO_STAT_HALTED = false → s.iso.prevV = none →
    exec (.insulationHalfPeriod () ()) s = .next (settle
      (let v := ratDiv s.iso.last.1 (s.iso.last.2 : Rat)
       let a := s.setWord (if s.iso.high then Reg.ISO_VPOS else Reg.ISO_VNEG) (fpOf v)
       let b : State := { a with iso := { a.iso with
         prevV := some v, high := !a.iso.high, startAt := a.nowNat, last := (0, 0), earlier := (0, 0) } }
       if b.owns then b.emit (.ball "ISO_INJ" b.iso.high) else b))) ∧
  (∀ (s : State) (pv : Rat), s.Up 2 → s.ens Pg.ISO = true → s.on Fld.ISO_STAT_HALTED = false → s.iso.prevV = some pv →
    exec (.insulationHalfPeriod () ()) s = .next (settle
      (let v := ratDiv s.iso.last.1 (s.iso.last.2 : Rat)
       let w := ratDiv s.iso.earlier.1 (s.iso.earlier.2 : Rat)
       let a := s.setWord (if s.iso.high then Reg.ISO_VPOS else Reg.ISO_VNEG) (fpOf v)
       let b : State := { a with iso := { a.iso with
         prevV := some v, high := !a.iso.high, startAt := a.nowNat, last := (0, 0), earlier := (0, 0) } }
       let c := if b.owns then b.emit (.ball "ISO_INJ" b.iso.high) else b
       let d := ratAbs (v - pv)
       let kohm := 2 * ((c.get Fld.ISO_NET_UINJ : Rat) / 10) * (c.get Fld.ISO_NET_RM : Rat) / d / 1000 - (c.get Fld.ISO_RC_RC : Rat)
       let r := if d < 1 / 1000 then 65535 else satNat 16 (ratRound kohm)
       let unsettled := decide (ratAbs (v - w) > (c.get Fld.ISO_CFG_SETTLE : Rat) / 1000 * d)
       let e := ((c.wr Reg.ISO_RES (r + 2 ^ 16 + bitNat unsettled * 2 ^ 17)).bump Fld.ISO_CNT_Results).irq Pg.ISO Irq.ISO_RESULT
       if unsettled then
         let n := e.iso.unsettled + 1
         let f := (({ e with iso := { e.iso with unsettled := n } } : State).bump ⟨Reg.ISO_CNT, 16, 16⟩).irq Pg.ISO Irq.ISO_UNSETTLED
         if n = 8 then f.fault Pg.ISO Flt.ISO_MONITOR_FAIL 0 else f
       else
         let f := e.latchFault Pg.ISO Flt.ISO_MONITOR_FAIL
         let x := f.isoLimit f.iso.below f.iso.above r (f.get Fld.ISO_LIM_TRIP) Flt.INSULATION_LOW Irq.ISO_TRIP
         let y := x.2.isoLimit x.2.iso.belowWarn x.2.iso.aboveWarn r (f.get Fld.ISO_LIM_WARN) Flt.ISO_WARN Irq.ISO_WARN
         let g := y.2
         { g with iso := { g.iso with below := x.1.1, above := x.1.2, belowWarn := y.1.1, aboveWarn := y.1.2, unsettled := 0 } }))) ∧
  (∀ (s : State) (h : FaultItem), s.Up 2 → s.flt.handling = some h → s.handlingDone h = true →
    (s.flt.queue = [] → exec .faultDequeue s = .next (settle
      ((({ s with flt := { s.flt with handling := none } } : State).wr Reg.FLT_INFORCE 0).fltShow))) ∧
    (∀ (i : FaultItem) (rest : List FaultItem), s.flt.queue = i :: rest → exec .faultDequeue s = .next (settle
      (State.afterTrip (({ s with flt := { s.flt with queue := rest } } : State).handle i))))) ∧
  (∀ s : State, s.Up 2 → exec .eventCodeLatch s = .next (settle
    (s.flt.eventCodes.foldl (fun (u : State) c => u.latchFault Pg.FLT c) { s with flt := { s.flt with eventCodes := [] } }))) ∧
  (∀ s : State, s.Up 2 → exec .alarmQuiet s = .next (settle (s.latchFault Pg.FLT Flt.RING_ALARM))) ∧
  (∀ s : State, s.Up 2 → exec .nanQuiet s = .next (settle (s.latchFault Pg.LPE Flt.LOOP_NAN))) ∧
  (∀ s : State, s.Up 2 → s.on Fld.FLT_STATE_STORM = true → s.flt.queue = [] →
    exec .stormEnd s = .next (settle ((s.stormRecord.setOn Fld.FLT_STATE_STORM false).latchFault Pg.FLT Flt.FAULT_STORM))) ∧
  (∀ (s : State) (o : Origin), s.Accepts o Reg.FLT_CMD 1 →
    exec (.faultAck o) s = .next (settle ((s.mirrorOut o Pg.FLT Reg.FLT_CMD 1).clearLatched.irq Pg.FLT Irq.FLT_CLEARED)))

/-- Events at the island's inputs in RUN (R422 to R429, R433): an edge stores the raw level, and held for FILT the
filtered one, and then moves the function of its input, after the faults that the new level clears; a test pulse drives its
ball low and tests every TP input, a channel that failed twice being an
input fault (both forms named); a disagreement that lasts DISC latches a discrepancy; T1 expiring stops the function with the
stop line; STOPDONE ends every category 1 stop; a reset device released after 100 ms to 5000 ms resets, one held longer is an
input fault; the MAINTOFF delay enables the MAINTON outputs. Where the rules leave an order or a value open, it rests on the
model's choices (log 22). -/
def Obligations.SafetyInputsComplete : Prop :=
  (∀ (s : State) (n : Fin 8) (ch : Chan) (x : RawLevel), s.Up 1 →
    x.held10us < 10 * s.get (Fld.SFI_INTIM_FILT n.val) →
    exec (.filteredEdge n ch x) s = .next (settle
      (let raw := if chanIdx ch = 0 then Fld.SFI_INSTAT_A else Fld.SFI_INSTAT_B
       (s.put raw (putBit (s.get raw) n.val x.level)).safetyOut))) ∧
  (∀ (s : State) (n : Fin 8) (ch : Chan) (x : RawLevel), s.Up 1 → s.islandRuns = true → s.get (Fld.SFI_INCFG_TYPE n.val) ≠ 0 →
    10 * s.get (Fld.SFI_INTIM_FILT n.val) ≤ x.held10us →
    exec (.filteredEdge n ch x) s = .next (settle
      (let c := chanIdx ch
       let raw := if c = 0 then Fld.SFI_INSTAT_A else Fld.SFI_INSTAT_B
       let fil := if c = 0 then Fld.SFI_INSTAT_A2 else Fld.SFI_INSTAT_B2
       let r := s.put raw (putBit (s.get raw) n.val x.level)
       let a := (r.put fil (putBit (r.get fil) n.val x.level)).notePress n.val (s.pressed n.val)
       let b := if a.chanSafe n.val 0 && a.chanSafe n.val 1 then
           let t := a.modIsl (fun x => { x with seenSafe := if s.inputFaulty n.val then putBit x.seenSafe n.val true else x.seenSafe })
           if bitOf t.isl.stuck n.val then
             (t.modIsl (fun x => { x with stuck := putBit x.stuck n.val false })).endInstance Pg.SFI Flt.SFI_INPUT_FAULT n.val
           else t
         else a.clearInput n.val
       (b.inputMoved n.val (s.inputSafe n.val) (s.inputFaulty n.val)).safetyOut))) ∧
  (∀ (s : State) (src : Chan) (la lb : BitVec 8), s.Up 1 → s.islandRuns = true →
    exec (.testPulse src la lb) s = .next (settle
      (((s.emit (.ball (if chanIdx src = 0 then "SFI_TPA" else "SFI_TPB") false)).emit
          (.ball (if chanIdx src = 0 then "SFI_TPA" else "SFI_TPB") true)).each 8 (fun t n =>
        if !(t.on (Fld.SFI_INCFG_TP n) && t.get (Fld.SFI_INCFG_TYPE n) != 0) then t else
        let x := t.testChannel (chanIdx src) n 0 (bitOf la.toNat n)
        let y := x.1.testChannel (chanIdx src) n 1 (bitOf lb.toNat n)
        (if (x.2 || y.2) && !bitOf (y.1.get Fld.SFI_INFLT_TPF) n then
           (((y.1.put Fld.SFI_INFLT_TPF (putBit (y.1.get Fld.SFI_INFLT_TPF) n true)).modIsl (fun z => { z with
             seenSafe := putBit z.seenSafe n false
             followed := putBit (putBit z.followed (2 * n) false) (2 * n + 1) false })).inputFault n)
         else y.1.clearInput n).inputMoved n (t.inputSafe n) (t.inputFaulty n))).safetyOut)) ∧
  (∀ (s : State) (n : Fin 8), s.Up 1 → s.islandRuns = true → s.get (Fld.SFI_INCFG_TYPE n.val) ≠ 0 →
    s.chanSafe n.val 0 ≠ s.chanSafe n.val 1 → bitOf (s.get Fld.SFI_INFLT_DISC) n.val = false →
    exec (.discrepancyTimeout n) s = .next (settle
      ((((((s.put Fld.SFI_INFLT_DISC (putBit (s.get Fld.SFI_INFLT_DISC) n.val true)).modIsl
        (fun x => { x with seenSafe := putBit x.seenSafe n.val false })).irq Pg.SFI Irq.SFI_DISCREPANCY).fault Pg.SFI
        Flt.SFI_DISCREPANCY n.val).inputMoved n.val (s.inputSafe n.val) (s.inputFaulty n.val)).safetyOut))) ∧
  (∀ (s : State) (n : Fin 8), s.Up 1 → s.islandRuns = true → s.isStop n.val = true → s.fnState n.val = 1 →
    exec (.t1Expiry n) s = .next (settle (((s.setFn n.val 2 true).islandLines).safetyOut))) ∧
  (∀ s : State, s.Up 1 → s.islandRuns = true → s.stopIsDone = true →
    exec .stopdone s = .next (settle
      (((s.each 8 (fun t n => if t.isStop n && t.fnState n == 1 then (t.setFn n 2 false).afterStop n false else t)).islandLines).safetyOut))) ∧
  (∀ (s : State) (n : Fin 8) (ms : Nat), s.Up 1 → smGet (fun _ => (0 : Nat)) s.isl.pressedFor n.val = ms →
    (let u := s.modIsl (fun x => { x with pressedFor := smErase n.val x.pressedFor })
     (s.islandRuns = true → s.get (Fld.SFI_INCFG_TYPE n.val) = 5 → s.inputFaulty n.val = false → 100 ≤ ms → ms ≤ 5000 →
       exec (.resetDeviceRelease n ()) s = .next (settle u.safetyReset.safetyOut)) ∧
     ((ms < 100 ∨ 5000 < ms) → exec (.resetDeviceRelease n ()) s = .next (settle u.safetyOut)))) ∧
  (∀ (s : State) (n : Fin 8), s.Up 1 → s.islandRuns = true → s.get (Fld.SFI_INCFG_TYPE n.val) = 5 →
    s.chanSafe n.val 0 = false → s.chanSafe n.val 1 = false → bitOf s.isl.stuck n.val = false →
    5000 < s.rd Reg.SFI_CYCLE - smGet (fun _ => s.rd Reg.SFI_CYCLE) s.isl.pressedAt n.val →
    exec (.resetDeviceStuck n) s = .next (settle
      (((s.modIsl (fun x => { x with stuck := putBit x.stuck n.val true })).inputFault n.val).safetyOut))) ∧
  (∀ s : State, s.Up 1 → s.maintOffs = true → s.maintSettled = true →
    exec .maintonDelay s = .next (settle ((s.modIsl (fun x => { x with deenDone := true })).safetyOut)))

/-- The safety cycle while the island is neither in INIT nor in FAULT (R434 to R436, R444, R464): it counts, takes the
readbacks, takes a confirmation, evaluates functions and connections, checks the readbacks, writes the outputs and runs the
shadow's comparison, and SFI_SLOT shows where the image stands (R446, R670); RESET acts on every function in AWAIT_RESET and
every connection in WAITRESET (R429, R470); CLEAR_OUTFLT clears an output fault whose readbacks read low (R440); a Rimshot
pulse begins, ends and gets its verdict, which an off demand discards (R437 to R439). Where the rules leave an order or a
value open, it rests on the model's choices (log 22). -/
def Obligations.SafetyOutputsComplete : Prop :=
  (∀ (s : State) (rbA rbB : BitVec 4) (eq : Bool), s.Up 1 → s.get Fld.SFI_STAT_STATE ≠ 0 → s.get Fld.SFI_STAT_STATE ≠ 5 →
    exec (.safetyCycle rbA rbB eq) s = .next (settle
      (let a := ((s.wr Reg.SFI_CYCLE ((s.rd Reg.SFI_CYCLE + 1) % 2 ^ 32)).put Fld.SFI_OUTSTAT_A2 rbA.toNat).put Fld.SFI_OUTSTAT_B2 rbB.toNat
       let b := a.modIsl (fun x => { x with
         t1Left := x.t1Left.map (fun (t : Nat × Nat) => (t.1, t.2 - 1))
         faultTimes := x.faultTimes.filter (fun t => decide (a.opsec < t + 3600)) })
       let c := ((b.put Fld.SFI_FAULT_COUNT (min 15 b.isl.faultTimes.length)).takeConfirm).connUse
       let d := if c.islandRuns then (c.each 8 State.evalFn).each 8 State.connWatch else c
       let e := (d.islandLines.each 8 State.checkReadback).writeOutputs
       (State.coilSeen s ((e.shadowCycle eq).sendChanged.t1Show)).slotShow.safetyOut))) ∧
  (∀ (s : State) (o : Origin), s.Accepts o Reg.SFI_CMD 1 → s.islandRuns = true →
    exec (.safetyReset o) s = .next (settle
      (((s.each 8 (fun t n =>
        if t.isStop n && t.fnState n == 3 && !t.inputSafe n && !t.inputFaulty n then t.fnPermit n else t)).connReset).islandLines))) ∧
  (∀ (s : State) (o : Origin), s.Accepts o Reg.SFI_CMD 2 →
    exec (.clearOutflt o) s = .next (settle
      (s.each 4 (fun t m =>
        if bitOf (t.get Fld.SFI_OUTSTAT_FAULT) m && !t.on (outRb (2 * m)) && !t.on (outRb (2 * m + 1)) then
          (t.put Fld.SFI_OUTSTAT_FAULT (putBit (t.get Fld.SFI_OUTSTAT_FAULT) m false)).endInstance Pg.SFI Flt.SFI_OUTPUT_FAULT m
        else t)))) ∧
  (∀ (s : State) (ch : Fin 8), s.Up 1 → s.on (outCmd ch.val) = true → s.rd Reg.SFI_CYCLE % 1000 = 125 * ch.val →
    s.isl.rim.any (fun r => r.1 == ch.val) = false →
    exec (.rimshotPulse ch) s = .next (settle
      (((s.modIsl (fun x => { x with rim := smInsert ch.val ⟨false, false, false⟩ x.rim })).emit (.ball (outBall ch.val) false)).safetyOut))) ∧
  (∀ (s : State) (ch : Fin 8) (low : Bool) (k : Nat) (r : RimPulse), s.Up 1 → s.isl.rim.find? (fun x => x.1 == ch.val) = some (k, r) →
    r.ended = false →
    exec (.rimshotPulseEnd ch low) s = .next (settle
      (let a := s.modIsl (fun x => { x with rim := smInsert ch.val { r with ended := true, low := low } x.rim })
       (if a.on (outCmd ch.val) then a.emit (.ball (outBall ch.val) true) else a).safetyOut))) ∧
  (∀ (s : State) (ch : Fin 8) (high : Bool) (k : Nat) (r : RimPulse), s.Up 1 → s.isl.rim.find? (fun x => x.1 == ch.val) = some (k, r) →
    r.ended = true →
    exec (.rimshotCheck ch high) s = .next (settle
      (let a := s.modIsl (fun x => { x with rim := smErase ch.val x.rim })
       (if r.disc then a.bump Fld.SFI_RIMCNT_DISC
        else if r.low && high then a.bump Fld.SFI_RIMCNT_PASS
        else State.coilSeen a ((a.bump Fld.SFI_RIMCNT_FAIL).outFault (ch.val / 2))).safetyOut)))

/-- A failed self-check leaves RUN, turns every output off and enters FAULT with its cause (R419); 100 ms later the island
initialises again unless this was the third fault in an hour; INIT ends with the stored block restored, in RUN when the
stored check value matches, else UNCONFIRMED (R420, R445); a confirmation of the right value is taken at the next cycle,
another is a mismatch (R444); handover between slots prepares, commits, is abandoned and ends (R447 to R449). Where the rules
leave an order or a value open, it rests on the model's choices (log 22). -/
def Obligations.IslandStatesComplete : Prop :=
  (∀ (s : State) (c : IslandCause), s.Up 1 → s.get Fld.SFI_STAT_STATE ≠ 5 →
    (let times := s.opsec :: s.isl.faultTimes.filter (fun t => decide (s.opsec < t + 3600))
     let a := (s.leaveRun.outputsOff.put Fld.SFI_STAT_STATE 5).modIsl (fun x => { x with faultTimes := times, okLine := false })
     let b := (a.put Fld.SFI_FAULT_CAUSE (causeCode c)).put Fld.SFI_FAULT_COUNT (min 15 times.length)
     let d := ((b.irq Pg.SFI Irq.SFI_ISLAND_FAULT).connUse.islandLines).fault Pg.SFI Flt.SFI_ISLAND_FAULT 0 (BitVec.ofNat 32 (causeCode c))
     exec (.islandSelfCheckFail c) s = .next (settle (State.coilSeen s d).safetyOut))) ∧
  (∀ s : State, s.Up 1 → exec (.programCrcCheck false) s = exec (.islandSelfCheckFail .program) s) ∧
  (∀ s : State, s.Up 1 → exec (.programCrcCheck true) s = .next (settle s.safetyOut)) ∧
  (∀ s : State, s.Up 1 → s.get Fld.SFI_STAT_STATE = 5 → s.get Fld.SFI_FAULT_COUNT < 3 →
    exec .islandFaultReset s = .next (settle s.islandInit.slotShow.safetyOut)) ∧
  (∀ s : State, s.Up 1 → s.get Fld.SFI_STAT_STATE = 5 → 3 ≤ s.get Fld.SFI_FAULT_COUNT →
    exec .islandFaultReset s = .next (settle s.slotShow.safetyOut)) ∧
  (∀ s : State, s.Up 1 → s.get Fld.SFI_STAT_STATE = 0 →
    exec .islandInitDone s = .next (settle
      (let a := match s.storedBlock with
         | none => s
         | some (ws, _) => ((List.range 64).zip ws).foldl (fun (t : State) (x : Nat × Word) => t.setWord (0x70100 + 4 * x.1) x.2) s
       let b := (a.modIsl (fun x => { x with okLine := true })).latchFault Pg.SFI Flt.SFI_ISLAND_FAULT
       let c := b.setEns Pg.SFI b.isl.storedEn
       (if !c.isl.storedEn then c.put Fld.SFI_STAT_STATE 1
        else match c.storedBlock with
        | some (_, some v) => if v = c.sfiPcv then c.enterRun.maybeReady
            else (c.put Fld.SFI_STAT_STATE 3).fault Pg.SFI Flt.SFI_CONFIRM_LOST 0
        | _ => (c.put Fld.SFI_STAT_STATE 3).fault Pg.SFI Flt.SFI_CONFIRM_LOST 0).safetyOut))) ∧
  (∀ (s : State) (o : Origin) (v : Word), s.Accepts o Reg.SFI_CONFIRM v.toNat →
    (s.get Fld.SFI_STAT_STATE = 3 → v = s.sfiPcv →
      exec (.safetyConfirm o v) s = .next (settle (s.modIsl (fun x => { x with confirmDue := some o })))) ∧
    (s.get Fld.SFI_STAT_STATE ≠ 3 → v = s.sfiPcv → exec (.safetyConfirm o v) s = .next (settle s)) ∧
    (v ≠ s.sfiPcv →
      exec (.safetyConfirm o v) s = .next (settle ((s.irq Pg.SFI Irq.SFI_MISMATCH).audit 1 o Reg.SFI_CONFIRM 0 v.toNat)))) ∧
  (∀ (s : State) (o : Origin) (k lo hi x : Nat) (ws : List Word), s.Accepts o Reg.SFI_CMD 3 → s.islandRuns = true →
    bitOf (s.get Fld.SFI_SLOT_LOADED) (1 - s.get Fld.SFI_SLOT_ACTIVE) = true →
    s.isl.images.find? (fun y => y.1 == 1 - s.get Fld.SFI_SLOT_ACTIVE) = some (k, lo, hi, x) →
    lo ≤ s.get Fld.SFI_SLOT_STREV → s.get Fld.SFI_SLOT_STREV ≤ hi → s.isl.copyA = some (ws, some s.sfiPcv) →
    exec (.handoverPrepare o) s = .next (settle
      (((s.modIsl (fun y => { y with shadowing := true, commitDue := none })).put Fld.SFI_SLOT_SHADOW 0).setOn Fld.SFI_STAT_HOPREP false))) ∧
  (∀ (s : State) (o : Origin), s.Accepts o Reg.SFI_CMD 3 → s.islandRuns = false →
    exec (.handoverPrepare o) s = .next (settle (s.irq Pg.SFI Irq.SFI_HANDOVER_FAIL))) ∧
  (∀ (s : State) (o : Origin), s.Accepts o Reg.SFI_CMD 4 → s.on Fld.SFI_STAT_HOPREP = true →
    exec (.handoverCommit o) s = .next (settle (s.modIsl (fun x => { x with commitDue := some o })))) ∧
  (∀ (s : State) (o : Origin), s.Accepts o Reg.SFI_CMD 5 → s.isl.shadowing = true →
    exec (.handoverAbandon o) s = .next (settle s.abandon)) ∧
  (∀ s : State, s.Up 1 → s.on Fld.SFI_STAT_HOPREP = true → s.isl.commitDue = none →
    exec .handoverPrepareTimeout s = .next (settle s.abandon.safetyOut)) ∧
  (∀ s : State, s.abandon =
    ((((s.modIsl (fun x => { x with shadowing := false, commitDue := none })).setOn Fld.SFI_STAT_HOPREP false).put Fld.SFI_SLOT_SHADOW 0).irq
      Pg.SFI Irq.SFI_HANDOVER_FAIL).faultEvent Pg.SFI Flt.SFI_HANDOVER_FAIL 0) ∧
  (∀ s : State, s.Up 1 → s.isl.switchDue = true →
    exec .startSlotSwitch s = .next (settle
      ((s.modIsl (fun x => { x with startSlot := s.get Fld.SFI_SLOT_ACTIVE, switchDue := false })).safetyOut)))

/-- A PDU joins the island's queue while there is room for it, through the network that carries it (R466, R467). The front
PDU goes on when the layer is used, it has 24 bytes with the right CRC-32C, version 1, a connection that takes its kind and
no reserved bit set; without COMPAT it is taken at once (R460 to R462). An accepted OPEN of the right check value puts the
producer in RUN and sends DATA, another sends CLOSE (R468); an accepted DATA stores its words and opens or delivers (R463,
R464); an accepted STATUS renews the producer's watch (R465); a CLOSE fails the connection (R469). A first copy that stays
alone for CMPWIN is counted and dropped (R471); each PERIOD a producer in RUN sends DATA, an opening consumer OPEN and a
consumer in WAITRESET or RUN STATUS (R465, R468); a consumer whose AGE exceeds WDT and a producer that has heard no STATUS
for WDT fail with reason 1 (R464, R465); a failed consumer returns to OPENING, by itself or by REOPEN; CLOSE fails a
connection with reason 7 (R469, R476). Where the rules leave an order or a value open, it rests on the model's choices (log
22). -/
def Obligations.SafetyConnectionsComplete : Prop :=
  ((∀ (s : State) (net : BitVec 2) (pdu : List Byte), s.Up 1 → (net = 0 ∧ s.Up 9 ∨ (net = 1 ∨ net = 2) ∧ s.Up 8) → s.scl.rxq.length < 16 →
    exec (.safetyFrame net pdu) s = .next (settle (({ s with scl := { s.scl with rxq := s.scl.rxq ++ [pdu] } } : State).safetyOut))) ∧
  (∀ (s : State) (kind n : Nat) (pdu : List Byte) (rest : List (List Byte)), s.scl.rxq = pdu :: rest → s.sclUsed = true → pdu.length = 24 →
    (crc32c (pdu.take 20)).toNat = beAt pdu 20 4 → beAt pdu 0 1 / 16 = 1 → sclKind pdu = kind → 1 ≤ kind → kind ≤ 4 →
    s.connOf pdu (sclRole kind) = some n → sclReserved pdu false = false → s.on (Fld.SCL_CCFG_COMPAT n) = false →
    s.sclTake kind = ({ s with scl := { s.scl with rxq := rest } }, some (n, pdu))) ∧
  (∀ (s u : State) (n : Nat) (pdu : List Byte), s.Up 1 → s.sclTake 1 = (u, some (n, pdu)) →
    (let own := (crc32c (beBytes 4 (u.rd (Reg.SCL_CID n)) ++ beBytes 4 (u.rd (Reg.SCL_CTIM n)))).toNat
     (beAt pdu 16 4 = own → exec .sclOpen s = .next (settle
       (let a := (u.endInstance Pg.SCL Flt.SCL_PARAM_MISMATCH n).connRevive n
        let b := a.modConn n (fun c => { c with lastSeq := 0, ownSeq := 0, stamp := beAt pdu 12 2, heard := a.rd Reg.SFI_CYCLE })
        ((((b.wr (Reg.SCL_CSEQ n) 0).put (Fld.SCL_CSTAT_REASON n) 0).setConn n 3).sclSendData n).safetyOut))) ∧
     (beAt pdu 16 4 ≠ own → exec .sclOpen s = .next (settle
       ((((u.sclSendNext n 4 4).irq Pg.SCL Irq.SCL_MISMATCH).fault Pg.SCL Flt.SCL_PARAM_MISMATCH n).safetyOut))))) ∧
  (∀ (s u : State) (n : Nat) (pdu : List Byte), s.Up 1 → s.sclTake 2 = (u, some (n, pdu)) →
    u.get (Fld.SCL_CSTAT_STATE n) ≠ 0 → u.get (Fld.SCL_CSTAT_STATE n) ≠ 4 → 0 < u.seqDiff n (beAt pdu 8 4) →
    u.seqDiff n (beAt pdu 8 4) ≤ (u.get (Fld.SCL_CCFG_SEQWIN n) : Nat) →
    (u.get (Fld.SCL_CSTAT_STATE n) = 1 → u.seqDiff n (beAt pdu 8 4) = 1) →
    exec .sclData s = .next (settle
      (let a := (u.modConn n (fun c => { c with lastSeq := beAt pdu 8 4 })).wr (Reg.SCL_CSEQ n) (beAt pdu 8 4)
       let b := (a.modConn n (fun c => { c with stamp := beAt pdu 12 2, texp := beAt pdu 14 2 })).wr (Reg.SCL_CRX n) (beAt pdu 16 4)
       let c := if u.get (Fld.SCL_CSTAT_STATE n) = 1 then b.setConn n (if b.on (Fld.SCL_CCFG_AUTO n) then 3 else 2) else b
       ((c.connDeliver n).islandLines).safetyOut))) ∧
  (∀ (s u : State) (n : Nat) (pdu : List Byte), s.Up 1 → s.sclTake 3 = (u, some (n, pdu)) →
    u.get (Fld.SCL_CSTAT_STATE n) = 3 → 0 < u.seqDiff n (beAt pdu 8 4) →
    u.seqDiff n (beAt pdu 8 4) ≤ (u.get (Fld.SCL_CCFG_SEQWIN n) : Nat) →
    exec .sclStatus s = .next (settle
      ((((u.modConn n (fun c => { c with lastSeq := beAt pdu 8 4 })).wr (Reg.SCL_CSEQ n) (beAt pdu 8 4)).modConn n
        (fun c => { c with stamp := beAt pdu 12 2, heard := u.rd Reg.SFI_CYCLE })).safetyOut))) ∧
  (∀ (s u : State) (n : Nat) (pdu : List Byte), s.Up 1 → s.sclTake 4 = (u, some (n, pdu)) →
    u.get (Fld.SCL_CSTAT_STATE n) ≠ 0 → u.get (Fld.SCL_CSTAT_STATE n) ≠ 4 →
    exec .sclClose s = .next (settle
      (let a := ((u.setConn n 4).put (Fld.SCL_CSTAT_REASON n) 6).setOn (Fld.SCL_CSTAT_PERMIT n) false
       let b := (a.modConn n (fun c => { c with held := none })).sclSendNext n 4 6
       (((b.irq Pg.SCL Irq.SCL_FAIL).fault Pg.SCL Flt.SCL_CONN_FAIL n 6).islandLines).safetyOut)))) ∧
  ((∀ (s : State) (n : Fin 8) (pdu : List Byte), s.Up 1 → (s.conn n.val).held = some pdu →
    exec (.cmpwinExpiry n) s = .next (settle
      (((s.bump (Fld.SCL_CCNT_SINGLE n.val)).modConn n.val (fun c => { c with held := none })).safetyOut))) ∧
  (∀ (s : State) (n : Fin 8), s.Up 1 → s.sclUsed = true →
    (s.isProducer n.val = true → s.get (Fld.SCL_CSTAT_STATE n.val) = 3 →
      exec (.sclSendPeriod n) s = .next (settle ((s.sclSendData n.val).safetyOut))) ∧
    (s.isConsumer n.val = true → s.get (Fld.SCL_CSTAT_STATE n.val) = 1 →
      exec (.sclSendPeriod n) s = .next (settle
        ((s.sclSend n.val 1 0 (crc32c (beBytes 4 (s.rd (Reg.SCL_CID n.val)) ++ beBytes 4 (s.rd (Reg.SCL_CTIM n.val)))).toNat).safetyOut))) ∧
    (s.isConsumer n.val = true → (s.get (Fld.SCL_CSTAT_STATE n.val) = 2 ∨ s.get (Fld.SCL_CSTAT_STATE n.val) = 3) →
      exec (.sclSendPeriod n) s = .next (settle ((s.sclSendNext n.val 3 0).safetyOut)))) ∧
  (∀ (s : State) (n : Fin 8), s.Up 1 → s.isConsumer n.val = true →
    (s.get (Fld.SCL_CSTAT_STATE n.val) = 2 ∨ s.get (Fld.SCL_CSTAT_STATE n.val) = 3) →
    exec (.sclWatchdog n) s = .next (settle
      ((let a := s.put (Fld.SCL_CSTAT_AGE n.val) (min 255 (s.connAge n.val))
        if s.get (Fld.SCL_CTIM_WDT n.val) < a.connAge n.val then a.connFail n.val 1 else a).safetyOut))) ∧
  (∀ (s : State) (n : Fin 8), s.Up 1 → s.isProducer n.val = true → s.get (Fld.SCL_CSTAT_STATE n.val) = 3 →
    s.get (Fld.SCL_CTIM_WDT n.val) < s.rd Reg.SFI_CYCLE - (s.conn n.val).heard →
    exec (.sclWatchdog n) s = .next (settle ((s.connFail n.val 1).safetyOut))) ∧
  (∀ (s : State) (n : Fin 8), s.Up 1 → s.sclUsed = true → s.isConsumer n.val = true → s.get (Fld.SCL_CSTAT_STATE n.val) = 4 →
    exec (.sclReopenTimer n) s = .next (settle (((s.connOpening n.val).islandLines).safetyOut))) ∧
  (∀ (s : State) (o : Origin) (n : Fin 8), s.Accepts o Reg.SCL_CMD (1 + 256 * n.val) → s.sclUsed = true → s.isConsumer n.val = true →
    s.get (Fld.SCL_CSTAT_STATE n.val) = 4 →
    exec (.reopen o n) s = .next (settle (((s.connOpening n.val).islandLines).drainScl))) ∧
  (∀ (s : State) (o : Origin) (n : Fin 8), s.Accepts o Reg.SCL_CMD (2 + 256 * n.val) → s.get (Fld.SCL_CSTAT_STATE n.val) ≠ 0 →
    s.get (Fld.SCL_CSTAT_STATE n.val) ≠ 4 →
    exec (.sclCloseCommand o n) s = .next (settle
      (let a := ((s.setConn n.val 4).put (Fld.SCL_CSTAT_REASON n.val) 7).setOn (Fld.SCL_CSTAT_PERMIT n.val) false
       let b := (a.modConn n.val (fun c => { c with held := none })).sclSendNext n.val 4 7
       (((b.irq Pg.SCL Irq.SCL_FAIL).fault Pg.SCL Flt.SCL_CONN_FAIL n.val 7).islandLines).drainScl))))

/-- A frame that reaches a port with a session is checked in order (R478 to R484, R494, R500): a wrong FCS counts, and is
recorded in ERRA where the frame is a management request to the module (R54); a wrong MAC, EtherType or length is discarded;
a wrong tag fails authentication; a CTR not above the last is a replay; a wrong header is
discarded; a credited frame that the granted blocks do not hold counts NOCRED, and one that they hold takes its blocks. Where
the rules leave an order or a value open, it rests on the model's choices (log 25, log 6). -/
def Obligations.FabricFrameChecks : Prop :=
  ∀ (s : State) (n : Fin 5) (f : FabFrame), s.laneState n.val ≠ 0 → s.laneState n.val ≠ 1 → s.laneState n.val ≠ 5 →
    (f.fcsOk = false → s.receive n.val f =
      (let u := s.bump (whole (Reg.FP_CNT_FCS n.val))
       if f.dst.toNat = u.ownAddr ∧ f.type = 4 then u.rejectAt Pg.FAB 0xB (.fabric f.src) true (Reg.base Pg.FAB) 0 else u, false)) ∧
    (f.fcsOk = true → ((f.dstMac ≠ ownMac n.val ∧ f.dstMac ≠ macBroadcast) ∨ f.etherType ≠ 0x88B5 ∨ 1466 < f.payload.length) →
      s.receive n.val f = (s.laneDiscard n.val (Reg.FP_CNT_DISC n.val), false)) ∧
    (f.fcsOk = true → macFits n.val f = true → ((s.lane n.val).session = none ∨ s.tagHolds n.val f = false) →
      s.receive n.val f = (s.authFail n.val f, false)) ∧
    (f.fcsOk = true → macFits n.val f = true → (s.lane n.val).session ≠ none → s.tagHolds n.val f = true →
      (f.ctr.toNat ≤ (s.lane n.val).rxCtr →
        s.receive n.val f = ((s.bump Fld.FAB_AUTHCNT_REPLAY).laneDiscard n.val (Reg.FP_CNT_REPLAY n.val), false)) ∧
      ((s.lane n.val).rxCtr < f.ctr.toNat →
        let t := s.modLane n.val (fun l => { l with rxCtr := f.ctr.toNat })
        ((f.ver ≠ 1 ∨ f.rsv0 ≠ 0 ∨ f.rsvDst ≠ 0 ∨ f.rsvSrc ≠ 0 ∨ f.rsv7 ≠ 0 ∨ f.len.toNat ≠ f.payload.length ∨ classFits f = false) →
          s.receive n.val f = (t.laneDiscard n.val (Reg.FP_CNT_DISC n.val), false)) ∧
        (f.ver = 1 → rsvSet f = false → f.len.toNat = f.payload.length → classFits f = true →
          (n.val = 4 → f.type.toNat = 7 ∨ f.type.toNat = 1 ∨ f.type.toNat = 2) → (n.val ≠ 4 → f.type.toNat ≠ 7) →
          (credited f = false → s.receive n.val f = (t, true)) ∧
          (credited f = true → grantOf (frameCls f) < nth (t.lane n.val).held (frameCls f - 1) + frameBlocks f →
            s.receive n.val f = (t.laneDiscard n.val (Reg.FP_CNT_NOCRED n.val), false)) ∧
          (credited f = true → nth (t.lane n.val).held (frameCls f - 1) + frameBlocks f ≤ grantOf (frameCls f) →
            s.receive n.val f = ((t.modLane n.val (fun l => { l with held := updAt l.held (frameCls f - 1) (· + frameBlocks f) })).laneShow n.val,
              true)))))

/-- Events of the fabric ports (R486, R494, R500, R501): PCS synchronisation is kept, and starts the link of a port that
waits for it, or ends the session; a session-opening HELLO whose tag verifies under the key that its label names derives the
key of the session and sends CREDIT, one whose tag does not fails; an accepted keep-alive of another nonce is discarded; an
unopened port repeats its HELLO unchanged, an open one sends a keep-alive and CREDIT, and restarts after three that are
missed; CREDIT frees blocks, opens the port and sends what waits; a stall turns the port STALLED and reroutes; isolation
ends after 60 s. Where the rules leave an order or a value open, it rests on the model's choices (log 25, log 6). -/
def Obligations.LinkEventsComplete : Prop :=
  (∀ (s : State) (n : Fin 5), s.Up 9 →
    (s.laneState n.val = 1 → exec (.pcsSync n) s = .next (settle ((s.modLane n.val (fun l => { l with sync := true })).restartLink n.val))) ∧
    (s.laneState n.val ≠ 1 → exec (.pcsSync n) s = .next (settle (s.modLane n.val (fun l => { l with sync := true })))) ∧
    (s.laneState n.val ≠ 0 → exec (.pcsSyncLoss n) s = .next (settle
      (((s.modLane n.val (fun l => { l with sync := false })).dropSession n.val).setLane n.val 1)))) ∧
  (∀ (s : State) (n : Fin 5) (f : FabFrame) (k : Nat), s.Up 9 → s.laneState n.val = 2 → f.fcsOk = true → macFits n.val f = true →
    f.type = 1 → f.ver = 1 → rsvSet f = false → f.cls = 2 → f.payload.length = 24 → f.len = 24 → f.ctr = 0 →
    beAt f.payload 19 1 = (if n.val = 4 then 1 else 0) → beAt f.payload 20 4 = 0 →
    (List.range 2).find? (fun k => s.keyLabel n.val k == beAt f.payload 18 1 && (s.slotKey n.val k).isSome) = some k →
    (let key := (s.slotKey n.val k).getD 0
     let want := gcmTag key (frameIv (dirOf (beAt f.payload 0 8) Config.moduleUid.toNat) (beAt f.payload 8 8)) (frameText f)
     (f.tag ≠ want → exec (.hello n f) s = .next (settle
      (let a := s.authFail n.val f
       if a.laneState n.val = 2 ∨ a.laneState n.val = 6 then a.setLane n.val 6 else a))) ∧
     (f.tag = want → (s.lane n.val).session = none →
      exec (.hello n f) s = .next (settle
        (let own := (s.lane n.val).nonce
         let peer := beAt f.payload 8 8
         let ks := if Config.moduleUid.toNat < beAt f.payload 0 8 then sessionKey key own peer else sessionKey key peer own
         let a := s.modLane n.val (fun l => { l with session := some ks, peerNonce := peer, peerMac := f.srcMac })
         let b := (a.put (Fld.FP_STATE_LABEL n.val) (beAt f.payload 18 1)).put (Fld.FP_STATE_PEER n.val) (beAt f.payload 16 2 % 1024)
         (b.wr64 (Reg.FP_PEERUID n.val) (beAt f.payload 0 8)).sendCredit n.val))))) ∧
  (∀ (s t : State) (n : Fin 5) (f : FabFrame), s.Up 9 → s.receive n.val f = (t, true) →
    (f.type = 1 → beAt f.payload 8 8 = (t.lane n.val).peerNonce → exec (.keepaliveHello n f) s = .next (settle t)) ∧
    (beAt f.payload 8 8 ≠ (t.lane n.val).peerNonce →
      exec (.keepaliveHello n f) s = .next (settle (t.laneDiscard n.val (Reg.FP_CNT_DISC n.val)))) ∧
    (f.type = 2 → 6 ≤ f.payload.length →
      exec (.credit n f) s = .next (settle
        (let upd := fun (l : LaneState) (k : Nat) => nth l.freedSeen k + (beAt f.payload (2 * k) 2 + 65536 - nth l.freedSeen k % 65536) % 65536
         let freed := (List.range 3).any (fun k => upd (t.lane n.val) k != nth (t.lane n.val).freedSeen k)
         let a := t.modLane n.val (fun l => { l with freedSeen := [upd l 0, upd l 1, upd l 2] })
         (if a.laneState n.val = 2 then (a.setLane n.val 3).laneRtt n.val
          else if a.laneState n.val = 4 && freed then a.setLane n.val 3 else a).drain n.val)))) ∧
  (∀ (s : State) (n : Fin 5) (f : FabFrame), s.Up 9 → (s.laneState n.val = 2 ∨ s.laneState n.val = 6 ∨ s.laneState n.val = 5) →
    (s.lane n.val).hello = some f → exec (.helloRepeat n) s = .next (settle (s.putOnWire n.val f))) ∧
  (∀ (s : State) (n : Fin 5), s.Up 9 → (s.laneState n.val = 3 ∨ s.laneState n.val = 4) →
    exec (.keepaliveTimer n) s = .next (settle
      (let a := if ((s.lane n.val).discards.filter (fun t => decide (s.nowNat < t + 1000000000))).length ≤ 64
         then s.endInstance (lanePage n.val) Flt.FAB_HOSTILE n.val else s
       (a.sendFrame n.val (a.mkFrame 2 1 0 (a.helloPayload n.val (a.lane n.val).nonce (a.get (Fld.FP_STATE_LABEL n.val))))).sendCredit n.val)) ∧
    exec (.keepaliveLoss n) s = .next (settle (s.restartLink n.val))) ∧
  (∀ (s : State) (n : Fin 5), s.Up 9 → s.laneState n.val = 3 → (s.lane n.val).queue.isEmpty = false →
    exec (.creditStall n) s = .next (settle
      ((((((s.setLane n.val 4).irq (lanePage n.val) Irq.FP_STALL).fault (lanePage n.val) Flt.FAB_STALL n.val).reroute n.val).laneShow n.val)))) ∧
  (∀ (s : State) (n : Fin 5), s.Up 9 → s.laneState n.val = 5 →
    exec (.isolationExpiry n) s = .next (settle (s.restartLink n.val))) ∧
  (∀ (s : State) (o : Origin) (n : Fin 5), s.Accepts o (Reg.FP_CMD n.val) 1 → s.laneOn n.val = true → s.laneState n.val ≠ 5 →
    exec (.linkRestart o n) s = .next (settle (s.restartLink n.val))) ∧
  (∀ (s : State) (o : Origin) (n : Fin 5), s.Accepts o (Reg.FP_CMD n.val) 2 → s.laneState n.val ≠ 0 →
    exec (.portIsolate o n) s = .next (settle ((s.dropSession n.val).setLane n.val 5))) ∧
  (∀ (s : State) (o : Origin) (n : Fin 5), s.Accepts o (Reg.FP_CMD n.val) 3 → s.laneState n.val = 5 →
    exec (.portRelease o n) s = .next (settle (s.restartLink n.val))) ∧
  (∀ (s : State) (n : Nat), s.restartLink n =
    (let a := ((s.dropSession n).endInstance (lanePage n) Flt.FAB_HOSTILE n).modLane n (fun l => { l with discards := [] })
     if a.laneOn n = false then a.setLane n 0
     else if (a.lane n).sync = false then a.setLane n 1
     else (((a.drawNonce.2.modLane n (fun l => { l with nonce := a.drawNonce.1.toNat % 2 ^ 64 })).setLane n 2).formHello n).sendHello n))

/-- The node originates its LSA with the next sequence number on every port that is UP (R489); an accepted LSA of another
node that is newer is stored and flooded, and the conflicts are marked (R489, R492); one that is not newer changes nothing
more; an own one that is newer than the last makes the node originate anew; an LSA ages out, and an address conflict ends
when only one UID advertises the address (R492); routes are computed into the table by the timer and by RECOMPUTE (R490,
R493, R523); an accepted routed frame for another node leaves by the route table with its TTL one less (R491); CLEAR_COUNTS
zeroes the three counts (R523). While the fabric and the cluster run, the route table is rewritten in one step from the LSAs
(R490, R493): an entry that is reachable is kept per destination with its primary and alternate port, cost, hops, UID and
sequence number, the node's own entry is LOCAL, every conflicting address is CONFLICT; the epoch counts and ROUTE is set.
Where the rules leave an order or a value open, it rests on the model's choices (log 25). -/
def Obligations.RoutingComplete : Prop :=
  ((∀ s : State, s.Up 9 → s.fabRuns = true → s.appUp = true →
    exec .lsaOriginate s = .next (settle
      (let q := (s.fab.ownSeq + 1) % 2 ^ 32
       let a : State := { s with fab := { s.fab with ownSeq := q } }
       let f := a.mkFrame 2 3 0x3FF (lsaPayload a.ownAddr Config.moduleUid.toNat q a.ownLinks)
       (a.floodPorts 99 false).foldl (fun t n => t.egress n f none) a))) ∧
  (∀ (s t : State) (n : Fin 5) (f : FabFrame), s.Up 9 → s.receive n.val f = (t, true) → f.type = 3 →
    f.payload.length = 20 + 4 * beAt f.payload 16 1 → beAt f.payload 2 2 = 0 → beAt f.payload 17 3 = 0 →
    (let u := t.freeBlocks (srcOf n.val f)
     let origin := beAt f.payload 0 2
     let uid := beAt f.payload 4 8
     let seq := beAt f.payload 12 4
     let old := u.fab.lsas.find? (fun l => l.origin == origin && l.uid == uid)
     (origin = u.ownAddr → uid = Config.moduleUid.toNat → 0 < diff32 seq u.fab.ownSeq →
       exec (.lsa n f) s = .next (settle (({ u with fab := { u.fab with ownSeq := seq } } : State).originate))) ∧
     ((origin ≠ u.ownAddr ∨ uid ≠ Config.moduleUid.toNat) → (∀ l, old = some l → 0 < diff32 seq l.seq) →
       exec (.lsa n f) s = .next (settle
         (let rest := u.fab.lsas.filter (fun l => !(l.origin == origin && l.uid == uid))
          let a : State := { u with fab := { u.fab with lsas := rest ++ [⟨origin, uid, seq, lsaLinks f.payload (beAt f.payload 16 1), u.nowNat⟩] } }
          let ttl := f.ttl.toNat - 1
          let b := if ttl = 0 then a else
            (a.floodPorts n.val false).foldl (fun v m => v.egress m { f with ttl := BitVec.ofNat 8 ttl } none) a
          b.markConflicts.topoShow))) ∧
     ((origin ≠ u.ownAddr ∨ uid ≠ Config.moduleUid.toNat) → (∃ l, old = some l ∧ diff32 seq l.seq ≤ 0) →
       exec (.lsa n f) s = .next (settle u)))) ∧
  (∀ (s : State) (a : BitVec 10) (uid : BitVec 64), s.Up 9 →
    exec (.lsaAgeOut a uid) s = .next (settle
      (({ s with fab := { s.fab with lsas := s.fab.lsas.filter (fun l => !(l.origin == a.toNat && l.uid == uid.toNat)) } } : State).topoShow))) ∧
  (∀ (s : State) (a : BitVec 10), s.Up 9 → s.conflicted a.toNat = true →
    ((s.ownAddr, Config.moduleUid.toNat) :: s.fab.lsas.map (fun l => (l.origin, l.uid))).any (fun x => x.1 == a.toNat &&
      ((s.ownAddr, Config.moduleUid.toNat) :: s.fab.lsas.map (fun l => (l.origin, l.uid))).any (fun y => y.1 == a.toNat && y.2 != x.2)) = false →
    exec (.conflictEnd a) s = .next (settle
      (let b : State := { s with fab := { s.fab with conflicts := s.fab.conflicts.filter (· != a.toNat) } }
       let c := b.wr (routeWord a.toNat 0) 0
       if a.toNat = c.ownAddr then c.latchFault Pg.FAB Flt.FAB_ADDR_CONFLICT else c))) ∧
  (∀ s : State, s.Up 9 → exec .routeComputation s = .next (settle s.computeRoutes)) ∧
  (∀ (s : State) (o : Origin), s.Accepts o Reg.FAB_CMD 1 → exec (.recompute o) s = .next (settle s.computeRoutes)) ∧
  (∀ (s : State) (o : Origin), s.Accepts o Reg.FAB_CMD 3 →
    exec (.fabClearCounts o) s = .next (settle (((s.wr Reg.FAB_DCNT 0).wr Reg.FAB_GONGCNT 0).wr Reg.FAB_AUTHCNT 0))) ∧
  (∀ (s t : State) (n : Fin 5) (f : FabFrame), s.Up 9 → s.receive n.val f = (t, true) → n.val ≠ 4 → f.dst.toNat ≠ t.ownAddr →
    (∀ p, 2 ≤ f.ttl.toNat → t.routePort f.dst.toNat = some p →
      exec (.frameForward n f) s = .next (settle
        ((t.bump (whole (routeWord f.dst.toNat 6))).egress p { f with ttl := BitVec.ofNat 8 (f.ttl.toNat - 1) } (srcOf n.val f)))) ∧
    (f.ttl.toNat < 2 → exec (.frameForward n f) s = .next (settle
      ((t.laneDiscard n.val (Reg.FP_CNT_DISC n.val)).freeBlocks (srcOf n.val f)))))) ∧
  (∀ s : State, s.fabRuns = true → s.appUp = true →
    (let links := s.mesh
     let rounds := s.fab.lsas.length + 1
     let own := pathsFrom links s.ownAddr rounds
     let nbrs := (s.ownLinks.filter (fun l => links.any (fun e => e.1 == s.ownAddr && e.2.1 == l.1 && e.2.2.2 == l.2.2))).map
       (fun l => (l.1, l.2.2, pathsFrom links l.1 rounds))
     let a : State := { s with regs := s.regs.filter (fun e => !(decide (0x88000 ≤ e.1 ∧ e.1 < 0x90000)) || e.1 % 32 == 24) }
     let b := s.fab.lsas.foldl (fun (t : State) (l : LsaRec) =>
       match own.find? (fun x => x.1 == l.origin) with
       | none => t
       | some (_, c, h, p) =>
         let alt := nbrs.find? (fun x => x.2.1 != p && (match costTo x.2.2 l.origin, costTo x.2.2 s.ownAddr with
           | some nd, some nm => decide (nd < nm + c)
           | _, _ => false))
         let w0 := 2 ^ 31 + 2 ^ 28 + p * 2 ^ 24 + ((alt.map (fun x => x.2.1)).getD 7) * 2 ^ 20 + (h % 256) * 256
         let t := (t.wr (routeWord l.origin 0) w0).wr (routeWord l.origin 1) (min 65535 c)
         (t.wr64 (routeWord l.origin 2) l.uid).wr (routeWord l.origin 4) l.seq) a
     let c := (b.wr (routeWord s.ownAddr 0) (2 ^ 31 + 2 * 2 ^ 28 + 5 * 2 ^ 24 + 7 * 2 ^ 20)).wr64 (routeWord s.ownAddr 2) Config.moduleUid.toNat
     let d := c.fab.conflicts.foldl (fun (t : State) (x : Nat) =>
       t.wr (routeWord x 0) (2 ^ 31 + 3 * 2 ^ 28 + 7 * 2 ^ 24 + 7 * 2 ^ 20)) c
     s.computeRoutes = (d.bump ⟨Reg.FAB_TOPO, 16, 16⟩).irq Pg.FAB Irq.FAB_ROUTE))

/-- An accepted Gong whose pair is new is entered, counted, flooded with its TTL one less and, for this zone, shown and
raised, with Snare while GONGEN is 1 (R519, R520); a known pair only counts; a pair leaves the table after 10 s; GONG_SEND
originates one (R521). The highest word of a link key or role key installs the key with its audit record (R485, R508); CLR0
and CLR1 clear a slot; a change of TXKEY restarts the link of a port that is on (R485). Where the rules leave an order or a
value open, it rests on the model's choices (log 25, log 6). -/
def Obligations.GongAndKeysComplete : Prop :=
  (∀ (s t : State) (n : Fin 5) (f : FabFrame), s.Up 9 → s.receive n.val f = (t, true) → f.type = 5 → f.payload.length = 12 → n.val ≠ 4 →
    (let origin := beAt f.payload 0 2
     let gseq := beAt f.payload 2 2
     (t.fab.pairs.contains (origin, gseq) = true → exec (.gong n f) s = .next (settle (t.bump Fld.FAB_GONGCNT_DUP))) ∧
     (t.fab.pairs.contains (origin, gseq) = false → exec (.gong n f) s = .next (settle
       (let a := (t.enterPair (origin, gseq)).bump Fld.FAB_GONGCNT_RX
        let ttl := f.ttl.toNat - 1
        let b := if ttl = 0 then a else (a.floodPorts n.val true).foldl (fun u m => u.sendFrame m { f with ttl := BitVec.ofNat 8 ttl }) a
        if beAt f.payload 5 1 ≠ 0xFF ∧ beAt f.payload 5 1 ≠ b.get Fld.FAB_CFG_ZONE then b else
        let c := (((b.put Fld.FAB_GONGSTAT_ORIGIN origin).put Fld.FAB_GONGSTAT_REASON (beAt f.payload 4 1)).put Fld.FAB_GONGSTAT_GSEQ
          gseq).irq Pg.FAB Irq.FAB_GONG
        let masked := !c.on Fld.PRT_CFG_GONGEN
        ((if masked then c else c.snareBy 0x1E).fault Pg.FAB Flt.GONG 0 0 masked).markEvent Flt.GONG))))) ∧
  (∀ (s : State) (a g : BitVec 16), s.Up 9 →
    exec (.gongPairExpiry a g) s = .next (settle
      { s with fab := { s.fab with pairs := s.fab.pairs.filter (fun x => !(x == (a.toNat, g.toNat))) } })) ∧
  (∀ (s : State) (o : Origin) (r : Byte), s.Accepts o Reg.FAB_CMD (2 + 256 * r.toNat) → s.fabRuns = true →
    exec (.gongSend o r) s = .next (settle
      (let q := (s.fab.gseq + 1) % 65536
       let a := ({ s with fab := { s.fab with gseq := q } } : State).enterPair (s.ownAddr, q)
       let f := a.mkFrame 0 5 0x3FF (beBytes 2 a.ownAddr ++ beBytes 2 q ++ beBytes 1 r.toNat ++ beBytes 1 0xFF ++ beBytes 2 0 ++
         beBytes 4 (clockNs a.tim.pt))
       (a.floodPorts 99 true).foldl (fun t n => t.sendFrame n f) a))) ∧
  (∀ (s : State) (o : Origin) (n : Fin 5) (k : Fin 2) (w : Word), s.Accepts o (linkKeyTop n.val k.val) w.toNat →
    exec (.keyInstall o n k w) s = .next (settle
      (let words := updAt (((s.lane n.val).keyWords[k.val]?).getD []) 3 (fun _ => w)
       let key := BitVec.ofNat 128 (words.foldl (fun a x => a * 2 ^ 32 + x.toNat) 0)
       let a := (s.modLane n.val (fun l => { l with keyWords := updAt l.keyWords k.val (fun _ => words) })).modLane n.val
         (fun l => { l with keys := updAt l.keys k.val (fun _ => some key), keyWords := updAt l.keyWords k.val (fun _ => [0, 0, 0, 0]) })
       let b := a.setOn (if k.val = 0 then Fld.FP_KEYCTL_VALID0 n.val else Fld.FP_KEYCTL_VALID1 n.val) true
       (b.irq (lanePage n.val) Irq.FP_KEYINST).audit 7 o (if k.val = 0 then Reg.FP_KEY0 n.val 3 else Reg.FP_KEY1 n.val 3) 0
         (n.val * 2 ^ 16 + k.val * 2 ^ 8 + b.keyLabel n.val k.val)))) ∧
  (∀ (s : State) (o : Origin) (r : Fin 3) (w : Word), s.Accepts o (roleKeyTop (r.val + 1)) w.toNat →
    exec (.roleKeyInstall o r w) s = .next (settle
      (let words := updAt ((s.fab.roleWords[r.val + 1]?).getD []) 3 (fun _ => w)
       let key := BitVec.ofNat 128 (words.foldl (fun a x => a * 2 ^ 32 + x.toNat) 0)
       let a : State := { s with fab := { s.fab with
         roleKeys := updAt s.fab.roleKeys (r.val + 1) (fun _ => some key)
         roleWords := updAt (updAt s.fab.roleWords (r.val + 1) (fun _ => words)) (r.val + 1) (fun _ => [0, 0, 0, 0]) } }
       (a.setBit Reg.FAB_RKEYV (r.val + 1) true).audit 7 o (0x800FC + 16 * (r.val + 1)) 0 (r.val + 1)))) ∧
  (∀ (s : State) (o : Origin) (n : Fin 5) (k : Fin 2),
    s.Accepts o (Reg.FP_KEYCTL n.val) (putBit (s.rd (Reg.FP_KEYCTL n.val)) (28 + k.val) true) →
    ∃ t, exec (.keyClear o n k) s = .next t ∧ (((t.lane n.val).keys[k.val]?).getD none) = none ∧
      t.on (if k.val = 0 then Fld.FP_KEYCTL_VALID0 n.val else Fld.FP_KEYCTL_VALID1 n.val) = false) ∧
  (∀ (s : State) (o : Origin) (n : Fin 5) (k : Fin 2),
    s.Accepts o (Reg.FP_KEYCTL n.val) (putBit (s.rd (Reg.FP_KEYCTL n.val)) 24 (k.val == 1)) →
    (s.ens (lanePage n.val) = false → ∃ t, exec (.txkeyChange o n k) s = .next t ∧ t.get (Fld.FP_KEYCTL_TXKEY n.val) = k.val) ∧
    (s.ens (lanePage n.val) = true → ∃ t w, exec (.txkeyChange o n k) s = .next t ∧ t.acc.pendL = s.acc.pendL ++ [w] ∧
      w.page = lanePage n.val ∧ w.addr = Reg.FP_KEYCTL n.val ∧ bitOf w.value 24 = (k.val == 1))) ∧
  (∀ (s : State) (n : Fin 5) (v : Nat), s.laneOn n.val = true → bitOf v 24 ≠ s.bit (Reg.FP_KEYCTL n.val) 24 → v < 2 ^ 32 →
    s.writeActive (lanePage n.val) (Reg.FP_KEYCTL n.val) v = (s.wr (Reg.FP_KEYCTL n.val) v).restartLink n.val)

/-- A dispatch that reaches a module that is no standby while the cluster runs is answered with its verdict (R510, R512,
R513): accepted and new, it becomes a setpoint frame, the last command and the end of DISPATCH_LOST; otherwise the verdict
only is counted. A standby holds its answer (R514). DISPATCH_LOST takes the configured action (R516); a report goes to each
valid subscriber (R518). The host alone challenges, opens and closes a session, under a role's key by a tag that verifies on
a challenge of the last 10 s (R504, R508). The checks of a dispatch command in their order (R510, R511): body length, form,
string, repetition, sequence number, open dispatch, synchronised time, too early or too late an instant, room for a frame; a
command that passes all is accepted. Where the rules leave an order or a value open, it rests on the model's choices (log
21, log 6). -/
def Obligations.DispatchAndSessionsComplete : Prop :=
  ((∀ (s : State) (q : Req) (d : DispatchBody), s.Served q 4 0 → s.svc.role ≠ 2 →
    (s.dispatchVerdict d = 0 → s.dispatchRepeats d = false → exec (.dispatch q d) s = .next (settle
      ((((((s.dispatchSubmit q d).put Fld.FAB_DLAST_STATUS 0).put Fld.FAB_DLAST_SRC (originNode q.origin)).bump Fld.FAB_DCNT_ACCEPTED).irq
        Pg.FAB Irq.FAB_DISPATCH).respond q 4 0 (s.dispatchBody d)))) ∧
    (s.dispatchVerdict d = 0 → s.dispatchRepeats d = true → exec (.dispatch q d) s = .next (settle
      (((((s.put Fld.FAB_DLAST_STATUS 0).put Fld.FAB_DLAST_SRC (originNode q.origin)).bump Fld.FAB_DCNT_ACCEPTED).irq
        Pg.FAB Irq.FAB_DISPATCH).respond q 4 0 (s.dispatchBody d)))) ∧
    (s.dispatchVerdict d ≠ 0 → exec (.dispatch q d) s = .next (settle
      (((((s.put Fld.FAB_DLAST_STATUS (s.dispatchVerdict d)).put Fld.FAB_DLAST_SRC (originNode q.origin)).bump Fld.FAB_DCNT_REJECTED).irq
        Pg.FAB Irq.FAB_DREJECT).respond q 4 (s.dispatchVerdict d) (s.dispatchBody d))))) ∧
  (∀ (s : State) (q : Req) (d : DispatchBody), s.Served q 4 0 → s.svc.role = 2 →
    exec (.dispatch q d) s = .next (settle
      (let x := s.dispatchDecide q d
       { x.2 with dsp := { x.2.dsp with held := x.2.dsp.held ++ [(q, s.nowNat, x.1.1, x.1.2)] } }))) ∧
  (∀ s : State, s.Up 9 → s.get Fld.FAB_DISP_WDT ≠ 0 → s.svc.state = .running → s.appUp = true →
    s.dsp.lastAt + s.get Fld.FAB_DISP_WDT * 1000000 ≤ s.nowNat →
    exec .dispatchLost s = .next (settle
      (let a := (s.irq Pg.FAB Irq.FAB_DLOST).fault Pg.FAB Flt.DISPATCH_LOST 0
       match a.get Fld.FAB_DISP_ACTION with
       | 0 => a
       | 2 => a.haltString.2
       | _ => a.submitStop))) ∧
  (∀ s : State, s.Up 9 → s.fabRuns = true → s.appUp = true → s.svc.state ≠ .recovery →
    exec .stringReport s = .next (settle
      (let body := beBytes 2 s.fab.reportSeq ++ beBytes 4 s.sstate ++ beBytes 2 (s.get Fld.EST_USOC_USOC) ++ beBytes 2 (s.get Fld.EST_USOC_UT) ++
         beBytes 2 (s.get Fld.EST_SLIM_Lchg) ++ beBytes 2 (s.get Fld.EST_SLIM_Ldis) ++ beBytes 2 (s.get Fld.LPE_LIMNOW_Lchg) ++
         beBytes 2 (s.get Fld.LPE_LIMNOW_Ldis) ++ beBytes 2 (s.get Fld.EST_UCAP_D) ++ beBytes 2 (s.get Fld.EST_UCAP_C) ++
         beBytes 4 (s.inWord 4).toNat ++ beBytes 4 (s.rd Reg.FAB_DSTAT) ++ beBytes 1 (s.get Fld.FLT_NSTAND_ACTIVE) ++
         beBytes 1 (s.get Fld.FLT_NSTAND_LATCHED) ++ plantBytes s.plantNs ++ beBytes 2 0
       let a : State := { s with fab := { s.fab with reportSeq := (s.fab.reportSeq + 1) % 65536 } }
       let b := if a.on Fld.FAB_REPDST_V0 then a.notice 6 0 (a.get Fld.FAB_REPDST_SUB0) body else a
       if b.on Fld.FAB_REPDST_V1 then b.notice 6 0 (b.get Fld.FAB_REPDST_SUB1) body else b))) ∧
  (∀ (s : State) (q : Req), q.origin = .host → s.Up 9 → s.appUp = true →
    exec (.sessionChallenge q) s = .next (settle
      (let x := s.drawNonce
       ({ x.2 with fab := { x.2.fab with challenge := some (x.1, s.nowNat) } } : State).respond q 7 0 (beBytes 16 x.1.toNat)))) ∧
  (∀ (s : State) (q : Req) (role : Byte) (tag : BitVec 128), q.origin = .host → s.Up 9 → s.appUp = true →
    (s.roleKey role.toNat = none →
      exec (.sessionOpen q role tag ()) s = .next (settle
        (if role.toNat ≤ s.get Fld.HST_CFG_MAXROLE then (s.wr Reg.HST_ROLE role.toNat).respond q 8 0 [] else s.respond q 8 9 []))) ∧
    (∀ key, s.roleKey role.toNat = some key →
      let a : State := { s with fab := { s.fab with challenge := none } }
      (s.fab.challenge = none → exec (.sessionOpen q role tag ()) s = .next (settle (a.respond q 8 9 []))) ∧
      (∀ c t, s.fab.challenge = some (c, t) →
        exec (.sessionOpen q role tag ()) s = .next (settle
          (if role.toNat ≤ s.get Fld.HST_CFG_MAXROLE ∧ s.nowNat ≤ t + 10000000000 ∧ sessionTag key c role.toNat = tag then
             (a.wr Reg.HST_ROLE role.toNat).respond q 8 0 []
           else a.respond q 8 9 []))))) ∧
  (∀ (s : State) (q : Req), q.origin = .host → s.Up 9 → s.appUp = true →
    exec (.sessionClose q) s = .next (settle ((s.wr Reg.HST_ROLE 0).respond q 9 0 []))) ∧
  (∀ (s : State) (q : Req) (n : BitVec 10), q.origin = .fabric n →
    (s.Reached q 7 → exec (.sessionChallenge q) s = .next (settle (s.respond q 7 4 []))) ∧
    (∀ role tag, s.Reached q 8 → exec (.sessionOpen q role tag ()) s = .next (settle (s.respond q 8 4 []))) ∧
    (s.Reached q 9 → exec (.sessionClose q) s = .next (settle (s.respond q 9 4 []))))) ∧
  (∀ (s : State) (d : DispatchBody),
    (d.blen ≠ 28 → s.dispatchVerdict d = 5) ∧
    (d.blen = 28 → (d.reservedZero = false ∨ 999999999 < d.actn.toNat ∨ fpIsNan d.iset = true ∨ fpIsInf d.iset = true) →
      s.dispatchVerdict d = 0x15) ∧
    (d.blen = 28 → d.reservedZero = true → d.actn.toNat ≤ 999999999 → fpIsNan d.iset = false → fpIsInf d.iset = false →
      (d.string.toNat ≠ s.get Fld.FAB_STRING_STRING → s.dispatchVerdict d = 0x14) ∧
      (d.string.toNat = s.get Fld.FAB_STRING_STRING →
        (s.dsp.last = some d → s.dispatchVerdict d = 0) ∧
        (∀ l, s.dsp.last = some l → l ≠ d → (d.seq - l.seq).toInt ≤ 0 → s.dispatchVerdict d = 0x13) ∧
        (s.dsp.last ≠ some d → (∀ l, s.dsp.last = some l → 0 < (d.seq - l.seq).toInt) →
          (s.dispatchTaken = false → s.dispatchVerdict d = 0x10) ∧
          (s.dispatchTaken = true → s.on Fld.TIM_STATE_SYNC = false → s.dispatchVerdict d = 0x17) ∧
          (s.dispatchTaken = true → s.on Fld.TIM_STATE_SYNC = true →
            (d.imm = false → s.dispatchAhead d < 200000 → s.dispatchVerdict d = 0x11) ∧
            (d.imm = false → (max 1 (s.get Fld.FAB_DISP_MAXAHEAD) * 1000000000 : Nat) < s.dispatchAhead d →
              s.dispatchVerdict d = 0x12) ∧
            ((d.imm = true ∨ 200000 ≤ s.dispatchAhead d ∧ s.dispatchAhead d ≤ (max 1 (s.get Fld.FAB_DISP_MAXAHEAD) * 1000000000 : Nat)) →
              s.dispatchVerdict d = if s.lpe.frames.length ≥ 8 then 0x16 else 0))))))

/-- A message that a port of the time unit may take, below 160 of its kind in the second, is counted and goes on, another
counts DISC (R540). Taken, an Announce that is better becomes the domain's master (R539, R541); a one-step Sync of the master
gives an offset, a two-step Sync waits for its Follow_Up, which gives it (R535, R539); a Pdelay_Req is answered twice;
Pdelay_Resp and its follow-up give the peer delay. One offset from the master (R532, R533, R535): it is shown, the domain
leaves HOLDOVER, UNSYNC and MASTER for ACQUIRING, locks after LOCKN offsets within LOCKWIN and loses its lock after two
beyond four times LOCKWIN; beyond 1 ms the running cluster steps the clock, else it sets an increment within 500 ppm. The
increment is a value the spec leaves open. Where the rules leave an order or a value open, it rests on the model's choices
(log 26). -/
def Obligations.PtpMessagesComplete : Prop :=
  ((∀ (s : State) (n k : Nat) (m : PtpMsg),
    (let key := n * 4096 + k * 256 + m.domain.toNat
     let seen := smGet (fun _ => (0 : Nat)) s.tim.ptpSeen key
     let t : State := { s with tim := { s.tim with ptpSeen := smInsert key (seen + 1) s.tim.ptpSeen } }
     (s.ens Pg.TIM = true → s.laneState n = 3 → s.ptpFits n m = true → seen < 160 →
       s.ptpAccept n k m = (t.bump Fld.TIM_PTPCNT_RX, true)) ∧
     ((s.ens Pg.TIM = false ∨ s.laneState n ≠ 3 ∨ s.ptpFits n m = false ∨ 160 ≤ seen) →
       s.ptpAccept n k m = (t.bump Fld.TIM_PTPCNT_DISC, false)))) ∧
  (∀ (s t : State) (n : Fin 4) (m : PtpMsg) (d : Nat), s.Up 3 → s.Up 9 → s.ptpAccept n.val 0xB m = (t, true) → m.ptpTimescale = true →
    (let u := match m.utcOffset with
      | some x => t.wr Reg.TIM_UTC (x.toNat + 65536)
      | none => t
     u.ptpDom m = some d → (u.dom d).best = none →
     (u.on (Fld.TIM_DCFG_GMCAP d) = false ∨ listLess (dataSet m) (u.ownSet d) = true) →
     exec (.ptpAnnounce n m) s = .next (settle
       (let a := ((u.modDom d (fun x => { x with best := some (n.val, m), sync := none })).put (Fld.TIM_DSTAT_SLAVE d) n.val).wr64
          (Reg.TIM_DGMID d) m.gmId.toNat
        if a.domState d = 7 ∨ a.domState d = 6 then a.setDom d 3 else a)))) ∧
  (∀ (s t : State) (n : Fin 4) (m : PtpMsg) (d : Nat), s.Up 3 → s.Up 9 → s.ptpAccept n.val 0 m = (t, true) → t.ptpDom m = some d →
    t.fromMaster n.val d m = true →
    (m.twoStep = true → exec (.ptpSync n m) s = .next (settle (t.modDom d (fun x => { x with sync := some (n.val, m, t.rxDomain d) })))) ∧
    (m.twoStep = false → exec (.ptpSync n m) s = .next (settle
      (t.offsetIn n.val d (t.rxDomain d - (m.origin + m.correction + ((t.pdel n.val).delay).getD 0)))))) ∧
  (∀ (s t : State) (n : Fin 4) (m y : PtpMsg) (d : Nat) (rx : Int), s.Up 3 → s.Up 9 → s.ptpAccept n.val 8 m = (t, true) →
    t.ptpDom m = some d → (t.dom d).sync = some (n.val, y, rx) → y.seq = m.seq → y.sourceId = m.sourceId →
    exec (.ptpFollowUp n m) s = .next (settle
      ((t.modDom d (fun x => { x with sync := none })).offsetIn n.val d
        (rx - (m.origin + y.correction + m.correction + ((t.pdel n.val).delay).getD 0))))) ∧
  (∀ (s t : State) (n : Fin 4) (m : PtpMsg), s.Up 3 → s.Up 9 → s.ptpAccept n.val 2 m = (t, true) →
    exec (.ptpPdelayReq n m) s = .next (settle
      (let a := t.ptpSend n.val 3 m.domain.toNat [(m.seq.toNat : Int), t.rxStamp]
       a.ptpSend n.val 10 m.domain.toNat [(m.seq.toNat : Int), a.txStamp]))) ∧
  (∀ (s t : State) (n : Fin 4) (m : PtpMsg), s.Up 3 → s.Up 9 → s.ptpAccept n.val 3 m = (t, true) → m.seq.toNat = (t.pdel n.val).seq →
    exec (.ptpPdelayResp n m) s = .next (settle
      (t.modPdel n.val (fun p => { p with t2 := some (m.origin - m.correction), t4 := some t.rxStamp })))) ∧
  (∀ (s t : State) (n : Fin 4) (m : PtpMsg) (t2 t4 : Int), s.Up 3 → s.Up 9 → s.ptpAccept n.val 10 m = (t, true) →
    m.seq.toNat = (t.pdel n.val).seq → (t.pdel n.val).t2 = some t2 → (t.pdel n.val).t4 = some t4 →
    exec (.ptpPdelayRespFollowUp n m) s = .next (settle
      (t.modPdel n.val (fun p => { p with t2 := none, t4 := none, delay := some ((t4 - p.t1 - (m.origin + m.correction - t2)) / 2) })))) ∧
  (∀ (s : State) (n : Fin 4), s.Up 3 → s.Up 9 → s.ens Pg.TIM = true → s.laneState n.val = 3 →
    exec (.pdelayTimer n) s = .next (settle
      (let a : State := { s with tim := { s.tim with ptpSeen := s.tim.ptpSeen.filter (fun x => x.1 / 4096 != n.val) } }
       let q := ((a.pdel n.val).seq + 1) % 65536
       (a.modPdel n.val (fun p => { p with seq := q, t1 := a.txStamp, t2 := none, t4 := none })).ptpSend n.val 2 0 [(q : Int)]))) ∧
  (∀ (s : State) (d : Fin 2), s.Up 3 → s.Up 9 → s.ens Pg.TIM = true → (s.domState d.val = 7 ∨ s.domState d.val = 4 ∨ s.domState d.val = 5) →
    s.get (Fld.TIM_DCFG_SRC d.val) = 0 →
    exec (.ptpMasterTimer d) s = .next (settle
      (let q := ((s.dom d.val).seq + 1) % 65536
       let a := s.modDom d.val (fun x => { x with seq := q })
       ((List.range 4).filter (fun n => a.laneState n == 3 && n != a.get (Fld.TIM_DSTAT_SLAVE d.val))).foldl (fun t n =>
         let dm := t.get (Fld.TIM_DCFG_DOMAIN d.val)
         ((t.ptpSend n 0 dm [(q : Int)]).ptpSend n 8 dm [(q : Int), t.txDomain d.val]).ptpSend n 11 dm
           ((q :: t.announceSet d.val).map (fun (x : Nat) => (x : Int)))) a)))) ∧
  (∀ (s : State) (n d : Nat) (x : Int), s.appUp = false →
    (let a := ((s.wr (Reg.TIM_DOFS d) (satSigned 32 x)).wr (Reg.TIM_DPDLY d) ((((s.pdel n).delay).getD 0).toNat % 2 ^ 32)).modDom d
       (fun y => { y with syncAt := some s.nowNat })
     let b := if a.domState d = 5 ∨ a.domState d = 6 ∨ a.domState d = 7 then
       (a.modDom d (fun y => { y with good := 0, bad := 0 })).setDom d 3 else a
     let win := b.get (Fld.TIM_DLOCK_LOCKWIN d)
     let c := b.modDom d (fun y => { y with
       good := if x.natAbs ≤ win then y.good + 1 else 0
       bad := if x.natAbs > 4 * win then y.bad + 1 else 0 })
     (c.domState d = 3 → max 1 (c.get (Fld.TIM_DLOCK_LOCKN d)) ≤ (c.dom d).good → (c.setDom d 4).appUp = false →
       s.offsetIn n d x = c.setDom d 4) ∧
     (c.domState d = 4 → (c.dom d).bad < 2 → c.appUp = false → s.offsetIn n d x = c)))

/-- Timeouts and commands of the domains (R532 to R538, R541, R544, R553): a lost Sync turns LOCKED into HOLDOVER, a long
HOLDOVER or ACQUIRING into UNSYNC; a lost master is dropped, and without one a capable domain becomes MASTER; FIRMWARE steps
a clock and writes an increment, held within 500 ppm; the end of a slew, the return to the preferred domain, SWITCH and
CLEAR_COUNTS act as stated; TIME_GET answers both clocks, TIME_SET sets a FREE domain. Where the rules leave an order or a
value open, it rests on the model's choices (log 26). -/
def Obligations.TimeComplete : Prop :=
  (∀ (s : State) (d : Fin 2), s.Up 3 → s.domState d.val = 4 → exec (.syncTimeout d) s = .next (settle (s.setDom d.val 5))) ∧
  (∀ (s : State) (d : Fin 2), s.Up 3 → (s.domState d.val = 5 ∨ s.domState d.val = 3) →
    exec (.holdoverTimeout d) s = .next (settle ((s.modDom d.val (fun x => { x with good := 0, bad := 0 })).setDom d.val 6))) ∧
  (∀ (s : State) (d : Fin 2), s.Up 3 → s.ens Pg.TIM = true → s.on (Fld.TIM_DCFG_EN d.val) = true → s.get (Fld.TIM_DCFG_SRC d.val) = 0 →
    (∀ b, (s.dom d.val).best = some b → exec (.announceTimeout d) s = .next (settle
      (let a := (s.modDom d.val (fun x => { x with best := none, sync := none })).put (Fld.TIM_DSTAT_SLAVE d.val) 7
       if a.domState d.val = 4 then a.setDom d.val 5 else a))) ∧
    ((s.dom d.val).best = none → s.on (Fld.TIM_DCFG_GMCAP d.val) = true → s.domState d.val ≠ 7 →
      exec (.announceTimeout d) s = .next (settle ((s.wr64 (Reg.TIM_DGMID d.val) Config.moduleUid.toNat).setDom d.val 7)))) ∧
  (∀ (s : State) (o : Origin) (d : Fin 2) (v : Word), s.Accepts o (Reg.TIM_DADJ d.val) v.toNat →
    exec (.domainAdjust o d v) s = .next (settle
      (let a := (s.setDomClock d.val ((s.domClock d.val : Int) + toSigned 32 v.toNat * (nsUnit : Int))).bump (Fld.TIM_DSTAT_STEPS d.val)
       if a.activeDom = d.val then a.followActive else a))) ∧
  (∀ (s : State) (o : Origin) (d : Fin 2) (v : Word), s.Accepts o (Reg.TIM_DINC d.val) v.toNat →
    exec (.incrementWrite o d v) s = .next (settle
      (let new := max (0x40000000 - 536870) (min (0x40000000 + 536870) v.toNat)
       ((if new = s.rd (Reg.TIM_DINC d.val) then s else s.audit 1 o (Reg.TIM_DINC d.val) (s.rd (Reg.TIM_DINC d.val)) new).overtake
         (Reg.TIM_DINC d.val)).wr (Reg.TIM_DINC d.val) new))) ∧
  (∀ s : State, s.Up 3 → s.residual = 0 → exec .slewEnd s = .next (settle (s.setOn Fld.TIM_STATE_SLEWING false))) ∧
  (∀ s : State, s.Up 3 → s.ens Pg.TIM = true → s.on Fld.TIM_CFG_REVERT = true → s.activeDom ≠ s.get Fld.TIM_CFG_PREF →
    (s.domState (s.get Fld.TIM_CFG_PREF) = 4 ∨ s.domState (s.get Fld.TIM_CFG_PREF) = 7) →
    exec .revertTimer s = .next (settle (s.switchTo (s.get Fld.TIM_CFG_PREF)))) ∧
  (∀ (s : State) (o : Origin) (d : Fin 2), s.Accepts o Reg.TIM_CMD (1 + 256 * d.val) → s.ens Pg.TIM = true →
    syncedState (s.domState d.val) = true → s.activeDom ≠ d.val →
    exec (.domainSwitch o d) s = .next (settle (s.switchTo d.val))) ∧
  (∀ (s : State) (o : Origin) (d : Fin 2), s.Accepts o Reg.TIM_CMD (1 + 256 * d.val) → syncedState (s.domState d.val) = false →
    exec (.domainSwitch o d) s = .next (settle (s.irq Pg.TIM Irq.TIM_CMDREJ))) ∧
  (∀ (s : State) (o : Origin), s.Accepts o Reg.TIM_CMD 2 →
    exec (.timClearCounts o) s = .next (settle
      (((s.wr Reg.TIM_CNT 0).wr Reg.TIM_PTPCNT 0).each 8 (fun t k => (t.wr (Reg.TIM_FLSTAT k) 0).wr (Reg.TIM_CLSTAT k) 0)))) ∧
  (∀ (s : State) (q : Req), s.Served q 0x100 0 →
    exec (.timeGet q) s = .next (settle (s.respond q 0x100 0
      (beBytes 6 (clockSec s.tim.pt) ++ beBytes 4 (clockNs s.tim.pt) ++ beBytes 8 s.nowNat ++ beBytes 1 (s.rd Reg.TIM_STATE % 256) ++
        beBytes 1 0)))) ∧
  (∀ (s : State) (q : Req) (d mode : Byte) (sec : BitVec 48) (ns : Word), s.Served q 0x101 1 → d.toNat ≤ 1 → mode.toNat ≤ 1 →
    ns.toNat ≤ 999999999 → s.get (Fld.TIM_DCFG_SRC d.toNat) ≠ 0 → s.domState d.toNat ≠ 0 →
    exec (.timeSet q d mode sec ns) s = .next (settle
      (let old := s.domClock d.toNat
       let new : Int := if mode = 0 then ((sec.toNat * 1000000000 + ns.toNat : Nat) : Int) * (nsUnit : Int)
         else (old : Int) + (toSigned 48 sec.toNat * 1000000000 + (ns.toNat : Int)) * (nsUnit : Int)
       let a := s.setDomClock d.toNat new
       let b := a.audit 0xA q.origin (Reg.TIM_DTSL d.toNat) (clockSec old % 2 ^ 32) (clockSec (a.domClock d.toNat) % 2 ^ 32)
       let c := (b.timeRec 3 old (b.domClock d.toNat) d.toNat q.origin).setDom d.toNat 2
       (if c.activeDom = d.toNat then c.followActive else c).respond q 0x101 0 []))) ∧
  (∀ (s : State) (q : Req) (d mode : Byte) (sec : BitVec 48) (ns : Word), s.Served q 0x101 1 → d.toNat ≤ 1 → mode.toNat ≤ 1 →
    ns.toNat ≤ 999999999 → (s.get (Fld.TIM_DCFG_SRC d.toNat) = 0 ∨ s.domState d.toNat = 0) →
    exec (.timeSet q d mode sec ns) s = .next (settle (s.respond q 0x101 8 (beBytes 4 s.sstate)))) ∧
  (∀ (s : State) (q : Req) (d mode : Byte) (sec : BitVec 48) (ns : Word), s.Served q 0x101 1 →
    (1 < d.toNat ∨ 1 < mode.toNat ∨ 999999999 < ns.toNat) →
    exec (.timeSet q d mode sec ns) s = .next (settle (s.respond q 0x101 0x15 [])))

/-- A leading edge of an output that runs sets its level, counts and plans the next pulse of a periodic output; a trailing
edge ends the level (R545, R546); the EN of a slot written 1 arms it, unless its header is refused or its instant lies more
than 1 ms back (R549); at its instant a fabric slot sends its frame or counts MISSED, a CAN slot requests its object, and a
period plans the next launch (R548, R550). Where the rules leave an order or a value open, it rests on the model's choices
(log 26). -/
def Obligations.PulsesAndLaunchesComplete : Prop :=
  (∀ (s : State) (k : Fin 8) (n : Nat), s.Up 3 → (s.tpo k.val).next = some n → s.ens Pg.TPO = true →
    (s.get (Fld.TPO_KCFG_MODE k.val) = 1 ∨ s.get (Fld.TPO_KCFG_MODE k.val) = 2) →
    exec (.tpoLeadingEdge k) s = .next (settle
      (let level := !s.on (Fld.TPO_KCFG_POL k.val)
       let a := ((s.setOn (Fld.TPO_KSTAT_LEVEL k.val) level).bump (Fld.TPO_KSTAT_PULSES k.val)).emit (.ball ("TPO" ++ toString k.val) level)
       let b := if s.get (Fld.TPO_KCFG_MODE k.val) = 1 || (s.tpo k.val).stepped then a.irq Pg.TPO k.val else a
       b.modTpo k.val (fun t => { t with
         next := if s.get (Fld.TPO_KCFG_MODE k.val) = 2 then some (n + b.rd (Reg.TPO_KPER k.val)) else none
         prev := some n, given := true, stepped := false })))) ∧
  (∀ (s : State) (k : Fin 8), s.Up 3 → s.on (Fld.TPO_KSTAT_LEVEL k.val) = !s.on (Fld.TPO_KCFG_POL k.val) →
    exec (.tpoTrailingEdge k) s = .next (settle
      ((s.setOn (Fld.TPO_KSTAT_LEVEL k.val) (s.on (Fld.TPO_KCFG_POL k.val))).emit (.ball ("TPO" ++ toString k.val) (s.on (Fld.TPO_KCFG_POL k.val)))))) ∧
  (∀ (s : State) (o : Origin) (kind : SlotKind) (k : Fin 8) (v : Word), s.Accepts o (slotCtl kind k.val) v.toNat →
    ∃ w, s.specAt o Pg.TIM (slotCtl kind k.val) = some w ∧ exec (.launchArm o kind k v) s = .next (settle
      (let a := slotCtl kind k.val
       let new := s.storedOver w a (s.rd a) v.toNat
       (((if new = s.rd a then s else s.audit 1 o a (s.rd a) new).remember a new).overtake a).writeActive Pg.TIM a new))) ∧
  (∀ (s : State) (k : Fin 8) (v : Nat), v < 2 ^ 32 → s.bit (Reg.TIM_FLCTL k.val) 31 = false →
    s.writeActive Pg.TIM (Reg.TIM_FLCTL k.val) v =
      (let a := s.wr (Reg.TIM_FLCTL k.val) v
       if a.on (Fld.TIM_FLCTL_EN k.val) = false then a
       else if a.slotBad k.val then (a.setOn (Fld.TIM_FLCTL_EN k.val) false).irq Pg.TIM Irq.TIM_LREJ
       else if a.longPast (a.rd64 (Reg.TIM_FLT k.val)) then (a.bump (Fld.TIM_FLSTAT_LATE k.val)).launchFabric k.val
       else a)) ∧
  (∀ (s : State) (k : Fin 8) (v : Nat), v < 2 ^ 32 → s.bit (Reg.TIM_CLCTL k.val) 31 = false →
    s.writeActive Pg.TIM (Reg.TIM_CLCTL k.val) v =
      (let a := s.wr (Reg.TIM_CLCTL k.val) v
       if a.on (Fld.TIM_CLCTL_EN k.val) && a.longPast (a.rd64 (Reg.TIM_CLT k.val)) then
         (a.bump ⟨Reg.TIM_CLSTAT k.val, 16, 8⟩).launchCan k.val
       else a)) ∧
  (∀ (s : State) (k : Fin 8), s.Up 3 → s.on (Fld.TIM_FLCTL_EN k.val) = true →
    (s.slotMisses k.val = true → exec (.fabricLaunch k) s = .next (settle
      ((s.bump (Fld.TIM_FLSTAT_MISSED k.val)).slotNext (Fld.TIM_FLCTL_EN k.val) (Reg.TIM_FLT k.val)
        ((s.bump (Fld.TIM_FLSTAT_MISSED k.val)).rd (Reg.TIM_FLPER k.val)) (Fld.TIM_FLSTAT_MISSED k.val) true))) ∧
    (∀ p, s.slotMisses k.val = false → s.routePort (s.slotFrame k.val).dst.toNat = some p → exec (.fabricLaunch k) s = .next (settle
      (let a := ((s.egress p (s.slotFrame k.val) none).bump (Fld.TIM_FLSTAT_SENT k.val)).irq Pg.TIM Irq.TIM_LAUNCH
       a.slotNext (Fld.TIM_FLCTL_EN k.val) (Reg.TIM_FLT k.val) (a.rd (Reg.TIM_FLPER k.val)) (Fld.TIM_FLSTAT_MISSED k.val) false)))) ∧
  (∀ (s : State) (k : Fin 8), s.Up 3 → s.on (Fld.TIM_CLCTL_EN k.val) = true →
    (s.canLive (s.get (Fld.TIM_CLCTL_CTRLSEL k.val)) = true → exec (.canLaunch k) s = .next (settle
      (let a := ((s.canRequest (s.get (Fld.TIM_CLCTL_CTRLSEL k.val)) (s.get (Fld.TIM_CLCTL_OBJ k.val))).bump
         ⟨Reg.TIM_CLSTAT k.val, 0, 16⟩).irq Pg.TIM Irq.TIM_LAUNCH
       a.slotNext (Fld.TIM_CLCTL_EN k.val) (Reg.TIM_CLT k.val) (a.rd (Reg.TIM_CLPER k.val)) ⟨Reg.TIM_CLSTAT k.val, 24, 8⟩ false))) ∧
    (s.canLive (s.get (Fld.TIM_CLCTL_CTRLSEL k.val)) = false → exec (.canLaunch k) s = .next (settle
      (let a := s.bump ⟨Reg.TIM_CLSTAT k.val, 24, 8⟩
       a.slotNext (Fld.TIM_CLCTL_EN k.val) (Reg.TIM_CLT k.val) (a.rd (Reg.TIM_CLPER k.val)) ⟨Reg.TIM_CLSTAT k.val, 24, 8⟩ true))))

/-- Events of a controller that takes part in its bus (R557 to R579): it joins after integration; a received data frame is
stored in the object that accepts it, or dropped when the object is too small; a remote frame is counted; a sent object sets
TXOK and leaves the bus, and a reference message keeps its SOF; its measured delay is shown (R561); an error is shown,
counted and confined, and a protocol exception with PXE 1 takes the controller back to integration (R557); recovery ends in
ERROR ACTIVE; a request of a failing controller is carried by the other controller or by a slot; receive interrupts are
stamped while the cluster runs, or shown late; the reference object is loaded and requested. Where the rules leave an order
or a value open, it rests on the model's choices (log 10, log 27). -/
def Obligations.CanEventsComplete : Prop :=
  (∀ (s : State) (x : Fin 2), s.Up 8 → s.canPs x.val = 1 → s.svc.state ≠ .recovery → s.svc.state ≠ .transport →
    exec (.canIntegrated x) s = .next (settle ((s.put (Fld.CN_STATE_PSTATE x.val) 2).canConfine x.val))) ∧
  (∀ (s : State) (x : Fin 2) (f : CanFrame), s.Up 8 → s.canLive x.val = true → s.get (Fld.CN_CFG_MODE x.val) ≠ 3 →
    exec (.canFrameReceive x f) s = .next (settle
      ((let a := ((s.offBus x.val).recGood x.val).canConfine x.val
        let data := f.data.take (dlcBytes f.fdf f.dlc.toNat)
        match a.acceptObject x.val f with
        | none => a
        | some o =>
          if a.objCapacity x.val o < data.length then a.bump (Fld.CN_ECNT_RXDROP x.val)
          else (a.storeFrame x.val o f data).bump (Fld.CN_CNT_RXOK x.val)).canShow x.val))) ∧
  (∀ (s : State) (x : Fin 2), s.Up 8 → s.canLive x.val = true → s.get (Fld.CN_CFG_MODE x.val) ≠ 3 →
    exec (.canRemoteFrame x) s = .next (settle
      (((((s.offBus x.val).recGood x.val).canConfine x.val).bump (Fld.CN_ECNT_REMOTE x.val)).canShow x.val))) ∧
  (∀ (s : State) (x : Fin 2) (o : Fin 128) (sent : CanSent) (ws : List Word), s.Up 8 → s.canLive x.val = true →
    s.get (Fld.CN_CFG_MODE x.val) = 0 → s.on (objTXRQ x.val o.val) = true → s.on (objHOLD x.val o.val) = false →
    s.objUsed x.val o.val true = true → s.objTooLong x.val o.val = false → (s.canOf x.val).onBus = some (o.val, ws) →
    exec (.canTransmitDone x o sent) s = .next (settle
      (let a := ((s.offBus x.val).setTxrq x.val o.val false).setOn (objTXOK x.val o.val) true
       let b := (a.put (objCOLL x.val o.val) 0).put (objNFRAMES x.val o.val) (a.get (objNFRAMES x.val o.val) + 1)
       let c := ((b.bump (Fld.CN_CNT_TXOK x.val)).modCan x.val (fun c => { c with tec := c.tec - 1 })).canConfine x.val
       let d := ((if c.on (objIE x.val o.val) then c.irq (canPage x.val) Irq.CN_TX else c).emit (.can x.val o.val ws)).sspShow
         x.val sent.loopNs ws
       (if d.on (Fld.CN_REF_EN x.val) && d.get (Fld.CN_REF_OBJ x.val) == o.val then
          (d.wr64 (Reg.CN_REFSOF x.val) sent.sof.toNat).modCan x.val (fun c => { c with
            refSeq := (c.refSeq + 1) % 256
            refSof := some (((sent.sof.toNat : Int) * (nsUnit : Int) + ((d.tim.pt : Int) - (d.tim.mono : Int))).toNat, d.on Fld.TIM_STATE_SYNC) })
        else d).canShow x.val))) ∧
  (∀ (s : State) (x : Fin 2) (o : Option (Fin 128)) (data heavy : Bool), s.Up 8 → s.canLive x.val = true →
    s.on (Fld.CN_CFG_PXE x.val) = true →
    exec (.canError x .exception o data heavy) s = .next (settle
      ((((s.canLeave x.val).offBus x.val).put (Fld.CN_STATE_PSTATE x.val) 1).canShow x.val))) ∧
  (∀ (s : State) (x : Fin 2) (e : CanErr) (data heavy : Bool), s.Up 8 → s.canLive x.val = true →
    (e = .exception → s.on (Fld.CN_CFG_PXE x.val) = false) →
    exec (.canError x e none data heavy) s = .next (settle
      (((((s.put (Fld.CN_STATE_LASTERR x.val) (canErrCode e)).errorCounts x.val e false heavy).canConfine x.val).offBus x.val).canShow x.val))) ∧
  (∀ (s : State) (x : Fin 2) (o : Fin 128) (e : CanErr) (data heavy : Bool) (ws : List Word), s.Up 8 → s.canLive x.val = true →
    (e = .exception → s.on (Fld.CN_CFG_PXE x.val) = false) → (s.canOf x.val).onBus = some (o.val, ws) →
    exec (.canError x e (some o) data heavy) s = .next (settle
      (let a := s.put (Fld.CN_STATE_LASTERR x.val) (canErrCode e)
       let b := if data && isBitError e then (a.sspFree x.val).collide x.val o.val else if data then a.sspFree x.val else a
       let c := ((b.errorCounts x.val e true heavy).canConfine x.val).offBus x.val
       (if c.on (Fld.CN_CFG_ONESHOT x.val) then c.requestFails x.val o.val else c).canShow x.val))) ∧
  (∀ (s : State) (x : Fin 2), s.Up 8 → s.canPs x.val = 5 →
    exec (.busOffRecovered x) s = .next (settle
      (((((s.modCan x.val (fun c => { c with tec := 0, rec_ := 0 })).put (Fld.CN_STATE_PSTATE x.val) 2).irq (canPage x.val)
        Irq.CN_RECOVERED).canWell x.val).canShow x.val))) ∧
  (∀ (s : State) (x : Fin 2) (o : Fin 128), s.Up 8 → s.failsOver x.val o.val = true →
    (let fov := s.rd (objAddr x.val o.val 6)
     (bitsOf fov 30 2 = 1 → s.canLive (1 - x.val) = true → s.objUsed (1 - x.val) (fov % 128) true = true →
       exec (.failover x o) s = .next (settle
         (let a := s.put (objDLC (1 - x.val) (fov % 128)) (s.get (objDLC x.val o.val))
          let n := min (s.objCapacity x.val o.val) (s.objCapacity (1 - x.val) (fov % 128))
          let b := a.putBytes (1 - x.val) (fov % 128) ((List.range n).map (fun i => BitVec.ofNat 8 (a.objByte x.val o.val i)))
          (b.canRequest (1 - x.val) (fov % 128)).carried x.val o.val))) ∧
     (bitsOf fov 30 2 = 2 → s.slotMisses (bitsOf fov 8 3) = false →
       exec (.failover x o) s = .next (settle
         (((s.putSlotBytes (bitsOf fov 8 3) 26 (s.fovImage x.val o.val)).launchNow (bitsOf fov 8 3)).carried x.val o.val))))) ∧
  (∀ (s : State) (x : Fin 2) (o : Fin 128), s.Up 8 → (s.canOf x.val).stamps.contains o.val = true →
    (s.appUp = true → exec (.receiveStamp x o) s = .next (settle
      ((s.wr64 (objAddr x.val o.val 4) s.nowNat).modCan x.val (fun c => { c with stamps := c.stamps.filter (fun k => k != o.val) })))) ∧
    exec (.stampLate x o) s = .next (settle (s.setOn (objSTAMPQ x.val o.val) true))) ∧
  (∀ (s : State) (x : Fin 2), s.Up 8 → s.on (Fld.CN_REF_EN x.val) = true → s.ens (canPage x.val) = true →
    exec (.referenceMessage x) s = .next (settle
      (let o := s.get (Fld.CN_REF_OBJ x.val)
       let a := if s.on (objTXRQ x.val o) then s.refFailed x.val o else s
       let b := (a.putBytes x.val o (a.refData x.val (a.canOf x.val).refStepped)).modCan x.val (fun c => { c with refStepped := false })
       b.canRequest x.val o)))

/-- A write of word 3 with TXRQ 1 requests the object, with TXRQ 0 withdraws it unless its frame is on the bus, after its
write-1 bits have cleared (R563, R568); a request already pending changes nothing; RECOVER leaves BUS OFF for recovery and is
rejected elsewhere, RELEASE ends a hold, ABORT withdraws a request, CLEAR_COUNTS zeroes both counts (R572, R580). Where the
rules leave an order or a value open, it rests on the model's choices (log 27). -/
def Obligations.CanCommandsComplete : Prop :=
  (∀ (s : State) (o : Origin) (x : Fin 2) (n : Fin 128) (v : Word), s.Accepts o (objAddr x.val n.val 3) (putBit v.toNat 31 true) →
    exec (.transmitRequest o x n v) s = .next (settle
      (let w := putBit v.toNat 31 true
       let a := if bitOf w 28 then s.setRxnew x.val n.val false else s
       let b := [objOVR x.val n.val, objTXOK x.val n.val, objFOVD x.val n.val, objTXERR x.val n.val].foldl (fun (t : State) f =>
         if bitOf w f.lo then t.setOn f false else t) a
       b.canRequest x.val n.val))) ∧
  (∀ (s : State) (o : Origin) (x : Fin 2) (n : Fin 128) (v : Word), s.Accepts o (objAddr x.val n.val 3) (putBit v.toNat 31 false) →
    exec (.transmitWithdraw o x n v) s = .next (settle
      (let w := putBit v.toNat 31 false
       let a := if bitOf w 28 then s.setRxnew x.val n.val false else s
       let b := [objOVR x.val n.val, objTXOK x.val n.val, objFOVD x.val n.val, objTXERR x.val n.val].foldl (fun (t : State) f =>
         if bitOf w f.lo then t.setOn f false else t) a
       b.canAbortObj x.val n.val))) ∧
  (∀ (s : State) (x o : Nat), (s.on (objTXRQ x o) = true → s.canRequest x o = s) ∧
    (s.on (objTXRQ x o) = false → s.canRequest x o = ((s.setTxrq x o true).requestRefuse x o).canShow x)) ∧
  (∀ (s : State) (x o : Nat), s.on (objTXRQ x o) = true →
    (s.on (objTXBUSY x o) = true → s.canAbortObj x o = s) ∧
    (s.on (objTXBUSY x o) = false → s.canAbortObj x o = ((s.setTxrq x o false).refFailed x o).canShow x)) ∧
  (∀ (s : State) (o : Origin) (x : Fin 2), s.Accepts o (Reg.CN_CMD x.val) 1 →
    (s.canPs x.val = 4 → exec (.recover o x) s = .next (settle (s.put (Fld.CN_STATE_PSTATE x.val) 5))) ∧
    (s.canPs x.val ≠ 4 → exec (.recover o x) s = .next (settle (s.irq (canPage x.val) Irq.CN_CMDREJ)))) ∧
  (∀ (s : State) (o : Origin) (x : Fin 2) (n : Fin 128), s.Accepts o (Reg.CN_CMD x.val) (2 + 256 * n.val) →
    s.on (objHOLD x.val n.val) = true →
    exec (.canRelease o x n) s = .next (settle
      ((((s.setHold x.val n.val false).put (objCOLL x.val n.val) 0).endInstance (canPage x.val) Flt.CAN_COLLISION_HOLD
        (canInst x.val n.val)).canShow x.val))) ∧
  (∀ (s : State) (o : Origin) (x : Fin 2) (n : Fin 128), s.Accepts o (Reg.CN_CMD x.val) (3 + 256 * n.val) →
    exec (.canAbort o x n) s = .next (settle (s.canAbortObj x.val n.val))) ∧
  (∀ (s : State) (o : Origin) (x : Fin 2), s.Accepts o (Reg.CN_CMD x.val) 4 →
    exec (.canClearCounts o x) s = .next (settle ((s.wr (Reg.CN_CNT x.val) 0).wr (Reg.CN_ECNT x.val) 0)))

/-- Ownership of the outputs between the twins (R588, R596 to R599, R605): OWN_IN falling arms a standby, which takes over
when it is eligible or the string runs, with its takeover event; OWN_OUT rises at start once OWN_IN has been low for its
time; a conflict makes the module that is not home drop OWN_OUT; a duty that may hand over announces H for a request or for
HANDOVER; a standby acknowledges; at H the duty gives up its outputs while OWN_IN is high, and the standby becomes owner;
without an answer the duty keeps them; the healthy home standby asks for its return. Where the rules leave an order or a
value open, it rests on the model's choices (log 17). -/
def Obligations.OwnershipComplete : Prop :=
  (∀ s : State, s.Up 2 →
    (s.ens Pg.TWN = true → s.tstate = 4 → exec .ownInFall s = .next (settle
      ((s.setOn Fld.TWN_STATE_OWNIN false).modTwn (fun t => { t with lowAt := s.nowNat, armed := true })))) ∧
    ((s.ens Pg.TWN = false ∨ s.tstate ≠ 4) → exec .ownInFall s = .next (settle
      ((s.setOn Fld.TWN_STATE_OWNIN false).modTwn (fun t => { t with lowAt := s.nowNat }))))) ∧
  (∀ s : State, s.Up 2 → s.twn.armed = true → s.tstate = 4 → s.on Fld.TWN_STATE_OWNIN = false →
    (s.on Fld.TWN_STATE_ELIG = true ∨ s.svc.state = .running) →
    exec .takeover s = .next (settle
      ((((s.becomeOwner s.nowNat).bump Fld.TWN_CNT_TAKEOVERS).irq Pg.TWN Irq.TWN_TAKEOVER).faultEvent Pg.TWN Flt.TWIN_TAKEOVER
        (bitNat (!s.on Fld.TWN_STATE_ELIG))))) ∧
  (∀ s : State, s.Up 2 → s.ens Pg.TWN = true → (s.tstate = 6 ∨ s.tstate = 2) → s.on Fld.TWN_STATE_OWNIN = false →
    s.twn.lowAt + (if s.on Fld.TWN_CFG_HOME then 100000000 else 400000000) ≤ s.nowNat → s.svc.state ≠ .recovery → s.svc.state ≠ .transport →
    exec (.ownershipStart ()) s = .next (settle
      (((s.setOwn true).setTstate (if s.partnerThere then 3 else 1)).twinRefresh))) ∧
  (∀ s : State, s.Up 2 → s.ens Pg.TWN = true → s.on Fld.TWN_STATE_OWNOUT = true → s.on Fld.TWN_CFG_HOME = false →
    exec .ownershipConflict s = .next (settle
      ((((((s.setOn Fld.TWN_STATE_OWNIN true).setOwn false).setTstate 4).modTwn (fun t => { t with handover := none })).faultEvent Pg.TWN
        Flt.TWIN_OWNERSHIP 0).twinRefresh))) ∧
  (∀ s : State, s.Up 2 → s.ens Pg.TWN = true → s.on Fld.TWN_STATE_OWNOUT = true → s.on Fld.TWN_CFG_HOME = true →
    exec .ownershipConflict s = .next (settle (s.setOn Fld.TWN_STATE_OWNIN true))) ∧
  (∀ s : State, s.Up 9 → s.mayHandOver = true → exec .handoverRequest s = .next (settle s.announce)) ∧
  (∀ (s : State) (o : Origin), s.Accepts o Reg.TWN_CMD 1 →
    (s.mayHandOver = true → exec (.handoverCommand o) s = .next (settle s.announce)) ∧
    (s.mayHandOver = false → exec (.handoverCommand o) s = .next (settle (s.irq Pg.TWN Irq.TWN_CMDREJ)))) ∧
  (∀ s : State, s.announce =
    (let h := (ratRound ((s.nowNat : Rat) + 4 * s.tsUnits * 5 / 2)).toNat
     ((s.modTwn (fun t => { t with handover := some (h, true, false) })).setTstate 5).sendTwin 3 (beBytes 1 1 ++ beBytes 8 h))) ∧
  (∀ (s : State) (h : Instant), s.Up 9 → s.ens Pg.TWN = true → s.tstate = 4 →
    exec (.handoverAnnouncement h) s = .next (settle
      (((s.modTwn (fun t => { t with handover := some (h.toNat, false, true) })).setTstate 5).sendTwin 3 (beBytes 1 2 ++ beBytes 8 h.toNat)))) ∧
  (∀ (s : State) (h : Nat) (a : Bool), s.Up 2 → s.twn.handover = some (h, true, a) →
    (exec (.handoverInstant true) s = .next (settle
      (let b := ((((s.outputsLow.setOn Fld.TWN_STATE_OWNIN true).setOwn false).setTstate 4).wr64 Reg.TWN_LASTH h).chmNote .all 9
       let c := b.modTwn (fun t => { t with handover := none })
       ((c.bump Fld.TWN_CNT_HANDOVERS).irq Pg.TWN Irq.TWN_HANDOVER).twinRefresh))) ∧
    exec (.handoverInstant false) s = .next (settle
      (((s.outputsLow.modTwn (fun t => { t with handover := none })).setTstate 3).faultEvent Pg.TWN Flt.TWIN_HANDOVER 0)) ∧
    (a = false → exec .handoverAckTimeout s = .next (settle
      (((s.modTwn (fun t => { t with handover := none })).setTstate 3).faultEvent Pg.TWN Flt.TWIN_HANDOVER 0)))) ∧
  (∀ (s : State) (h : Nat) (a b : Bool), s.Up 2 → s.twn.handover = some (h, false, a) →
    exec (.handoverInstant b) s = .next (settle
      ((((s.becomeOwner h).setOn Fld.TWN_STATE_OWNIN false).bump Fld.TWN_CNT_HANDOVERS).irq Pg.TWN Irq.TWN_HANDOVER))) ∧
  (∀ s : State, s.Up 2 → s.ens Pg.TWN = true → s.on Fld.TWN_CFG_REVERT = true → s.on Fld.TWN_CFG_HOME = true → s.tstate = 4 →
    s.on Fld.TWN_STATE_ELIG = true → 60 ≤ s.rd Reg.TWN_HOTIME →
    exec .revertDue s = .next (settle ((s.irq Pg.TWN Irq.TWN_REVERT_DUE).sendTwin 3 (beBytes 1 0))))

/-- What the twins exchange while the unit is on (R591 to R595, R602, R626): a Toll leaves every 100 ms, with configuration
CRC and healthy seconds brought up to date, and an arriving one renews the partner; three missed ones lose it; a SAMPLE of
this instant is compared and tracked by the module that does not own; a MIRROR write is applied, one refused with NOT_READY
kept; a lasting CRC difference raises TWIN_CONFIG; STATE records are sent by the owner and taken by the other for its next
update; relayed reports reach the owner; LOG records are stored as forwarded. Where the rules leave an order or a value
open, it rests on the model's choices (log 17). -/
def Obligations.TwinFramesComplete : Prop :=
  (∀ s : State, s.Up 9 → s.ens Pg.TWN = true →
    exec .tollSend s = .next (settle
      (let a := (s.wr Reg.TWN_CFGCRC s.configCrc).twinRefresh
       let b := if a.rd Reg.TWN_CFGCRC = a.rd Reg.TWN_PCFGCRC then a.latchFault Pg.TWN Flt.TWIN_CONFIG else a
       let c := if b.allHealthy then
           (if b.twn.ticks ≥ 9 then (b.bumpBy (whole Reg.TWN_HOTIME) 1).modTwn (fun t => { t with ticks := 0 })
            else b.modTwn (fun t => { t with ticks := t.ticks + 1 }))
         else (b.wr Reg.TWN_HOTIME 0).modTwn (fun t => { t with ticks := 0 })
       let d := c.modTwn (fun t => { t with tseq := (t.tseq + 1) % 2 ^ 32 })
       let body := beBytes 4 d.twn.tseq ++ beBytes 1 (d.get Fld.TWN_CFG_HOME + 2 * d.svc.role) ++ beBytes 1 d.tstate ++
         beBytes 1 d.svc.state.code ++ beBytes 1 0 ++ beBytes 4 (d.rd Reg.TWN_HEALTH) ++ beBytes 4 (d.rd Reg.TWN_CFGCRC) ++
         beBytes 2 (min 65535 (d.rd Reg.TWN_HOTIME)) ++ beBytes 2 (d.get Fld.FLT_NSTAND_ACTIVE) ++ beBytes 4 d.activeVersion
       (((d.sendTwin 1 body).bump Fld.TWN_TOLLCNT_SENT).surrender).revertAgain s.revertNow))) ∧
  (∀ (s : State) (m : TollMsg), s.Up 9 → s.ens Pg.TWN = true →
    exec (.toll m) s = .next (settle
      (let missed := match s.twn.partner with
         | some p => (m.tseq.toNat + 2 ^ 32 - p.tseq.toNat - 1) % 2 ^ 32
         | none => 0
       let hadCmp := (s.twn.partner.map (fun p => bitOf p.health.toNat 9)).getD true
       let a := (s.bumpBy Fld.TWN_TOLLCNT_MISSED (if missed < 2 ^ 31 then missed else 0)).modTwn (fun t => { t with partner := some m })
       let b := (a.wr Reg.TWN_PHEALTH m.health.toNat).wr Reg.TWN_PCFGCRC m.cfgcrc.toNat
       let c := (if b.get Fld.TWN_STATE_PSTATE = 3 then b else b.put Fld.TWN_STATE_PSTATE 1).latchFault Pg.TWN Flt.TWIN_PARTNER_LOST
       let duty := m.role == 1
       let d := (if duty && !c.on Fld.TWN_STATE_OWNOUT && !c.twn.armed then c.setOn Fld.TWN_STATE_OWNIN true else c).setPelig
         (m.tstate.toNat == 4 && m.health.toNat % 2 ^ 13 == 0x1FFF)
       let e := if d.tstate = 1 then d.setTstate 3 else if d.tstate = 6 && duty then d.setTstate 2 else d
       let f := if duty && !e.on Fld.TWN_STATE_OWNOUT then e.follow m.sstate.toNat else e
       let g := if f.on Fld.TWN_STATE_OWNOUT then f.partnerCmp hadCmp (bitOf m.health.toNat 9) else f
       ((g.twinRefresh).surrender).mirrorAgain))) ∧
  (∀ s : State, s.Up 2 → s.ens Pg.TWN = true → s.get Fld.TWN_STATE_PSTATE = 1 →
    exec .partnerLost s = .next (settle
      (let a := ((s.put Fld.TWN_STATE_PSTATE 2).setPelig false).irq Pg.TWN Irq.TWN_PARTNER_LOST
       ((if a.tstate = 3 then a.setTstate 1 else a).fault Pg.TWN Flt.TWIN_PARTNER_LOST 0).twinRefresh))) ∧
  (∀ (s : State) (m : SampleMsg), s.Up 9 → s.ens Pg.TWN = true → s.on Fld.TWN_STATE_OWNOUT = false → m.instant.toNat = s.lpe.sampleAt →
    s.lpe.sampleOpen = false →
    exec (.twinSample m) s = .next (settle
      (let a := s.lockCarrier m
       let n := max 1 (a.get Fld.TWN_CMP_CMPN)
       let differs := a.shadowDiffers m
       let b := a.modTwn (fun t => { t with bad := if differs then t.bad + 1 else 0, good := if differs then 0 else t.good + 1 })
       let c := if differs && b.twn.bad == n then
           ((((b.setHealthBit 9 false).bump Fld.TWN_CNT_MISMATCH).irq Pg.TWN Irq.TWN_MISMATCH).fault Pg.TWN Flt.TWIN_MISMATCH 0).startSelfTest
         else if !differs && b.twn.good == n && !bitOf (b.rd Reg.TWN_HEALTH) 9 then
           (b.setHealthBit 9 true).endInstance Pg.TWN Flt.TWIN_MISMATCH 0
         else b
       (c.track m).twinRefresh))) ∧
  (∀ (s : State) (a : Addr) (v : Word), s.Up 9 → s.ens Pg.TWN = true → s.laneState 4 = 3 →
    (s.Accepts .twin a.toNat v.toNat → exec (.mirror a v) s = .next (settle (s.busWrite .twin a.toNat v.toNat).2)) ∧
    (s.writeVerdict .twin a.toNat v.toNat = 0xA → exec (.mirror a v) s = .next (settle
      ((s.busWrite .twin a.toNat v.toNat).2.modTwn (fun t => { t with refused := t.refused ++ [(a.toNat, v)] }))))) ∧
  (∀ s : State, s.Up 2 → s.ens Pg.TWN = true → s.rd Reg.TWN_CFGCRC ≠ s.rd Reg.TWN_PCFGCRC →
    exec .configMismatchTimer s = .next (settle (s.fault Pg.TWN Flt.TWIN_CONFIG 0))) ∧
  (∀ (s : State) (cells : List (Fin 3072 × List Word)), s.Up 9 → s.ens Pg.TWN = true → s.on Fld.TWN_STATE_OWNOUT = false →
    exec (.state cells) s = .next (settle
      { s with est := { s.est with incoming := s.est.incoming ++ cells.map (fun c => (c.1.val, c.2)) } })) ∧
  (∀ s : State, s.Up 9 → s.ens Pg.TWN = true → s.on Fld.TWN_STATE_OWNOUT = true →
    exec .stateSendTimer s = .next (settle
      (s.each 77 (fun t k =>
        let l := (t.est.cells.drop (40 * k)).take 40
        if l = [] then t else
          t.sendTwin 5 (l.flatMap (fun (c : Nat × EstCell) => beBytes 2 c.1 ++ c.2.words.flatMap (fun w => beBytes 4 w.toNat))))))) ∧
  (∀ (s : State) (r : Fin 4) (f : RingFrame), s.Up 9 → s.ens Pg.TWN = true → s.on Fld.TWN_CFG_RINGSPLIT = true →
    s.on Fld.TWN_STATE_OWNOUT = true → s.ens (Pg.SR r.val) = true →
    exec (.relay r f) s = .next (settle (s.hear r.val true f))) ∧
  (∀ (s : State) (recs : List (List Byte)), s.Up 9 → s.ens Pg.TWN = true →
    exec (.log recs) s = .next (settle
      (s.modEvr (fun e => { e with
        forwarded := (recs.filterMap recOfBytes).foldl (fun (l : List Rec) c => insertRec { c with fwd := true } l) e.forwarded }))))

/-- Self-test, reset and power of the partner (R586, R597, R600, R601, R605): the self-test starts by its timer or by command
and ends with its verdict; PARTNER_RESET or a partner lost for KILL resets it while that is allowed, and the line returns;
POWER_CYCLE or a partner still lost cycles its power, which returns but for POWER_OFF; ADMIT lets a new partner in; CLEAR
forgets the resets; a command that is not allowed is rejected. Where the rules leave an order or a value open, it rests on
the model's choices (log 17). -/
def Obligations.PartnerComplete : Prop :=
  (∀ s : State, s.Up 2 → s.ens Pg.TWN = true → exec .selfTestTimer s = .next (settle
    ((s.modTwn (fun t => { t with testing := true })).surrender))) ∧
  (∀ (s : State) (ok : Bool), s.Up 2 → s.twn.testing = true → exec (.selfTestDone ok) s = .next (settle
    ((((s.setHealthBit 10 (ok && s.portsUp)).modTwn (fun t => { t with testing := false })).twinRefresh).surrender))) ∧
  (∀ (s : State) (o : Origin), s.Accepts o Reg.TWN_CMD 2 → s.ens Pg.TWN = true →
    exec (.selftest o) s = .next (settle (s.modTwn (fun t => { t with testing := true })).surrender)) ∧
  (∀ (s : State) (o : Origin), s.Accepts o Reg.TWN_CMD 3 →
    (s.mayReset = true → exec (.partnerReset o) s = .next (settle s.resetPartner)) ∧
    (s.mayReset = false → exec (.partnerReset o) s = .next (settle (s.irq Pg.TWN Irq.TWN_CMDREJ)))) ∧
  (∀ s : State, s.Up 2 → s.mayReset = true → s.get Fld.TWN_STATE_PSTATE = 2 → s.on Fld.TWN_STATE_OWNIN = true →
    exec .partnerKill s = .next (settle s.resetPartner)) ∧
  (∀ s : State, s.resetPartner =
    ((((s.modTwn (fun t => { t with
      resetOut := true
      resets := s.nowNat :: t.resets.filter (fun x => decide (s.nowNat ≤ x + 600000000000)) })).emit (.ball "PARTNER_RST_N" false)).bump
      Fld.TWN_CNT_RESETS).faultEvent Pg.TWN Flt.TWIN_PARTNER_RESET 0)) ∧
  (∀ s : State, s.twn.resetOut = true →
    exec .partnerResetEnd s = .next (settle ((s.modTwn (fun t => { t with resetOut := false })).emit (.ball "PARTNER_RST_N" true)))) ∧
  (∀ (s : State) (o : Origin), s.Accepts o Reg.TWN_CMD 4 → s.ens Pg.TWN = true → s.on Fld.TWN_CFG_PWREN = true →
    s.on Fld.TWN_STATE_OWNIN = false →
    exec (.powerCycle o) s = .next (settle
      (((s.modTwn (fun t => { t with powerOut := false })).emit (.ball "PARTNER_PWR_EN" false)).faultEvent Pg.TWN Flt.TWIN_PARTNER_POWER 0))) ∧
  (∀ s : State, s.Up 2 → s.ens Pg.TWN = true → s.on Fld.TWN_CFG_PWREN = true → s.get Fld.TWN_STATE_PSTATE = 2 → s.twn.resets ≠ [] →
    s.twn.powerOut = true →
    exec .powerCycleDue s = .next (settle
      (((s.modTwn (fun t => { t with powerOut := false })).emit (.ball "PARTNER_PWR_EN" false)).faultEvent Pg.TWN Flt.TWIN_PARTNER_POWER 0))) ∧
  (∀ s : State, s.Up 2 → s.twn.powerOut = false → s.get Fld.TWN_STATE_PSTATE ≠ 3 →
    exec .partnerPowerRestore s = .next (settle ((s.modTwn (fun t => { t with powerOut := true })).emit (.ball "PARTNER_PWR_EN" true)))) ∧
  (∀ (s : State) (o : Origin), s.Accepts o Reg.TWN_CMD 5 → s.ens Pg.TWN = true → s.on Fld.TWN_STATE_OWNIN = false →
    exec (.powerOff o) s = .next (settle
      (let a := (((s.modTwn (fun t => { t with powerOut := false })).emit (.ball "PARTNER_PWR_EN" false)).put Fld.TWN_STATE_PSTATE 3).setPelig
         false
       if a.tstate = 3 then a.setTstate 1 else a))) ∧
  (∀ (s : State) (o : Origin), s.Accepts o Reg.TWN_CMD 6 → s.ens Pg.TWN = true →
    exec (.twinAdmit o) s = .next (settle
      (let a := (s.modTwn (fun t => { t with powerOut := true })).emit (.ball "PARTNER_PWR_EN" true)
       if a.get Fld.TWN_STATE_PSTATE = 3 then a.put Fld.TWN_STATE_PSTATE 0 else a))) ∧
  (∀ (s : State) (o : Origin), s.Accepts o Reg.TWN_CMD 7 →
    exec (.twinClear o) s = .next (settle ((s.modTwn (fun t => { t with resets := [] })).put Fld.TWN_CNT_RESETS 0)))

/-- While SYS runs (R612 to R627): the oldest arriving record is stamped into the intake; the writer moves the oldest record
of the intake to the log, to the last-gasp area without hold-up, to the fallbacks while the medium is faulty or fails now,
and to the holding buffer while frozen; released records go first. FREEZE and RELEASE act and are audited, a freeze ends by
itself; the clears empty an area with their record, or are rejected while frozen or faulty; a media test that passes ends the
fault; the operating time is saved. Where the rules leave an order or a value open, it rests on the model's choices (log 18,
log 4). -/
def Obligations.RecorderComplete : Prop :=
  (∀ (s : State) (r : RawRec) (rest : List RawRec), s.Up 2 → s.evr.arriving = r :: rest →
    exec .recordIntake s = .next (settle (((s.modEvr (fun e => { e with arriving := rest })).takeRaw r).evrShow))) ∧
  (∀ (s : State) (r : RawRec),
    ((keptAlways r.type = true ∨ s.get Fld.EVR_CFG_MINSEV ≤ r.sev) → s.takeRaw r = (s.noteStamped r (s.stampOf r)).intakeRec (s.stampOf r)) ∧
    (keptAlways r.type = false → r.sev < s.get Fld.EVR_CFG_MINSEV → s.takeRaw r = s.bump Fld.EVR_CNT_BELOW)) ∧
  (∀ (s : State) (m : MediaResult) (c : Rec) (rest : List Rec), s.Up 2 → s.evr.intake = c :: rest →
    (let u := s.modEvr (fun e => { e with intake := rest })
     (s.on Fld.EVR_STAT_FROZEN = true → exec (.recordWrite m) s = .next (settle ((u.holdRec c).evrShow))) ∧
     (s.on Fld.EVR_STAT_FROZEN = false → s.evr.releasing = false →
       (s.on Fld.EVR_STAT_MEDIAFLT = true → exec (.recordWrite m) s = .next (settle ((u.faultyWrite c).evrShow))) ∧
       (s.on Fld.EVR_STAT_MEDIAFLT = false → s.hugood = false → exec (.recordWrite m) s = .next (settle
         ((u.modEvr (fun e => { e with lastGasp := trimRing 4096 (e.lastGasp ++ [{ c with lastGasp := true }]) })).evrShow))) ∧
       (s.on Fld.EVR_STAT_MEDIAFLT = false → s.hugood = true → m = .good → c.sev = 7 →
         exec (.recordWrite m) s = .next (settle (((u.appendReserve c).noteChain c).evrShow))) ∧
       (s.on Fld.EVR_STAT_MEDIAFLT = false → s.hugood = true → m = .good → c.sev ≠ 7 →
         exec (.recordWrite m) s = .next (settle (((u.appendMain c).noteChain c).evrShow))) ∧
       (s.on Fld.EVR_STAT_MEDIAFLT = false → s.hugood = true → m ≠ .good →
         exec (.recordWrite m) s = .next (settle (((u.mediumFails).faultyWrite c).evrShow)))))) ∧
  (∀ (s : State) (m : MediaResult) (c : Rec) (rest : List Rec), s.Up 2 → s.on Fld.EVR_STAT_FROZEN = false → s.evr.releasing = true →
    s.evr.holding = c :: rest →
    exec (.recordWrite m) s = .next (settle
      (((s.modEvr (fun e => { e with holding := rest, releasing := !rest.isEmpty })).writeOut c m).evrShow))) ∧
  (∀ (s : State) (o : Origin), s.Accepts o Reg.EVR_CMD 1 → s.on Fld.EVR_STAT_FROZEN = false →
    exec (.freeze o) s = .next (settle ((((s.flushArriving).beginFreeze o).evrShow).audit 0xC o Reg.EVR_CMD 0 1))) ∧
  (∀ (s : State) (o : Origin), s.Accepts o Reg.EVR_CMD 2 → s.on Fld.EVR_STAT_FROZEN = true →
    exec (.evrRelease o) s = .next (settle ((s.endFreeze o).audit 0xC o Reg.EVR_CMD 0 2))) ∧
  (∀ s : State, s.Up 2 → s.on Fld.EVR_STAT_FROZEN = true → exec .freezeTimeout s = .next (settle (s.endFreeze .firmware))) ∧
  (∀ (s : State) (o : Origin), s.on Fld.EVR_STAT_FROZEN = true →
    s.endFreeze o =
      (let a := s.flushArriving
       let held := a.evr.holding.foldl (fun (l : List Rec) c => insertRec c l) []
       let first := ((held.head?).map Rec.seq).getD 0
       let last := ((held.getLast?).map Rec.seq).getD 0
       let lost := a.get Fld.EVR_HOLD_DROP
       let raw := a.recorderRaw 2 3 o first last held.length
       let b := a.noteStamped raw (a.stampOf raw)
       let raw6 := b.recorderRaw 3 6 o first last lost
       let c := if lost = 0 then b else b.noteStamped raw6 (b.stampOf raw6)
       let d := c.modEvr (fun e => { e with
         holding := held ++ [a.stampOf raw] ++ (if lost = 0 then [] else [b.stampOf raw6])
         releasing := true
         marker := none })
       ((d.setOn Fld.EVR_STAT_FROZEN false).irq Pg.EVR Irq.EVR_RELEASED).evrShow)) ∧
  (∀ (s : State) (o : Origin), s.Accepts o Reg.EVR_CMD 3 →
    (s.clearBusy = true → exec (.clearMain o) s = .next (settle (s.irq Pg.EVR Irq.EVR_CMDREJ))) ∧
    (s.clearBusy = false → exec (.clearMain o) s = .next (settle
      (let recs := s.evr.main.flatMap Segment.recs
       let first := ((recs.map Rec.seq).head?).getD 0
       let last := ((recs.map Rec.seq).getLast?).getD 0
       let a := s.modEvr (fun e => { e with main := [] })
       let x := a.recordNow (a.recorderRaw 7 1 o first last recs.length)
       (((x.1.wr Reg.EVR_LASTCLR x.2).audit 0xC o Reg.EVR_CMD 0 3).irq Pg.EVR Irq.EVR_CLEARED).evrShow)))) ∧
  (∀ (s : State) (o : Origin), s.Accepts o Reg.EVR_CMD 4 →
    (s.clearBusy = true → exec (.clearReserve o) s = .next (settle (s.irq Pg.EVR Irq.EVR_CMDREJ))) ∧
    (s.clearBusy = false → exec (.clearReserve o) s = .next (settle
      (let recs := s.evr.reserve.flatMap Segment.recs
       let first := ((recs.map Rec.seq).head?).getD 0
       let last := ((recs.map Rec.seq).getLast?).getD 0
       let a := s.modEvr (fun e => { e with reserve := [] })
       let x := a.recordNow (a.recorderRaw 7 1 o first last recs.length)
       (((x.1.wr Reg.EVR_LASTCLR x.2).audit 0xC o Reg.EVR_CMD 0 4).irq Pg.EVR Irq.EVR_CLEARED).evrShow)))) ∧
  (∀ (s : State) (o : Origin), s.on Fld.EVR_STAT_MEDIAFLT = true →
    (let a := (s.setOn Fld.EVR_STAT_MEDIAFLT false).latchFault Pg.EVR Flt.LOG_MEDIA_FAULT
     let b := a.raiseRec (a.recorderRaw 2 5 .firmware 0 0 0)
     let t := ((b.copyBack (b.evr.lastGasp ++ b.evr.norRegion.flatMap Segment.recs)).setOn Fld.EVR_STAT_NORFB false).evrShow
     (s.Accepts o Reg.EVR_CMD 5 → exec (.mediaTest o true) s = .next (settle t)) ∧
     (s.Up 2 → exec (.mediaTestTimer true) s = .next (settle t)))) ∧
  (∀ (s : State) (o : Origin), s.Accepts o Reg.EVR_CMD 5 → exec (.mediaTest o false) s = .next (settle (s.mediumFails.evrShow))) ∧
  (∀ s : State, exec .optimeSave s = .next (settle (s.modEvr (fun e => { e with savedSec := s.opsec, savedSeq := s.rd Reg.EVR_SEQ }))))

/-- Served at their roles (R619, R621 to R623, R628): LOG_STATUS answers the recorder's words, LOG_READ the records of an
area from a cursor, LOG_FREEZE and LOG_RELEASE act as their commands, LOG_CLEAR clears an area at its role and answers the
first and last number that went, LOG_MARK writes a record of the text and answers its number; bad operands are answered as
such. Where the rules leave an order or a value open, it rests on the model's choices (log 18, log 21). -/
def Obligations.LogServicesComplete : Prop :=
  (∀ (s : State) (q : Req), s.Served q 0x200 0 →
    exec (.logStatus q) s = .next (settle
      (s.flushArriving.respond q 0x200 0 (beBytes 4 (s.flushArriving.statShown Pg.EVR) ++ s.flushArriving.logStatusBody.drop 4)))) ∧
  (∀ (s : State) (q : Req) (area minsev : Byte) (seq pcc : Word), s.Served q 0x201 0 →
    (∀ l, s.flushArriving.areaRecs area.toNat = some l → exec (.logRead q area minsev seq pcc) s = .next (settle
      (s.flushArriving.respond q 0x201 0 (logReadBody l minsev.toNat seq.toNat pcc.toNat)))) ∧
    (5 < area.toNat → exec (.logRead q area minsev seq pcc) s = .next (settle (s.flushArriving.respond q 0x201 0x15 [])))) ∧
  (∀ (s : State) (q : Req), s.Served q 0x202 1 →
    exec (.logFreeze q) s = .next (settle
      (((s.freezeLog q.origin).audit 0xC q.origin Reg.EVR_CMD 0 1).respond q 0x202 0 []))) ∧
  (∀ (s : State) (q : Req), s.Served q 0x203 1 →
    exec (.logRelease q) s = .next (settle
      (((s.endFreeze q.origin).audit 0xC q.origin Reg.EVR_CMD 0 2).respond q 0x203 0 []))) ∧
  (∀ (s : State) (q : Req) (area : Byte), area.toNat ≤ 1 → s.Served q 0x204 (if area = 1 then 3 else 1) →
    (s.clearBusy = true → exec (.logClear q area) s = .next (settle (s.respond q 0x204 7 []))) ∧
    (s.clearBusy = false → exec (.logClear q area) s = .next (settle
      (let x := s.clearArea q.origin (area.toNat == 1)
       x.1.respond q 0x204 0 (beBytes 4 x.2.1 ++ beBytes 4 x.2.2))))) ∧
  (∀ (s : State) (q : Req) (text : List Byte), s.Served q 0x205 0 → text ≠ [] → text.length ≤ 64 →
    exec (.logMark q text) s = .next (settle
      (let x := s.recordNow ⟨1, 9, Pg.EVR, 0, text ++ List.replicate ((4 - text.length % 4) % 4) 0, none⟩
       x.1.respond q 0x205 0 (beBytes 4 x.2)))) ∧
  (∀ (s : State) (q : Req) (text : List Byte), s.Served q 0x205 0 → (text = [] ∨ 64 < text.length) →
    exec (.logMark q text) s = .next (settle (s.respond q 0x205 5 [])))

/-- Sources, levels and starts (R633 to R646, R661): an asserting source holds every domain that its level reaches and drops
what they held; a released source lets the held domains go in order, as far as none is reached and their PLLs are locked; a
lock frees its domains; SOFTWARE takes the wider of its level and the fused one; a start restores the configuration, and
BOOTOK completes it; without BOOTOK, or unserved, the watchdog asserts; the reset commands clear the boot-failure record,
leave recovery at L1 and burn the fuse table, in recovery and once, or are rejected. Where the rules leave an order or a
value open, it rests on the model's choices (log 28). -/
def Obligations.ResetsComplete : Prop :=
  (∀ (s : State) (src : Fin 16), s.svc.state ≠ .transport → allowedLevels src.val ≠ [] → (src = 8 → s.twn.resetOut = false) →
    exec (.resetAssert src) s = .next (settle
      (let lvl := s.levelOf src.val
       let first := s.clk.asserted = 0 ∧ s.clk.held = []
       let fails := s.clk.startPending && s.domUp 10 && !excusedSource src.val
       let a := s.modClk (fun c => { c with
         asserted := putBit c.asserted src.val true
         causes := putBit (if first then 0 else c.causes) src.val true
         widest := min lvl (if first then 3 else c.widest)
         failTimes := if fails then s.opsec :: c.failTimes else c.failTimes
         failedStart := c.failedStart || fails
         startPending := c.startPending && !fails })
       let b := (if fails then a.wr Reg.AON_BOOTLOG s.opsec else a).dropLevel lvl
       let d := if src = 12 then b.dropLoop else b
       let e := d.modClk (fun c => { c with held := (List.range 11).filter (fun k =>
                                              c.held.contains k || (d.reachOf src.val).contains k) })
       let f := if src = 1 then (e.modClk (fun c => { c with dieLatch := false })).bump Fld.PWR_CNT_BROWNOUTS else e
       f.wr Reg.RST_NOW f.clk.asserted))) ∧
  (∀ (s : State) (src : Fin 16), bitOf s.clk.asserted src.val = true → (src = 10 → s.clk.dieLatch = false) →
    exec (.resetRelease src) s = .next (settle
      ((((s.modClk (fun c => { c with asserted := putBit c.asserted src.val false })).wr Reg.RST_NOW
        (putBit s.clk.asserted src.val false))).releaseNext 10))) ∧
  (∀ (s : State) (n d : Nat) (rest : List Nat), s.clk.held = d :: rest →
    ((s.reached d = true ∨ (∃ k, domainPll d = some k ∧ s.pllLocked k = false)) → s.releaseNext (n + 1) = s) ∧
    (s.reached d = false → (∀ k, domainPll d = some k → s.pllLocked k = true) →
      s.releaseNext (n + 1) = ((s.modClk (fun c => { c with held := rest })).domainStart d).releaseNext n)) ∧
  (∀ (s : State) (k : Fin 5), s.pllLocked k.val = false → s.reached (if k = 0 then 10 else 2) = false →
    exec (.pllLock k) s = .next (settle
      (let a := ((s.setPll k.val true).irq Pg.CLK Irq.CLK_RELOCK).modClk (fun c => { c with
         waitPll := c.waitPll.filter (fun d => !(pllDomains k.val).contains d) })
       let b := if a.clk.pwmHeld && k.val == 1 then a.fault Pg.CLK Flt.CLK_FAIL 2 else a
       let d := if k = 1 ∨ k = 2 ∨ k = 3 then b.endInstance Pg.CLK Flt.CLK_FAIL (1 + k.val) else b
       d.pwmLetGo.releaseNext 10))) ∧
  (∀ s : State, s.clk.startPending = true → s.domUp 10 = true →
    exec .configRestore s = .next (settle
      (((restoreOrder.filter (restoredBy (s.get Fld.RST_CAUSE_LEVEL))).foldl State.restorePage s).restoreLocks.nothingHeld.maybeReady))) ∧
  (∀ (s : State) (o : Origin) (v : Word), s.Accepts o Reg.RST_SWRST v.toNat →
    exec (.softwareReset o v) s = .next (settle
      ((s.modClk (fun c => { c with softLevel := min (v.toNat % 4) (s.get ⟨Reg.RST_FUSE, 12, 2⟩) })).resetAssert 6))) ∧
  (∀ (s : State) (o : Origin) (v : Word), s.Accepts o Reg.RST_BOOTOK v.toNat → v.toNat % 2 = 1 → s.clk.startPending = true →
    s.domUp 10 = true →
    exec (.bootOk o v) s = .next (settle
      (let a := (s.modClk (fun c => { c with startPending := false })).put Fld.RST_BOOT_FAILS 0
       let b := { a with svc := { a.svc with appPaused := false } }
       let svn := (b.bank b.activeIdx).svn
       let d := if b.get Fld.RST_BOOT_RECOVERY = 0 ∧ b.rd Reg.UPD_SVNMIN < svn then b.wr Reg.UPD_SVNMIN svn else b
       if d.on Fld.UPD_BANKS_TRIAL && !d.on Fld.RST_BOOT_RECOVERY then
         ((((d.setOn Fld.UPD_BANKS_TRIAL false).bump Fld.UPD_CNT_ACTIVATIONS).irq Pg.UPD Irq.UPD_ACTIVATED).dropLock).updShow
       else d))) ∧
  (∀ s : State, s.clk.held.contains 10 = false → s.on Fld.DBG_SESSION_HALTED = false →
    exec .appWatchdog s = .next (settle (s.resetAssert 4)) ∧
    (s.clk.startPending = true → exec .bootTimeout s = .next (settle (s.resetAssert 4)))) ∧
  (∀ (s : State) (o : Origin), s.Accepts o Reg.RST_CMD 1 →
    (s.svc.state = .recovery → exec (.recoveryExit o) s = .next (settle
      (((s.clearBoot.setOn Fld.RST_BOOT_RECOVERY false).modClk (fun c => { c with softLevel := 1 })).resetAssert 6))) ∧
    (s.svc.state ≠ .recovery → exec (.recoveryExit o) s = .next (settle (s.irq Pg.RST Irq.RST_CMDREJ)))) ∧
  (∀ (s : State) (o : Origin), s.Accepts o Reg.RST_CMD 2 →
    (s.svc.state = .recovery → s.on Fld.RST_FUSECFG_BURNT = false → s.fusesOk = true →
      exec (.fuseBurn o) s = .next (settle ((s.setOn Fld.RST_FUSECFG_BURNT true).modClk (fun c => { c with
        fuseNext := some (Nat.lor (s.rd Reg.RST_FUSEPRG) 0xFC000000, s.rd Reg.RST_BOOTPRG % 16) })))) ∧
    ((s.svc.state ≠ .recovery ∨ s.on Fld.RST_FUSECFG_BURNT = true ∨ s.fusesOk = false) →
      exec (.fuseBurn o) s = .next (settle (s.irq Pg.RST Irq.RST_CMDREJ)))) ∧
  (∀ (s : State) (o : Origin), s.Accepts o Reg.RST_CMD 3 →
    exec (.clearBoot o) s = .next (settle
      (((s.modClk (fun c => { c with failTimes := [], failedStart := false })).put Fld.RST_BOOT_FAILS 0).wr Reg.AON_BOOTLOG 0)))

/-- Loss and return of the reference and of a lock (R647 to R649): each loss is counted and shown, holds the PWM outputs low
and raises CLK_FAIL; the 1 ms count shows the deviation, declares the loss beyond 1000 ppm and ends it within. What the
supply, memory and temperature monitors do (R652 to R659): a warning is shown, counted and raised with a write-back, and ends
above its level; the hold-up's loss diverts the recorder and its return brings the records back; VIO's loss and return; a
scrub pass counts its corrections and marks the blocks it found bad; die temperature with 5 K of hysteresis; the thermal
latch; the transport write-back that fails and the end of transport mode. Where the rules leave an order or a value open, it
rests on the model's choices (log 28). -/
def Obligations.ClocksAndSuppliesComplete : Prop :=
  ((∀ s : State, s.on refOk = true →
    (let t := ((((s.setOn refOk false).bump Fld.CLK_CNT_REFLOSS).irq Pg.CLK Irq.CLK_REFLOSS).modClk (fun c => { c with
       refLost := true, pwmHeld := true })).fault Pg.CLK Flt.CLK_FAIL 0
     exec (.clockLoss .reference) s = .next (settle t))) ∧
  (∀ (s : State) (k : Fin 5), s.pllLocked k.val = true →
    exec (.clockLoss (.pll k)) s = .next (settle
      (let a := ((((s.setPll k.val false).bump Fld.CLK_CNT_UNLOCKS).put Fld.CLK_LAST_PLL k.val).irq Pg.CLK Irq.CLK_UNLOCK).modClk (fun c => { c with
         waitPll := c.waitPll ++ pllDomains k.val, pwmHeld := c.pwmHeld || k.val == 1 || k.val == 2 || k.val == 3 })
       if k.val = 2 ∨ k.val = 3 then a.fault Pg.CLK Flt.CLK_FAIL (1 + k.val) else a))) ∧
  (∀ (s : State) (ppm : BitVec 16),
    (let t := s.wr Reg.CLK_REFPPM ppm.toNat
     (1000 < (toSigned 16 ppm.toNat).natAbs → exec (.clockMonitor ppm) s = .next (settle t.refLoss)) ∧
     ((toSigned 16 ppm.toNat).natAbs ≤ 1000 → t.on refOk = true → exec (.clockMonitor ppm) s = .next (settle t)) ∧
     ((toSigned 16 ppm.toNat).natAbs ≤ 1000 → t.on refOk = false → exec (.clockMonitor ppm) s = .next (settle
       ((((t.setOn refOk true).modClk (fun c => { c with refLost := false })).endInstance Pg.CLK Flt.CLK_FAIL 0).pwmLetGo)))))) ∧
  ((∀ (s : State) (vmain : BitVec 16) (low : Bool),
    (let a := (s.put Fld.PWR_VMAIN_VMAIN vmain.toNat).setOn Fld.PWR_STAT_PFAIL low
     a.on Fld.PWR_STAT_WARN = false → (low = true ∨ vmain.toNat < a.get Fld.PWR_BO_WARN) →
     exec (.vmainWarning vmain low) s = .next (settle
       (let b := ((((a.setOn Fld.PWR_STAT_WARN true).bump Fld.PWR_CNT_WARNS).irq Pg.PWR Irq.PWR_WARN).fault Pg.PWR Flt.PWR_WARN 0
         (BitVec.ofNat 32 vmain.toNat)).startWriteback
        let c := if b.on Fld.FLT_STATE_STORM then b.endStorm else b
        if vmain.toNat < c.get Fld.PWR_BO_HUTHR then c.hugoodFall else c)))) ∧
  (∀ (s : State) (vmain : BitVec 16),
    (let a := (s.put Fld.PWR_VMAIN_VMAIN vmain.toNat).setOn Fld.PWR_STAT_PFAIL false
     a.on Fld.PWR_STAT_WARN = true → a.get Fld.PWR_BO_WARN < vmain.toNat →
     exec (.warningEnd vmain) s = .next (settle (((a.setOn Fld.PWR_STAT_WARN false).endInstance Pg.PWR Flt.PWR_WARN 0).hugoodRise)))) ∧
  (∀ s : State, s.hugood = true → exec .hugoodFall s = .next (settle
    (((s.writebackLow.setOn Fld.PWR_STAT_HUGOOD false).irq Pg.PWR Irq.PWR_HUFALL).evrShow))) ∧
  (∀ s : State, s.hugood = false → exec .hugoodRise s = .next (settle
    (((s.setOn Fld.PWR_STAT_HUGOOD true).irq Pg.PWR Irq.PWR_HURISE).gaspBack))) ∧
  (∀ (s : State) (vio : BitVec 16),
    (let a := s.put Fld.PWR_VMAIN_VIO vio.toNat
     (a.on Fld.PWR_STAT_VIOLOW = false → vio.toNat < 2950 → exec (.vioLow vio) s = .next (settle
       (((a.setOn Fld.PWR_STAT_VIOLOW true).irq Pg.PWR Irq.PWR_VIOLOW).fault Pg.PWR Flt.VIO_LOW 0 (BitVec.ofNat 32 vio.toNat)))) ∧
     (a.on Fld.PWR_STAT_VIOLOW = true → 3135 ≤ vio.toNat → vio.toNat ≤ 3465 → exec (.vioRestored vio) s = .next (settle
       ((a.setOn Fld.PWR_STAT_VIOLOW false).endInstance Pg.PWR Flt.VIO_LOW 0))))) ∧
  (∀ (s : State) (n : Nat) (bad : Word),
    (let a := s.bump Fld.AON_SCRUB_PASSES
     let b := if n = 0 then a else (a.bumpBy Fld.AON_SCRUB_CORR n).irq Pg.AON Irq.AON_CORR
     (bad = 0 → exec (.scrubPass n bad) s = .next (settle b)) ∧
     (bad ≠ 0 → exec (.scrubPass n bad) s = .next (settle
       (let d := (((b.wr Reg.AON_RETBAD (Nat.lor (b.rd Reg.AON_RETBAD) bad.toNat)).bumpBy Fld.AON_SCRUB_UNCORR
          (popCount 32 bad.toNat)).irq Pg.AON Irq.AON_UNCORR).modClk (fun c => { c with retDue := Nat.lor c.retDue bad.toNat })
        d.modTwn (fun t => { t with eccAt := some d.nowNat })))))) ∧
  (∀ (s : State) (t : BitVec 16) (die : BitVec 3),
    (let a := s.wr Reg.PWR_DIE (t.toNat + die.toNat * 65536)
     let w : Int := a.get Fld.PWR_THERM_WARN
     (a.on Fld.PWR_STAT_DIEWARN = false → w < t.toInt → exec (.dieTemperature t die) s = .next (settle
       (((a.setOn Fld.PWR_STAT_DIEWARN true).irq Pg.PWR Irq.PWR_DIEWARN).fault Pg.PWR Flt.DIE_WARN 0 (BitVec.ofNat 32 t.toNat)))) ∧
     (a.on Fld.PWR_STAT_DIEWARN = true → t.toInt ≤ w - 50 → exec (.dieTemperature t die) s = .next (settle
       ((a.setOn Fld.PWR_STAT_DIEWARN false).endInstance Pg.PWR Flt.DIE_WARN 0))) ∧
     (a.on Fld.PWR_STAT_DIEWARN = false → t.toInt ≤ w → exec (.dieTemperature t die) s = .next (settle a)) ∧
     (a.on Fld.PWR_STAT_DIEWARN = true → w - 50 < t.toInt → exec (.dieTemperature t die) s = .next (settle a)))) ∧
  (∀ s : State, s.svc.state ≠ .transport → s.clk.dieLatch = false →
    exec .dieThermal s = .next (settle
      (((s.assertSource 10).modClk (fun c => { c with dieLatch := true })).bump Fld.AON_THERM_L0))) ∧
  (∀ s : State, s.clk.transportDue = true → exec .transportFail s = .next (settle
    ((s.modClk (fun c => { c with transportDue := false })).faultEvent Pg.RST Flt.TRANSPORT_FAIL 0))) ∧
  (∀ s : State, s.svc.state = .transport → exec .transportExit s = .next (settle ((s.setSvc .unconfigured).assertSource 0))))

/-- Served at their roles while UPD is enabled and the lock is free or the sender's (R674 to R678, R681): UPD_STATUS answers
the state; UPD_CLAIM takes and UPD_RELEASE gives back the lock; UPD_WRITE stages a block; UPD_VERIFY starts the verification;
UPD_ACTIVATE acts at once or arms its instant; UPD_DISCARD empties the staging bank; UPD_OFFER and UPD_FETCH serve the
neighbour; UPD_LOAD puts one image of the staged bundle into its block in recovery. A lock held by another answers BUSY.
UPD_CMD acts as its services while UPD is enabled and the lock allows it, DISARM takes back an armed activation, and a
refused command sets CMDREJ (R684); the verdict stages the bundle and offers it on, or rejects it with its reason (R676,
R677); the lock ends after 60 s (R674); at the activation instant the banks change places in TRIAL and the cluster is reset
(R679, R680); a fetched piece is staged and the next one asked for (R677). Where the rules leave an order or a value open, it
rests on the model's choices (log 19, log 6). -/
def Obligations.UpdateComplete : Prop :=
  ((∀ (s : State) (q : Req), s.Served q 0x300 0 →
    exec (.updStatus q) s = .next (settle ((s.lockUsed q.origin).respond q 0x300 0 s.updStatusBody))) ∧
  (∀ (s : State) (q : Req), s.ens Pg.UPD = true → s.lockedOut q.origin = false →
    (let u := s.lockUsed q.origin
     (s.Served q 0x301 1 → exec (.updClaim q) s = .next (settle ((u.takeLock q.origin).respond q 0x301 0 []))) ∧
     (s.Served q 0x302 1 → exec (.updRelease q) s = .next (settle (u.dropLock.respond q 0x302 0 []))) ∧
     (∀ (off : Word) (data : List Byte), s.Served q 0x303 1 → data.length ≤ 1008 → off.toNat + data.length ≤ 0x1800000 →
       (u.bank u.stagingIdx).verified = false → u.get Fld.UPD_STAT_PHASE ≠ 2 →
       exec (.updWrite q off data) s = .next (settle
         (let t := u.takeLock q.origin
          let w := t.modBank t.stagingIdx (fun b => { b with via := match q.origin with
                                                                     | .fabric _ => some q.lane.val
                                                                     | _ => none })
          (w.stagePiece off.toNat data).respond q 0x303 0 []))) ∧
     (s.Served q 0x304 1 → exec (.updVerify q) s = .next (settle
       ((if (u.bank u.stagingIdx).verified then u else u.beginVerify).respond q 0x304 0 []))) ∧
     (∀ (acts : BitVec 48) (actn : Word), s.Served q 0x305 1 → u.activateBar = 0 →
       exec (.updActivate q true acts actn) s = .next (settle (((u.takeLock q.origin).activateDue).respond q 0x305 0 [])) ∧
       (actn.toNat ≤ 999999999 →
         (let ahead : Int := ((acts.toNat * 1000000000 + actn.toNat : Nat) : Int) - (u.plantNs : Int)
          1000000000 ≤ ahead → ahead ≤ 86400000000000 →
          exec (.updActivate q false acts actn) s = .next (settle
            (let t := (u.takeLock q.origin).modUpd (fun x => { x with armed := true })
             ((t.wr64 Reg.UPD_ACTT ((u.nowNat + ahead.toNat) % 2 ^ 64)).setPhase 4).respond q 0x305 0 []))))) ∧
     (s.Served q 0x306 1 → exec (.updDiscard q) s = .next (settle (u.emptyStaging.respond q 0x306 0 []))))) ∧
  (∀ (s : State) (q : Req), s.ens Pg.UPD = true → s.lockedOut q.origin = true →
    (s.Served q 0x301 1 → exec (.updClaim q) s = .next (settle (s.respond q 0x301 7 (beBytes 1 7)))) ∧
    (∀ (off : Word) (data : List Byte), s.Served q 0x303 1 →
      exec (.updWrite q off data) s = .next (settle (s.respond q 0x303 7 (beBytes 1 7))))) ∧
  (∀ (s : State) (q : Req) (bid : BitVec 64) (version svn len : Word), s.Reached q 0x307 → s.appUp = true → s.ens Pg.UPD = true →
    s.fromNeighbour q.origin q.lane.val = true →
    ((s.bankWith bid.toNat).isSome = true → exec (.updOffer q bid version svn len) s = .next (settle
      ((s.lockUsed q.origin).respond q 0x307 0 (beBytes 1 1)))) ∧
    ((s.bankWith bid.toNat).isSome = false → s.lockedOut q.origin = false → (s.bank s.stagingIdx).verified = false →
      len.toNat ≤ 0x1800000 →
      exec (.updOffer q bid version svn len) s = .next (settle
        (let a := s.emptyStaging.takeLock q.origin
         let b := a.modBank a.stagingIdx (fun x => { x with via := some q.lane.val })
         ((b.modUpd (fun x => { x with fetch := some (q.lane.val, bid.toNat, 0, len.toNat) })).fetchNext).respond q 0x307 0
           (beBytes 1 0))))) ∧
  (∀ (s : State) (q : Req) (bid : BitVec 64) (off : Word) (len : BitVec 16) (b : BankState), s.Reached q 0x308 → s.appUp = true →
    s.ens Pg.UPD = true → s.fromNeighbour q.origin q.lane.val = true → s.bankWith bid.toNat = some b → len.toNat ≤ 1008 →
    off.toNat + len.toNat ≤ b.length →
    exec (.updFetch q bid off len) s = .next (settle
      (s.respond q 0x308 0 (beBytes 4 off.toNat ++ beBytes 2 len.toNat ++ beBytes 2 0 ++ b.bytesAt off.toNat len.toNat)))) ∧
  (∀ (s : State) (q : Req) (kind : Byte) (im m : Nat × Nat × Nat × Nat × Nat), s.Served q 0x309 1 → s.ens Pg.UPD = true →
    s.lockedOut q.origin = false →
    (let u := s.lockUsed q.origin
     u.svc.state = .recovery → (u.bank u.stagingIdx).verified = true → (u.bank u.stagingIdx).image kind.toNat = some im →
     (u.bank u.activeIdx).image 1 = some m → u.imageFits m.1 im = true →
     ((kind = 4 ∨ kind = 5 ∨ kind = 6) → exec (.updLoad q kind) s = .next (settle
       (let same := ((u.bank u.activeIdx).image kind.toNat).map (fun x => x.2.2.2.2) = some im.2.2.2.2
        let r := u.imageRuns kind.toNat im
        let w := if same then r else r.modUpd (fun x => { x with mixed := kind.toNat :: x.mixed })
        w.mixedShow.respond q 0x309 0 []))) ∧
     (kind = 3 → exec (.updLoad q kind) s = .next (settle (((u.safetyImage im).mixedShow).respond q 0x309 0 [])))))) ∧
  ((∀ (s : State) (o : Origin), s.ens Pg.UPD = true → s.lockedOut o = false →
    (let u := s.lockUsed o
     (s.Accepts o Reg.UPD_CMD 1 → exec (.claim o) s = .next (settle (u.takeLock o))) ∧
     (s.Accepts o Reg.UPD_CMD 2 → exec (.updateRelease o) s = .next (settle u.dropLock)) ∧
     (s.Accepts o Reg.UPD_CMD 3 → exec (.verify o) s = .next (settle (if (u.bank u.stagingIdx).verified then u else u.beginVerify))) ∧
     (s.Accepts o Reg.UPD_CMD 4 → u.activateBar = 0 → exec (.activate o) s = .next (settle ((u.takeLock o).activateDue))) ∧
     (s.Accepts o Reg.UPD_CMD 5 → exec (.discard o) s = .next (settle u.emptyStaging)) ∧
     (s.Accepts o Reg.UPD_CMD 6 → s.upd.armed = true →
       exec (.disarm o) s = .next (settle (((u.modUpd (fun x => { x with armed := false })).wr64 Reg.UPD_ACTT 0).updShow))))) ∧
  (∀ (s : State) (o : Origin), s.ens Pg.UPD = false →
    (s.Accepts o Reg.UPD_CMD 1 → exec (.claim o) s = .next (settle (s.irq Pg.UPD Irq.UPD_CMDREJ))) ∧
    (s.Accepts o Reg.UPD_CMD 4 → exec (.activate o) s = .next (settle (s.irq Pg.UPD Irq.UPD_CMDREJ)))) ∧
  (∀ s : State, s.Up 2 → s.get Fld.UPD_STAT_PHASE = 2 → s.appUp = true →
    (let t := (s.put Fld.UPD_RESULT_REASON s.verdict).put Fld.UPD_RESULT_KIND (if s.verdict = 3 then (s.bank s.stagingIdx).badKind else 0)
     exec (.verificationDone ()) s = .next (settle
       (if s.verdict ≠ 0 then
          ((((t.modUpd (fun u => { u with fetch := none })).bump Fld.UPD_CNT_REJECTS).irq Pg.UPD Irq.UPD_REJECTED).faultEvent Pg.UPD
            Flt.UPD_REJECTED 0 (BitVec.ofNat 32 s.verdict)).setPhase 0
        else
          let k := t.stagingIdx
          let b := t.bank k
          let n := 0x20 + 80 * b.numAt 0x14 4
          let w := t.modBank k (fun b => { b with
            verified := true, version := b.numAt 8 4, svn := b.numAt 0xC 4, length := b.numAt 0x10 4, images := b.manifest
            bid := sha384Head (b.bytesAt 0 n) })
          let x := w.modUpd (fun u => { u with fetch := none })
          (((x.put ⟨Reg.UPD_PROG, 16, 16⟩ (w.upd.received / 1024)).updShow).irq Pg.UPD Irq.UPD_STAGED).ripple)))) ∧
  (∀ s : State, s.Up 2 → s.on Fld.UPD_LOCK_HELD = true → s.upd.lastAt + 60000000000 ≤ s.nowNat →
    exec .updateLockTimeout s = .next (settle ((s.wr Reg.UPD_LOCK 0).irq Pg.UPD Irq.UPD_LOCK))) ∧
  (∀ s : State, s.Up 2 → s.upd.armed = true → s.appUp = true →
    toSigned 64 ((s.nowNat + 2 ^ 64 - s.rd64 Reg.UPD_ACTT) % 2 ^ 64) ≥ 0 →
    (s.twinGate = .now → exec .activation s = .next (settle s.activateNow)) ∧
    (s.twinGate = .handOver → exec .activation s = .next (settle
      ((((s.modUpd (fun u => { u with armed := true })).wr64 Reg.UPD_ACTT s.nowNat).setPhase 4).handoverAsked))) ∧
    (s.twinGate = .no → exec .activation s = .next (settle
      (((s.modUpd (fun u => { u with armed := false })).put Fld.UPD_RESULT_REASON 0xA).updShow)))) ∧
  (∀ s : State,
    (let a := (((s.modUpd (fun u => { u with armed := false })).setPhase 5).wr64 Reg.UPD_ACTT 0).wr Reg.TWN_HOTIME 0
     let b := (a.put Fld.UPD_BANKS_ACTIVE a.stagingIdx).setOn Fld.UPD_BANKS_TRIAL true
     (b.svc.state = .recovery → s.activateNow = (b.setOn Fld.RST_BOOT_RECOVERY false).softAt 1) ∧
     (b.svc.state ≠ .recovery → s.activateNow =
       { b.resetAssert 11 with svc := { (b.resetAssert 11).svc with appPaused := true } }))) ∧
  (∀ (s : State) (lane : Fin 5) (off : Word) (data : List Byte) (bid len : Nat), s.Up 9 →
    s.upd.fetch = some (lane.val, bid, off.toNat, len) → data ≠ [] → s.appUp = true →
    exec (.fetchResponse lane off data) s = .next (settle
      (let a := s.modUpd (fun u => { u with fetch := some (lane.val, bid, off.toNat + data.length, len), lastAt := s.nowNat })
       let b := a.stagePiece off.toNat data
       if b.get Fld.UPD_STAT_PHASE = 2 then b else b.fetchNext))))

/-- The margin ledger (R686 to R696, R698): a measurement gives its margin, that of the reference from the module's own
comparisons and that of a converter from its calibrations, a comparator's offset also a trim that waits; an evaluation
re-plans, evaluates every margin and stores the page, on its schedule and on EVALUATE; CTK_REPLACED starts a pair's
baseline, or is rejected for a pair that does not exist; a waiting trim is applied while the comparator's LEVEL is 0; the
refresh passes count what they rewrite; the services answer the ledger and a margin's history. Where the rules leave an
order or a value open, it rests on the model's choices (log 20). -/
def Obligations.AgeingComplete : Prop :=
  (∀ (s : State) (i : Fin 42) (v : Word), s.Up 2 →
    (6 ≤ i.val → i.val < 18 → exec (.marginMeasurement i v) s = .next (settle
      (let k := ratRound (ratClamp (-8) 8 (-(ratRound (ratOf v) : Int)))
       let t := s.modAge (fun a => { a with
         measured := smInsert i.val (k : Rat) a.measured
         trims := (i.val - 6, k) :: a.trims.filter (fun t => t.1 != i.val - 6) })
       t.put (Fld.AGE_MVAL_M i.val) (t.marginOf i.val)))) ∧
    (i.val = 1 → exec (.marginMeasurement i v) s = .next (settle
      (let t := if s.age.refCount = 0 then s else s.modAge (fun a => { a with
         measured := smInsert 1 (a.refSum / (a.refCount : Rat)) a.measured, refSum := 0, refCount := 0 })
       t.put (Fld.AGE_MVAL_M 1) (t.marginOf 1)))) ∧
    (2 ≤ i.val → i.val < 6 → exec (.marginMeasurement i v) s = .next (settle (s.put (Fld.AGE_MVAL_M i.val) (s.marginOf i.val)))) ∧
    ((i.val = 0 ∨ 18 ≤ i.val) → exec (.marginMeasurement i v) s = .next (settle
      (let t := s.modAge (fun a => { a with measured := smInsert i.val (ratOf v) a.measured })
       t.put (Fld.AGE_MVAL_M i.val) (t.marginOf i.val))))) ∧
  (∀ (s : State) (i : Nat),
    (s.notEvaluated i = false → s.marginOf i =
      (ratRound (ratClamp 0 10000 (10000 * (1 - ratAbs (s.measuredOf i) / s.marginLimit i)))).toNat) ∧
    (s.notEvaluated i = true → s.marginOf i = s.get (Fld.AGE_MVAL_M i))) ∧
  (∀ (s : State) (o : Origin), s.appUp = true →
    (let p := s.planVcore.planRef.planIntervals
     let t := ((p.each 42 State.evaluateMargin).wr Reg.AGE_EVAL p.opsec).ageShow
     let u := (t.irq Pg.AGE Irq.AGE_EVALUATED).keepWords ageWords
     (s.Up 2 → exec .marginEvaluation s = .next (settle u)) ∧
     (s.Accepts o Reg.AGE_CMD 1 → exec (.evaluate o) s = .next (settle u)))) ∧
  (∀ (s : State) (o : Origin) (pair : BitVec 4), s.Accepts o Reg.AGE_CMD (2 + 256 * pair.toNat) →
    (pair.toNat ≤ 9 → exec (.ctkReplaced o pair) s = .next (settle
      (let a := s.modAge (fun a => { a with opsBase := smInsert pair.toNat (s.rd (Reg.CTK_POPS pair.toNat)) a.opsBase })
       { a with ctk := { a.ctk with breakDuty := a.ctk.breakDuty.filter (fun x => x.1 != pair.toNat) } }.auditCommand o Reg.AGE_CMD 0
         (2 + 256 * pair.toNat)))) ∧
    (9 < pair.toNat → exec (.ctkReplaced o pair) s = .next (settle (s.irq Pg.AGE Irq.AGE_CMDREJ)))) ∧
  (∀ (s : State) (n : Fin 12) (k : Int), s.Up 2 → s.age.trims.find? (fun t => t.1 == n.val) = some (n.val, k) →
    (s.on (Fld.PRT_CMPSTAT_LEVEL n.val) = true → exec (.comparatorTrim n) s = .next (settle s)) ∧
    (s.on (Fld.PRT_CMPSTAT_LEVEL n.val) = false → exec (.comparatorTrim n) s = .next (settle
      (let f : RegField := ⟨Reg.AGE_CMPTRIM (n.val / 4), 8 * (n.val % 4), 8⟩
       let a := s.modAge (fun a => { a with trims := a.trims.filter (fun t => t.1 != n.val) })
       let b := a.put f (ofSigned 8 k)
       (if a.get f = ofSigned 8 k then b else b.irq Pg.AGE Irq.AGE_ACTION).keepWords ageWords)))) ∧
  (∀ (s : State) (l : List RefreshBlock), s.Up 2 → s.appUp = true →
    (s.hugood = true → exec (.mramRefresh l) s = .next (settle
      (let n := (l.filter (fun b => decide (4 ≤ b.corrected))).length
       let a := s.modAge (fun a => { a with measured := smInsert 19 (worstCount l : Rat) a.measured })
       let b := a.put (Fld.AGE_MVAL_M 19) (a.marginOf 19)
       if n = 0 then b else ((b.bumpBy ⟨Reg.AGE_REFRESH, 0, 16⟩ n).irq Pg.AGE Irq.AGE_REFRESH).keepWords ageWords))) ∧
    exec (.norRefresh l) s = .next (settle
      (let a := s.modAge (fun a => { a with measured := smInsert 21 (worstCount l : Rat) a.measured })
       (l.foldl State.norBlock (a.put (Fld.AGE_MVAL_M 21) (a.marginOf 21))).keepWords ageWords))) ∧
  (∀ (s : State) (q : Req) (i : Byte) (day : BitVec 16),
    (s.Served q 0x500 0 → exec (.ageStatus q) s = .next (settle (s.respond q 0x500 0 s.ageStatusBody))) ∧
    (s.Served q 0x501 0 → i.toNat ≤ 41 → exec (.ageHistory q i day) s = .next (settle
      (s.respond q 0x501 0 (s.ageHistoryBody i.toNat day.toNat)))) ∧
    (s.Served q 0x501 0 → 41 < i.toNat → exec (.ageHistory q i day) s = .next (settle (s.respond q 0x501 0x15 []))))

/-- The test access port (R716 to R718): IDCODE, SAMPLE/PRELOAD and BYPASS stand in the instruction register at any time;
EXTEST, CLAMP and HIGHZ act only under their conditions and are blocked otherwise, or when a condition ceases; test-logic-
reset returns to functional mode, and TRST_N also ends the session. The authenticated debug session (R719 to R721, R724):
AUTH answers a challenge and a signature that verifies opens the session, a failed one counts and the third within 10 min
locks out; DBGACC performs one access and shifts out the capture of the one before, and does nothing outside a session; the
session ends by END_SESSION and after 600 s, resuming the cores and releasing its reset; HALT_APP, RESUME_APP, ASSERT_RESET
and RELEASE_RESET act for DEBUG in a session and for a Sahric Service session while EN is 1, and are rejected otherwise.
Where the rules leave an order or a value open, it rests on the model's choices (log 29, log 6). -/
def Obligations.TapAndDebugComplete : Prop :=
  ((∀ s : State, exec .idcode s = .next (settle ((s.setIr 1).emit (.tap 0x1307256B)))) ∧
  (∀ (s : State) (p : List Bool), exec (.samplePreload p) s = .next (settle ((s.setIr 2).modDbg (fun d => { d with pattern := driveCells p })))) ∧
  (∀ (s : State) (c : Byte), exec (.bypass c) s = .next (settle (s.setIr c.toNat))) ∧
  (∀ (s : State) (code : Nat),
    s.setIr code = (s.tapActive.put Fld.DBG_JTAG_IR code).modDbg (fun d => { d with acting := false })) ∧
  (∀ s : State,
    ((s.setIr 3).boundaryOk = true → exec .extest s = .next (settle ((s.setIr 3).modDbg (fun d => { d with acting := true })))) ∧
    ((s.setIr 3).boundaryOk = false → exec .extest s = .next (settle ((s.setIr 3).blocked))) ∧
    ((s.setIr 4).boundaryOk = true → exec .clamp s = .next (settle ((s.setIr 4).modDbg (fun d => { d with acting := true })))) ∧
    ((s.setIr 4).boundaryOk = false → exec .clamp s = .next (settle ((s.setIr 4).blocked))) ∧
    ((s.setIr 5).boundaryOk = true → exec .highz s = .next (settle ((s.setIr 5).modDbg (fun d => { d with acting := true })))) ∧
    ((s.setIr 5).boundaryOk = false → exec .highz s = .next (settle ((s.setIr 5).blocked)))) ∧
  (∀ s : State, s.dbg.acting = true → s.boundaryOk = false → exec .jtagConditionLoss s = .next (settle
    (((s.modDbg (fun d => { d with acting := false })).setOn Fld.DBG_JTAG_BLOCKED true).irq Pg.DBG Irq.DBG_BLOCKED))) ∧
  (∀ s : State, exec (.testLogicReset false) s = .next (settle ((s.setIr 1).setOn Fld.DBG_JTAG_BLOCKED false)) ∧
    exec (.testLogicReset true) s = .next (settle (((s.setIr 1).setOn Fld.DBG_JTAG_BLOCKED false).endDebug)))) ∧
  ((∀ s : State,
    (let a := s.setIr 0x10
     a.on Fld.DBG_JTAG_LOCKOUT = false →
     exec (.auth .challenge) s = .next (settle
       (let x := a.drawNonce
        let y := x.2.drawNonce
        let t := y.2.modDbg (fun d => { d with challenge := some (x.1, y.1, y.2.nowNat) })
        t.emit (.tap (ofBe (t.challengeBytes x.1 y.1))))))) ∧
  (∀ (s : State) (x y : BitVec 384),
    (let a := s.setIr 0x10
     let b := a.modDbg (fun d => { d with challenge := none })
     a.on Fld.DBG_JTAG_LOCKOUT = false →
     exec (.auth (.signature x y)) s = .next (settle
       (if a.authGood x y then
          ((((b.setOn Fld.DBG_SESSION_ACTIVE true).bump Fld.DBG_AUTHCNT_OK).irq Pg.DBG Irq.DBG_OPEN).modDbg (fun d => { d with
            counter := (d.counter + 1) % 2 ^ 32 })).auditDebug 0 1
        else
          let c := ((b.bump Fld.DBG_AUTHCNT_FAIL).irq Pg.DBG Irq.DBG_AUTHFAIL).auditDebug 0 0
          let times := a.nowNat :: c.dbg.failures.filter (fun t => decide (a.nowNat < t + 600000000000))
          let d := c.modDbg (fun d => { d with failures := times })
          if 3 ≤ times.length then d.setOn Fld.DBG_JTAG_LOCKOUT true else d)))) ∧
  (∀ (s : State) (x : AuthStep), (s.setIr 0x10).on Fld.DBG_JTAG_LOCKOUT = true → exec (.auth x) s = .next (settle (s.setIr 0x10))) ∧
  (∀ s : State, exec .authLockoutEnd s = .next (settle
    ((s.setOn Fld.DBG_JTAG_LOCKOUT false).modDbg (fun d => { d with failures := [] })))) ∧
  (∀ (s : State) (w : Bool) (a : Addr) (v : Word), (s.setIr 0x11).on Fld.DBG_SESSION_ACTIVE = false →
    exec (.dbgacc w a v) s = .next (settle (s.setIr 0x11))) ∧
  (∀ (s : State) (a : Addr) (v : Word),
    (let u := (s.setIr 0x11).emit (.tap (s.setIr 0x11).dbg.capture)
     (s.setIr 0x11).on Fld.DBG_SESSION_ACTIVE = true →
     exec (.dbgacc true a v) s = .next (settle
       (let x := u.busWriteBy false hostDoor .debug a.toNat v.toNat
        x.2.modDbg (fun d => { d with capture := if x.1 = 0 then 0 else x.2.rd (Reg.erra ((ownerPage a.toNat).getD Pg.DEV)) }))) ∧
     exec (.dbgacc false a v) s = .next (settle
       (let x := u.busRead .debug a.toNat
        x.2.2.modDbg (fun d => { d with capture := if x.1 = 0 then x.2.1.toNat else
                                                   x.2.2.rd (Reg.erra ((ownerPage a.toNat).getD Pg.DEV)) }))))) ∧
  (∀ s : State, s.on Fld.DBG_SESSION_ACTIVE = true →
    s.endDebug = ((((s.setOn Fld.DBG_SESSION_ACTIVE false).setOn Fld.DBG_SESSION_HALTED false).auditDebug 1 0).irq Pg.DBG
      Irq.DBG_END).dropDebugReset) ∧
  (∀ s : State, 600 ≤ s.debugIdle → exec .debugSessionTimeout s = .next (settle s.endDebug)) ∧
  (∀ (s : State) (o : Origin), ((o = .debug ∧ s.on Fld.DBG_SESSION_ACTIVE = true) ∨
      ((o = .host ∨ ∃ n, o = .fabric n) ∧ s.ens Pg.DBG = true ∧ s.roleOf o = some 3)) →
    (s.Accepts o Reg.DBG_CMD 1 → exec (.haltApp o) s = .next (settle (s.setOn Fld.DBG_SESSION_HALTED true))) ∧
    (s.Accepts o Reg.DBG_CMD 2 → exec (.resumeApp o) s = .next (settle (s.setOn Fld.DBG_SESSION_HALTED false))) ∧
    (s.Accepts o Reg.DBG_CMD 3 → exec (.assertReset o) s = .next (settle
      (let t := (s.setOn Fld.DBG_SESSION_RSTHELD true).resetAssert 7
       if t.on Fld.DBG_SESSION_RSTHELD then t else t.resetRelease 7))) ∧
    (s.Accepts o Reg.DBG_CMD 4 → exec (.releaseReset o) s = .next (settle
      (if s.on Fld.DBG_SESSION_RSTHELD then (s.setOn Fld.DBG_SESSION_RSTHELD false).resetRelease 7 else s))) ∧
    (s.Accepts o Reg.DBG_CMD 5 → exec (.endSession o) s = .next (settle s.endDebug))) ∧
  (∀ (s : State) (o : Origin), ((o = .debug ∧ s.on Fld.DBG_SESSION_ACTIVE = false) ∨
      (o ≠ .debug ∧ (s.ens Pg.DBG = false ∨ s.roleOf o ≠ some 3))) →
    (s.Accepts o Reg.DBG_CMD 1 → exec (.haltApp o) s = .next (settle (s.irq Pg.DBG Irq.DBG_CMDREJ))) ∧
    (s.Accepts o Reg.DBG_CMD 2 → exec (.resumeApp o) s = .next (settle (s.irq Pg.DBG Irq.DBG_CMDREJ))) ∧
    (s.Accepts o Reg.DBG_CMD 3 → exec (.assertReset o) s = .next (settle (s.irq Pg.DBG Irq.DBG_CMDREJ))) ∧
    (s.Accepts o Reg.DBG_CMD 4 → exec (.releaseReset o) s = .next (settle (s.irq Pg.DBG Irq.DBG_CMDREJ))) ∧
    (s.Accepts o Reg.DBG_CMD 5 → exec (.endSession o) s = .next (settle (s.irq Pg.DBG Irq.DBG_CMDREJ)))))
end

