-- ==== Sys2Proof/Laws/State.lean ====
section
/-! SUPPORT. What each basic update of the state leaves as it was: one lemma per field per update, all true by unfolding. -/

namespace Sys2Proof.Machine

variable (s : State)

/-! ### setWord -/

@[simp] theorem setWord_pending (a : Nat) (w : Word) : (s.setWord a w).pending = s.pending := rfl
@[simp] theorem setWord_free (a : Nat) (w : Word) : (s.setWord a w).free = s.free := rfl
@[simp] theorem setWord_outbox (a : Nat) (w : Word) : (s.setWord a w).outbox = s.outbox := rfl
@[simp] theorem setWord_acc (a : Nat) (w : Word) : (s.setWord a w).acc = s.acc := rfl
@[simp] theorem setWord_svc (a : Nat) (w : Word) : (s.setWord a w).svc = s.svc := rfl
@[simp] theorem setWord_pins (a : Nat) (w : Word) : (s.setWord a w).pins = s.pins := rfl
@[simp] theorem setWord_evr (a : Nat) (w : Word) : (s.setWord a w).evr = s.evr := rfl
@[simp] theorem setWord_flt (a : Nat) (w : Word) : (s.setWord a w).flt = s.flt := rfl
@[simp] theorem setWord_ctk (a : Nat) (w : Word) : (s.setWord a w).ctk = s.ctk := rfl
@[simp] theorem setWord_prt (a : Nat) (w : Word) : (s.setWord a w).prt = s.prt := rfl
@[simp] theorem setWord_iso (a : Nat) (w : Word) : (s.setWord a w).iso = s.iso := rfl
@[simp] theorem setWord_pwm (a : Nat) (w : Word) : (s.setWord a w).pwm = s.pwm := rfl
@[simp] theorem setWord_adc (a : Nat) (w : Word) : (s.setWord a w).adc = s.adc := rfl
@[simp] theorem setWord_lpe (a : Nat) (w : Word) : (s.setWord a w).lpe = s.lpe := rfl
@[simp] theorem setWord_tim (a : Nat) (w : Word) : (s.setWord a w).tim = s.tim := rfl
@[simp] theorem setWord_clk (a : Nat) (w : Word) : (s.setWord a w).clk = s.clk := rfl
@[simp] theorem setWord_rings (a : Nat) (w : Word) : (s.setWord a w).rings = s.rings := rfl
@[simp] theorem setWord_tel (a : Nat) (w : Word) : (s.setWord a w).tel = s.tel := rfl
@[simp] theorem setWord_chm (a : Nat) (w : Word) : (s.setWord a w).chm = s.chm := rfl
@[simp] theorem setWord_est (a : Nat) (w : Word) : (s.setWord a w).est = s.est := rfl
@[simp] theorem setWord_bal (a : Nat) (w : Word) : (s.setWord a w).bal = s.bal := rfl
@[simp] theorem setWord_thm (a : Nat) (w : Word) : (s.setWord a w).thm = s.thm := rfl
@[simp] theorem setWord_isl (a : Nat) (w : Word) : (s.setWord a w).isl = s.isl := rfl
@[simp] theorem setWord_scl (a : Nat) (w : Word) : (s.setWord a w).scl = s.scl := rfl
@[simp] theorem setWord_fab (a : Nat) (w : Word) : (s.setWord a w).fab = s.fab := rfl
@[simp] theorem setWord_dsp (a : Nat) (w : Word) : (s.setWord a w).dsp = s.dsp := rfl
@[simp] theorem setWord_can (a : Nat) (w : Word) : (s.setWord a w).can = s.can := rfl
@[simp] theorem setWord_twn (a : Nat) (w : Word) : (s.setWord a w).twn = s.twn := rfl
@[simp] theorem setWord_upd (a : Nat) (w : Word) : (s.setWord a w).upd = s.upd := rfl
@[simp] theorem setWord_age (a : Nat) (w : Word) : (s.setWord a w).age = s.age := rfl
@[simp] theorem setWord_dbg (a : Nat) (w : Word) : (s.setWord a w).dbg = s.dbg := rfl

/-! ### emit -/

@[simp] theorem emit_regs (o : Out) : (s.emit o).regs = s.regs := rfl
@[simp] theorem emit_pending (o : Out) : (s.emit o).pending = s.pending := rfl
@[simp] theorem emit_free (o : Out) : (s.emit o).free = s.free := rfl
@[simp] theorem emit_acc (o : Out) : (s.emit o).acc = s.acc := rfl
@[simp] theorem emit_svc (o : Out) : (s.emit o).svc = s.svc := rfl
@[simp] theorem emit_pins (o : Out) : (s.emit o).pins = s.pins := rfl
@[simp] theorem emit_evr (o : Out) : (s.emit o).evr = s.evr := rfl
@[simp] theorem emit_flt (o : Out) : (s.emit o).flt = s.flt := rfl
@[simp] theorem emit_ctk (o : Out) : (s.emit o).ctk = s.ctk := rfl
@[simp] theorem emit_prt (o : Out) : (s.emit o).prt = s.prt := rfl
@[simp] theorem emit_iso (o : Out) : (s.emit o).iso = s.iso := rfl
@[simp] theorem emit_pwm (o : Out) : (s.emit o).pwm = s.pwm := rfl
@[simp] theorem emit_adc (o : Out) : (s.emit o).adc = s.adc := rfl
@[simp] theorem emit_lpe (o : Out) : (s.emit o).lpe = s.lpe := rfl
@[simp] theorem emit_tim (o : Out) : (s.emit o).tim = s.tim := rfl
@[simp] theorem emit_clk (o : Out) : (s.emit o).clk = s.clk := rfl
@[simp] theorem emit_rings (o : Out) : (s.emit o).rings = s.rings := rfl
@[simp] theorem emit_tel (o : Out) : (s.emit o).tel = s.tel := rfl
@[simp] theorem emit_chm (o : Out) : (s.emit o).chm = s.chm := rfl
@[simp] theorem emit_est (o : Out) : (s.emit o).est = s.est := rfl
@[simp] theorem emit_bal (o : Out) : (s.emit o).bal = s.bal := rfl
@[simp] theorem emit_thm (o : Out) : (s.emit o).thm = s.thm := rfl
@[simp] theorem emit_isl (o : Out) : (s.emit o).isl = s.isl := rfl
@[simp] theorem emit_scl (o : Out) : (s.emit o).scl = s.scl := rfl
@[simp] theorem emit_fab (o : Out) : (s.emit o).fab = s.fab := rfl
@[simp] theorem emit_dsp (o : Out) : (s.emit o).dsp = s.dsp := rfl
@[simp] theorem emit_can (o : Out) : (s.emit o).can = s.can := rfl
@[simp] theorem emit_twn (o : Out) : (s.emit o).twn = s.twn := rfl
@[simp] theorem emit_upd (o : Out) : (s.emit o).upd = s.upd := rfl
@[simp] theorem emit_age (o : Out) : (s.emit o).age = s.age := rfl
@[simp] theorem emit_dbg (o : Out) : (s.emit o).dbg = s.dbg := rfl

/-! ### raiseRec -/

@[simp] theorem raiseRec_regs (r : RawRec) : (s.raiseRec r).regs = s.regs := rfl
@[simp] theorem raiseRec_pending (r : RawRec) : (s.raiseRec r).pending = s.pending := rfl
@[simp] theorem raiseRec_free (r : RawRec) : (s.raiseRec r).free = s.free := rfl
@[simp] theorem raiseRec_outbox (r : RawRec) : (s.raiseRec r).outbox = s.outbox := rfl
@[simp] theorem raiseRec_acc (r : RawRec) : (s.raiseRec r).acc = s.acc := rfl
@[simp] theorem raiseRec_svc (r : RawRec) : (s.raiseRec r).svc = s.svc := rfl
@[simp] theorem raiseRec_pins (r : RawRec) : (s.raiseRec r).pins = s.pins := rfl
@[simp] theorem raiseRec_flt (r : RawRec) : (s.raiseRec r).flt = s.flt := rfl
@[simp] theorem raiseRec_ctk (r : RawRec) : (s.raiseRec r).ctk = s.ctk := rfl
@[simp] theorem raiseRec_prt (r : RawRec) : (s.raiseRec r).prt = s.prt := rfl
@[simp] theorem raiseRec_iso (r : RawRec) : (s.raiseRec r).iso = s.iso := rfl
@[simp] theorem raiseRec_pwm (r : RawRec) : (s.raiseRec r).pwm = s.pwm := rfl
@[simp] theorem raiseRec_adc (r : RawRec) : (s.raiseRec r).adc = s.adc := rfl
@[simp] theorem raiseRec_lpe (r : RawRec) : (s.raiseRec r).lpe = s.lpe := rfl
@[simp] theorem raiseRec_tim (r : RawRec) : (s.raiseRec r).tim = s.tim := rfl
@[simp] theorem raiseRec_clk (r : RawRec) : (s.raiseRec r).clk = s.clk := rfl
@[simp] theorem raiseRec_rings (r : RawRec) : (s.raiseRec r).rings = s.rings := rfl
@[simp] theorem raiseRec_tel (r : RawRec) : (s.raiseRec r).tel = s.tel := rfl
@[simp] theorem raiseRec_chm (r : RawRec) : (s.raiseRec r).chm = s.chm := rfl
@[simp] theorem raiseRec_est (r : RawRec) : (s.raiseRec r).est = s.est := rfl
@[simp] theorem raiseRec_bal (r : RawRec) : (s.raiseRec r).bal = s.bal := rfl
@[simp] theorem raiseRec_thm (r : RawRec) : (s.raiseRec r).thm = s.thm := rfl
@[simp] theorem raiseRec_isl (r : RawRec) : (s.raiseRec r).isl = s.isl := rfl
@[simp] theorem raiseRec_scl (r : RawRec) : (s.raiseRec r).scl = s.scl := rfl
@[simp] theorem raiseRec_fab (r : RawRec) : (s.raiseRec r).fab = s.fab := rfl
@[simp] theorem raiseRec_dsp (r : RawRec) : (s.raiseRec r).dsp = s.dsp := rfl
@[simp] theorem raiseRec_can (r : RawRec) : (s.raiseRec r).can = s.can := rfl
@[simp] theorem raiseRec_twn (r : RawRec) : (s.raiseRec r).twn = s.twn := rfl
@[simp] theorem raiseRec_upd (r : RawRec) : (s.raiseRec r).upd = s.upd := rfl
@[simp] theorem raiseRec_age (r : RawRec) : (s.raiseRec r).age = s.age := rfl
@[simp] theorem raiseRec_dbg (r : RawRec) : (s.raiseRec r).dbg = s.dbg := rfl

/-! ### remember -/

@[simp] theorem remember_regs (a v : Nat) : (s.remember a v).regs = s.regs := rfl
@[simp] theorem remember_pending (a v : Nat) : (s.remember a v).pending = s.pending := rfl
@[simp] theorem remember_free (a v : Nat) : (s.remember a v).free = s.free := rfl
@[simp] theorem remember_outbox (a v : Nat) : (s.remember a v).outbox = s.outbox := rfl
@[simp] theorem remember_svc (a v : Nat) : (s.remember a v).svc = s.svc := rfl
@[simp] theorem remember_pins (a v : Nat) : (s.remember a v).pins = s.pins := rfl
@[simp] theorem remember_evr (a v : Nat) : (s.remember a v).evr = s.evr := rfl
@[simp] theorem remember_flt (a v : Nat) : (s.remember a v).flt = s.flt := rfl
@[simp] theorem remember_ctk (a v : Nat) : (s.remember a v).ctk = s.ctk := rfl
@[simp] theorem remember_prt (a v : Nat) : (s.remember a v).prt = s.prt := rfl
@[simp] theorem remember_iso (a v : Nat) : (s.remember a v).iso = s.iso := rfl
@[simp] theorem remember_pwm (a v : Nat) : (s.remember a v).pwm = s.pwm := rfl
@[simp] theorem remember_adc (a v : Nat) : (s.remember a v).adc = s.adc := rfl
@[simp] theorem remember_lpe (a v : Nat) : (s.remember a v).lpe = s.lpe := rfl
@[simp] theorem remember_tim (a v : Nat) : (s.remember a v).tim = s.tim := rfl
@[simp] theorem remember_clk (a v : Nat) : (s.remember a v).clk = s.clk := rfl
@[simp] theorem remember_rings (a v : Nat) : (s.remember a v).rings = s.rings := rfl
@[simp] theorem remember_tel (a v : Nat) : (s.remember a v).tel = s.tel := rfl
@[simp] theorem remember_chm (a v : Nat) : (s.remember a v).chm = s.chm := rfl
@[simp] theorem remember_est (a v : Nat) : (s.remember a v).est = s.est := rfl
@[simp] theorem remember_bal (a v : Nat) : (s.remember a v).bal = s.bal := rfl
@[simp] theorem remember_thm (a v : Nat) : (s.remember a v).thm = s.thm := rfl
@[simp] theorem remember_isl (a v : Nat) : (s.remember a v).isl = s.isl := rfl
@[simp] theorem remember_scl (a v : Nat) : (s.remember a v).scl = s.scl := rfl
@[simp] theorem remember_fab (a v : Nat) : (s.remember a v).fab = s.fab := rfl
@[simp] theorem remember_dsp (a v : Nat) : (s.remember a v).dsp = s.dsp := rfl
@[simp] theorem remember_can (a v : Nat) : (s.remember a v).can = s.can := rfl
@[simp] theorem remember_twn (a v : Nat) : (s.remember a v).twn = s.twn := rfl
@[simp] theorem remember_upd (a v : Nat) : (s.remember a v).upd = s.upd := rfl
@[simp] theorem remember_age (a v : Nat) : (s.remember a v).age = s.age := rfl
@[simp] theorem remember_dbg (a v : Nat) : (s.remember a v).dbg = s.dbg := rfl

/-! ### setSvc -/

@[simp] theorem setSvc_regs (x : ServiceState) : (s.setSvc x).regs = s.regs := rfl
@[simp] theorem setSvc_pending (x : ServiceState) : (s.setSvc x).pending = s.pending := rfl
@[simp] theorem setSvc_free (x : ServiceState) : (s.setSvc x).free = s.free := rfl
@[simp] theorem setSvc_outbox (x : ServiceState) : (s.setSvc x).outbox = s.outbox := rfl
@[simp] theorem setSvc_acc (x : ServiceState) : (s.setSvc x).acc = s.acc := rfl
@[simp] theorem setSvc_pins (x : ServiceState) : (s.setSvc x).pins = s.pins := rfl
@[simp] theorem setSvc_evr (x : ServiceState) : (s.setSvc x).evr = s.evr := rfl
@[simp] theorem setSvc_flt (x : ServiceState) : (s.setSvc x).flt = s.flt := rfl
@[simp] theorem setSvc_ctk (x : ServiceState) : (s.setSvc x).ctk = s.ctk := rfl
@[simp] theorem setSvc_prt (x : ServiceState) : (s.setSvc x).prt = s.prt := rfl
@[simp] theorem setSvc_iso (x : ServiceState) : (s.setSvc x).iso = s.iso := rfl
@[simp] theorem setSvc_pwm (x : ServiceState) : (s.setSvc x).pwm = s.pwm := rfl
@[simp] theorem setSvc_adc (x : ServiceState) : (s.setSvc x).adc = s.adc := rfl
@[simp] theorem setSvc_lpe (x : ServiceState) : (s.setSvc x).lpe = s.lpe := rfl
@[simp] theorem setSvc_tim (x : ServiceState) : (s.setSvc x).tim = s.tim := rfl
@[simp] theorem setSvc_clk (x : ServiceState) : (s.setSvc x).clk = s.clk := rfl
@[simp] theorem setSvc_rings (x : ServiceState) : (s.setSvc x).rings = s.rings := rfl
@[simp] theorem setSvc_tel (x : ServiceState) : (s.setSvc x).tel = s.tel := rfl
@[simp] theorem setSvc_chm (x : ServiceState) : (s.setSvc x).chm = s.chm := rfl
@[simp] theorem setSvc_est (x : ServiceState) : (s.setSvc x).est = s.est := rfl
@[simp] theorem setSvc_bal (x : ServiceState) : (s.setSvc x).bal = s.bal := rfl
@[simp] theorem setSvc_thm (x : ServiceState) : (s.setSvc x).thm = s.thm := rfl
@[simp] theorem setSvc_isl (x : ServiceState) : (s.setSvc x).isl = s.isl := rfl
@[simp] theorem setSvc_scl (x : ServiceState) : (s.setSvc x).scl = s.scl := rfl
@[simp] theorem setSvc_fab (x : ServiceState) : (s.setSvc x).fab = s.fab := rfl
@[simp] theorem setSvc_dsp (x : ServiceState) : (s.setSvc x).dsp = s.dsp := rfl
@[simp] theorem setSvc_can (x : ServiceState) : (s.setSvc x).can = s.can := rfl
@[simp] theorem setSvc_twn (x : ServiceState) : (s.setSvc x).twn = s.twn := rfl
@[simp] theorem setSvc_upd (x : ServiceState) : (s.setSvc x).upd = s.upd := rfl
@[simp] theorem setSvc_age (x : ServiceState) : (s.setSvc x).age = s.age := rfl
@[simp] theorem setSvc_dbg (x : ServiceState) : (s.setSvc x).dbg = s.dbg := rfl

/-! ### settle -/

@[simp] theorem settle_regs : (settle s).regs = s.regs := rfl
@[simp] theorem settle_pending : (settle s).pending = s.pending := rfl
@[simp] theorem settle_free : (settle s).free = s.free := rfl
@[simp] theorem settle_outbox : (settle s).outbox = s.outbox := rfl
@[simp] theorem settle_acc : (settle s).acc = s.acc := rfl
@[simp] theorem settle_svc : (settle s).svc = s.svc := rfl
@[simp] theorem settle_evr : (settle s).evr = s.evr := rfl
@[simp] theorem settle_flt : (settle s).flt = s.flt := rfl
@[simp] theorem settle_ctk : (settle s).ctk = s.ctk := rfl
@[simp] theorem settle_prt : (settle s).prt = s.prt := rfl
@[simp] theorem settle_iso : (settle s).iso = s.iso := rfl
@[simp] theorem settle_pwm : (settle s).pwm = s.pwm := rfl
@[simp] theorem settle_adc : (settle s).adc = s.adc := rfl
@[simp] theorem settle_lpe : (settle s).lpe = s.lpe := rfl
@[simp] theorem settle_tim : (settle s).tim = s.tim := rfl
@[simp] theorem settle_clk : (settle s).clk = s.clk := rfl
@[simp] theorem settle_rings : (settle s).rings = s.rings := rfl
@[simp] theorem settle_tel : (settle s).tel = s.tel := rfl
@[simp] theorem settle_chm : (settle s).chm = s.chm := rfl
@[simp] theorem settle_est : (settle s).est = s.est := rfl
@[simp] theorem settle_bal : (settle s).bal = s.bal := rfl
@[simp] theorem settle_thm : (settle s).thm = s.thm := rfl
@[simp] theorem settle_isl : (settle s).isl = s.isl := rfl
@[simp] theorem settle_scl : (settle s).scl = s.scl := rfl
@[simp] theorem settle_fab : (settle s).fab = s.fab := rfl
@[simp] theorem settle_dsp : (settle s).dsp = s.dsp := rfl
@[simp] theorem settle_can : (settle s).can = s.can := rfl
@[simp] theorem settle_twn : (settle s).twn = s.twn := rfl
@[simp] theorem settle_upd : (settle s).upd = s.upd := rfl
@[simp] theorem settle_age : (settle s).age = s.age := rfl
@[simp] theorem settle_dbg : (settle s).dbg = s.dbg := rfl

end Sys2Proof.Machine
end

