-- ==== Sys2Proof/Laws/Table.lean ====
section
/-! SUPPORT. Laws of the sparse tables: what a read gives after a write, and that every operation keeps the canonical form. -/

namespace Sys2Proof.Machine

variable {α : Type}

/-- The entry just inserted is the one found. -/
@[simp] theorem smGet_smInsert_same (d : Nat → α) (k : Nat) (v : α) (m : List (Nat × α)) : smGet d (smInsert k v m) k = v := by
  induction m with
  | nil => simp [smInsert, smGet]
  | cons e t ih =>
    obtain ⟨a, w⟩ := e
    simp only [smInsert]
    split_ifs with h1 h2 <;> simp_all [smGet]

/-- An insertion leaves every other entry. -/
theorem smGet_smInsert_ne (d : Nat → α) {k j : Nat} (h : k ≠ j) (v : α) (m : List (Nat × α)) :
    smGet d (smInsert k v m) j = smGet d m j := by
  induction m with
  | nil => simp [smInsert, smGet, h]
  | cons e t ih =>
    obtain ⟨a, w⟩ := e
    simp only [smInsert]
    split_ifs with h1 h2 <;> simp_all [smGet]

/-- A removed entry reads as its default. -/
@[simp] theorem smGet_smErase_same (d : Nat → α) (k : Nat) (m : List (Nat × α)) : smGet d (smErase k m) k = d k := by
  induction m with
  | nil => simp [smErase, smGet]
  | cons e t ih =>
    obtain ⟨a, w⟩ := e
    simp only [smErase]
    split_ifs with h <;> simp_all [smGet]

/-- A removal leaves every other entry. -/
theorem smGet_smErase_ne (d : Nat → α) {k j : Nat} (h : k ≠ j) (m : List (Nat × α)) : smGet d (smErase k m) j = smGet d m j := by
  induction m with
  | nil => simp [smErase]
  | cons e t ih =>
    obtain ⟨a, w⟩ := e
    simp only [smErase]
    split_ifs with h1 <;> simp_all [smGet]

variable [DecidableEq α]

/-- Read after write. -/
@[simp] theorem smGet_smSet_same (d : Nat → α) (m : List (Nat × α)) (k : Nat) (v : α) : smGet d (smSet d m k v) k = v := by
  unfold smSet
  split_ifs with h <;> simp [h]

/-- A write leaves every other entry. -/
theorem smGet_smSet_ne (d : Nat → α) (m : List (Nat × α)) {k j : Nat} (h : k ≠ j) (v : α) :
    smGet d (smSet d m k v) j = smGet d m j := by
  unfold smSet
  split_ifs
  · exact smGet_smErase_ne d h m
  · exact smGet_smInsert_ne d h v m

/-! ### The canonical form -/

omit [DecidableEq α] in
/-- An entry of a table after an insertion is the new one or an old one. -/
theorem mem_smInsert {k : Nat} {v : α} {m : List (Nat × α)} {e : Nat × α} (h : e ∈ smInsert k v m) : e = (k, v) ∨ e ∈ m := by
  induction m with
  | nil => simpa [smInsert] using h
  | cons x t ih =>
    obtain ⟨a, w⟩ := x
    simp only [smInsert] at h
    split_ifs at h with h1 h2
    · simpa using h
    · rcases List.mem_cons.mp h with h | h
      · exact .inl h
      · exact .inr (by simp [h])
    · rcases List.mem_cons.mp h with h | h
      · exact .inr (by simp [h])
      · rcases ih h with h | h
        · exact .inl h
        · exact .inr (by simp [h])

omit [DecidableEq α] in
/-- An insertion keeps the keys rising. -/
theorem pairwise_smInsert {k : Nat} {v : α} {m : List (Nat × α)} (h : m.Pairwise (fun a b => a.1 < b.1)) :
    (smInsert k v m).Pairwise (fun a b => a.1 < b.1) := by
  induction m with
  | nil => simp [smInsert]
  | cons x t ih =>
    obtain ⟨a, w⟩ := x
    rw [List.pairwise_cons] at h
    simp only [smInsert]
    split_ifs with h1 h2
    · refine List.pairwise_cons.mpr ⟨fun e he => ?_, List.pairwise_cons.mpr h⟩
      rcases List.mem_cons.mp he with rfl | he
      · exact h1
      · exact lt_trans h1 (h.1 e he)
    · subst h2
      exact List.pairwise_cons.mpr ⟨h.1, h.2⟩
    · refine List.pairwise_cons.mpr ⟨fun e he => ?_, ih h.2⟩
      rcases mem_smInsert he with rfl | he
      · exact lt_of_le_of_ne (Nat.le_of_not_lt h1) h2
      · exact h.1 e he

omit [DecidableEq α] in
/-- A table after a removal is a part of it. -/
theorem smErase_sublist (k : Nat) (m : List (Nat × α)) : (smErase k m).Sublist m := by
  induction m with
  | nil => simp [smErase]
  | cons x t ih =>
    obtain ⟨a, w⟩ := x
    simp only [smErase]
    split_ifs
    · exact ih.cons _
    · exact ih.cons_cons _

/-- A write keeps the canonical form. -/
theorem smWf_smSet {d : Nat → α} {m : List (Nat × α)} (h : smWf d m = true) (k : Nat) (v : α) : smWf d (smSet d m k v) = true := by
  simp only [smWf, Bool.and_eq_true, decide_eq_true_eq, List.all_eq_true] at h ⊢
  unfold smSet
  split_ifs with hv
  · exact ⟨h.1.sublist (smErase_sublist k m), fun e he => h.2 e ((smErase_sublist k m).subset he)⟩
  · refine ⟨pairwise_smInsert h.1, fun e he => ?_⟩
    rcases mem_smInsert he with rfl | he
    · exact hv
    · exact h.2 e he

end Sys2Proof.Machine
end

