-- ==== Sys2Proof/Laws/Words.lean ====
section
/-! SUPPORT. Laws of registers and their fields: read after write, what a write leaves, and that writing keeps the canonical form of
the register space. -/

namespace Sys2Proof.Machine

/-! ### Bit fields -/

/-- A number after a field is replaced: the part above, the new field, the part below. -/
theorem putBits_eq (v lo w x : Nat) : putBits v lo w x = (v / 2 ^ lo / 2 ^ w * 2 ^ w + x % 2 ^ w) * 2 ^ lo + v % 2 ^ lo := by
  have h1 := Nat.div_add_mod v (2 ^ lo)
  have h2 := Nat.div_add_mod (v / 2 ^ lo) (2 ^ w)
  unfold putBits bitsOf
  generalize v / 2 ^ lo / 2 ^ w = h at *
  generalize v / 2 ^ lo % 2 ^ w = m at *
  generalize x % 2 ^ w = y at *
  generalize v % 2 ^ lo = l at *
  generalize 2 ^ lo = L at *
  generalize 2 ^ w = W at *
  rw [← h2] at h1
  have : v = m * L + (h * W * L + l) := by rw [← h1]; ring
  rw [this, Nat.add_sub_cancel_left]
  ring

/-- The replaced field reads as the new value. -/
theorem bitsOf_putBits_same (v lo w x : Nat) : bitsOf (putBits v lo w x) lo w = x % 2 ^ w := by
  have hl : v % 2 ^ lo < 2 ^ lo := Nat.mod_lt _ (by positivity)
  rw [putBits_eq, bitsOf, Nat.add_comm, Nat.add_mul_div_right _ _ (by positivity), Nat.div_eq_of_lt hl]
  simp [Nat.add_mod]

/-- A field above the replaced one keeps its value. -/
theorem bitsOf_putBits_above (v lo w x a b : Nat) (h : lo + w ≤ a) : bitsOf (putBits v lo w x) a b = bitsOf v a b := by
  obtain ⟨k, rfl⟩ := Nat.exists_eq_add_of_le h
  have hl : v % 2 ^ lo < 2 ^ lo := Nat.mod_lt _ (by positivity)
  have hx : x % 2 ^ w < 2 ^ w := Nat.mod_lt _ (by positivity)
  have e : putBits v lo w x / 2 ^ (lo + w) = v / 2 ^ (lo + w) := by
    rw [putBits_eq, pow_add, ← Nat.div_div_eq_div_mul, ← Nat.div_div_eq_div_mul, Nat.add_comm _ (v % 2 ^ lo),
      Nat.add_mul_div_right _ _ (by positivity), Nat.div_eq_of_lt hl, zero_add, Nat.add_comm _ (x % 2 ^ w),
      Nat.add_mul_div_right _ _ (by positivity), Nat.div_eq_of_lt hx, zero_add]
  unfold bitsOf
  rw [pow_add 2 (lo + w) k, ← Nat.div_div_eq_div_mul, ← Nat.div_div_eq_div_mul, e]

/-- A field below the replaced one keeps its value. -/
theorem bitsOf_putBits_below (v lo w x a b : Nat) (h : a + b ≤ lo) : bitsOf (putBits v lo w x) a b = bitsOf v a b := by
  obtain ⟨k, rfl⟩ := Nat.exists_eq_add_of_le h
  have key : ∀ n : Nat, bitsOf n a b = bitsOf (n % 2 ^ (a + b + k)) a b := by
    intro n
    unfold bitsOf
    rw [Nat.add_assoc, pow_add, Nat.mod_mul_right_div_self, pow_add, Nat.mod_mul_right_mod]
  rw [key, key v, putBits_eq]
  congr 1
  rw [Nat.add_comm, Nat.add_mul_mod_self_right, Nat.mod_mod]

/-- A word stays a word when a field of it is replaced. -/
theorem putBits_lt {v lo w x n : Nat} (hv : v < 2 ^ n) (h : lo + w ≤ n) : putBits v lo w x < 2 ^ n := by
  obtain ⟨k, rfl⟩ := Nat.exists_eq_add_of_le h
  have hl : v % 2 ^ lo < 2 ^ lo := Nat.mod_lt _ (by positivity)
  have hx : x % 2 ^ w < 2 ^ w := Nat.mod_lt _ (by positivity)
  have hd : v / 2 ^ lo / 2 ^ w < 2 ^ k := by
    rw [Nat.div_div_eq_div_mul, ← pow_add]
    exact Nat.div_lt_of_lt_mul (by rw [← pow_add]; exact hv)
  rw [putBits_eq]
  have h1 : v / 2 ^ lo / 2 ^ w * 2 ^ w + x % 2 ^ w + 1 ≤ 2 ^ k * 2 ^ w := by
    have := Nat.mul_le_mul_right (2 ^ w) (Nat.succ_le_of_lt hd)
    simp only [Nat.succ_mul] at this
    omega
  have h2 := Nat.mul_le_mul_right (2 ^ lo) h1
  rw [Nat.add_mul, one_mul] at h2
  have e : 2 ^ (lo + w + k) = 2 ^ k * 2 ^ w * 2 ^ lo := by rw [← pow_add, ← pow_add]; congr 1; omega
  omega

/-! ### Words -/

variable (s : State)

@[simp] theorem word_setWord_same (a : Nat) (w : Word) : (s.setWord a w).word a = w := smGet_smSet_same _ _ _ _

theorem word_setWord_ne {a b : Nat} (h : a ≠ b) (w : Word) : (s.setWord a w).word b = s.word b := smGet_smSet_ne _ _ h _

theorem rd_lt (a : Nat) : s.rd a < 2 ^ 32 := (s.word a).isLt

@[simp] theorem rd_wr_same (a n : Nat) : (s.wr a n).rd a = n % 2 ^ 32 := by
  simp [State.rd, State.wr]

theorem rd_wr_ne {a b : Nat} (h : a ≠ b) (n : Nat) : (s.wr a n).rd b = s.rd b := by
  simp [State.rd, State.wr, word_setWord_ne s h]

/-- A field just written reads as the value written, cut to its width. -/
theorem get_put_same {f : RegField} (h : f.lo + f.width ≤ 32) (v : Nat) : (s.put f v).get f = v % 2 ^ f.width := by
  unfold State.get State.put
  rw [rd_wr_same, Nat.mod_eq_of_lt (putBits_lt (rd_lt s _) h), bitsOf_putBits_same]

/-- A field of another word, or of other bits of the same word, keeps its value. -/
theorem get_put_other {f g : RegField} (h : f.lo + f.width ≤ 32) (hd : f.addr ≠ g.addr ∨ f.lo + f.width ≤ g.lo ∨ g.lo + g.width ≤ f.lo)
    (v : Nat) : (s.put f v).get g = s.get g := by
  unfold State.get State.put
  by_cases ha : f.addr = g.addr
  · rw [ha, rd_wr_same, Nat.mod_eq_of_lt (putBits_lt (rd_lt s _) h)]
    rcases hd with hd | hd | hd
    · exact absurd ha hd
    · exact bitsOf_putBits_above _ _ _ _ _ _ hd
    · exact bitsOf_putBits_below _ _ _ _ _ _ hd
  · rw [rd_wr_ne s ha]

theorem rd_put_ne {f : RegField} {b : Nat} (h : f.addr ≠ b) (v : Nat) : (s.put f v).rd b = s.rd b := rd_wr_ne s h _

/-! ### The canonical form of the register space -/

theorem regsWf_setWord (h : s.regsWf = true) (a : Nat) (w : Word) : (s.setWord a w).regsWf = true := smWf_smSet h a w

theorem regsWf_put (h : s.regsWf = true) (f : RegField) (v : Nat) : (s.put f v).regsWf = true := regsWf_setWord s h _ _

/-! ### Updates that leave every register -/

@[simp] theorem word_emit (o : Out) (a : Nat) : (s.emit o).word a = s.word a := rfl
@[simp] theorem word_raiseRec (r : RawRec) (a : Nat) : (s.raiseRec r).word a = s.word a := rfl
@[simp] theorem word_audit (k : Nat) (o : Origin) (b x y a : Nat) : (s.audit k o b x y).word a = s.word a := rfl
@[simp] theorem word_remember (b v a : Nat) : (s.remember b v).word a = s.word a := rfl
@[simp] theorem word_settle (a : Nat) : (settle s).word a = s.word a := rfl

end Sys2Proof.Machine
end

