-- ==== Sys2Proof/Laws/Commands.lean ====
section
/-! SUPPORT. What an accepted write does, said once per kind of register: command registers, CTRL, header words; and when the guard
of an event lets it act. -/

namespace Sys2Proof.Machine

/-! ### Guards -/

@[simp] theorem done_eq (s : State) : done s = .next (settle s) := rfl

/-- An event acts while its domain runs. -/
theorem upIn_of {s : State} {d : Nat} (h : s.Up d) (f : State → State) : s.upIn d f = f s := by
  obtain ⟨h1, h2⟩ := h
  rcases h2 with rfl | h2
  · simp [State.upIn, h1]
  · simp [State.upIn, h1, h2]

/-- An event whose domain does not run changes nothing. -/
theorem upIn_not {s : State} {d : Nat} (h : s.domUp d = false) (f : State → State) : s.upIn d f = s := by
  simp [State.upIn, h]

/-- A request that reaches the module is answered by its service. -/
theorem arrive_reached {s : State} {q : Req} {svc : Nat} (h : s.Reached q svc) (f : State → SvcAns) :
    s.arrive q svc f = ((f s).2.respond q svc (f s).1.1 (f s).1.2) := by
  unfold State.arrive
  rcases h with ⟨ho, hu⟩ | ⟨n, ho, hu, ha, hc⟩
  · have h2 : s.domUp 2 = true := by rcases hu.2 with h | h; exact absurd h (by decide); exact h
    simp [ho, h2, hu.1]
  · simp [ho, hu, ha, hc]

/-- A request that the firmware serves is answered by its service. -/
theorem firmware_served {s : State} {q : Req} {svc least : Nat} (h : s.Served q svc least) (f : State → SvcAns) :
    s.firmwareService q svc least f = ((f s).2.respond q svc (f s).1.1 (f s).1.2) := by
  obtain ⟨h1, h2, h5, r, h3, h4⟩ := h
  unfold State.firmwareService
  rw [arrive_reached h1]
  simp [h2, h3, h5, Nat.not_lt.2 h4]

/-- A service between neighbours needs no role. -/
theorem neighbour_reached {s : State} {q : Req} {svc : Nat} (h : s.Reached q svc) (h1 : s.appUp = true) (f : State → SvcAns) :
    s.neighbourService q svc f = ((f s).2.respond q svc (f s).1.1 (f s).1.2) := by
  unfold State.neighbourService
  rw [arrive_reached h]
  simp [h1]

/-! ### Writes -/

/-- A write that is accepted, outside the windows. -/
theorem command_accepted {s : State} {o : Origin} {p a v : Nat} {w : WordSpec} (h : s.Accepts o a v) (hp : ownerPage a = some p)
    (hw : s.specAt o p a = some w) (hi : inWindow a = false) (hd : a ≠ Reg.HST_SDOOR) :
    s.command o a v = (s.mirrorOut o p a v).writeWord true o p a v w := by
  have h : s.writeVerdict o a v = 0 := h
  simp [State.command, State.busWriteBy, State.writeOne_, windowChange, h, hp, hw, hi, hd, State.auditMany]

/-- A page that is not mirrored sends nothing to the partner. -/
theorem mirrorOut_same {s : State} {o : Origin} {p a v : Nat} (h : mirrorPages.contains p = false) : s.mirrorOut o p a v = s := by
  simp only [List.contains_eq_mem, decide_eq_false_iff_not] at h
  simp [State.mirrorOut, h]

/-- A write of LOCK is never mirrored. -/
theorem mirrorOut_lock {s : State} {o : Origin} {p a v : Nat} (h : lockWord a = true) : s.mirrorOut o p a v = s := by
  simp [State.mirrorOut, State.mayWrite, h]

/-- A frame of the TWIN lane changes that lane's counter and the outbox (R482, R484). -/
theorem sendTwin_frame (s : State) (k : Nat) (b : List Byte) :
    ∃ l x, s.sendTwin k b = { s with fab := { s.fab with lanes := l }, outbox := x } := by
  unfold State.sendTwin
  split
  · exact ⟨s.fab.lanes, s.outbox, rfl⟩
  · exact ⟨_, _, rfl⟩

/-- Mirroring changes nothing but the counter of the TWIN lane and the outbox. -/
theorem mirrorOut_frame (s : State) (o : Origin) (p a v : Nat) :
    ∃ l x, s.mirrorOut o p a v = { s with fab := { s.fab with lanes := l }, outbox := x } := by
  unfold State.mirrorOut
  split
  · exact sendTwin_frame s _ _
  · exact ⟨s.fab.lanes, s.outbox, rfl⟩

/-- The address is a write-only register of page `p`, its header and `HST_SDOOR` apart. -/
def isCmd (p a : Nat) : Bool :=
  decide (ownerPage a = some p) && (pageAt a).isSome && !inWindow a && a != Reg.HST_SDOOR && decide (0x40 ≤ a % 0x1000) &&
  !lockWord a && a != Reg.ctrl p && a != Reg.irqe p && a != Reg.irqs p && a != Reg.erra p && a != Reg.commit p &&
  (word3At a).isNone &&
  (match rowAt (kindOf p) (a % 0x1000) with
   | some r => decide (r.acc = .wo)
   | none => false)

/-- An accepted write of a write-only register is its command; a new word of a setpoint frame is audited (R55). -/
theorem command_spin {s : State} {o : Origin} {p a v : Nat} (h : s.Accepts o a v) (hc : isCmd p a = true) :
    s.command o a v =
      (let t := s.mirrorOut o p a v
       (if spinAt a && t.rd a != v then t.audit 1 o a (t.rd a) v else t).writeCommand o a v) := by
  simp only [isCmd, Bool.and_eq_true, decide_eq_true_eq, bne_iff_ne, Bool.not_eq_true', Option.isSome_iff_ne_none,
    Option.isNone_iff_eq_none] at hc
  obtain ⟨⟨⟨⟨⟨⟨⟨⟨⟨⟨⟨⟨h1, h2⟩, h3⟩, h4⟩, h5⟩, h6⟩, h7⟩, h8⟩, h9⟩, h10⟩, h11⟩, h12⟩, h13⟩ := hc
  split at h13
  case h_2 => simp at h13
  rename_i r hr
  have hw : s.specAt o p a = some (rowSpec a r) := by
    have hn : ¬ (a % 0x1000 < 0x40) := by omega
    have h2' : (pageAt a).isNone = false := by cases hq : pageAt a <;> simp_all
    unfold State.specAt
    rw [h2']
    simp only [Bool.false_eq_true, if_false]
    rw [if_neg hn, hr]; rfl
  rw [command_accepted h h1 hw h3 h4]
  have ha : (rowSpec a r).acc = .wo := by simpa [rowSpec] using h13
  unfold State.writeWord
  rw [if_neg (by simp [h6]), if_neg h7, if_neg h8, if_neg h9, if_neg h10, if_neg h11]
  simp only [ha, Bool.true_or, if_true, State.commandActs, h12]

/-- An accepted write of a command register is its command. -/
theorem command_wo {s : State} {o : Origin} {p a v : Nat} (h : s.Accepts o a v) (hc : isCmd p a = true) (hs : spinAt a = false) :
    s.command o a v = (s.mirrorOut o p a v).writeCommand o a v := by
  rw [command_spin h hc]; simp [hs]

/-! ### Command registers, one by one -/

theorem chmCmd_accepted {s : State} {o : Origin} {v : Nat} (h : s.Accepts o Reg.CHM_CMD v) :
    s.command o Reg.CHM_CMD v = (s.mirrorOut o Pg.CHM Reg.CHM_CMD v).chmCommand o (v % 16) := by
  rw [command_wo (p := Pg.CHM) h (by decide) (by decide)]; rfl

theorem estCmd_accepted {s : State} {o : Origin} {v : Nat} (h : s.Accepts o Reg.EST_CMD v) :
    s.command o Reg.EST_CMD v = (s.mirrorOut o Pg.EST Reg.EST_CMD v).estCommand (v % 16) := by
  rw [command_wo (p := Pg.EST) h (by decide) (by decide)]; rfl

theorem balCmd_accepted {s : State} {o : Origin} {v : Nat} (h : s.Accepts o Reg.BAL_CMD v) :
    s.command o Reg.BAL_CMD v = (s.mirrorOut o Pg.BAL Reg.BAL_CMD v).balCommand (v % 16) := by
  rw [command_wo (p := Pg.BAL) h (by decide) (by decide)]; rfl

theorem thmCmd_accepted {s : State} {o : Origin} {v : Nat} (h : s.Accepts o Reg.THM_CMD v) :
    s.command o Reg.THM_CMD v = (s.mirrorOut o Pg.THM Reg.THM_CMD v).thmCommand o (v % 16) := by
  rw [command_wo (p := Pg.THM) h (by decide) (by decide)]; rfl

theorem lpeCmd_accepted {s : State} {o : Origin} {v : Nat} (h : s.Accepts o Reg.LPE_CMD v) :
    s.command o Reg.LPE_CMD v = (s.mirrorOut o Pg.LPE Reg.LPE_CMD v).lpeCommand (v % 16) := by
  rw [command_wo (p := Pg.LPE) h (by decide) (by decide)]; rfl

theorem lpeSwap_accepted {s : State} {o : Origin} {v : Nat} (h : s.Accepts o Reg.LPE_SWAP v) :
    s.command o Reg.LPE_SWAP v = (s.mirrorOut o Pg.LPE Reg.LPE_SWAP v).swapAsk o (v % 65536) := by
  rw [command_wo (p := Pg.LPE) h (by decide) (by decide)]; rfl

theorem ctkCmd_accepted {s : State} {o : Origin} {v : Nat} (h : s.Accepts o Reg.CTK_CMD v) :
    s.command o Reg.CTK_CMD v = (s.mirrorOut o Pg.CTK Reg.CTK_CMD v).ctkCommand (v % 16) (bitsOf v 8 3) := by
  rw [command_wo (p := Pg.CTK) h (by decide) (by decide)]; rfl

theorem adcCmd_accepted {s : State} {o : Origin} {v : Nat} (h : s.Accepts o Reg.ADC_CMD v) :
    s.command o Reg.ADC_CMD v = (s.mirrorOut o Pg.ADC Reg.ADC_CMD v).adcCommand (v % 16) (bitsOf v 8 2) := by
  rw [command_wo (p := Pg.ADC) h (by decide) (by decide)]; rfl

theorem sfiCmd_accepted {s : State} {o : Origin} {v : Nat} (h : s.Accepts o Reg.SFI_CMD v) : s.command o Reg.SFI_CMD v = s.sfiCommand o (v % 16) := by
  rw [command_wo (p := Pg.SFI) h (by decide) (by decide), mirrorOut_same (by decide)]; rfl

theorem sclCmd_accepted {s : State} {o : Origin} {v : Nat} (h : s.Accepts o Reg.SCL_CMD v) : s.command o Reg.SCL_CMD v = s.sclCommand (v % 16) (bitsOf v 8 3) := by
  rw [command_wo (p := Pg.SCL) h (by decide) (by decide), mirrorOut_same (by decide)]; rfl

theorem fabCmd_accepted {s : State} {o : Origin} {v : Nat} (h : s.Accepts o Reg.FAB_CMD v) : s.command o Reg.FAB_CMD v = s.fabCommand (v % 16) (bitsOf v 8 8) := by
  rw [command_wo (p := Pg.FAB) h (by decide) (by decide), mirrorOut_same (by decide)]; rfl

theorem timCmd_accepted {s : State} {o : Origin} {v : Nat} (h : s.Accepts o Reg.TIM_CMD v) : s.command o Reg.TIM_CMD v = s.timCommand (v % 16) (bitsOf v 8 1) := by
  rw [command_wo (p := Pg.TIM) h (by decide) (by decide), mirrorOut_same (by decide)]; rfl

theorem twnCmd_accepted {s : State} {o : Origin} {v : Nat} (h : s.Accepts o Reg.TWN_CMD v) : s.command o Reg.TWN_CMD v = s.twinCommand (v % 16) := by
  rw [command_wo (p := Pg.TWN) h (by decide) (by decide), mirrorOut_same (by decide)]; rfl

theorem evrCmd_accepted {s : State} {o : Origin} {v : Nat} (h : s.Accepts o Reg.EVR_CMD v) : s.command o Reg.EVR_CMD v = s.evrCommand o (v % 16) := by
  rw [command_wo (p := Pg.EVR) h (by decide) (by decide), mirrorOut_same (by decide)]; rfl

theorem updCmd_accepted {s : State} {o : Origin} {v : Nat} (h : s.Accepts o Reg.UPD_CMD v) : s.command o Reg.UPD_CMD v = s.updCommand o (v % 16) := by
  rw [command_wo (p := Pg.UPD) h (by decide) (by decide), mirrorOut_same (by decide)]; rfl

theorem ageCmd_accepted {s : State} {o : Origin} {v : Nat} (h : s.Accepts o Reg.AGE_CMD v) : s.command o Reg.AGE_CMD v = s.ageCommand o (v % 16) (bitsOf v 8 4) := by
  rw [command_wo (p := Pg.AGE) h (by decide) (by decide), mirrorOut_same (by decide)]; rfl

theorem dbgCmd_accepted {s : State} {o : Origin} {v : Nat} (h : s.Accepts o Reg.DBG_CMD v) : s.command o Reg.DBG_CMD v = s.dbgCommand o (v % 16) := by
  rw [command_wo (p := Pg.DBG) h (by decide) (by decide), mirrorOut_same (by decide)]; rfl

theorem rstCmd_accepted {s : State} {o : Origin} {v : Nat} (h : s.Accepts o Reg.RST_CMD v) : s.command o Reg.RST_CMD v = s.rstCommand (v % 16) := by
  rw [command_wo (p := Pg.RST) h (by decide) (by decide), mirrorOut_same (by decide)]; rfl

theorem softRst_accepted {s : State} {o : Origin} {v : Nat} (h : s.Accepts o Reg.RST_SWRST v) : s.command o Reg.RST_SWRST v = s.softReset (v % 4) := by
  rw [command_wo (p := Pg.RST) h (by decide) (by decide), mirrorOut_same (by decide)]; rfl

theorem srCmd_accepted {s : State} {o : Origin} {v : Nat} (r : Fin 4) (h : s.Accepts o (Reg.SR_CMD r.val) v) :
    s.command o (Reg.SR_CMD r.val) v = s.ringCommand r.val (bitsOf v 0 4) (bitsOf v 8 6) := by
  have hc : isCmd (Pg.SR r.val) (Reg.SR_CMD r.val) = true := by clear h; revert r; decide
  rw [command_wo (p := Pg.SR r.val) h hc (by clear h hc; revert r; decide), mirrorOut_same (by clear h hc; revert r; decide)]
  clear h hc
  fin_cases r <;> rfl

theorem fpCmd_accepted {s : State} {o : Origin} {v : Nat} (r : Fin 5) (h : s.Accepts o (Reg.FP_CMD r.val) v) :
    s.command o (Reg.FP_CMD r.val) v = s.laneCommand r.val (v % 16) := by
  have hc : isCmd (lanePage r.val) (Reg.FP_CMD r.val) = true := by clear h; revert r; decide
  rw [command_wo (p := lanePage r.val) h hc (by clear h hc; revert r; decide), mirrorOut_same (by clear h hc; revert r; decide)]
  clear h hc
  fin_cases r <;> rfl

theorem cnCmd_accepted {s : State} {o : Origin} {v : Nat} (r : Fin 2) (h : s.Accepts o (Reg.CN_CMD r.val) v) :
    s.command o (Reg.CN_CMD r.val) v = s.canCommand r.val (v % 16) (bitsOf v 8 7) := by
  have hc : isCmd (canPage r.val) (Reg.CN_CMD r.val) = true := by clear h; revert r; decide
  rw [command_wo (p := canPage r.val) h hc (by clear h hc; revert r; decide), mirrorOut_same (by clear h hc; revert r; decide)]
  clear h hc
  fin_cases r <;> rfl

theorem timAdj_accepted {s : State} {o : Origin} {v : Nat} (r : Fin 2) (h : s.Accepts o (Reg.TIM_DADJ r.val) v) :
    s.command o (Reg.TIM_DADJ r.val) v = s.adjustDom r.val (toSigned 32 v) := by
  have hc : isCmd (Pg.TIM) (Reg.TIM_DADJ r.val) = true := by clear h; revert r; decide
  rw [command_wo (p := Pg.TIM) h hc (by clear h hc; revert r; decide), mirrorOut_same (by clear h hc; revert r; decide)]
  clear h hc
  fin_cases r <;> rfl

/-- The last word of a setpoint frame submits it; setpoint words are never mirrored. -/
theorem spin_accepted {s : State} {o : Origin} {v : Nat} (h : s.Accepts o (Reg.LPE_SPIN 4) v) :
    s.command o (Reg.LPE_SPIN 4) v =
      ((if s.rd (Reg.LPE_SPIN 4) = v then s else s.audit 1 o (Reg.LPE_SPIN 4) (s.rd (Reg.LPE_SPIN 4)) v).wr (Reg.LPE_SPIN 4) v).submitFrame := by
  have hm : s.mirrorOut o Pg.LPE (Reg.LPE_SPIN 4) v = s := by
    have : s.mayWrite .twin Pg.LPE (Reg.LPE_SPIN 4) v = false := by
      have h1 : spinAt (Reg.LPE_SPIN 4) = true := by decide
      simp [State.mayWrite, h1]
    simp [State.mirrorOut, this]
  rw [command_spin (p := Pg.LPE) h (by decide), hm]
  have h1 : spinAt (Reg.LPE_SPIN 4) = true := by decide
  by_cases hv : s.rd (Reg.LPE_SPIN 4) = v
  · simp only [hv, h1, bne_self_eq_false, Bool.and_false, Bool.false_eq_true, if_false, if_true]; rfl
  · simp only [hv, h1, bne_iff_ne.2 hv, Bool.and_true, if_true, if_false]; rfl

theorem fltCmd_accepted {s : State} {o : Origin} (h : s.Accepts o Reg.FLT_CMD 1) :
    s.command o Reg.FLT_CMD 1 = (s.mirrorOut o Pg.FLT Reg.FLT_CMD 1).ack := by
  rw [command_wo (p := Pg.FLT) h (by decide) (by decide)]; rfl

theorem sfiConfirm_accepted {s : State} {o : Origin} {v : Nat} (h : s.Accepts o Reg.SFI_CONFIRM v) :
    s.command o Reg.SFI_CONFIRM v = (s.sfiConfirm o (BitVec.ofNat 32 v)).1 := by
  rw [command_wo (p := Pg.SFI) h (by decide) (by decide), mirrorOut_same (by decide)]; rfl

theorem bootOk_accepted {s : State} {o : Origin} {v : Nat} (h : s.Accepts o Reg.RST_BOOTOK v) :
    s.command o Reg.RST_BOOTOK v = if bitOf v 0 then s.bootOk else s := by
  rw [command_wo (p := Pg.RST) h (by decide) (by decide), mirrorOut_same (by decide)]; rfl

theorem queueFlush_accepted {s : State} {o : Origin} {v : Nat} (q : Fin 4) (h : s.Accepts o (Reg.SRQ_QCMD q.val) v) :
    s.command o (Reg.SRQ_QCMD q.val) v = (s.mirrorOut o Pg.SRQ (Reg.SRQ_QCMD q.val) v).modQue q.val (fun x => { x with flush := Nat.lor x.flush (v % 16) }) := by
  have hc : isCmd Pg.SRQ (Reg.SRQ_QCMD q.val) = true := by clear h; revert q; decide
  rw [command_wo (p := Pg.SRQ) h hc (by clear h hc; revert q; decide)]
  clear h hc
  generalize s.mirrorOut o Pg.SRQ (Reg.SRQ_QCMD q.val) v = u
  fin_cases q <;> rfl

/-! ### CTRL -/

/-- The page has a CTRL register of its own, that can be written. -/
def hasCtrl (p : Nat) : Bool :=
  decide (ownerPage (Reg.ctrl p) = some p) && (pageAt (Reg.ctrl p)).isSome && !inWindow (Reg.ctrl p) && Reg.ctrl p != Reg.HST_SDOOR &&
  decide (Reg.ctrl p % 0x1000 = 8) && !alwaysOn p && !lockWord (Reg.ctrl p)

theorem ctrl_accepted {s : State} {o : Origin} {p v : Nat} (h : s.Accepts o (Reg.ctrl p) v) (hc : hasCtrl p = true) :
    s.command o (Reg.ctrl p) v =
      let t := s.mirrorOut o p (Reg.ctrl p) v
      let old := bitNat (t.on (Fld.ctrlEn p))
      let u := if old = v % 2 then t else t.audit 1 o (Reg.ctrl p) old (v % 2)
      ((u.remember (Reg.ctrl p) (v % 2)).overtake (Reg.ctrl p)).writeCtrl p (bitOf v 0) := by
  simp only [hasCtrl, Bool.and_eq_true, decide_eq_true_eq, bne_iff_ne, Bool.not_eq_true', Option.isSome_iff_ne_none] at hc
  obtain ⟨⟨⟨⟨⟨⟨h1, h2⟩, h3⟩, h4⟩, h5⟩, h6⟩, h7⟩ := hc
  have hw : s.specAt o p (Reg.ctrl p) = some ⟨.live, .rw, 1, [], false, false⟩ := by
    have h2' : (pageAt (Reg.ctrl p)).isNone = false := by cases hq : pageAt (Reg.ctrl p) <;> simp_all
    unfold State.specAt
    rw [h2']
    simp [h5, headerSpec, h6]
  rw [command_accepted h h1 hw h3 h4]
  unfold State.writeWord
  simp [h7]

theorem mirrorOut_on (s : State) (o : Origin) (p a v : Nat) (f : RegField) : (s.mirrorOut o p a v).on f = s.on f := by
  obtain ⟨l, x, h⟩ := mirrorOut_frame s o p a v; rw [h]; rfl

/-- EN of a block that stands off is set and the block starts (R36, R37). -/
theorem enable_accepted {s : State} {o : Origin} {p : Nat} (h : s.Accepts o (Reg.ctrl p) 1) (hc : hasCtrl p = true)
    (he : s.on (Fld.ctrlEn p) = false) (hb : s.startBarred p = false) :
    s.command o (Reg.ctrl p) 1 = (s.enabling o p).pageOn p := by
  rw [ctrl_accepted h hc]
  have e1 : (s.mirrorOut o p (Reg.ctrl p) 1).on (Fld.ctrlEn p) = false := by rw [mirrorOut_on, he]
  have e2 : (((((s.mirrorOut o p (Reg.ctrl p) 1).audit 1 o (Reg.ctrl p) 0 1).remember (Reg.ctrl p) 1).overtake (Reg.ctrl p)).on (Fld.ctrlEn p)) = false := e1
  have e3 : (((((s.mirrorOut o p (Reg.ctrl p) 1).audit 1 o (Reg.ctrl p) 0 1).remember (Reg.ctrl p) 1).overtake (Reg.ctrl p)).startBarred p) = false := by
    obtain ⟨l, x, h⟩ := mirrorOut_frame s o p (Reg.ctrl p) 1; rw [h]; exact hb
  simp only [e1, bitNat, Bool.false_eq_true, if_false, Nat.reduceMod, zero_ne_one, State.writeCtrl, e2, e3, bitOf, pow_zero,
    Nat.div_one, beq_self_eq_true, if_true, Bool.true_beq]
  rfl

/-- EN of a block that stands on is cleared and the block stops (R36, R37). -/
theorem disable_accepted {s : State} {o : Origin} {p : Nat} (h : s.Accepts o (Reg.ctrl p) 0) (hc : hasCtrl p = true)
    (he : s.on (Fld.ctrlEn p) = true) :
    s.command o (Reg.ctrl p) 0 = ((s.disabling o p).pageOff p).loadStale := by
  rw [ctrl_accepted h hc]
  have e1 : (s.mirrorOut o p (Reg.ctrl p) 0).on (Fld.ctrlEn p) = true := by rw [mirrorOut_on, he]
  have e2 : (((((s.mirrorOut o p (Reg.ctrl p) 0).audit 1 o (Reg.ctrl p) 1 0).remember (Reg.ctrl p) 0).overtake (Reg.ctrl p)).on (Fld.ctrlEn p)) = true := e1
  simp only [e1, bitNat, if_true, Nat.zero_mod, one_ne_zero, if_false, State.writeCtrl, e2, bitOf, pow_zero,
    Nat.zero_div, Nat.reduceBEq, Bool.false_eq_true, Bool.false_beq, Bool.not_true]
  rfl

/-! ### Which block a page starts and stops -/

theorem pageOn_sr (u : State) (r : Fin 4) : u.pageOn (Pg.SR r.val) = u.ringOn r.val := by
  unfold State.pageOn
  rw [if_pos (by revert r; decide)]
  rw [show Pg.SR r.val - 6 = r.val by revert r; decide]

theorem pageOff_sr (u : State) (r : Fin 4) : u.pageOff (Pg.SR r.val) = u.ringOff r.val := by
  unfold State.pageOff
  rw [if_pos (by revert r; decide)]
  rw [show Pg.SR r.val - 6 = r.val by revert r; decide]

theorem pageOn_srq (u : State) : u.pageOn Pg.SRQ = u.srqOn := by
  unfold State.pageOn
  rw [if_neg (by decide), if_pos (by decide)]

theorem pageOn_chm (u : State) : u.pageOn Pg.CHM = u.chmOn := by
  unfold State.pageOn
  rw [if_neg (by decide), if_neg (by decide), if_pos (by decide)]

theorem pageOn_est (u : State) : u.pageOn Pg.EST = u.estOn := by
  unfold State.pageOn
  rw [if_neg (by decide), if_neg (by decide), if_neg (by decide), if_pos (by decide)]

theorem pageOn_bal (u : State) : u.pageOn Pg.BAL = u.balOn := by
  unfold State.pageOn
  rw [if_neg (by decide), if_neg (by decide), if_neg (by decide), if_neg (by decide), if_pos (by decide)]

theorem pageOn_thm (u : State) : u.pageOn Pg.THM = u.thmOn := by
  unfold State.pageOn
  rw [if_neg (by decide), if_neg (by decide), if_neg (by decide), if_neg (by decide), if_neg (by decide), if_pos (by decide)]

theorem pageOn_lpe (u : State) : u.pageOn Pg.LPE = u.lpeOn := by
  unfold State.pageOn
  rw [if_neg (by decide), if_neg (by decide), if_neg (by decide), if_neg (by decide), if_neg (by decide), if_neg (by decide), if_neg (by decide), if_pos (by decide)]

theorem pageOn_adc (u : State) : u.pageOn Pg.ADC = u.adcOn := by
  unfold State.pageOn
  rw [if_neg (by decide), if_neg (by decide), if_neg (by decide), if_neg (by decide), if_neg (by decide), if_neg (by decide), if_neg (by decide), if_neg (by decide), if_pos (by decide)]

theorem pageOn_iso (u : State) : u.pageOn Pg.ISO = u.isoOn := by
  unfold State.pageOn
  rw [if_neg (by decide), if_neg (by decide), if_neg (by decide), if_neg (by decide), if_neg (by decide), if_neg (by decide), if_neg (by decide), if_neg (by decide), if_neg (by decide), if_pos (by decide)]

theorem pageOn_sfi (u : State) : u.pageOn Pg.SFI = u.sfiEnable := by
  unfold State.pageOn
  rw [if_neg (by decide), if_neg (by decide), if_neg (by decide), if_neg (by decide), if_neg (by decide), if_neg (by decide), if_neg (by decide), if_neg (by decide), if_neg (by decide), if_neg (by decide), if_pos (by decide)]

theorem pageOn_scl (u : State) : u.pageOn Pg.SCL = u.sclEnable := by
  unfold State.pageOn
  rw [if_neg (by decide), if_neg (by decide), if_neg (by decide), if_neg (by decide), if_neg (by decide), if_neg (by decide), if_neg (by decide), if_neg (by decide), if_neg (by decide), if_neg (by decide), if_neg (by decide), if_pos (by decide)]

theorem pageOn_fab (u : State) : u.pageOn Pg.FAB = u.fabEnable := by
  unfold State.pageOn
  rw [if_neg (by decide), if_neg (by decide), if_neg (by decide), if_neg (by decide), if_neg (by decide), if_neg (by decide), if_neg (by decide), if_neg (by decide), if_neg (by decide), if_neg (by decide), if_neg (by decide), if_neg (by decide), if_pos (by decide)]

theorem pageOn_tim (u : State) : u.pageOn Pg.TIM = u.timEnable := by
  unfold State.pageOn
  rw [if_neg (by decide), if_neg (by decide), if_neg (by decide), if_neg (by decide), if_neg (by decide), if_neg (by decide), if_neg (by decide), if_neg (by decide), if_neg (by decide), if_neg (by decide), if_neg (by decide), if_neg (by decide), if_neg (by decide), if_neg (by decide), if_pos (by decide)]

theorem pageOn_twn (u : State) : u.pageOn Pg.TWN = u.twinOn := by
  unfold State.pageOn
  rw [if_neg (by decide), if_neg (by decide), if_neg (by decide), if_neg (by decide), if_neg (by decide), if_neg (by decide), if_neg (by decide), if_neg (by decide), if_neg (by decide), if_neg (by decide), if_neg (by decide), if_neg (by decide), if_neg (by decide), if_neg (by decide), if_neg (by decide), if_neg (by decide), if_neg (by decide), if_pos (by decide)]

theorem pageOn_pwm (u : State) : u.pageOn Pg.PWM = u.pwmOn.lpeRecheck.rowPrune := by
  unfold State.pageOn
  rw [if_neg (by decide), if_neg (by decide), if_neg (by decide), if_neg (by decide), if_neg (by decide), if_neg (by decide), if_pos (by decide)]

theorem pageOff_srq (u : State) : u.pageOff Pg.SRQ = u.srqOff := by
  unfold State.pageOff
  rw [if_neg (by decide), if_pos (by decide)]

theorem pageOff_chm (u : State) : u.pageOff Pg.CHM = u.chmOff := by
  unfold State.pageOff
  rw [if_neg (by decide), if_neg (by decide), if_pos (by decide)]

theorem pageOff_est (u : State) : u.pageOff Pg.EST = u.estOff := by
  unfold State.pageOff
  rw [if_neg (by decide), if_neg (by decide), if_neg (by decide), if_pos (by decide)]

theorem pageOff_bal (u : State) : u.pageOff Pg.BAL = u.balOff := by
  unfold State.pageOff
  rw [if_neg (by decide), if_neg (by decide), if_neg (by decide), if_neg (by decide), if_pos (by decide)]

theorem pageOff_thm (u : State) : u.pageOff Pg.THM = u.thmOff := by
  unfold State.pageOff
  rw [if_neg (by decide), if_neg (by decide), if_neg (by decide), if_neg (by decide), if_neg (by decide), if_pos (by decide)]

theorem pageOff_pwm (u : State) : u.pageOff Pg.PWM = u.pwmOff := by
  unfold State.pageOff
  rw [if_neg (by decide), if_neg (by decide), if_neg (by decide), if_neg (by decide), if_neg (by decide), if_neg (by decide), if_pos (by decide)]

theorem pageOff_lpe (u : State) : u.pageOff Pg.LPE = u.lpeOff := by
  unfold State.pageOff
  rw [if_neg (by decide), if_neg (by decide), if_neg (by decide), if_neg (by decide), if_neg (by decide), if_neg (by decide), if_neg (by decide), if_pos (by decide)]

theorem pageOff_adc (u : State) : u.pageOff Pg.ADC = u.adcOff := by
  unfold State.pageOff
  rw [if_neg (by decide), if_neg (by decide), if_neg (by decide), if_neg (by decide), if_neg (by decide), if_neg (by decide), if_neg (by decide), if_neg (by decide), if_pos (by decide)]

theorem pageOff_iso (u : State) : u.pageOff Pg.ISO = u.isoOff := by
  unfold State.pageOff
  rw [if_neg (by decide), if_neg (by decide), if_neg (by decide), if_neg (by decide), if_neg (by decide), if_neg (by decide), if_neg (by decide), if_neg (by decide), if_neg (by decide), if_pos (by decide)]

theorem pageOff_sfi (u : State) : u.pageOff Pg.SFI = u.sfiDisable := by
  unfold State.pageOff
  rw [if_neg (by decide), if_neg (by decide), if_neg (by decide), if_neg (by decide), if_neg (by decide), if_neg (by decide), if_neg (by decide), if_neg (by decide), if_neg (by decide), if_neg (by decide), if_neg (by decide), if_pos (by decide)]

theorem pageOff_scl (u : State) : u.pageOff Pg.SCL = u.sclDisable := by
  unfold State.pageOff
  rw [if_neg (by decide), if_neg (by decide), if_neg (by decide), if_neg (by decide), if_neg (by decide), if_neg (by decide), if_neg (by decide), if_neg (by decide), if_neg (by decide), if_neg (by decide), if_neg (by decide), if_neg (by decide), if_pos (by decide)]

theorem pageOff_fab (u : State) : u.pageOff Pg.FAB = u.fabDisable := by
  unfold State.pageOff
  rw [if_neg (by decide), if_neg (by decide), if_neg (by decide), if_neg (by decide), if_neg (by decide), if_neg (by decide), if_neg (by decide), if_neg (by decide), if_neg (by decide), if_neg (by decide), if_neg (by decide), if_neg (by decide), if_neg (by decide), if_pos (by decide)]

theorem pageOff_tim (u : State) : u.pageOff Pg.TIM = u.timDisable := by
  unfold State.pageOff
  rw [if_neg (by decide), if_neg (by decide), if_neg (by decide), if_neg (by decide), if_neg (by decide), if_neg (by decide), if_neg (by decide), if_neg (by decide), if_neg (by decide), if_neg (by decide), if_neg (by decide), if_neg (by decide), if_neg (by decide), if_neg (by decide), if_neg (by decide), if_pos (by decide)]

theorem pageOff_twn (u : State) : u.pageOff Pg.TWN = u.twinOff := by
  unfold State.pageOff
  rw [if_neg (by decide), if_neg (by decide), if_neg (by decide), if_neg (by decide), if_neg (by decide), if_neg (by decide), if_neg (by decide), if_neg (by decide), if_neg (by decide), if_neg (by decide), if_neg (by decide), if_neg (by decide), if_neg (by decide), if_neg (by decide), if_neg (by decide), if_neg (by decide), if_neg (by decide), if_neg (by decide), if_pos (by decide)]

theorem pageOff_ctk (u : State) : u.pageOff Pg.CTK = u.setEns Pg.CTK false := by
  unfold State.pageOff
  rw [if_neg (by decide), if_neg (by decide), if_neg (by decide), if_neg (by decide), if_neg (by decide), if_neg (by decide), if_neg (by decide), if_neg (by decide), if_neg (by decide), if_neg (by decide), if_neg (by decide), if_neg (by decide), if_neg (by decide), if_neg (by decide), if_neg (by decide), if_neg (by decide), if_neg (by decide), if_neg (by decide), if_neg (by decide)]

theorem pageOn_can (u : State) (x : Fin 2) : u.pageOn (Pg.CNA + x.val) = u.canOn x.val := by
  unfold State.pageOn
  rw [if_neg (by revert x; decide), if_neg (by revert x; decide), if_neg (by revert x; decide), if_neg (by revert x; decide), if_neg (by revert x; decide), if_neg (by revert x; decide), if_neg (by revert x; decide), if_neg (by revert x; decide), if_neg (by revert x; decide), if_neg (by revert x; decide), if_neg (by revert x; decide), if_neg (by revert x; decide), if_neg (by revert x; decide), if_neg (by revert x; decide), if_neg (by revert x; decide), if_neg (by revert x; decide), if_pos (by revert x; decide)]
  simp

theorem pageOff_can (u : State) (x : Fin 2) : u.pageOff (Pg.CNA + x.val) = u.canOff x.val := by
  unfold State.pageOff
  rw [if_neg (by revert x; decide), if_neg (by revert x; decide), if_neg (by revert x; decide), if_neg (by revert x; decide), if_neg (by revert x; decide), if_neg (by revert x; decide), if_neg (by revert x; decide), if_neg (by revert x; decide), if_neg (by revert x; decide), if_neg (by revert x; decide), if_neg (by revert x; decide), if_neg (by revert x; decide), if_neg (by revert x; decide), if_neg (by revert x; decide), if_neg (by revert x; decide), if_neg (by revert x; decide), if_neg (by revert x; decide), if_pos (by revert x; decide)]
  simp

/-- The audit of a rejection changes no register. -/
theorem word_auditReject (s : State) (c : Nat) (o : Origin) (a e v b : Nat) : (s.auditReject c o a e v).word b = s.word b := by
  unfold State.auditReject
  split
  · rfl
  · rfl

end Sys2Proof.Machine
end

