-- ==== Sys2Proof/WellFormed.lean ====
section
/-! DEFINITION. Commands whose operands the spec's formats allow. The meanings are total on every command; these checks say which
operands can stand on a port, a message or a pin. -/

namespace Sys2Proof

/-- A service message comes by the host port, which needs no tag, or by the fabric from a node (R63, R65, R502). -/
def reqOk (q : Req) : Bool :=
  match q.origin with
  | .host => q.authentic
  | .fabric _ => true
  | _ => false

/-- A SAMPLE frame has eight duties and the outputs of nine destinations (R591). -/
def sampleOk (m : SampleMsg) : Bool := m.duties.length == 8 && m.outputs.length == 9

/-- A calibration report of a position 1 to 32 (R135). -/
def dcalOk (x : DcalReport) : Bool := decide (1 ≤ x.pos ∧ x.pos ≤ 32)

/-- The code selects the BYPASS register: no other instruction has it (R716). -/
def bypassCode (c : Byte) : Bool := !(([0x01, 0x02, 0x03, 0x04, 0x05, 0x10, 0x11] : List Nat).contains c.toNat)

/-- The reset sources that exist; bits 13 to 15 are spare and never assert (R634). -/
def sourceOk (k : Fin 16) : Bool := decide (k.val < 13)

/-- The operands of a command fit the formats of the spec; where a type says it already, nothing is left to check. -/
def Instr.wellFormed (c : Instr) : Bool :=
  match c with
  | .regRead q _ _ | .connect q | .run q | .halt q | .disconnect q | .clearTrip q | .transport q => reqOk q
  | .regWrite q _ count data => reqOk q && data.length == count.toNat + 1
  | .calibrationTickReturn _ _ _ reports => reports.all dcalOk
  | .safetyFrame net pdu => net != 3 && decide (pdu.length ≤ 64)
  | .dispatch q _ => reqOk q
  | .sessionChallenge q | .sessionOpen q _ _ _ | .sessionClose q => reqOk q && decide (q.origin = .host)
  | .timeGet q | .timeSet q _ _ _ _ => reqOk q
  | .twinSample m => sampleOk m
  | .logStatus q | .logRead q _ _ _ _ | .logFreeze q | .logRelease q | .logClear q _ | .logMark q _ => reqOk q
  | .resetAssert k | .resetRelease k => sourceOk k
  | .updStatus q | .updClaim q | .updRelease q | .updWrite q _ _ | .updVerify q | .updActivate q _ _ _ | .updDiscard q
  | .updOffer q _ _ _ _ | .updFetch q _ _ _ | .updLoad q _ => reqOk q
  | .ageStatus q | .ageHistory q _ _ => reqOk q
  | .bypass code => bypassCode code
  | _ => true

end Sys2Proof
end

