-- ==== Sys2Proof/Tests/Slice0.lean ====
section
/-! SUPPORT. The model's own tests: operands that are ill-formed, a state and operands for every clause of every statement, and small
checks of single commands against the spec's own numbers. -/

set_option Elab.async false
set_option linter.unusedVariables false

namespace Sys2Proof.Tests
open Sys2Proof Sys2Proof.Machine

/-- The module right after reset with the stored configuration restored. -/
def b0 : State := { State.reset with acc := { State.reset.acc with locksRestored := true } }
/-- The same with the fields given. -/
def st (l : List (RegField × Nat)) : State := l.foldl (fun s x => s.put x.1 x.2) b0
/-- The same with a Sahric Service session of the host. -/
def sv (l : List (RegField × Nat)) : State := st ((whole Reg.HST_ROLE, 3) :: l)
/-- The state that an outcome goes on in. -/
def after (x : Host.Outcome State Fault Refusal) : State :=
  match x with
  | .next t => t
  | _ => State.reset
/-- A ring frame with its right CRC. -/
def rf (f : RingFrame) : RingFrame := { f with crc := crc16 0xFFFF (frameHead f ++ f.payload) }
/-- A clean response of position 1 under tag 1. -/
def f0 : RingFrame := rf ⟨.clean, 3, true, false, 0, 1, 0, 0, 0, 1, 0, [], 0⟩
/-- The request that it answers. -/
def tx (p : Purpose) : RingTxn := ⟨1, ⟨p, 3, 1, none, [], 0, 1⟩, false, 0, 0, 0⟩
/-- Ring 0 in service with that request issued. -/
def rg (p : Purpose) : State :=
  (st [(Fld.ens Pg.SRA, 1), (Fld.SR_STATE_MODE 0, 3), (Fld.SR_CFG_NSUP 0, 4)]).modRing 0 (fun g => { g with txns := [tx p] })
/-- A request by the host port. -/
def hq : Req := ⟨.host, 0, 2, 0, true⟩

/-- Fields of a module whose branch 0 has one monitored cell at 3.7 V. -/
def cell0 : List (RegField × Nat) :=
  [(Fld.SR_CFG_NSUP 0, 1), (Fld.SR_PMAP_CELLS 0 0, 1), (cellField 0 0 31 1, 1), (cellField 0 1 16 16, 37000), (Fld.CTK_CFG_BRMASK, 1)]
/-- Fields of a module that may connect. -/
def ready0 : List (RegField × Nat) :=
  cell0 ++ [(Fld.ens Pg.PRT, 1), (Fld.ens Pg.CTK, 1), (Fld.ens Pg.FLT, 1), (Fld.SFI_STAT_STATE, 4), (whole Reg.CTK_AUX, 0x3FF)]

theorem up_of {s : State} {d : Nat} (h : (s.domUp d && (d == 1 || s.domUp 2)) = true) : s.Up d := by
  simpa [State.Up] using h
theorem acc_of {s : State} {o : Origin} {a v : Nat} (h : s.writeVerdict o a v = 0) : s.Accepts o a v := h
theorem reached_host {s : State} {q : Req} {n : Nat} (h : (q.origin == .host && (s.domUp 9 && s.domUp 2)) = true) : s.Reached q n := by
  simp only [Bool.and_eq_true, beq_iff_eq] at h
  exact .inl ⟨h.1, h.2.1, .inr h.2.2⟩
theorem served_host {s : State} {q : Req} {n l : Nat}
    (h : (q.origin == .host && (s.domUp 9 && s.domUp 2) && s.appUp && s.recoveryServes n && decide (l ≤ s.rd Reg.HST_ROLE % 4)) =
      true) : s.Served q n l := by
  simp only [Bool.and_eq_true, beq_iff_eq, decide_eq_true_eq] at h
  obtain ⟨⟨⟨⟨ho, h9, h2⟩, ha⟩, hv⟩, hr⟩ := h
  exact ⟨.inl ⟨ho, h9, .inr h2⟩, ha, hv, s.rd Reg.HST_ROLE % 4, by rw [ho]; rfl, hr⟩
theorem of_none {α : Type} {o : Option α} {P : α → Prop} (h : o = none) : ∀ l, o = some l → P l := by
  intro l hl; rw [h] at hl; cases hl
theorem of_some {α : Type} {o : Option α} {a : α} {P : α → Prop} (h : o = some a) (p : P a) : ∀ l, o = some l → P l := by
  intro l hl; rw [h] at hl; cases hl; exact p
theorem all_cells {P : Nat → Prop} (h : ∀ k : Nat, k < 48 → ∀ j : Nat, j < 64 → P (64 * k + j)) : ∀ i : Nat, i < 3072 → P i := by
  intro i hi
  have := h (i / 64) (by omega) (i % 64) (by omega)
  rwa [show 64 * (i / 64) + i % 64 = i by omega] at this
/-- An ended Chime window. -/
def cw : ChmWindow := ⟨0, 0, 0, true, [], [], [], none, 0, [], 0, false, [], [], [], [], 0, []⟩
/-- A write-back under way to copy B. -/
def wbk : Writeback := ⟨true, ⟨ldMagic, 1, 1, ldLength, 0, 0, 0, 0, 0, [], []⟩, true⟩
/-- A frame of a type and class with a payload, of node 9 to node `dst`, without its tag. -/
def ff (type cls dst ttl : Nat) (p : List Byte) : FabFrame :=
  ⟨true, macBroadcast, 0, 0x88B5, 1, BitVec.ofNat 2 cls, 0, BitVec.ofNat 8 type, 0, BitVec.ofNat 10 dst, 0, 9, BitVec.ofNat 8 ttl, 0, 1,
    BitVec.ofNat 16 p.length, p, 0⟩
/-- A frame with the tag that the neighbour of lane `n` gives it. -/
def sg (s : State) (n : Nat) (f : FabFrame) : FabFrame :=
  { f with tag := s.tagOn n (dirOf (s.peerUid n) Config.moduleUid.toNat) f }
theorem sg_holds (s : State) (n : Nat) (f : FabFrame) : s.tagHolds n (sg s n f) = true := by
  show (s.tagOn n (dirOf (s.peerUid n) Config.moduleUid.toNat) f == s.tagOn n (dirOf (s.peerUid n) Config.moduleUid.toNat) f) = true
  exact beq_self_eq_true _
/-- A HELLO of 24 bytes of 0 under the key 0, with its right tag as `g` changes it. -/
def hf (g : BitVec 128 → BitVec 128) : FabFrame :=
  let f := { ff 1 2 0 1 (List.replicate 24 0) with ctr := 0 }
  { f with tag := g (gcmTag 0 (frameIv (dirOf 0 Config.moduleUid.toNat) 0) (frameText f)) }
theorem not_ne (x : BitVec 128) : ~~~x ≠ x := by
  intro h
  have := congrArg (fun y => y.getLsbD 0) h
  simp at this
theorem hf_tag (g : BitVec 128 → BitVec 128) :
    (hf g).tag = g (gcmTag 0 (frameIv (dirOf 0 Config.moduleUid.toNat) 0) (frameText (hf g))) := rfl
theorem want_of {key : BitVec 128} {a b : Nat} (f : FabFrame) (hk : key = 0) (ha : a = 0) (hb : b = 0) :
    gcmTag key (frameIv (dirOf a Config.moduleUid.toNat) b) (frameText f) =
      gcmTag 0 (frameIv (dirOf 0 Config.moduleUid.toNat) 0) (frameText f) := by rw [hk, ha, hb]
theorem pfits {s : State} {n : Nat} {m : PtpMsg} (hd : m.dstMac = ownMac n)
    (h : (m.srcMac == (s.lane n).peerMac && m.major == 2 && decide (m.minor.toNat ≤ 1)) = true) : s.ptpFits n m = true := by
  simp only [Bool.and_eq_true] at h
  simp only [State.ptpFits, hd, h.1.1, h.1.2, h.2, beq_self_eq_true, Bool.and_true]
/-- The state in which an accepted PTP message leaves the module. -/
def pk (s : State) (n k : Nat) (m : PtpMsg) : State :=
  let key := n * 4096 + k * 256 + m.domain.toNat
  let seen := smGet (fun _ => (0 : Nat)) s.tim.ptpSeen key
  ({ s with tim := { s.tim with ptpSeen := smInsert key (seen + 1) s.tim.ptpSeen } } : State).bump Fld.TIM_PTPCNT_RX
theorem paccept {s : State} {n k : Nat} {m : PtpMsg} (hd : m.dstMac = ownMac n)
    (hf : (m.srcMac == (s.lane n).peerMac && m.major == 2 && decide (m.minor.toNat ≤ 1)) = true)
    (h : (s.ens Pg.TIM && s.laneState n == 3 && decide (smGet (fun _ => (0 : Nat)) s.tim.ptpSeen (n * 4096 + k * 256 + m.domain.toNat) <
      160)) = true) : s.ptpAccept n k m = (pk s n k m, true) := by
  simp only [Bool.and_eq_true] at h
  have f := pfits hd hf
  unfold State.ptpAccept
  simp only [h.1.1, h.1.2, h.2, f, Bool.and_self, if_true]
  rfl
/-- The state in which a frame's checks leave a lane that accepts it. -/
def tk (s : State) (n : Nat) (f : FabFrame) : State :=
  let t := s.modLane n (fun l => { l with rxCtr := f.ctr.toNat })
  if credited f then
    (t.modLane n (fun l => { l with held := updAt l.held (frameCls f - 1) (· + frameBlocks f) })).laneShow n
  else t
/-- A frame that a lane accepts once its tag holds. -/
def fitsLane (s : State) (n : Nat) (f : FabFrame) : Bool :=
  s.laneState n != 0 && s.laneState n != 1 && s.laneState n != 5 && f.fcsOk && (f.dstMac == macBroadcast) && (f.etherType == 0x88B5) &&
    decide (f.payload.length ≤ 1466) && (s.lane n).session.isSome && decide ((s.lane n).rxCtr < f.ctr.toNat) && (f.ver == 1) &&
    !rsvSet f && decide (f.len.toNat = f.payload.length) && classFits f &&
    !((n == 4 && !(f.type.toNat == 7 || f.type.toNat == 1 || f.type.toNat == 2)) || (n != 4 && f.type.toNat == 7)) &&
    (!credited f || decide (nth (s.lane n).held (frameCls f - 1) + frameBlocks f ≤ grantOf (frameCls f)))
theorem mac_of {n : Nat} {f : FabFrame} (h : (f.dstMac == macBroadcast && f.etherType == 0x88B5 && decide (f.payload.length ≤ 1466)) =
    true) : macFits n f = true := by
  simp only [Bool.and_eq_true] at h
  simp only [macFits, h.1.1, h.1.2, h.2, Bool.or_true, Bool.and_true]
theorem recv {s : State} {n : Nat} {f : FabFrame} (h : fitsLane s n f = true)
    (h2 : (s.modLane n (fun l => { l with rxCtr := f.ctr.toNat })).laneState n = s.laneState n)
    (h3 : nth ((s.modLane n (fun l => { l with rxCtr := f.ctr.toNat })).lane n).held (frameCls f - 1) =
      nth (s.lane n).held (frameCls f - 1)) : s.receive n (sg s n f) = (tk s n f, true) := by
  simp only [fitsLane, Bool.and_eq_true, Bool.not_eq_true', bne_iff_ne, beq_iff_eq, decide_eq_true_eq] at h
  obtain ⟨⟨⟨⟨⟨⟨⟨⟨⟨⟨⟨⟨⟨⟨a0, a1⟩, a5⟩, ok⟩, dm⟩, et⟩, ln⟩, se⟩, ct⟩, vr⟩, rs⟩, le⟩, cf⟩, ty⟩, cr⟩ := h
  have m : macFits n (sg s n f) = true := mac_of (by
    show (f.dstMac == macBroadcast && f.etherType == 0x88B5 && decide (f.payload.length ≤ 1466)) = true
    simp [dm, et, ln])
  have hh := sg_holds s n f
  show (if s.laneState n = 0 ∨ s.laneState n = 1 then (s, false)
    else if !f.fcsOk then _
    else if !macFits n (sg s n f) then _
    else if (s.lane n).session.isNone || !s.tagHolds n (sg s n f) then _
    else if f.ctr.toNat ≤ (s.lane n).rxCtr then _
    else if f.ver ≠ 1 || rsvSet f || f.len.toNat ≠ f.payload.length || !classFits f ||
        (n == 4 && !(f.type.toNat == 7 || f.type.toNat == 1 || f.type.toNat == 2)) || (n != 4 && f.type.toNat == 7) then _
    else if (s.modLane n (fun l => { l with rxCtr := f.ctr.toNat })).laneState n = 5 && f.type.toNat ≠ 1 then _
    else if !credited f then (s.modLane n (fun l => { l with rxCtr := f.ctr.toNat }), true)
    else if nth ((s.modLane n (fun l => { l with rxCtr := f.ctr.toNat })).lane n).held (frameCls f - 1) + frameBlocks f >
        grantOf (frameCls f) then _
    else (((s.modLane n (fun l => { l with rxCtr := f.ctr.toNat })).modLane n (fun l => { l with
        held := updAt l.held (frameCls f - 1) (· + frameBlocks f) })).laneShow n, true)) = _
  rw [if_neg (by simp [a0, a1]), if_neg (by simp [ok]), if_neg (by simp [m]), if_neg (by
    rw [hh]; cases hs : (s.lane n).session <;> simp_all), if_neg (by omega), if_neg (by
      rw [Bool.or_assoc, ty]; simp [vr, rs, le, cf]), if_neg (by rw [h2]; simp [a5])]
  unfold tk
  cases hc : credited f
  · rfl
  · rw [if_neg (by simp), if_neg (by
      rw [h3]; have : nth (s.lane n).held (frameCls f - 1) + frameBlocks f ≤ grantOf (frameCls f) := by simpa [hc] using cr
      omega)]
    rfl
/-- Lane 0 up with a session. -/
def fl (l : List (RegField × Nat)) : State :=
  (st ((Fld.FAB_STAT_STATE, 1) :: (Fld.ens (lanePage 0), 1) :: (Fld.FP_STATE_STATE 0, 3) :: l)).modLane 0 (fun x => { x with session := some 0 })
/-- A dispatch body of sequence number `n`. -/
def db (n : Word) : DispatchBody := ⟨28, n, 0, true, false, true, 0, 0, 0, 0⟩
/-- A module whose dispatch is open and whose time is synchronised. -/
def dsp (l : List (RegField × Nat)) : State :=
  { st ((Fld.TIM_STATE_SYNC, 1) :: l) with svc := { b0.svc with state := .running, startDone := true } }
/-- A PTP message of domain 0 from the peer. -/
def pm : PtpMsg := ⟨ownMac 0, 0, 2, 1, 0, 0, false, 0, 0, 0, 0, 1, 0, 0, 0, 0, 0, true, none⟩
/-- Port 0 up, both domains' ports on, domain 0 by PTP. -/
def pt (l : List (RegField × Nat)) : State :=
  st ((Fld.FP_STATE_STATE 0, 3) :: (Fld.ens Pg.TIM, 1) :: (Fld.TIM_DCFG_EN 0, 1) :: (Fld.TIM_DCFG_SRC 0, 0) :: (Fld.TIM_DCFG_DOMAIN 0, 0) :: l)
theorem at_uid (o x q : Nat) (h : x < 2 ^ 64) :
    beAt (beBytes 2 o ++ beBytes 2 0 ++ beBytes 8 x ++ beBytes 4 q ++ beBytes 4 0) 4 8 = x := by
  simp only [beAt, beBytes, List.cons_append, List.nil_append, List.range, List.range.loop, List.map_cons, List.map_nil, ofBe,
    List.foldl_cons, List.foldl_nil, List.getD_cons_succ, List.getD_cons_zero, Nat.reduceAdd, BitVec.toNat_ofNat]
  omega
theorem uid_at (o q : Nat) : beAt (beBytes 2 o ++ beBytes 2 0 ++ beBytes 8 Config.moduleUid.toNat ++ beBytes 4 q ++ beBytes 4 0) 4 8 =
    Config.moduleUid.toNat := at_uid o _ q Config.moduleUid.isLt
theorem reached_fabric {s : State} {q : Req} {k : Nat} {n : BitVec 10} (h : q.origin = .fabric n)
    (h2 : (s.domUp 9 && q.authentic && requestClassOk q k) = true) : s.Reached q k := by
  simp only [Bool.and_eq_true] at h2
  exact .inr ⟨n, h, h2.1.1, h2.1.2, h2.2⟩
/-- A bundle with one MAIN image of no bytes. -/
def bundle : List Byte :=
  beBytes 4 0x54514255 ++ beBytes 4 1 ++ beBytes 8 0 ++ beBytes 4 4192 ++ beBytes 4 1 ++ beBytes 8 0 ++
    (beBytes 1 1 ++ beBytes 11 0 ++ beBytes 4 4096 ++ beBytes 64 0)

/-! A module whose island uses connection 0, which it consumes, and connection 1, which it produces. -/

/-- The words of its connection block, sixteen at a time. -/
def sclW0 : List Nat := [2147745793, 7, 10490885, 0, 0, 0, 3221487616, 8, 10490885, 0, 0, 0, 262144, 0, 10490885, 0]
def sclW1 : List Nat := [0, 0, 262144, 0, 10490885, 0, 0, 0, 262144, 0, 10490885, 0, 0, 0, 262144, 0]
def sclW2 : List Nat := [10490885, 0, 0, 0, 262144, 0, 10490885, 0, 0, 0, 262144, 0, 10490885, 0, 0, 0]
def sclW3 : List Nat := [0, 0, 0, 0, 0, 0, 0, 0, 0, 0, 0, 0, 0, 0, 0, 1]
def sclWords : List Nat := ((sclW0 ++ sclW1) ++ sclW2) ++ sclW3
def fold (w : Nat) (l : List Nat) : Nat := (l.flatMap (fun x => beBytes 4 x)).foldl crc32cByte w
theorem fold_app (w : Nat) (a b : List Nat) : fold w (a ++ b) = fold (fold w a) b := by
  simp [fold, List.flatMap_append, List.foldl_append]
theorem fold_0 : fold 4294967295 sclW0 = 4162627977 := by decide +kernel
theorem fold_1 : fold 4162627977 sclW1 = 570339732 := by decide +kernel
theorem fold_2 : fold 570339732 sclW2 = 2783589489 := by decide +kernel
theorem fold_3 : fold 2783589489 sclW3 = 935620992 := by decide +kernel
theorem fold_all : fold 0xFFFFFFFF sclWords = 935620992 := by
  show fold 4294967295 (((sclW0 ++ sclW1) ++ sclW2) ++ sclW3) = _
  rw [fold_app, fold_app, fold_app, fold_0, fold_1, fold_2, fold_3]
theorem used_of {s : State} (h : (List.range 64).map (fun k => s.rd (0x71100 + 4 * k)) = sclWords)
    (h2 : (s.word Reg.SFI_SCLMAP == 3359346303 && s.islandRuns && s.ens Pg.SCL && !s.sclBad) = true) : s.sclUsed = true := by
  have p : s.sclPcv = 3359346303 := by
    have e : s.sclPcv = BitVec.ofNat 32 (Nat.xor (fold 0xFFFFFFFF ((List.range 64).map (fun k => s.rd (0x71100 + 4 * k)))) 0xFFFFFFFF) := by
      rw [fold, List.flatMap_map]; rfl
    rw [e, h, fold_all]; decide
  simp only [Bool.and_eq_true, beq_iff_eq, Bool.not_eq_true'] at h2
  obtain ⟨⟨⟨a, b⟩, c⟩, d⟩ := h2
  have m : s.rd Reg.SFI_SCLMAP = 3359346303 := by
    show (s.word Reg.SFI_SCLMAP).toNat = _
    rw [a]; rfl
  simp [State.sclUsed, State.sclMapped, p, a, b, c, d, m]
/-- Its fields. -/
def scl0 : List (RegField × Nat) :=
  [(Fld.ens Pg.SCL, 1), (Fld.SFI_STAT_STATE, 4), (Fld.SCL_CCFG_EN 0, 1), (Fld.SCL_CCFG_FMASK 0, 1), (whole (Reg.SCL_CID 0), 7),
   (Fld.SCL_CCFG_EN 1, 1), (Fld.SCL_CCFG_ROLE 1, 1), (whole (Reg.SCL_CID 1), 8), (whole Reg.SFI_SCLMAP, 3359346303)]
/-- A PDU with its right CRC. -/
def pdu (kind cid seq sd : Nat) : List Byte :=
  let h := beBytes 1 (16 + kind) ++ beBytes 3 0 ++ beBytes 4 cid ++ beBytes 4 seq ++ beBytes 4 0 ++ beBytes 4 sd
  h ++ beBytes 4 (crc32c h).toNat
/-- That module with a PDU at the front of the island's queue. -/
def sc (p : List Byte) (l : List (RegField × Nat)) : State :=
  let s := st (scl0 ++ l)
  { s with scl := { s.scl with rxq := [p] } }
theorem take_of {s : State} {kind n : Nat} {pdu : List Byte} {rest : List (List Byte)} (h : s.scl.rxq = pdu :: rest)
    (h1 : s.sclUsed = true)
    (h2 : (pdu.length == 24 && (crc32c (pdu.take 20)).toNat == beAt pdu 20 4 && beAt pdu 0 1 / 16 == 1 && sclKind pdu == kind &&
      decide (1 ≤ kind) && decide (kind ≤ 4) && (s.connOf pdu (sclRole kind)) == some n && !sclReserved pdu false &&
      !s.on (Fld.SCL_CCFG_COMPAT n)) = true) :
    s.sclTake kind = ({ s with scl := { s.scl with rxq := rest } }, some (n, pdu)) := by
  simp only [Bool.and_eq_true, beq_iff_eq, Bool.not_eq_true', decide_eq_true_eq] at h2
  obtain ⟨⟨⟨⟨⟨⟨⟨⟨a, b⟩, c⟩, d⟩, e⟩, f⟩, g⟩, i⟩, j⟩ := h2
  unfold State.sclTake; rw [h]
  simp only []
  have e0 : ∀ r, ({ s with scl := { s.scl with rxq := rest } } : State).connOf pdu r = s.connOf pdu r := fun _ => rfl
  have e1 : ({ s with scl := { s.scl with rxq := rest } } : State).sclUsed = s.sclUsed := rfl
  have e2 : ({ s with scl := { s.scl with rxq := rest } } : State).on (Fld.SCL_CCFG_COMPAT n) = s.on (Fld.SCL_CCFG_COMPAT n) := rfl
  rw [if_neg (by simp [e1, h1]), if_neg (by simp [a, b]), if_neg (by rw [d]; omega), e0, d, g]
  simp only [e2, j, i]
  simp

/-! ### Every statement that has hypotheses: states and operands that meet them, clause by clause -/

theorem witness_StepRunsFrontCommand :
    ∃ (s : State) (c : Instr) (rest : List Instr), s.pending = c :: rest :=
  ⟨{ b0 with pending := [.idcode] }, .idcode, [], (by decide +kernel)⟩

theorem witness_EmptyQueueCountsTime :
    (∃ s : State, s.pending = [] ∧ s.domUp 3 = true ∧ s.on Fld.TIM_STATE_SLEWING = false) ∧
    (∃ s : State, s.chm.pend = none) ∧
    (∃ (s : State) (now t0 : Nat), s.chm.pend = some t0 ∧ now < t0) ∧
    (∃ (s : State) (now t0 : Nat), s.chm.pend = some t0 ∧ t0 ≤ now) ∧
    (∃ s : State, s.pending = [] ∧ s.domUp 3 = false) :=
  ⟨⟨b0, (by decide +kernel), (by decide +kernel), (by decide +kernel)⟩,
   ⟨b0, (by decide +kernel)⟩,
   ⟨{ b0 with chm := { b0.chm with pend := some 8 } }, 7, 8, (by decide +kernel), (by decide +kernel)⟩,
   ⟨{ b0 with chm := { b0.chm with pend := some 8 } }, 8, 8, (by decide +kernel), (by decide +kernel)⟩,
   ⟨b0.modClk (fun c => { c with held := [3] }), (by decide +kernel), (by decide +kernel)⟩⟩

theorem witness_LinesFollowEveryStep :
    ∃ s t : State, step s = .next t :=
  ⟨b0, after (step b0), rfl⟩

theorem witness_SnareSilencesConverter :
    ∃ s t : State, step s = .next t ∧ (t.snare = true ∨ t.on Fld.PWR_STAT_VIOLOW = true ∨ t.owns = false) :=
  ⟨st [(Fld.PRT_SNSTAT_ACTIVE, 1)], after (step (st [(Fld.PRT_SNSTAT_ACTIVE, 1)])), rfl, (by decide +kernel)⟩

theorem witness_RegisterSpaceLaws :
    (∃ (s : State) (a : Nat) (w : Word), s.regsWf = true) ∧
    (∃ (s : State) (f g : RegField) (v : Nat), f.lo + f.width ≤ 32) ∧
    (∃ (s : State) (f g : RegField) (v : Nat), f.lo + f.width ≤ 32 ∧ (f.addr ≠ g.addr ∨ f.lo + f.width ≤ g.lo ∨ g.lo + g.width ≤ f.lo)) :=
  ⟨⟨b0, 0, 0, (by decide +kernel)⟩,
   ⟨b0, Fld.ctrlEn 5, Fld.ctrlEn 5, 1, (by decide +kernel)⟩,
   ⟨b0, Fld.ctrlEn 5, Fld.locked 5, 1, (by decide +kernel), (by decide +kernel)⟩⟩

theorem witness_RejectedWriteLeavesRegisters :
    ∃ (s : State) (o : Origin) (a : Addr) (v : Word), s.domUp 2 = true ∧ s.writeVerdict o a.toNat v.toNat ≠ 0 :=
  ⟨b0, .host, 2, 0, (by decide +kernel), (by decide +kernel)⟩

theorem witness_RegisterWriteStores :
    (∃ (s : State) (o : Origin) (a : Addr) (v : Word) (p : Nat) (w : WordSpec), ([Pg.EST, Pg.BAL, Pg.THM, Pg.PWM, Pg.LPE, Pg.PRT,
      Pg.ISO, Pg.SRQ] : List Nat).contains p = true ∧ pageAt a.toNat = some p ∧ 0x40 ≤ a.toNat % 0x1000 ∧ s.specAt o p a.toNat = some w
      ∧ w.acc = .rw ∧ w.cls ≠ .shadow ∧ w.serves = false ∧ s.Accepts o a.toNat v.toNat ∧ s.actsNow p w = true ∧
      (∀ n : Nat, n < 12 → a.toNat = Reg.PRT_CMPCFG n → s.on (Fld.PRT_CMPSTAT_LEVEL n) = false)) ∧
    (∃ (s : State) (n : Nat), s.on (Fld.PRT_CMPCFG_EN n) = false ∧ s.on (Fld.PRT_CMPSTAT_LEVEL n) = true) :=
  ⟨⟨sv [], .host, BitVec.ofNat 32 (Reg.PRT_CMPCFG 11), 5, Pg.PRT, ((sv []).specAt .host Pg.PRT (Reg.PRT_CMPCFG 11)).get
      (by decide +kernel), (by decide +kernel), (by decide +kernel), (by decide +kernel), (by decide +kernel), (by decide +kernel),
      (by decide +kernel), (by decide +kernel), acc_of (by decide +kernel), (by decide +kernel), (by decide +kernel)⟩,
   ⟨st [(Fld.PRT_CMPSTAT_LEVEL 11, 1)], 11, (by decide +kernel), (by decide +kernel)⟩⟩

theorem witness_MisalignedAccessRejected :
    (∃ (s : State) (o : Origin) (a v : Nat), a % 4 ≠ 0 ∧ s.locksOut o = false) ∧
    (∃ (s : State) (o : Origin) (a : Addr) (v : Word), a.toNat % 4 ≠ 0 ∧ s.domUp 2 = true) :=
  ⟨⟨b0, .host, 2, 0, (by decide +kernel), (by decide +kernel)⟩,
   ⟨b0, .host, 2, 0, (by decide +kernel), (by decide +kernel)⟩⟩

theorem witness_FirmwareAndSafetyWrites :
    (∃ (s : State) (a p v : Nat), ownerPage a = some p ∧ (p = Pg.SFI ∨ p = Pg.SCL)) ∧
    (∃ (s : State) (a v : Nat), (∀ p, ownerPage a = some p → p ≠ Pg.SFI ∧ p ≠ Pg.SCL)) :=
  ⟨⟨b0, Reg.ctrl Pg.SFI, Pg.SFI, 1, (by decide +kernel), (by decide +kernel)⟩,
   ⟨b0, Reg.ctrl Pg.PWM, 1, (of_some (a := Pg.PWM) (by decide +kernel) (by decide))⟩⟩

theorem witness_LockedPageWrites :
    (∃ (s : State) (o : Origin) (p a v : Nat), ownerPage a = some p ∧ s.on (Fld.locked p) = true ∧ irqWord a = false ∧ lockWord a =
      false) ∧
    (∃ (s : State) (o : Origin) (p a v : Nat), ownerPage a = some p ∧ s.on (Fld.locked p) = true ∧ irqWord a = false ∧ lockWord a =
      false ∧ a % 4 = 0 ∧ s.locksOut o = false ∧ (s.specAt o p a).isSome = true ∧ s.busReady o p = true ∧ s.mayWrite o p a v = true) ∧
    (∃ (s : State) (o : Origin) (p a v : Nat), ownerPage a = some p ∧ s.on (Fld.locked p) = true ∧ (irqWord a = true ∨ lockWord a =
      true)) :=
  ⟨⟨st [(Fld.locked Pg.PWM, 1)], .host, Pg.PWM, Reg.ctrl Pg.PWM, 1, (by decide +kernel), (by decide +kernel), (by decide +kernel),
     (by decide +kernel)⟩,
   ⟨st [(Fld.locked Pg.PWM, 1)], .firmware, Pg.PWM, Reg.ctrl Pg.PWM, 1, (by decide +kernel), (by decide +kernel), (by decide +kernel),
     (by decide +kernel), (by decide +kernel), (by decide +kernel), (by decide +kernel), (by decide +kernel), (by decide +kernel)⟩,
   ⟨st [(Fld.locked Pg.PWM, 1)], .firmware, Pg.PWM, Reg.irqs Pg.PWM, 1, (by decide +kernel), (by decide +kernel), (by decide +kernel)⟩⟩

theorem witness_LockNeedsKey :
    (∃ (s : State) (o : Origin) (p : Fin 41) (v : Nat), v / 65536 ≠ 0xA5C3) ∧
    (∃ (s : State) (o : Origin) (p : Fin 41) (v : Nat), v / 65536 ≠ 0xA5C3 ∧ s.locksOut o = false ∧ s.busReady o p.val = true ∧
      s.mayWrite o p.val (Reg.lock p.val) v = true) ∧
    (∃ (s : State) (o : Origin) (p : Fin 41) (v : Word), v.toNat / 65536 ≠ 0xA5C3 ∧ s.domUp 2 = true) :=
  ⟨⟨b0, .host, 15, 1, (by decide +kernel)⟩,
   ⟨sv [], .host, 15, 1, (by decide +kernel), (by decide +kernel), (by decide +kernel), (by decide +kernel)⟩,
   ⟨b0, .host, 15, 1, (by decide +kernel), (by decide +kernel)⟩⟩

theorem witness_AccessFrames :
    (∃ (s t : State) (o : Origin) (p : Fin 41), s.Accepts o (Reg.lock p.val) 0xA5C30001 ∧ exec (.lockPage o p) s = .next t) ∧
    (∃ (s t : State) (o : Origin) (p : Fin 41), s.Accepts o (Reg.lock p.val) 0xA5C30000 ∧ exec (.unlockPage o p) s = .next t) ∧
    (∃ (s t : State) (o : Origin) (p : Fin 41) (bits : Word), s.Accepts o (Reg.irqs p.val) bits.toNat ∧ exec (.irqsClear o p bits) s =
      .next t) ∧
    (∃ (s t : State) (o : Origin) (p : Fin 41), s.Accepts o (Reg.erra p.val) 0x80000000 ∧ exec (.erraClear o p) s = .next t) ∧
    (∃ (s t : State) (o : Origin) (p : Fin 41), s.Accepts o (Reg.commit p.val) 1 ∧ s.ens p.val = true ∧ s.promptPage p.val = false ∧
      exec (.commitGo o p) s = .next t) ∧
    (∃ (s t : State) (o : Origin) (p : Fin 41), s.Accepts o (Reg.commit p.val) 2 ∧ exec (.commitDiscard o p) s = .next t) ∧
    (∃ (s t : State) (o : Origin) (a : Addr), s.readVerdict o a.toNat = 0 ∧ queDataAt a.toNat = none ∧ exec (.wordPairRead o a) s =
      .next t) ∧
    (∃ (s t : State), (exec .idcode s = .next t ∨ (∃ p, exec (.samplePreload p) s = .next t) ∨ ∃ c, exec (.bypass c) s = .next t)) :=
  ⟨⟨sv [], after (exec (.lockPage .host 15) (sv [])), .host, 15, acc_of (by decide +kernel), rfl⟩,
   ⟨sv [], after (exec (.unlockPage .host 15) (sv [])), .host, 15, acc_of (by decide +kernel), rfl⟩,
   ⟨sv [], after (exec (.irqsClear .host 15 1) (sv [])), .host, 15, 1, acc_of (by decide +kernel), rfl⟩,
   ⟨sv [], after (exec (.erraClear .host 15) (sv [])), .host, 15, acc_of (by decide +kernel), rfl⟩,
   ⟨sv [(Fld.ens 15, 1)], after (exec (.commitGo .host 15) (sv [(Fld.ens 15, 1)])), .host, 15, acc_of (by decide +kernel),
     (by decide +kernel), (by decide +kernel), rfl⟩,
   ⟨sv [], after (exec (.commitDiscard .host 15) (sv [])), .host, 15, acc_of (by decide +kernel), rfl⟩,
   ⟨sv [], after (exec (.wordPairRead .host (BitVec.ofNat 32 (Reg.ctrl 15))) (sv [])), .host, BitVec.ofNat 32 (Reg.ctrl 15),
     (by decide +kernel), (by decide +kernel), rfl⟩,
   ⟨b0, after (exec .idcode b0), (.inl rfl)⟩⟩

theorem witness_HeaderCommandsComplete :
    (∃ (s : State) (o : Origin) (p : Fin 41), s.Accepts o (Reg.lock p.val) 0xA5C30001) ∧
    (∃ (s : State) (o : Origin) (p : Fin 41), s.Accepts o (Reg.lock p.val) 0xA5C30000) ∧
    (∃ (s : State) (o : Origin) (p : Fin 41) (bits : Word), s.Accepts o (Reg.irqs p.val) bits.toNat) ∧
    (∃ (s : State) (o : Origin) (p : Fin 41), s.Accepts o (Reg.erra p.val) 0x80000000) ∧
    (∃ (s : State) (o : Origin) (p : Fin 41), s.Accepts o (Reg.commit p.val) 1 ∧ s.ens p.val = true ∧ s.promptPage p.val = false) ∧
    (∃ (s : State) (o : Origin) (p : Fin 41), s.Accepts o (Reg.commit p.val) 1 ∧
       (let u := (s.mirrorOut o p.val (Reg.commit p.val) 1).setOn (cpend p.val) true; (u.ens p.val = false ∨ u.promptPage p.val = true))) ∧
    (∃ (s : State) (o : Origin) (p : Fin 41), s.Accepts o (Reg.commit p.val) 2) :=
  ⟨⟨sv [], .host, 15, acc_of (by decide +kernel)⟩,
   ⟨sv [], .host, 15, acc_of (by decide +kernel)⟩,
   ⟨sv [], .host, 15, 1, acc_of (by decide +kernel)⟩,
   ⟨sv [], .host, 15, acc_of (by decide +kernel)⟩,
   ⟨sv [(Fld.ens 15, 1)], .host, 15, acc_of (by decide +kernel), (by decide +kernel), (by decide +kernel)⟩,
   ⟨sv [], .host, 15, acc_of (by decide +kernel), (by decide +kernel)⟩,
   ⟨sv [], .host, 15, acc_of (by decide +kernel)⟩⟩

theorem witness_BoundaryEventsComplete :
    (∃ (s : State) (p : Fin 41) (q : Fin 4), s.Up (pageDomain p.val) ∧ p.val ≠ Pg.CNA ∧ p.val ≠ Pg.CNB) ∧
    (∃ (s : State) (x : Fin 2) (q : Fin 4), s.Up 8) ∧
    (∃ (s : State) (p : Fin 41), s.Up (pageDomain p.val) ∧ s.on (cpend p.val) = true) ∧
    (∃ (s : State) (p : Fin 41) (o : Origin), s.Up (pageDomain p.val) ∧ s.claimOf p.val = some o ∧ s.on (cpend p.val) = false) ∧
    (∃ (s : State) (o : Origin) (code : BitVec 4) (a : Addr) (r : RejectRun), s.Up 2 ∧ s.acc.runs.find? (fun r => decide (r.origin = o)
      && r.code == code.toNat && r.addr == a.toNat) = some r ∧ r.extra ≠ 0) :=
  ⟨⟨b0, 10, 3, up_of (by decide +kernel), (by decide +kernel), (by decide +kernel)⟩,
   ⟨b0, 1, 0, up_of (by decide +kernel)⟩,
   ⟨st [(cpend 15, 1)], 15, up_of (by decide +kernel), (by decide +kernel)⟩,
   ⟨{ b0 with acc := { b0.acc with claims := [(15, .host)] } }, 15, .host, up_of (by decide +kernel), (by decide +kernel),
     (by decide +kernel)⟩,
   ⟨{ b0 with acc := { b0.acc with runs := [⟨.host, 2, 64, 1, 1⟩] } }, .host, 2, 64, ⟨.host, 2, 64, 1, 1⟩, up_of (by decide +kernel),
     (by decide +kernel), (by decide +kernel)⟩⟩

theorem witness_ReadsComplete :
    (∃ (s : State) (o : Origin) (a : Addr) (p : Nat), s.readVerdict o a.toNat = 0 ∧ ownerPage a.toNat = some p ∧ queDataAt a.toNat =
      none ∧ s.latchAt o a.toNat = none) ∧
    (∃ (s : State) (o : Origin) (q : Fin 4), s.readVerdict o (Reg.SRQ_QDATA q.val) = 0) ∧
    (∃ (s : State) (o : Origin) (e : Fin 3072), s.readVerdict o (0x20000 + 64 * e.val) = 0 ∧ s.latchAt o (0x20000 + 64 * e.val) = none) ∧
    (∃ (s : State) (o : Origin) (x : Fin 2) (n : Fin 128), s.readVerdict o (objAddr x.val n.val 3) = 0 ∧ s.latchAt o (objAddr x.val
      n.val 3) = none) ∧
    (∃ (s : State) (o : Origin) (k : TimeRead), s.readVerdict o (timeReadAddr k) = 0 ∧ s.latchAt o (timeReadAddr k) = none) :=
  ⟨⟨sv [], .host, BitVec.ofNat 32 (Reg.ctrl 15), 15, (by decide +kernel), (by decide +kernel), (by decide +kernel),
     (by decide +kernel)⟩,
   ⟨sv [], .firmware, 0, (by decide +kernel)⟩,
   ⟨sv [], .host, 0, (by decide +kernel), (by decide +kernel)⟩,
   ⟨sv [], .host, 0, 0, (by decide +kernel), (by decide +kernel)⟩,
   ⟨sv [], .host, .plant, (by decide +kernel), (by decide +kernel)⟩⟩

theorem witness_HostPortComplete :
    (∃ (s : State) (count : Byte) (a : Addr) (data : List Word) (crc : Word), s.Up 9 ∧ count.toNat ≤ 63 ∧ requestOk 0x02 count a data
      crc = true) ∧
    (∃ (s : State) (count : Byte) (a : Addr) (data : List Word) (crc : Word), s.Up 9 ∧ count.toNat ≤ 63 ∧ requestOk 0x03 count a data
      crc = true) ∧
    (∃ (s : State) (count : Byte) (a : Addr) (crc : Word), s.Up 9 ∧ count.toNat ≤ 63 ∧ requestOk 0x0B count a [] crc = true) ∧
    (∃ (s : State) (count : Byte) (a : Addr) (crc : Word), s.Up 9 ∧ count.toNat ≤ 63 ∧ requestOk 0x0C count a [] crc = true) ∧
    (∃ (s : State) (count : Byte) (a : Addr) (crc : Word), s.Up 9 ∧ count.toNat ≤ 63 ∧ requestOk 0x0E count a [] crc = true) ∧
    (∃ (s : State) (op count : Byte) (a : Addr) (crc : Word), s.Up 9 ∧ op ∉ ([0x02, 0x03, 0x0B, 0x0C, 0x0E] : List Byte) ∧
      requestOk op count a [] crc = true) ∧
    (∃ s : State, s.Up 9) ∧
    (∃ (s : State) (o : Origin) (v : Word), s.Accepts o Reg.HST_SDOOR v.toNat) ∧
    (∃ (s : State) (q : Req) (a : Addr) (count : Byte), s.Reached q 1 ∧ s.roleOf q.origin ≠ none ∧ count.toNat ≤ 63) ∧
    (∃ (s : State) (q : Req) (a : Addr) (count : Byte) (data : List Word), s.Reached q 2 ∧ s.roleOf q.origin ≠ none ∧ count.toNat ≤ 63
      ∧ data.length = count.toNat + 1) :=
  ⟨⟨b0, 0, 4096, [0], crc32c (requestText 2 0 4096 [0]), up_of (by decide +kernel), (by decide +kernel), (by decide +kernel)⟩,
   ⟨b0, 1, 4096, [0, 1], crc32c (requestText 3 1 4096 [0, 1]), up_of (by decide +kernel), (by decide +kernel), (by decide +kernel)⟩,
   ⟨b0, 63, 4096, crc32c (requestText 11 63 4096 []), up_of (by decide +kernel), (by decide +kernel), (by decide +kernel)⟩,
   ⟨b0, 63, 4096, crc32c (requestText 12 63 4096 []), up_of (by decide +kernel), (by decide +kernel), (by decide +kernel)⟩,
   ⟨b0, 0, 0, crc32c (requestText 14 0 0 []), up_of (by decide +kernel), (by decide +kernel), (by decide +kernel)⟩,
   ⟨b0, 5, 64, 0, crc32c (requestText 5 64 0 []), up_of (by decide +kernel), (by decide +kernel), (by decide +kernel)⟩,
   ⟨b0, up_of (by decide +kernel)⟩,
   ⟨b0, .host, 1, acc_of (by decide +kernel)⟩,
   ⟨b0, hq, 4096, 63, reached_host (by decide +kernel), (by decide +kernel), (by decide +kernel)⟩,
   ⟨b0, hq, 4096, 0, [0], reached_host (by decide +kernel), (by decide +kernel), (by decide +kernel), (by decide +kernel)⟩⟩

theorem witness_StringCommandsComplete :
    (∃ (s : State) (q : Req), s.Served q 3 0 ∧ s.svc.state = .running) ∧
    (∃ (s : State) (q : Req), s.Served q 3 0 ∧ s.svc.state = .connected) ∧
    (∃ (s : State) (q : Req), s.Served q 3 0 ∧ s.svc.state = .tripped ∧ s.snStanding = [] ∧ s.tripBars = []) ∧
    (∃ (s : State) (q : Req), s.Served q 3 0 ∧ s.svc.state = .ready) ∧
    (∃ (s : State) (q : Req), s.Served q 3 0 ∧ s.svc.state = .connected ∧ s.standingBars = false ∧ s.ctk.opening = none ∧ s.on
      Fld.UPD_STAT_MIXED = false) ∧
    (∃ (s : State) (q : Req), s.Served q 3 0 ∧ s.mayConnect = true ∧ s.allOpen = true ∧ s.connectBranches ≠ []) :=
  ⟨⟨(sv []).setSvc .running, hq, served_host (by decide +kernel), (by decide +kernel)⟩,
   ⟨(sv []).setSvc .connected, hq, served_host (by decide +kernel), (by decide +kernel)⟩,
   ⟨(sv []).setSvc .tripped, hq, served_host (by decide +kernel), (by decide +kernel), (by decide +kernel), (by decide +kernel)⟩,
   ⟨(sv []).setSvc .ready, hq, served_host (by decide +kernel), (by decide +kernel)⟩,
   ⟨(sv []).setSvc .connected, hq, served_host (by decide +kernel), (by decide +kernel), (by decide +kernel), (by decide +kernel),
     (by decide +kernel)⟩,
   ⟨(sv ready0).setSvc .ready, hq, served_host (by decide +kernel), (by decide +kernel), (by decide +kernel), (by decide +kernel)⟩⟩

theorem witness_BlocksStart :
    (∃ (s : State) (o : Origin) (r : Fin 4), s.Accepts o (Reg.ctrl (Pg.SR r.val)) 1 ∧ s.on (Fld.ctrlEn (Pg.SR r.val)) = false ∧
      s.startBarred (Pg.SR r.val) = false) ∧
    (∃ (s : State) (o : Origin), s.Accepts o (Reg.ctrl Pg.CHM) 1 ∧ s.on (Fld.ctrlEn Pg.CHM) = false ∧ s.startBarred Pg.CHM = false) ∧
    (∃ (s : State) (o : Origin), s.Accepts o (Reg.ctrl Pg.EST) 1 ∧ s.on (Fld.ctrlEn Pg.EST) = false ∧ s.startBarred Pg.EST = false) ∧
    (∃ (s : State) (o : Origin) (x : Fin 2), s.Accepts o (Reg.ctrl (Pg.CNA + x.val)) 1 ∧ s.on (Fld.ctrlEn (Pg.CNA + x.val)) = false ∧
      s.startBarred (Pg.CNA + x.val) = false) ∧
    (∃ (s : State) (o : Origin), s.Accepts o (Reg.ctrl Pg.PWM) 1 ∧ s.on (Fld.ctrlEn Pg.PWM) = false ∧ s.startBarred Pg.PWM = false) ∧
    (∃ (s : State) (o : Origin), s.Accepts o (Reg.ctrl Pg.ADC) 1 ∧ s.on (Fld.ctrlEn Pg.ADC) = false ∧ s.startBarred Pg.ADC = false ∧
      (s.enabling o Pg.ADC).ens Pg.ADC = false) ∧
    (∃ (s : State) (o : Origin), s.Accepts o (Reg.ctrl Pg.LPE) 1 ∧ s.on (Fld.ctrlEn Pg.LPE) = false ∧ s.startBarred Pg.LPE = false ∧
      (s.enabling o Pg.LPE).ens Pg.LPE = false) ∧
    (∃ (s : State) (o : Origin), s.Accepts o (Reg.ctrl Pg.ISO) 1 ∧ s.on (Fld.ctrlEn Pg.ISO) = false ∧ s.startBarred Pg.ISO = false) ∧
    (∃ (s : State) (o : Origin), s.Accepts o (Reg.ctrl Pg.SFI) 1 ∧ s.on (Fld.ctrlEn Pg.SFI) = false ∧ s.startBarred Pg.SFI = false) ∧
    (∃ (s : State) (o : Origin), s.Accepts o (Reg.ctrl Pg.SCL) 1 ∧ s.on (Fld.ctrlEn Pg.SCL) = false ∧ s.startBarred Pg.SCL = false) ∧
    (∃ (s : State) (o : Origin), s.Accepts o (Reg.ctrl Pg.FAB) 1 ∧ s.on (Fld.ctrlEn Pg.FAB) = false ∧ s.startBarred Pg.FAB = false) :=
  ⟨⟨sv [], .host, 3, acc_of (by decide +kernel), (by decide +kernel), (by decide +kernel)⟩,
   ⟨sv [], .host, acc_of (by decide +kernel), (by decide +kernel), (by decide +kernel)⟩,
   ⟨sv [], .host, acc_of (by decide +kernel), (by decide +kernel), (by decide +kernel)⟩,
   ⟨sv [], .host, 1, acc_of (by decide +kernel), (by decide +kernel), (by decide +kernel)⟩,
   ⟨sv [], .host, acc_of (by decide +kernel), (by decide +kernel), (by decide +kernel)⟩,
   ⟨sv [], .host, acc_of (by decide +kernel), (by decide +kernel), (by decide +kernel), (by decide +kernel)⟩,
   ⟨sv [], .host, acc_of (by decide +kernel), (by decide +kernel), (by decide +kernel), (by decide +kernel)⟩,
   ⟨sv [], .host, acc_of (by decide +kernel), (by decide +kernel), (by decide +kernel)⟩,
   ⟨sv [], .safety, acc_of (by decide +kernel), (by decide +kernel), (by decide +kernel)⟩,
   ⟨sv [], .safety, acc_of (by decide +kernel), (by decide +kernel), (by decide +kernel)⟩,
   ⟨sv [], .host, acc_of (by decide +kernel), (by decide +kernel), (by decide +kernel)⟩⟩

theorem witness_BlocksStop :
    (∃ (s : State) (o : Origin) (r : Fin 4), s.Accepts o (Reg.ctrl (Pg.SR r.val)) 0 ∧ s.on (Fld.ctrlEn (Pg.SR r.val)) = true) ∧
    (∃ (s : State) (o : Origin), s.Accepts o (Reg.ctrl Pg.SRQ) 0 ∧ s.on (Fld.ctrlEn Pg.SRQ) = true) ∧
    (∃ (s : State) (o : Origin), s.Accepts o (Reg.ctrl Pg.CHM) 0 ∧ s.on (Fld.ctrlEn Pg.CHM) = true) ∧
    (∃ (s : State) (o : Origin), s.Accepts o (Reg.ctrl Pg.BAL) 0 ∧ s.on (Fld.ctrlEn Pg.BAL) = true) ∧
    (∃ (s : State) (o : Origin), s.Accepts o (Reg.ctrl Pg.PWM) 0 ∧ s.on (Fld.ctrlEn Pg.PWM) = true) ∧
    (∃ (s : State) (o : Origin), s.Accepts o (Reg.ctrl Pg.LPE) 0 ∧ s.on (Fld.ctrlEn Pg.LPE) = true) ∧
    (∃ (s : State) (o : Origin), s.Accepts o (Reg.ctrl Pg.CTK) 0 ∧ s.on (Fld.ctrlEn Pg.CTK) = true) ∧
    (∃ (s : State) (o : Origin), s.Accepts o (Reg.ctrl Pg.ADC) 0 ∧ s.on (Fld.ctrlEn Pg.ADC) = true) ∧
    (∃ (s : State) (o : Origin), s.Accepts o (Reg.ctrl Pg.SFI) 0 ∧ s.on (Fld.ctrlEn Pg.SFI) = true) :=
  ⟨⟨sv [(Fld.ctrlEn Pg.SRD, 1)], .host, 3, acc_of (by decide +kernel), (by decide +kernel)⟩,
   ⟨sv [(Fld.ctrlEn Pg.SRQ, 1)], .host, acc_of (by decide +kernel), (by decide +kernel)⟩,
   ⟨sv [(Fld.ctrlEn Pg.CHM, 1)], .host, acc_of (by decide +kernel), (by decide +kernel)⟩,
   ⟨sv [(Fld.ctrlEn Pg.BAL, 1)], .host, acc_of (by decide +kernel), (by decide +kernel)⟩,
   ⟨sv [(Fld.ctrlEn Pg.PWM, 1)], .host, acc_of (by decide +kernel), (by decide +kernel)⟩,
   ⟨sv [(Fld.ctrlEn Pg.LPE, 1)], .host, acc_of (by decide +kernel), (by decide +kernel)⟩,
   ⟨sv [(Fld.ctrlEn Pg.CTK, 1)], .host, acc_of (by decide +kernel), (by decide +kernel)⟩,
   ⟨sv [(Fld.ctrlEn Pg.ADC, 1)], .host, acc_of (by decide +kernel), (by decide +kernel)⟩,
   ⟨sv [(Fld.ctrlEn Pg.SFI, 1), (whole Reg.CTK_AUX, 0x3FF)], .safety, acc_of (by decide +kernel), (by decide +kernel)⟩⟩

theorem witness_RingCommandsComplete :
    (∃ (s : State) (o : Origin) (r : Fin 4), s.Accepts o (Reg.SR_CMD r.val) 2 ∧ s.inService r.val = true ∧ s.on (Fld.SR_STATE_EXTRA
      r.val) = false) ∧
    (∃ (s : State) (o : Origin) (r : Fin 4), s.Accepts o (Reg.SR_CMD r.val) 1 ∧ s.inService r.val = true) ∧
    (∃ (s : State) (o : Origin) (r : Fin 4) (p : BitVec 6), s.Accepts o (Reg.SR_CMD r.val) (3 + 256 * p.toNat) ∧ s.inService r.val =
      true ∧ 1 ≤ p.toNat ∧ p.toNat ≤ s.nsup r.val) ∧
    (∃ (s : State) (o : Origin) (r : Fin 4) (p : BitVec 6), s.Accepts o (Reg.SR_CMD r.val) (4 + 256 * p.toNat) ∧ s.inService r.val =
      true ∧ 1 ≤ p.toNat ∧ p.toNat ≤ s.nsup r.val) ∧
    (∃ (s : State) (o : Origin) (r : Fin 4), s.Accepts o (Reg.SR_CMD r.val) 5 ∧ s.inService r.val = true) ∧
    (∃ (s : State) (o : Origin) (q : Fin 4) (classes : BitVec 4), s.Accepts o (Reg.SRQ_QCMD q.val) classes.toNat) ∧
    (∃ (s : State) (o : Origin) (r : Fin 4) (p : BitVec 6), s.Accepts o (Reg.SR_CMD r.val) (3 + 256 * p.toNat) ∧ (s.inService r.val =
      false ∨ p.toNat = 0 ∨ s.nsup r.val < p.toNat)) :=
  ⟨⟨(sv [(Fld.SR_STATE_MODE 0, 3), (Fld.SR_CFG_NSUP 0, 4), (Fld.ens Pg.SRA, 1)]), .host, 0, acc_of (by decide +kernel),
     (by decide +kernel), (by decide +kernel)⟩,
   ⟨(sv [(Fld.SR_STATE_MODE 0, 3), (Fld.SR_CFG_NSUP 0, 4), (Fld.ens Pg.SRA, 1)]), .host, 0, acc_of (by decide +kernel),
     (by decide +kernel)⟩,
   ⟨(sv [(Fld.SR_STATE_MODE 0, 3), (Fld.SR_CFG_NSUP 0, 4), (Fld.ens Pg.SRA, 1)]), .host, 0, 4, acc_of (by decide +kernel),
     (by decide +kernel), (by decide +kernel), (by decide +kernel)⟩,
   ⟨(sv [(Fld.SR_STATE_MODE 0, 3), (Fld.SR_CFG_NSUP 0, 4), (Fld.ens Pg.SRA, 1)]), .host, 0, 1, acc_of (by decide +kernel),
     (by decide +kernel), (by decide +kernel), (by decide +kernel)⟩,
   ⟨(sv [(Fld.SR_STATE_MODE 0, 3), (Fld.SR_CFG_NSUP 0, 4), (Fld.ens Pg.SRA, 1)]), .host, 0, acc_of (by decide +kernel),
     (by decide +kernel)⟩,
   ⟨(sv [(Fld.SR_STATE_MODE 0, 3), (Fld.SR_CFG_NSUP 0, 4), (Fld.ens Pg.SRA, 1)]), .host, 3, 15, acc_of (by decide +kernel)⟩,
   ⟨(sv [(Fld.SR_STATE_MODE 0, 3), (Fld.SR_CFG_NSUP 0, 4), (Fld.ens Pg.SRA, 1)]), .host, 0, 5, acc_of (by decide +kernel),
     (by decide +kernel)⟩⟩

theorem witness_RingFramesComplete :
    (∃ (s : State) (r : Fin 4) (port : Side) (f : RingFrame) (t : RingTxn), s.Up 7 ∧ s.portActs r.val (port == .south) = true
      ∧ s.listens r.val = false ∧ f.line = .clean ∧ f.len.toNat ≤ 1024 ∧ frameCheckOk f = true ∧ frameBadHeader f = false ∧
      f.err = false ∧ s.matching r.val f = some t) ∧
    (∃ (s : State) (r : Fin 4) (port : Side) (f : RingFrame) (t : RingTxn), s.Up 7 ∧ s.portActs r.val (port == .south) = true
      ∧ s.listens r.val = false ∧ f.line = .clean ∧ f.len.toNat ≤ 1024 ∧ frameCheckOk f = true ∧ frameBadHeader f = false ∧
      f.err = false ∧ s.matching r.val f = some t ∧ t.req.purpose = .alarm) ∧
    (∃ (s : State) (r : Fin 4) (port : Side) (f : RingFrame) (t : RingTxn), s.Up 7 ∧ s.portActs r.val (port == .south) = true
      ∧ s.listens r.val = false ∧ f.line = .clean ∧ f.len.toNat ≤ 1024 ∧ frameCheckOk f = true ∧ frameBadHeader f = false ∧
      f.err = false ∧ s.matching r.val f = some t ∧ t.req.purpose = .scan) ∧
    (∃ (s : State) (r : Fin 4) (port : Side) (f : RingFrame) (t : RingTxn), s.Up 7 ∧ s.portActs r.val (port == .south) = true
      ∧ s.listens r.val = false ∧ f.line = .clean ∧ f.len.toNat ≤ 1024 ∧ frameCheckOk f = true ∧ frameBadHeader f = false ∧
      f.err = false ∧ s.matching r.val f = some t ∧ t.req.purpose = .temp) ∧
    (∃ (s : State) (r : Fin 4) (port : Side) (f : RingFrame) (t : RingTxn), s.Up 7 ∧ s.portActs r.val (port == .south) = true
      ∧ s.listens r.val = false ∧ f.line = .clean ∧ f.len.toNat ≤ 1024 ∧ frameCheckOk f = true ∧ frameBadHeader f = false ∧
      f.err = false ∧ s.matching r.val f = some t ∧ ∃ k : Nat, t.req.purpose = .phasor k) ∧
    (∃ (s : State) (r : Fin 4) (port : Side) (tag : BitVec 4) (t : RingTxn), s.Up 7 ∧ s.portActs r.val (port == .south) =
      true ∧ (s.ring r.val).txns.find? (fun x => x.tag == tag.toNat) = some t ∧ port = .south ∧ t.south = false ∧
      (t.req.purpose = .path ∨ t.req.purpose = .healPath)) ∧
    (∃ (s : State) (r : Fin 4) (port : Side) (tag : BitVec 4) (t : RingTxn), s.Up 7 ∧ s.portActs r.val (port == .south) =
      true ∧ (s.ring r.val).txns.find? (fun x => x.tag == tag.toNat) = some t ∧ t.req.purpose = .reset) ∧
    (∃ (s : State) (r : Fin 4) (port : Side) (tag : BitVec 4) (t : RingTxn), s.Up 7 ∧ s.portActs r.val (port == .south) =
      true ∧ (s.ring r.val).txns.find? (fun x => x.tag == tag.toNat) = some t ∧ t.req.purpose ≠ .reset ∧ t.req.purpose ≠
      .path ∧ t.req.purpose ≠ .healPath) ∧
    (∃ (s : State) (r : Fin 4) (tag : BitVec 4) (t : RingTxn), s.Up 7 ∧ (s.ring r.val).txns.find? (fun x => x.tag ==
      tag.toNat) = some t) ∧
    (∃ (s : State) (r : Fin 4) (k : Nat) (q : RingReq), s.Up 7 ∧ (s.ring r.val).backoff[k]? = some q) ∧
    (∃ (s : State) (r : Fin 4) (port : Side) (f : RingFrame), s.Up 7 ∧ s.portActs r.val (port == .south) = true ∧ s.listens
      r.val = false ∧ f.line = .codeViolation) ∧
    (∃ (s : State) (r : Fin 4) (port : Side) (f : RingFrame), s.Up 7 ∧ s.portActs r.val (port == .south) = true ∧ s.listens
      r.val = false ∧ f.line = .clean ∧ 1024 < f.len.toNat) ∧
    (∃ (s : State) (r : Fin 4) (port : Side) (f : RingFrame), s.Up 7 ∧ s.portActs r.val (port == .south) = true ∧ s.listens
      r.val = false ∧ f.line = .clean ∧ f.len.toNat ≤ 1024 ∧ frameCheckOk f = false) ∧
    (∃ (s : State) (r : Fin 4) (port : Side) (f : RingFrame), s.Up 7 ∧ s.portActs r.val (port == .south) = true ∧ s.listens
      r.val = false ∧ f.line = .clean ∧ f.len.toNat ≤ 1024 ∧ frameCheckOk f = true ∧ frameBadHeader f = true) :=
  ⟨⟨rg .alarm, 0, .north, f0, tx .alarm, up_of (by decide +kernel), (by decide +kernel), (by decide +kernel),
    (by decide +kernel), (by decide +kernel), (by decide +kernel), (by decide +kernel), (by decide +kernel),
    (by decide +kernel)⟩,
   ⟨rg .alarm, 0, .north, f0, tx .alarm, up_of (by decide +kernel), (by decide +kernel), (by decide +kernel),
     (by decide +kernel), (by decide +kernel), (by decide +kernel), (by decide +kernel), (by decide +kernel),
     (by decide +kernel), (by decide +kernel)⟩,
   ⟨rg .scan, 0, .north, f0, tx .scan, up_of (by decide +kernel), (by decide +kernel), (by decide +kernel),
     (by decide +kernel), (by decide +kernel), (by decide +kernel), (by decide +kernel), (by decide +kernel),
     (by decide +kernel), (by decide +kernel)⟩,
   ⟨rg .temp, 0, .north, f0, tx .temp, up_of (by decide +kernel), (by decide +kernel), (by decide +kernel),
     (by decide +kernel), (by decide +kernel), (by decide +kernel), (by decide +kernel), (by decide +kernel),
     (by decide +kernel), (by decide +kernel)⟩,
   ⟨rg (.phasor 7), 0, .north, f0, tx (.phasor 7), up_of (by decide +kernel), (by decide +kernel), (by decide +kernel),
     (by decide +kernel), (by decide +kernel), (by decide +kernel), (by decide +kernel), (by decide +kernel),
     (by decide +kernel), 7, (by decide +kernel)⟩,
   ⟨rg .path, 0, .south, 1, tx .path, up_of (by decide +kernel), (by decide +kernel), (by decide +kernel),
     (by decide +kernel), (by decide +kernel), (by decide +kernel)⟩,
   ⟨rg .reset, 0, .south, 1, tx .reset, up_of (by decide +kernel), (by decide +kernel), (by decide +kernel),
     (by decide +kernel)⟩,
   ⟨rg .scan, 0, .north, 1, tx .scan, up_of (by decide +kernel), (by decide +kernel), (by decide +kernel),
     (by decide +kernel), (by decide +kernel), (by decide +kernel)⟩,
   ⟨rg .scan, 0, 1, tx .scan, up_of (by decide +kernel), (by decide +kernel)⟩,
   ⟨b0.modRing 0 (fun g => { g with backoff := [(tx .scan).req] }), 0, 0, (tx .scan).req, up_of (by decide +kernel),
     (by decide +kernel)⟩,
   ⟨rg .scan, 0, .north, { f0 with line := .codeViolation }, up_of (by decide +kernel), (by decide +kernel),
     (by decide +kernel), (by decide +kernel)⟩,
   ⟨rg .scan, 0, .north, { f0 with len := 1025 }, up_of (by decide +kernel), (by decide +kernel), (by decide +kernel),
     (by decide +kernel), (by decide +kernel)⟩,
   ⟨rg .scan, 0, .north, { f0 with crc := f0.crc + 1 }, up_of (by decide +kernel), (by decide +kernel), (by decide +kernel),
     (by decide +kernel), (by decide +kernel), (by decide +kernel)⟩,
   ⟨rg .scan, 0, .north, rf { f0 with rsv := 1 }, up_of (by decide +kernel), (by decide +kernel), (by decide +kernel),
     (by decide +kernel), (by decide +kernel), (by decide +kernel), (by decide +kernel)⟩⟩

theorem witness_RingLineEventsComplete :
    (∃ (s : State) (r : Fin 4), s.Up 7 ∧ s.mode r.val = 1) ∧
    (∃ (s : State) (r : Fin 4) (port : Side), s.Up 7 ∧ s.portActs r.val (port == .south) = true) ∧
    (∃ (s : State) (r : Fin 4) (port : Side), s.Up 7 ∧ s.ens (Pg.SR r.val) = true) ∧
    (∃ (s : State) (r : Fin 4) (port : Side) (pos : Byte) (lost : Side), s.Up 7 ∧ s.portActs r.val (port == .south) = true ∧
      1 ≤ pos.toNat ∧ pos.toNat ≤ s.nsup r.val ∧ (s.ring r.val).folds.contains (pos.toNat, lost == .south) = false) ∧
    (∃ (s : State) (r : Fin 4), s.Up 7 ∧ (s.mode r.val == 5 || s.mode r.val == 7) = true ∧ s.on (Fld.SR_CFG_AUTOHEAL r.val) =
      true ∧ s.on (Fld.SR_STATE_EXTRA r.val) = false ∧ s.positions r.val (fun p => s.get (Fld.SR_PINFO_CAUSE r.val (p - 1))
      == 5) = []) ∧
    (∃ (s : State) (r : Fin 4), s.Up 7) :=
  ⟨⟨st [(Fld.SR_STATE_MODE 0, 1)], 0, up_of (by decide +kernel), (by decide +kernel)⟩,
   ⟨st [(Fld.ens Pg.SRA, 1), (Fld.SR_CFG_NSUP 0, 4)], 0, .north, up_of (by decide +kernel), (by decide +kernel)⟩,
   ⟨st [(Fld.ens Pg.SRA, 1), (Fld.SR_CFG_NSUP 0, 4)], 0, .south, up_of (by decide +kernel), (by decide +kernel)⟩,
   ⟨st [(Fld.ens Pg.SRA, 1), (Fld.SR_CFG_NSUP 0, 4)], 0, .north, 4, .south, up_of (by decide +kernel), (by decide +kernel),
     (by decide +kernel), (by decide +kernel), (by decide +kernel)⟩,
   ⟨st [(Fld.SR_STATE_MODE 0, 5), (Fld.SR_CFG_AUTOHEAL 0, 1)], 0, up_of (by decide +kernel), (by decide +kernel),
     (by decide +kernel), (by decide +kernel), (by decide +kernel)⟩,
   ⟨b0, 0, up_of (by decide +kernel)⟩⟩

theorem witness_ScansComplete :
    (∃ s : State, s.Up 7) ∧
    (∃ s : State, s.Up 7 ∧ s.tel.scanOn = true) ∧
    (∃ (s : State) (deadline : Bool), s.Up 7 ∧ s.tel.scanOn = true ∧ (deadline = true ∨ ∀ r : Nat, r < 4 → s.owing r = [])) ∧
    (∃ s : State, s.Up 7 ∧ s.tel.tempOn = true) :=
  ⟨⟨b0, up_of (by decide +kernel)⟩,
   ⟨{ b0 with tel := { b0.tel with scanOn := true } }, up_of (by decide +kernel), (by decide +kernel)⟩,
   ⟨{ b0 with tel := { b0.tel with scanOn := true } }, false, up_of (by decide +kernel), (by decide +kernel), (by decide +kernel)⟩,
   ⟨{ b0 with tel := { b0.tel with tempOn := true } }, up_of (by decide +kernel), (by decide +kernel)⟩⟩

theorem witness_CalibrationAndQueuesComplete :
    (∃ (s : State) (r : Fin 4), s.Up 7 ∧ s.scans r.val = true) ∧
    (∃ (s : State) (r : Fin 4) (tret : Nat) (reports : List DcalReport), s.Up 7 ∧ (s.ring r.val).calLaunch.isSome = true ∧
      bitOf (s.ring r.val).calPorts 0 = true) ∧
    (∃ (s : State) (r : Fin 4) (k : Nat) (q : RingReq), s.Up 7 ∧ (s.ring r.val).stalled[k]? = some q ∧ s.inService r.val =
      true ∧ s.wanted r.val q = true ∧ q.need ≤ s.roomFor r.val (q.purpose.cls.getD 3) ∧ (s.ring r.val).free ≠ []) ∧
    (∃ (s : State) (q : Fin 4), s.Up 2) :=
  ⟨⟨st [(Fld.ens Pg.SRQ, 1), (Fld.SRQ_CFG_RINGS, 1), (Fld.SR_STATE_MODE 0, 3)], 0, up_of (by decide +kernel),
    (by decide +kernel)⟩,
   ⟨b0.modRing 0 (fun g => { g with calLaunch := some 0, calPorts := 1 }), 0, 100, [], up_of (by decide +kernel),
     (by decide +kernel), (by decide +kernel)⟩,
   ⟨(st [(Fld.ens Pg.SRQ, 1), (Fld.SR_STATE_MODE 0, 3), (Fld.SR_CFG_NSUP 0, 4), (whole (Reg.SR_REACH 0), 1)]).modRing 0 (fun
     g => { g with stalled := [(tx .scan).req] }), 0, 0, (tx .scan).req, up_of (by decide +kernel), (by decide +kernel),
     (by decide +kernel), (by decide +kernel), (by decide +kernel), (by decide +kernel)⟩,
   ⟨b0, 3, up_of (by decide +kernel)⟩⟩

theorem witness_ChimeComplete :
    (∃ (s : State) (w : ChmWindow), s.Up 7 ∧ (s.chmAdvance s.nowNat).chm.coll = some w) ∧
    (∃ (s : State) (w : ChmWindow), s.Up 2 ∧ (s.chmAdvance s.nowNat).chm.coll = some w) ∧
    (∃ (s : State) (o : Origin), s.Accepts o Reg.CHM_CMD 1) ∧
    (∃ (s : State) (o : Origin), s.Accepts o Reg.CHM_CMD 2 ∧ s.chmRuns = true) ∧
    (∃ (s : State) (o : Origin), s.Accepts o Reg.CHM_CMD 3) :=
  ⟨⟨{ b0 with chm := { b0.chm with coll := some cw } }, cw, up_of (by decide +kernel), (by decide +kernel)⟩,
   ⟨{ b0 with chm := { b0.chm with coll := some cw } }, cw, up_of (by decide +kernel), (by decide +kernel)⟩,
   ⟨sv [], .host, acc_of (by decide +kernel)⟩,
   ⟨sv [(Fld.ens Pg.CHM, 1), (Fld.CHM_STAT_STATE, 1)], .host, acc_of (by decide +kernel), (by decide +kernel)⟩,
   ⟨sv [], .host, acc_of (by decide +kernel)⟩⟩

theorem witness_EstimatorComplete :
    (∃ s : State, s.Up 2 ∧ s.ens Pg.EST = true ∧ s.get Fld.EST_STAT_STATE = 1 ∧ s.appUp = true) ∧
    (∃ (s : State) (o : Origin), s.Accepts o Reg.EST_CMD 1 ∧ s.est.writing = none) ∧
    (∃ s : State, s.Up 2 ∧ s.appUp = true ∧ s.est.writing.isSome = true) ∧
    (∃ s : State, s.Up 2 ∧ s.appUp = true ∧ s.est.writing = none) ∧
    (∃ (s : State) (w : Writeback), s.Up 2 ∧ s.est.writing = some w ∧ s.est.held = false ∧ s.clk.transportDue = false) ∧
    (∃ (s : State) (w : Writeback) (how : WritebackEnd), s.Up 2 ∧ s.est.writing = some w ∧ s.est.held = false ∧ s.clk.transportDue = false
      ∧ (how = .readbackWrong ∨ (how = .hugoodLost ∧ w.low = true))) ∧
    (∃ (s : State) (o : Origin), s.Accepts o Reg.EST_CMD 2 ∧ s.get Fld.EST_STAT_STATE = 0) ∧
    (∃ (s : State) (o : Origin), s.Accepts o Reg.EST_CMD 3) :=
  ⟨⟨st [(Fld.ens Pg.EST, 1), (Fld.EST_STAT_STATE, 1)], up_of (by decide +kernel), (by decide +kernel), (by decide +kernel),
     (by decide +kernel)⟩,
   ⟨sv [], .host, acc_of (by decide +kernel), (by decide +kernel)⟩,
   ⟨{ b0 with est := { b0.est with writing := some wbk } }, up_of (by decide +kernel), (by decide +kernel),
     (by decide +kernel)⟩,
   ⟨b0, up_of (by decide +kernel), (by decide +kernel), (by decide +kernel)⟩,
   ⟨{ b0 with est := { b0.est with writing := some wbk } }, wbk, up_of
     (by decide +kernel), (by decide +kernel), (by decide +kernel), (by decide +kernel)⟩,
   ⟨{ b0 with est := { b0.est with writing := some wbk } }, wbk, .hugoodLost, up_of
     (by decide +kernel), (by decide +kernel), (by decide +kernel), (by decide +kernel), (by decide +kernel)⟩,
   ⟨sv [], .host, acc_of (by decide +kernel), (by decide +kernel)⟩,
   ⟨sv [], .host, acc_of (by decide +kernel)⟩⟩

theorem witness_BalancingComplete :
    (∃ s : State, s.Up 2 ∧ s.ens Pg.BAL = true ∧ s.appUp = true) ∧
    (∃ (s : State) (o : Origin), s.Accepts o Reg.BAL_CMD 1) ∧
    (∃ (s : State) (o : Origin), s.Accepts o Reg.BAL_CMD 2) :=
  ⟨⟨st [(Fld.ens Pg.BAL, 1)], up_of (by decide +kernel), (by decide +kernel), (by decide +kernel)⟩,
   ⟨sv [], .host, acc_of (by decide +kernel)⟩,
   ⟨sv [], .host, acc_of (by decide +kernel)⟩⟩

theorem witness_ThermalComplete :
    (∃ s : State, s.Up 2 ∧ s.appUp = true ∧ s.ens Pg.THM = false) ∧
    (∃ s : State, s.Up 2 ∧ s.appUp = true ∧ s.ens Pg.THM = true) ∧
    (∃ (s : State) (o : Origin), s.Accepts o Reg.THM_CMD 1 ∧ s.on Fld.THM_STAT_OTLATCH = true ∧ (∀ i : Nat, i < 3072 → s.thOf i ≤
      ((s.geti Fld.THM_OT_TLATCH - s.get Fld.THM_OT_HYST : Int) : Rat))) ∧
    (∃ (s : State) (o : Origin) (i : Nat), s.Accepts o Reg.THM_CMD 1 ∧ i < 3072 ∧ ((s.geti Fld.THM_OT_TLATCH - s.get Fld.THM_OT_HYST :
      Int) : Rat) < s.thOf i) ∧
    (∃ (s : State) (o : Origin), s.Accepts o Reg.THM_CMD 2) ∧
    (∃ s : State, s.Up 2 ∧ s.on Fld.THM_CFG_COOLEN = true ∧ s.ens Pg.THM = true) ∧
    (∃ (s : State) (t : Nat), s.Up 2 ∧ s.on Fld.THM_COOL_RXEN = true ∧ s.thm.chillerAt = some t ∧ t + 5000000000 ≤ s.nowNat ∧ s.on
      Fld.THM_STAT_CHLOST = false) :=
  ⟨⟨b0, up_of (by decide +kernel), (by decide +kernel), (by decide +kernel)⟩,
   ⟨st [(Fld.ens Pg.THM, 1)], up_of (by decide +kernel), (by decide +kernel), (by decide +kernel)⟩,
   ⟨sv [(Fld.THM_STAT_OTLATCH, 1)], .host, acc_of (by decide +kernel), (by decide +kernel), all_cells (by decide +kernel)⟩,
   ⟨(let s := sv []; { s with thm := { s.thm with protect := [(3071, (9000, 9000))] } }), .host, 3071, acc_of (by decide +kernel),
     (by decide +kernel), (by decide +kernel)⟩,
   ⟨sv [], .host, acc_of (by decide +kernel)⟩,
   ⟨st [(Fld.THM_CFG_COOLEN, 1), (Fld.ens Pg.THM, 1)], up_of (by decide +kernel), (by decide +kernel), (by decide +kernel)⟩,
   ⟨
      (let s := st [(Fld.THM_COOL_RXEN, 1)];
            { s with thm := { s.thm with chillerAt := some 0 }, tim := { s.tim with mono := 5000000000 * nsUnit } }), 0, up_of
            (by decide +kernel), (by decide +kernel), (by decide +kernel), (by decide +kernel), (by decide +kernel)⟩⟩

theorem witness_ConverterEventsComplete :
    (∃ s : State, s.Up 6 ∧
      (let now := s.nowNat;
       let t := s.chmAdvance now;
       t.ens Pg.PWM = true ∧ t.anyPhase (fun v => v != 0) = true ∧ (∀ l, t.pwm.lastTrig = some l → t.tsUnits * 5 / 4 ≤ ((now
       - l : Nat) : Rat)))) ∧
    (∃ s : State, s.Up 6 ∧
      (let now := s.nowNat;
       let t := s.chmAdvance now;
       t.ens Pg.PWM = true ∧ t.anyPhase (fun v => v != 0) = true ∧ (∀ l, t.pwm.lastTrig = some l → t.tsUnits * 5 / 4 ≤ ((now
       - l : Nat) : Rat)) ∧ ∃ l, t.pwm.lastTrig = some l)) ∧
    (∃ s : State, s.Up 6 ∧
      (let now := s.nowNat;
       let t := s.chmAdvance now;
       t.ens Pg.PWM = false ∨ t.anyPhase (fun v => v != 0) = false ∨ ∃ l, t.pwm.lastTrig = some l ∧ ((now - l : Nat) : Rat) <
       t.tsUnits * 5 / 4)) ∧
    (∃ (s : State) (c : Fin 8) (peak : Bool), s.Up 6 ∧ s.ens Pg.PWM = false) ∧
    (∃ (s : State) (c : Fin 8) (peak : Bool), s.Up 6 ∧ s.ens Pg.PWM = true ∧
      (let a := if c.val = 0 ∧ peak = false then s.valley0 else s;
       let b := if c.val % 2 = 0 ∧ peak = false then a.carrierTurn c.val else a;
       b.cellEn c.val = false ∨ b.get (phaseField (c.val / 2)) = 0)) ∧
    (∃ (s : State) (c : Fin 8) (peak : Bool), s.Up 6 ∧ s.ens Pg.PWM = true ∧
      (let a := if c.val = 0 ∧ peak = false then s.valley0 else s;
       let b := if c.val % 2 = 0 ∧ peak = false then a.carrierTurn c.val else a;
       b.cellEn c.val = true ∧ b.get (phaseField (c.val / 2)) ≠ 0 ∧
      (let old := b.pwmCell c.val;
       let x := if peak = true ∧ old.switching = true then old else b.cellSettings c.val old;
       let y := if peak = false ∨ b.on Fld.PWM_CFG_DUPD = true then b.loadCell c.val x else (b, x);
       let d := y.1.setCell c.val y.2;
       d.phaseSwitching (c.val / 2) = false))) ∧
    (∃ (s : State) (c : Fin 8) (peak : Bool), s.Up 6 ∧ s.ens Pg.PWM = true ∧
      (let a := if c.val = 0 ∧ peak = false then s.valley0 else s;
       let b := if c.val % 2 = 0 ∧ peak = false then a.carrierTurn c.val else a;
       b.cellEn c.val = true ∧ b.get (phaseField (c.val / 2)) ≠ 0 ∧
      (let old := b.pwmCell c.val;
       let x := if peak = true ∧ old.switching = true then old else b.cellSettings c.val old;
       let y := if peak = false ∨ b.on Fld.PWM_CFG_DUPD = true then b.loadCell c.val x else (b, x);
       let d := y.1.setCell c.val y.2;
       d.phaseSwitching (c.val / 2) = true ∧ old.switching = true))) ∧
    (∃ (s : State) (c : Fin 8) (peak : Bool), s.Up 6 ∧ s.ens Pg.PWM = true ∧
      (let a := if c.val = 0 ∧ peak = false then s.valley0 else s;
       let b := if c.val % 2 = 0 ∧ peak = false then a.carrierTurn c.val else a;
       b.cellEn c.val = true ∧ b.get (phaseField (c.val / 2)) ≠ 0 ∧
      (let old := b.pwmCell c.val;
       let x := if peak = true ∧ old.switching = true then old else b.cellSettings c.val old;
       let y := if peak = false ∨ b.on Fld.PWM_CFG_DUPD = true then b.loadCell c.val x else (b, x);
       let d := y.1.setCell c.val y.2;
       d.phaseSwitching (c.val / 2) = true ∧ old.switching = false))) ∧
    (∃ s : State, s.Up 6 ∧ s.pwm.starting = true ∧ s.phasesAre 2 = true ∧ s.capsReady = true) ∧
    (∃ s : State, s.Up 6 ∧ s.pwm.starting = true ∧ s.phasesAre 2 = true) ∧
    (∃ s : State, s.Up 6 ∧ s.pwm.starting = true ∧ s.phasesAre 3 = true ∧ (s.get Fld.PWM_BTGT_TARGET : Rat) * 99 / 100 ≤
      s.inVal 13) ∧
    (∃ s : State, s.Up 6 ∧ s.pwm.starting = true ∧ s.phasesAre 3 = true) ∧
    (∃ s : State, s.Up 6 ∧ s.svc.state = .stopping ∧ s.pwm.failing = false ∧ s.ctk.opening = none ∧ (s.lpe.stopDone = true ∨
      s.switching = false ∧ ratAbs (s.inVal 4) ≤ s.zband) ∧ s.svc.stopCause = some .halt) ∧
    (∃ s : State, s.Up 6 ∧ s.svc.state = .stopping ∧ s.pwm.failing = false ∧ s.ctk.opening = none ∧ (s.lpe.stopDone = true ∨
      s.switching = false ∧ ratAbs (s.inVal 4) ≤ s.zband) ∧ s.svc.stopCause = some .cat1) ∧
    (∃ s : State, s.Up 6 ∧ s.svc.state = .stopping ∧ s.pwm.failing = false ∧ s.ctk.opening = none ∧ (s.lpe.stopDone = true ∨
      s.switching = false ∧ ratAbs (s.inVal 4) ≤ s.zband) ∧ s.svc.stopCause = some .classC) ∧
    (∃ s : State, s.Up 6 ∧ s.svc.state = .stopping ∧ s.pwm.failing = false ∧ s.ctk.opening = none ∧ (s.lpe.stopDone = true ∨
      s.switching = false ∧ ratAbs (s.inVal 4) ≤ s.zband) ∧ s.svc.stopCause = some .classCBranch) ∧
    (∃ (s : State) (n : Fin 8), s.Up 6 ∧ s.gdEvaluated n.val = false) ∧
    (∃ (s : State) (n : Fin 8), s.Up 6 ∧ s.gdEvaluated n.val = true) ∧
    (∃ (s : State) (n : Fin 8), s.Up 6) :=
  ⟨⟨st [(Fld.ens Pg.PWM, 1), (Fld.PWM_CFG_PHEN, 1), (phaseField 0, 1)], up_of (by decide +kernel), (by decide +kernel),
    (by decide +kernel), of_none (by decide +kernel)⟩,
   ⟨{ st [(Fld.ens Pg.PWM, 1), (Fld.PWM_CFG_PHEN, 1), (phaseField 0, 1)] with pwm := { b0.pwm with lastTrig := some 0 }, tim
     := { b0.tim with mono := 1000000 * nsUnit } }, up_of (by decide +kernel), (by decide +kernel), (by decide +kernel),
     of_some rfl (by decide +kernel), 0, rfl⟩,
   ⟨{ st [(Fld.ens Pg.PWM, 1), (Fld.PWM_CFG_PHEN, 1), (phaseField 0, 1)] with pwm := { b0.pwm with lastTrig := some 0 } },
     up_of (by decide +kernel), .inr (.inr ⟨0, (by decide +kernel), (by decide +kernel)⟩)⟩,
   ⟨b0, 7, true, up_of (by decide +kernel), (by decide +kernel)⟩,
   ⟨b0.setOn (Fld.ens Pg.PWM) true, 0, false, up_of (by decide +kernel), (by decide +kernel), (by decide +kernel)⟩,
   ⟨st [(Fld.ens Pg.PWM, 1), (Fld.PWM_CFG_PHEN, 1), (phaseField 0, 1)], 0, false, up_of (by decide +kernel),
     (by decide +kernel), (by decide +kernel), (by decide +kernel), (by decide +kernel)⟩,
   ⟨(st [(Fld.ens Pg.PWM, 1), (Fld.PWM_CFG_PHEN, 1), (phaseField 0, 3)]).setCell 0 { (b0.pwmCell 0) with switching := true },
     0, true, up_of (by decide +kernel), (by decide +kernel), (by decide +kernel), (by decide +kernel), (by decide +kernel),
     (by decide +kernel)⟩,
   ⟨st [(Fld.ens Pg.PWM, 1), (Fld.PWM_CFG_PHEN, 1), (phaseField 0, 3)], 0, true, up_of (by decide +kernel),
     (by decide +kernel), (by decide +kernel), (by decide +kernel), (by decide +kernel), (by decide +kernel)⟩,
   ⟨{ st [(Fld.ens Pg.PWM, 1), (Fld.PWM_CFG_PHEN, 1), (phaseField 0, 2)] with pwm := { b0.pwm with starting := true } },
     up_of (by decide +kernel), (by decide +kernel), (by decide +kernel), (by decide +kernel)⟩,
   ⟨{ st [(Fld.ens Pg.PWM, 1), (Fld.PWM_CFG_PHEN, 1), (phaseField 0, 2)] with pwm := { b0.pwm with starting := true } },
     up_of (by decide +kernel), (by decide +kernel), (by decide +kernel)⟩,
   ⟨{ st [(Fld.ens Pg.PWM, 1), (Fld.PWM_CFG_PHEN, 1), (phaseField 0, 3), (whole (Reg.ADC_INVAL 13), 0x44B9A000)] with pwm :=
     { b0.pwm with starting := true } }, up_of (by decide +kernel), (by decide +kernel), (by decide +kernel),
     (by decide +kernel)⟩,
   ⟨{ st [(Fld.ens Pg.PWM, 1), (Fld.PWM_CFG_PHEN, 1), (phaseField 0, 3)] with pwm := { b0.pwm with starting := true } },
     up_of (by decide +kernel), (by decide +kernel), (by decide +kernel)⟩,
   ⟨{ b0 with svc := { b0.svc with state := .stopping, stopCause := some .halt }, lpe := { b0.lpe with stopDone := true } },
     up_of (by decide +kernel), (by decide +kernel), (by decide +kernel), (by decide +kernel), (by decide +kernel),
     (by decide +kernel)⟩,
   ⟨{ b0 with svc := { b0.svc with state := .stopping, stopCause := some .cat1 }, lpe := { b0.lpe with stopDone := true } },
     up_of (by decide +kernel), (by decide +kernel), (by decide +kernel), (by decide +kernel), (by decide +kernel),
     (by decide +kernel)⟩,
   ⟨{ b0 with svc := { b0.svc with state := .stopping, stopCause := some .classC }, lpe := { b0.lpe with stopDone := true }
     }, up_of (by decide +kernel), (by decide +kernel), (by decide +kernel), (by decide +kernel), (by decide +kernel),
     (by decide +kernel)⟩,
   ⟨{ b0 with svc := { b0.svc with state := .stopping, stopCause := some .classCBranch }, lpe := { b0.lpe with stopDone :=
     true } }, up_of (by decide +kernel), (by decide +kernel), (by decide +kernel), (by decide +kernel), (by decide +kernel),
     (by decide +kernel)⟩,
   ⟨b0, 7, up_of (by decide +kernel), (by decide +kernel)⟩,
   ⟨st [(Fld.ens Pg.PWM, 1), (Fld.PWM_CFG_PHEN, 1), (phaseField 0, 1)], 0, up_of (by decide +kernel), (by decide +kernel)⟩,
   ⟨b0, 7, up_of (by decide +kernel)⟩⟩

theorem witness_MeasurementComplete :
    (∃ (s : State) (k : Fin 4), s.Up 4 ∧ s.adcRuns = true ∧ s.ilv k.val = false ∧ s.calibrating k.val = true) ∧
    (∃ (s : State) (k : Fin 4), s.Up 4 ∧ s.adcRuns = true ∧ s.ilv k.val = false ∧ s.calibrating k.val = false ∧
      s.adc.regLeft.getD k.val [] = []) ∧
    (∃ (s : State) (k : Fin 4), s.Up 4 ∧ s.adcRuns = true ∧ s.ilv k.val = false ∧ s.calibrating k.val = false ∧
      s.adc.regLeft.getD k.val [] ≠ []) ∧
    (∃ (s : State) (k : Fin 4) (n : Fin 24) (nv : Int) (t : Instant) (l : List Nat), s.Up 4 ∧ s.adcRuns = true ∧ takeSlot
      (s.adc.injLeft.getD k.val []) n.val = some l) ∧
    (∃ (s : State) (k : Fin 4) (n : Fin 24) (nv : Int) (t : Instant) (l : List Nat), s.Up 4 ∧ s.adcRuns = true ∧ s.ilv k.val
      = false ∧ (s.adc.injLeft.getD k.val [] = [] ∨ bitOf s.adc.midway k.val = true) ∧ takeSlot (s.adc.regLeft.getD k.val [])
      n.val = some l) ∧
    (∃ (s : State) (k : Fin 4) (nv : Int) (t : Instant), s.Up 4 ∧ s.adcRuns = true ∧ s.ilv k.val = true ∧ s.calibrating k.val
      = false ∧ (s.adc.streamBy ≠ some k.val ∨ s.calibrating (standIn k.val) = true)) ∧
    (∃ (s : State) (x : RefSample), s.Up 4 ∧ s.ens Pg.ADC = true ∧
      (let t := ({ s with adc := { s.adc with refUv := x.selected } } : State).noteRef x;
       t.refWithin x = false)) ∧
    (∃ (s : State) (x : RefSample), s.Up 4 ∧ s.ens Pg.ADC = true ∧
      (let t := ({ s with adc := { s.adc with refUv := x.selected } } : State).noteRef x;
       t.refWithin x = true)) ∧
    (∃ s : State, s.Up 4 ∧ s.ens Pg.ADC = true ∧ s.get Fld.ADC_STAT_STATE = 1 ∧ s.on Fld.ADC_STAT_REFOK = false) ∧
    (∃ s : State, s.Up 4 ∧ s.ens Pg.ADC = true ∧ s.on Fld.ADC_STAT_REFOK = false ∧ s.get Fld.ADC_STAT_STATE = 4) ∧
    (∃ s : State, s.Up 4 ∧ s.adcRuns = true ∧ s.rd Reg.ADC_CALEFF % 65536 ≠ 0) ∧
    (∃ (s : State) (k : Fin 4) (gain : Word) (offs : BitVec 16), s.Up 4 ∧ s.calibrating k.val = true) ∧
    (∃ (s : State) (o : Origin) (k : Fin 4), s.Accepts o Reg.ADC_CMD (1 + 256 * k.val) ∧ s.adcRuns = true ∧ s.get
      Fld.ADC_STAT_CALBUSY = 0) ∧
    (∃ (s : State) (o : Origin) (k : Fin 4), s.Accepts o Reg.ADC_CMD (1 + 256 * k.val) ∧ (s.adcRuns = false ∨ s.get
      Fld.ADC_STAT_CALBUSY ≠ 0)) ∧
    (∃ (s : State) (o : Origin), s.Accepts o Reg.ADC_CMD 2) ∧
    (∃ s : State, s.Up 4 ∧ (s.adcRuns = false ∨ s.on Fld.ADC_CFG_KEN = false)) ∧
    (∃ (s : State) (m : Rat), s.Up 4 ∧ s.adcRuns = true ∧ s.on Fld.ADC_CFG_KEN = true ∧
      (let ms := s.plantMs s.nowNat - 1;
       let mean := intervalMean s.adc.kSum ms;
       let bs := (List.range 8).filter (fun b => bitOf (s.get Fld.ADC_KCFG_BRMASK) b);
       mean 4 = some m ∧ (∀ b : Nat, b ∈ bs → (mean (5 + b)).isSome = true))) :=
  ⟨⟨st [(Fld.ens Pg.ADC, 1), (Fld.ADC_STAT_STATE, 3), (Fld.ADC_STAT_CALBUSY, 8)], 3, up_of (by decide +kernel),
    (by decide +kernel), (by decide +kernel), (by decide +kernel)⟩,
   ⟨(st [(Fld.ens Pg.ADC, 1), (Fld.ADC_STAT_STATE, 3)]), 0, up_of (by decide +kernel), (by decide +kernel),
     (by decide +kernel), (by decide +kernel), (by decide +kernel)⟩,
   ⟨{ (st [(Fld.ens Pg.ADC, 1), (Fld.ADC_STAT_STATE, 3)]) with adc := { b0.adc with regLeft := [[4], [], [], []] } }, 0,
     up_of (by decide +kernel), (by decide +kernel), (by decide +kernel), (by decide +kernel), (by decide +kernel)⟩,
   ⟨{ (st [(Fld.ens Pg.ADC, 1), (Fld.ADC_STAT_STATE, 3)]) with adc := { b0.adc with injLeft := [[4], [], [], []] } }, 0, 4,
     0, 0, [], up_of (by decide +kernel), (by decide +kernel), (by decide +kernel)⟩,
   ⟨{ (st [(Fld.ens Pg.ADC, 1), (Fld.ADC_STAT_STATE, 3)]) with adc := { b0.adc with regLeft := [[12], [], [], []] } }, 0, 12,
     0, 0, [], up_of (by decide +kernel), (by decide +kernel), (by decide +kernel), (by decide +kernel),
     (by decide +kernel)⟩,
   ⟨st [(Fld.ens Pg.ADC, 1), (Fld.ADC_STAT_STATE, 3), (Fld.ADC_CFG_ILV, 1)], 1, 0, 0, up_of (by decide +kernel),
     (by decide +kernel), (by decide +kernel), (by decide +kernel), (by decide +kernel)⟩,
   ⟨st [(Fld.ens Pg.ADC, 1)], ⟨2500000, 2000000⟩, up_of (by decide +kernel), (by decide +kernel), (by decide +kernel)⟩,
   ⟨st [(Fld.ens Pg.ADC, 1)], ⟨2500000, 2500000⟩, up_of (by decide +kernel), (by decide +kernel), (by decide +kernel)⟩,
   ⟨st [(Fld.ens Pg.ADC, 1), (Fld.ADC_STAT_STATE, 1)], up_of (by decide +kernel), (by decide +kernel), (by decide +kernel),
     (by decide +kernel)⟩,
   ⟨st [(Fld.ens Pg.ADC, 1), (Fld.ADC_STAT_STATE, 4)], up_of (by decide +kernel), (by decide +kernel), (by decide +kernel),
     (by decide +kernel)⟩,
   ⟨(st [(Fld.ens Pg.ADC, 1), (Fld.ADC_STAT_STATE, 3), (whole Reg.ADC_CALEFF, 10)]), up_of (by decide +kernel),
     (by decide +kernel), (by decide +kernel)⟩,
   ⟨st [(Fld.ADC_STAT_CALBUSY, 2)], 1, 0, 0, up_of (by decide +kernel), (by decide +kernel)⟩,
   ⟨sv [(Fld.ens Pg.ADC, 1), (Fld.ADC_STAT_STATE, 3)], .host, 3, acc_of (by decide +kernel), (by decide +kernel),
     (by decide +kernel)⟩,
   ⟨sv [], .host, 0, acc_of (by decide +kernel), (by decide +kernel)⟩,
   ⟨sv [], .host, acc_of (by decide +kernel)⟩,
   ⟨b0, up_of (by decide +kernel), (by decide +kernel)⟩,
   ⟨{ (st [(Fld.ens Pg.ADC, 1), (Fld.ADC_STAT_STATE, 3), (Fld.ADC_CFG_KEN, 1), (Fld.ADC_KCFG_BRMASK, 1)]) with adc := {
     b0.adc with kSum := [(4, (6, 2)), (5, (6, 2))] } }, 3, up_of (by decide +kernel), (by decide +kernel),
     (by decide +kernel), (by decide +kernel), (by decide +kernel)⟩⟩

theorem witness_LoopsComplete :
    (∃ (s : State) (o : Origin) (w4 : Word), s.Accepts o (Reg.LPE_SPIN 4) w4.toNat ∧
      (let was := s.rd (Reg.LPE_SPIN 4);
       let u := (if was = w4.toNat then s else s.audit 1 o (Reg.LPE_SPIN 4) was w4.toNat).wr (Reg.LPE_SPIN 4) w4.toNat;
       
      (let h := u.rd (Reg.LPE_SPIN 0);
       bitsOf h 16 11 = 0 ∧ bitsOf h 28 4 = 2))) ∧
    (∃ (s : State) (o : Origin) (w4 : Word), s.Accepts o (Reg.LPE_SPIN 4) w4.toNat ∧
      (let was := s.rd (Reg.LPE_SPIN 4);
       let u := (if was = w4.toNat then s else s.audit 1 o (Reg.LPE_SPIN 4) was w4.toNat).wr (Reg.LPE_SPIN 4) w4.toNat;
       
      (let h := u.rd (Reg.LPE_SPIN 0);
       bitsOf h 16 11 = 0 ∧ bitsOf h 28 4 = 1 ∧ fpIsNan (u.word (Reg.LPE_SPIN 3)) = false ∧ fpIsInf (u.word (Reg.LPE_SPIN 3))
       = false ∧ u.lpe.frames.length < 8))) ∧
    (∃ (s : State) (o : Origin) (w4 : Word), s.Accepts o (Reg.LPE_SPIN 4) w4.toNat ∧
      (let was := s.rd (Reg.LPE_SPIN 4);
       let u := (if was = w4.toNat then s else s.audit 1 o (Reg.LPE_SPIN 4) was w4.toNat).wr (Reg.LPE_SPIN 4) w4.toNat;
       
      (let h := u.rd (Reg.LPE_SPIN 0);
       (bitsOf h 16 11 ≠ 0 ∨ (bitsOf h 28 4 ≠ 2 ∧ (bitsOf h 28 4 ≠ 1 ∨ fpIsNan (u.word (Reg.LPE_SPIN 3)) = true ∨ fpIsInf
       (u.word (Reg.LPE_SPIN 3)) = true ∨ 8 ≤ u.lpe.frames.length)))))) ∧
    (∃ s : State, s.Up 5 ∧ s.sampleReady = true) ∧
    (∃ (s : State) (o : Origin) (v : Word), s.Accepts o Reg.LPE_SWAP v.toNat) ∧
    (∃ (s : State) (o : Origin), s.Accepts o Reg.LPE_CMD 1 ∧ s.lpe.capRun = false ∧ s.lpe.capArmed = false ∧ s.lpe.testArmed
      = false ∧ s.on Fld.LPE_STAT_TEST = false ∧ s.phasesAre 4 = true ∧ s.testNodeOk (s.get Fld.LPE_TEST_SEL) = true ∧ s.get
      Fld.LPE_TEST_TYPE ≠ 0) ∧
    (∃ (s : State) (o : Origin), s.Accepts o Reg.LPE_CMD 2 ∧ s.lpe.capRun = true) ∧
    (∃ (s : State) (o : Origin), s.Accepts o Reg.LPE_CMD 3 ∧ s.lpe.capRun = false ∧ s.lpe.capArmed = false ∧ s.lpe.testArmed
      = false) ∧
    (∃ (s : State) (o : Origin), s.Accepts o Reg.LPE_CMD 4) ∧
    (∃ s : State, s.Up 5 ∧ s.lpe.est.isSome = true) ∧
    (∃ s : State, s.Up 5 ∧ s.lpe.thm.isSome = true) :=
  ⟨⟨(sv [(Fld.LPE_CFG_SPHOST, 1), (whole (Reg.LPE_SPIN 0), 2 * 2 ^ 28)]), .host, 0, acc_of (by decide +kernel),
    (by decide +kernel), (by decide +kernel)⟩,
   ⟨(sv [(Fld.LPE_CFG_SPHOST, 1), (whole (Reg.LPE_SPIN 0), 2 ^ 28)]), .host, 0, acc_of (by decide +kernel),
     (by decide +kernel), (by decide +kernel), (by decide +kernel), (by decide +kernel), (by decide +kernel)⟩,
   ⟨(sv [(Fld.LPE_CFG_SPHOST, 1), (whole (Reg.LPE_SPIN 0), 0)]), .host, 0, acc_of (by decide +kernel), (by decide +kernel)⟩,
   ⟨{ st [(Fld.ens Pg.LPE, 1), (Fld.LPE_STAT_STATE, 1)] with lpe := { b0.lpe with sampleOpen := true } }, up_of
     (by decide +kernel), (by decide +kernel)⟩,
   ⟨sv [], .host, 0, acc_of (by decide +kernel)⟩,
   ⟨sv [(Fld.PWM_CFG_PHEN, 1), (phaseField 0, 4), (Fld.LPE_TEST_SEL, 0x101), (Fld.LPE_TEST_TYPE, 1)], .host, acc_of
     (by decide +kernel), (by decide +kernel), (by decide +kernel), (by decide +kernel), (by decide +kernel),
     (by decide +kernel), (by decide +kernel), (by decide +kernel)⟩,
   ⟨{ sv [] with lpe := { b0.lpe with capRun := true } }, .host, acc_of (by decide +kernel), (by decide +kernel)⟩,
   ⟨sv [], .host, acc_of (by decide +kernel), (by decide +kernel), (by decide +kernel), (by decide +kernel)⟩,
   ⟨sv [], .host, acc_of (by decide +kernel)⟩,
   ⟨{ b0 with lpe := { b0.lpe with est := some (0, 0) } }, up_of (by decide +kernel), (by decide +kernel)⟩,
   ⟨{ b0 with lpe := { b0.lpe with thm := some (0, 0) } }, up_of (by decide +kernel), (by decide +kernel)⟩⟩

theorem witness_ProtectionComplete :
    (∃ (s : State) (x : CompSample), s.Up 2 ∧ s.on (Fld.PRT_CMPCFG_EN x.comparator.val) = true ∧ s.get (Fld.PRT_CMPCFG_INPUT
      x.comparator.val) = x.input.val ∧ s.on (Fld.PRT_CMPSTAT_LEVEL x.comparator.val) = false ∧ (s.cmpBeyond x.comparator.val
      (x.nanovolts : Rat)).2 = true ∧ 5 * s.get (Fld.PRT_CMPCFG_FILT x.comparator.val) ≤ x.heldNs) ∧
    (∃ (s : State) (x : CompSample), s.Up 2 ∧ s.on (Fld.PRT_CMPCFG_EN x.comparator.val) = true ∧ s.get (Fld.PRT_CMPCFG_INPUT
      x.comparator.val) = x.input.val ∧ s.on (Fld.PRT_CMPSTAT_LEVEL x.comparator.val) = true ∧ s.cmpBack x.comparator.val
      (x.nanovolts : Rat) = true) ∧
    (∃ s : State, s.Up 2 ∧ s.ens Pg.PRT = true) ∧
    (∃ s : State, s.Up 2 ∧ s.ens Pg.PRT = false) ∧
    (∃ (s : State) (row : Fin 6) (i : Fin 8), s.Up 2 ∧ s.ens Pg.PRT = true ∧ s.rowTests row.val i.val = true ∧ s.inValid
      (rowInput row.val i.val) = true ∧ s.rowHeld row.val i.val true = true ∧ s.prt.failed.contains (row.val, i.val) = false)
      ∧
    (∃ (s : State) (row : Fin 6) (i : Fin 8), s.Up 2 ∧ s.inValid (rowInput row.val i.val) = true ∧ s.rowHeld row.val i.val
      false = true ∧ s.prt.failed.contains (row.val, i.val) = true) :=
  ⟨⟨st [(Fld.PRT_CMPCFG_EN 11, 1), (Fld.PRT_CMPCFG_INPUT 11, 23), (Fld.PRT_CMPCFG_MODE 11, 1), (Fld.PRT_CMPTHR_HI 11, 1023)],
    ⟨11, 23, 3000000000, 1000000⟩, up_of (by decide +kernel), (by decide +kernel), (by decide +kernel), (by decide +kernel),
    (by decide +kernel), (by decide +kernel)⟩,
   ⟨{ st [(Fld.PRT_CMPCFG_EN 0, 1), (Fld.PRT_CMPCFG_INPUT 0, 3), (Fld.PRT_CMPCFG_MODE 0, 1), (Fld.PRT_CMPCFG_HYST 0, 0),
     (Fld.PRT_CMPTHR_HI 0, 512), (Fld.PRT_CMPSTAT_LEVEL 0, 1)] with prt := { b0.prt with cmpHigh := 1 } }, ⟨0, 3, 0, 0⟩,
     up_of (by decide +kernel), (by decide +kernel), (by decide +kernel), (by decide +kernel), (by decide +kernel)⟩,
   ⟨st [(Fld.ens Pg.PRT, 1)], up_of (by decide +kernel), (by decide +kernel)⟩,
   ⟨b0, up_of (by decide +kernel), (by decide +kernel)⟩,
   ⟨(let s := st [(Fld.ens Pg.PRT, 1), (Fld.ADC_INRES_VALID 13, 1), (whole (Reg.PRT_DLHI 3), 0x3F800000), (whole
     (Reg.ADC_INVAL 13), 0x40000000)]; { s with prt := { s.prt with rowRuns := [(24, (true, 0))] }, tim := { s.tim with mono
     := 65536000 * nsUnit } }), 3, 0, up_of (by decide +kernel), (by decide +kernel), (by decide +kernel),
     (by decide +kernel), (by decide +kernel), (by decide +kernel)⟩,
   ⟨(let s := st [(Fld.ens Pg.PRT, 1), (Fld.ADC_INRES_VALID 13, 1), (whole (Reg.PRT_DLHI 3), 0x3F800000), (whole
     (Reg.ADC_INVAL 13), 0x3F800000)]; { s with prt := { s.prt with rowRuns := [(24, (false, 0))], failed := [(3, 0)] }, tim
     := { s.tim with mono := 65536000 * nsUnit } }), 3, 0, up_of (by decide +kernel), (by decide +kernel),
     (by decide +kernel), (by decide +kernel)⟩⟩

theorem witness_ContactorsComplete :
    (∃ (s : State) (p : Fin 10), s.Up 2 ∧ s.pairOpen p.val = true ∧ s.get (pairField p.val) = 1 ∧ s.pairDriven p.val = true)
      ∧
    (∃ (s : State) (p : Fin 10), s.Up 2 ∧ s.pairOpen p.val = false ∧ s.get (pairField p.val) = 3) ∧
    (∃ (s : State) (p : Fin 10), s.Up 2 ∧ s.get (pairField p.val) = 1 ∧ s.owns = true) ∧
    (∃ (s : State) (p : Fin 10), s.Up 2 ∧ s.get (pairField p.val) = 3 ∧ s.owns = true) ∧
    (∃ s : State, s.Up 2 ∧ s.get Fld.CTK_SEQ_STATE = 3 ∧ s.pairOpen 9 = false ∧ s.inValid 14 = true ∧ ratAbs (s.inVal 14 -
      s.meanBranch) ≤ (s.get Fld.CTK_PRE_DV : Rat) / 10) ∧
    (∃ s : State, s.Up 2 ∧ s.get Fld.CTK_SEQ_STATE = 3) ∧
    (∃ (s : State) (o : Origin) (b : Fin 8) (u : Rat), s.Accepts o Reg.CTK_CMD (2 + 256 * b.val) ∧ s.svc.state = .connected ∧
      bitOf (s.get Fld.CTK_CFG_BRMASK) b.val = true ∧ s.branchVolt b.val = some u ∧ s.inValid 14 = true ∧ ratAbs (u - s.inVal
      14) ≤ (s.rd Reg.CTK_JOIN % 65536 : Nat) / (10 : Rat) ∧ s.branchBarred b.val = false ∧ s.pairDriven b.val = false) ∧
    (∃ (s : State) (o : Origin) (b : Fin 8), s.Accepts o Reg.CTK_CMD (1 + 256 * b.val) ∧ (s.svc.state = .connected ∨
      s.svc.state = .ready) ∧ s.pairDriven b.val = true) ∧
    (∃ (s : State) (o : Origin), s.Accepts o Reg.CTK_CMD 3 ∧ s.allOpen = true) ∧
    (∃ s : State, s.Up 2 ∧ s.openingWaits = true ∧ s.zeroCurrent = true) ∧
    (∃ s : State, s.Up 2 ∧ s.openingWaits = true) ∧
    (∃ s : State, s.Up 2 ∧ s.on Fld.CTK_HOLD_HELD = true ∧ s.acc.locksRestored = true ∧ s.heldAgrees = true ∧ bitOf (s.get
      Fld.CTK_HOLD_DRV) 16 = true) ∧
    (∃ s : State, s.on Fld.CTK_HOLD_HELD = true) :=
  ⟨⟨{ st [(whole Reg.CTK_AUX, 0x3FF), (pairField 9, 1)] with ctk := { b0.ctk with commanded := 0x200 } }, 9, up_of
    (by decide +kernel), (by decide +kernel), (by decide +kernel), (by decide +kernel)⟩,
   ⟨st [(whole Reg.CTK_AUX, 0), (pairField 0, 3)], 0, up_of (by decide +kernel), (by decide +kernel), (by decide +kernel)⟩,
   ⟨st [(pairField 0, 1)], 0, up_of (by decide +kernel), (by decide +kernel), (by decide +kernel)⟩,
   ⟨st [(pairField 0, 3)], 0, up_of (by decide +kernel), (by decide +kernel), (by decide +kernel)⟩,
   ⟨{ st (cell0 ++ [(whole Reg.CTK_AUX, 0), (Fld.CTK_SEQ_STATE, 3), (Fld.ADC_INRES_VALID 14, 1), (whole (Reg.ADC_INVAL 14),
     0x40700000), (Fld.CTK_PRE_DV, 1)]) with svc := { b0.svc with branches := 1 } }, up_of (by decide +kernel),
     (by decide +kernel), (by decide +kernel), (by decide +kernel), (by decide +kernel)⟩,
   ⟨st [(Fld.CTK_SEQ_STATE, 3)], up_of (by decide +kernel), (by decide +kernel)⟩,
   ⟨(sv (cell0 ++ [(whole Reg.CTK_AUX, 0x3FF), (Fld.ADC_INRES_VALID 14, 1), (whole (Reg.ADC_INVAL 14), 0x40700000), (whole
     Reg.CTK_JOIN, 1)])).setSvc .connected, .host, 0, 37/10, acc_of (by decide +kernel), (by decide +kernel),
     (by decide +kernel), (by decide +kernel), (by decide +kernel), (by decide +kernel), (by decide +kernel),
     (by decide +kernel)⟩,
   ⟨{ (sv []).setSvc .connected with ctk := { b0.ctk with commanded := 0x80 } }, .host, 7, acc_of (by decide +kernel),
     (by decide +kernel), (by decide +kernel)⟩,
   ⟨sv [(whole Reg.CTK_AUX, 0x3FF)], .host, acc_of (by decide +kernel), (by decide +kernel)⟩,
   ⟨{ b0 with ctk := { b0.ctk with opening := some ⟨1, true, true, true⟩, istr := [some 0, some 0, some 0, some 0] } }, up_of
     (by decide +kernel), (by decide +kernel), (by decide +kernel)⟩,
   ⟨{ b0 with ctk := { b0.ctk with opening := some ⟨1, true, true, true⟩ } }, up_of (by decide +kernel),
     (by decide +kernel)⟩,
   ⟨st [(Fld.CTK_HOLD_HELD, 1), (Fld.CTK_HOLD_DRV, 0x30000), (whole Reg.CTK_AUX, 0x2FF)], up_of (by decide +kernel),
     (by decide +kernel), (by decide +kernel), (by decide +kernel), (by decide +kernel)⟩,
   ⟨st [(Fld.CTK_HOLD_HELD, 1)], (by decide +kernel)⟩⟩

theorem witness_FaultHandlingComplete :
    (∃ s : State, s.Up 2 ∧ s.ens Pg.ISO = true ∧ s.on Fld.ISO_STAT_HALTED = false ∧ s.iso.prevV = none) ∧
    (∃ (s : State) (pv : Rat), s.Up 2 ∧ s.ens Pg.ISO = true ∧ s.on Fld.ISO_STAT_HALTED = false ∧ s.iso.prevV = some pv) ∧
    (∃ (s : State) (h : FaultItem), s.Up 2 ∧ s.flt.handling = some h ∧ s.handlingDone h = true ∧ s.flt.queue = []) ∧
    (∃ (s : State) (h : FaultItem), s.Up 2 ∧ s.flt.handling = some h ∧ s.handlingDone h = true ∧ ∃ (i : FaultItem) (rest :
      List FaultItem), s.flt.queue = i :: rest) ∧
    (∃ s : State, s.Up 2) ∧
    (∃ s : State, s.Up 2 ∧ s.on Fld.FLT_STATE_STORM = true ∧ s.flt.queue = []) ∧
    (∃ (s : State) (o : Origin), s.Accepts o Reg.FLT_CMD 1) :=
  ⟨⟨st [(Fld.ens Pg.ISO, 1)], up_of (by decide +kernel), (by decide +kernel), (by decide +kernel), (by decide +kernel)⟩,
   ⟨{ st [(Fld.ens Pg.ISO, 1)] with iso := { b0.iso with prevV := some 0 } }, 0, up_of (by decide +kernel),
     (by decide +kernel), (by decide +kernel), (by decide +kernel)⟩,
   ⟨{ b0 with flt := { b0.flt with handling := some ⟨1, 0, 3, 0⟩ } }, ⟨1, 0, 3, 0⟩, up_of (by decide +kernel),
     (by decide +kernel), (by decide +kernel), (by decide +kernel)⟩,
   ⟨{ b0 with flt := { b0.flt with handling := some ⟨1, 0, 3, 0⟩, queue := [⟨1, 0, 3, 0⟩] } }, ⟨1, 0, 3, 0⟩, up_of
     (by decide +kernel), (by decide +kernel), (by decide +kernel), ⟨1, 0, 3, 0⟩, [], (by decide +kernel)⟩,
   ⟨b0, up_of (by decide +kernel)⟩,
   ⟨st [(Fld.FLT_STATE_STORM, 1)], up_of (by decide +kernel), (by decide +kernel), (by decide +kernel)⟩,
   ⟨sv [], .host, acc_of (by decide +kernel)⟩⟩

theorem witness_SafetyInputsComplete :
    (∃ (s : State) (n : Fin 8) (ch : Chan) (x : RawLevel), s.Up 1 ∧ x.held10us < 10 * s.get (Fld.SFI_INTIM_FILT n.val)) ∧
    (∃ (s : State) (n : Fin 8) (ch : Chan) (x : RawLevel), s.Up 1 ∧ s.islandRuns = true ∧ s.get (Fld.SFI_INCFG_TYPE n.val) ≠
      0 ∧ 10 * s.get (Fld.SFI_INTIM_FILT n.val) ≤ x.held10us) ∧
    (∃ (s : State) (src : Chan) (la lb : BitVec 8), s.Up 1 ∧ s.islandRuns = true) ∧
    (∃ (s : State) (n : Fin 8), s.Up 1 ∧ s.islandRuns = true ∧ s.get (Fld.SFI_INCFG_TYPE n.val) ≠ 0 ∧ s.chanSafe n.val 0 ≠
      s.chanSafe n.val 1 ∧ bitOf (s.get Fld.SFI_INFLT_DISC) n.val = false) ∧
    (∃ (s : State) (n : Fin 8), s.Up 1 ∧ s.islandRuns = true ∧ s.isStop n.val = true ∧ s.fnState n.val = 1) ∧
    (∃ s : State, s.Up 1 ∧ s.islandRuns = true ∧ s.stopIsDone = true) ∧
    (∃ (s : State) (n : Fin 8) (ms : Nat), s.Up 1 ∧ smGet (fun _ => (0 : Nat)) s.isl.pressedFor n.val = ms ∧ s.islandRuns =
      true ∧ s.get (Fld.SFI_INCFG_TYPE n.val) = 5 ∧ s.inputFaulty n.val = false ∧ 100 ≤ ms ∧ ms ≤ 5000) ∧
    (∃ (s : State) (n : Fin 8) (ms : Nat), s.Up 1 ∧ smGet (fun _ => (0 : Nat)) s.isl.pressedFor n.val = ms ∧ (ms < 100 ∨ 5000
      < ms)) ∧
    (∃ (s : State) (n : Fin 8), s.Up 1 ∧ s.islandRuns = true ∧ s.get (Fld.SFI_INCFG_TYPE n.val) = 5 ∧ s.chanSafe n.val 0 =
      false ∧ s.chanSafe n.val 1 = false ∧ bitOf s.isl.stuck n.val = false ∧ 5000 < s.rd Reg.SFI_CYCLE - smGet (fun _ => s.rd
      Reg.SFI_CYCLE) s.isl.pressedAt n.val) ∧
    (∃ s : State, s.Up 1 ∧ s.maintOffs = true ∧ s.maintSettled = true) :=
  ⟨⟨st [(Fld.SFI_INTIM_FILT 7, 1)], 7, .b, ⟨true, 9⟩, up_of (by decide +kernel), (by decide +kernel)⟩,
   ⟨st [(Fld.SFI_STAT_STATE, 4), (Fld.SFI_INCFG_TYPE 7, 1), (Fld.SFI_INTIM_FILT 7, 1)], 7, .b, ⟨true, 10⟩, up_of
     (by decide +kernel), (by decide +kernel), (by decide +kernel), (by decide +kernel)⟩,
   ⟨st [(Fld.SFI_STAT_STATE, 4)], .a, 0, 255, up_of (by decide +kernel), (by decide +kernel)⟩,
   ⟨st [(Fld.SFI_STAT_STATE, 4), (Fld.SFI_INCFG_TYPE 0, 1), (Fld.SFI_INSTAT_A2, 1)], 0, up_of (by decide +kernel),
     (by decide +kernel), (by decide +kernel), (by decide +kernel), (by decide +kernel)⟩,
   ⟨st [(Fld.SFI_STAT_STATE, 4), (Fld.SFI_INCFG_TYPE 0, 3), (fnField 0, 1)], 0, up_of (by decide +kernel),
     (by decide +kernel), (by decide +kernel), (by decide +kernel)⟩,
   ⟨st [(Fld.SFI_STAT_STATE, 4), (whole Reg.CTK_AUX, 0x3FF)], up_of (by decide +kernel), (by decide +kernel),
     (by decide +kernel)⟩,
   ⟨(st [(Fld.SFI_STAT_STATE, 4), (Fld.SFI_INCFG_TYPE 0, 5)]).modIsl (fun x => { x with pressedFor := [(0, 5000)] }), 0,
     5000, up_of (by decide +kernel), (by decide +kernel), (by decide +kernel), (by decide +kernel), (by decide +kernel),
     (by decide +kernel), (by decide +kernel)⟩,
   ⟨b0.modIsl (fun x => { x with pressedFor := [(0, 5001)] }), 0, 5001, up_of (by decide +kernel), (by decide +kernel),
     (by decide +kernel)⟩,
   ⟨(st [(Fld.SFI_STAT_STATE, 4), (Fld.SFI_INCFG_TYPE 0, 5), (Fld.SFI_INSTAT_A2, 1), (Fld.SFI_INSTAT_B2, 1), (whole
     Reg.SFI_CYCLE, 5001)]).modIsl (fun x => { x with pressedAt := [(0, 0)] }), 0, up_of (by decide +kernel),
     (by decide +kernel), (by decide +kernel), (by decide +kernel), (by decide +kernel), (by decide +kernel),
     (by decide +kernel)⟩,
   ⟨st [(Fld.SFI_OUTCFG_MAINTOFF 0, 1), (whole Reg.SFI_CYCLE, 1000000)], up_of (by decide +kernel), (by decide +kernel),
     (by decide +kernel)⟩⟩

theorem witness_SafetyOutputsComplete :
    (∃ (s : State) (rbA rbB : BitVec 4) (eq : Bool), s.Up 1 ∧ s.get Fld.SFI_STAT_STATE ≠ 0 ∧ s.get Fld.SFI_STAT_STATE ≠ 5) ∧
    (∃ (s : State) (o : Origin), s.Accepts o Reg.SFI_CMD 1 ∧ s.islandRuns = true) ∧
    (∃ (s : State) (o : Origin), s.Accepts o Reg.SFI_CMD 2) ∧
    (∃ (s : State) (ch : Fin 8), s.Up 1 ∧ s.on (outCmd ch.val) = true ∧ s.rd Reg.SFI_CYCLE % 1000 = 125 * ch.val ∧ s.isl.rim.any
      (fun r => r.1 == ch.val) = false) ∧
    (∃ (s : State) (ch : Fin 8) (low : Bool) (k : Nat) (r : RimPulse), s.Up 1 ∧ s.isl.rim.find? (fun x => x.1 == ch.val) = some (k, r)
      ∧ r.ended = false) ∧
    (∃ (s : State) (ch : Fin 8) (high : Bool) (k : Nat) (r : RimPulse), s.Up 1 ∧ s.isl.rim.find? (fun x => x.1 == ch.val) = some (k, r)
      ∧ r.ended = true) :=
  ⟨⟨st [(Fld.SFI_STAT_STATE, 3)], 0, 0, true, up_of (by decide +kernel), (by decide +kernel), (by decide +kernel)⟩,
   ⟨sv [(Fld.SFI_STAT_STATE, 4)], .safety, acc_of (by decide +kernel), (by decide +kernel)⟩,
   ⟨sv [], .safety, acc_of (by decide +kernel)⟩,
   ⟨st [(outCmd 7, 1), (whole Reg.SFI_CYCLE, 875)], 7, up_of (by decide +kernel), (by decide +kernel), (by decide +kernel),
     (by decide +kernel)⟩,
   ⟨b0.modIsl (fun x => { x with rim := [(3, ⟨false, true, false⟩)] }), 3, true, 3, ⟨false, true, false⟩, up_of (by decide +kernel),
     (by decide +kernel), (by decide +kernel)⟩,
   ⟨b0.modIsl (fun x => { x with rim := [(3, ⟨true, true, false⟩)] }), 3, true, 3, ⟨true, true, false⟩, up_of (by decide +kernel),
     (by decide +kernel), (by decide +kernel)⟩⟩

theorem witness_IslandStatesComplete :
    (∃ (s : State) (c : IslandCause), s.Up 1 ∧ s.get Fld.SFI_STAT_STATE ≠ 5) ∧
    (∃ s : State, s.Up 1) ∧
    (∃ s : State, s.Up 1 ∧ s.get Fld.SFI_STAT_STATE = 5 ∧ s.get Fld.SFI_FAULT_COUNT < 3) ∧
    (∃ s : State, s.Up 1 ∧ s.get Fld.SFI_STAT_STATE = 5 ∧ 3 ≤ s.get Fld.SFI_FAULT_COUNT) ∧
    (∃ s : State, s.Up 1 ∧ s.get Fld.SFI_STAT_STATE = 0) ∧
    (∃ (s : State) (o : Origin) (v : Word), s.Accepts o Reg.SFI_CONFIRM v.toNat ∧ s.get Fld.SFI_STAT_STATE = 3 ∧ v = s.sfiPcv) ∧
    (∃ (s : State) (o : Origin) (v : Word), s.Accepts o Reg.SFI_CONFIRM v.toNat ∧ (s.get Fld.SFI_STAT_STATE ≠ 3 ∨ v ≠ s.sfiPcv)) ∧
    (∃ (s : State) (o : Origin) (k lo hi x : Nat) (ws : List Word), s.Accepts o Reg.SFI_CMD 3 ∧ s.islandRuns = true ∧ bitOf (s.get
      Fld.SFI_SLOT_LOADED) (1 - s.get Fld.SFI_SLOT_ACTIVE) = true ∧ s.isl.images.find? (fun y => y.1 == 1 - s.get Fld.SFI_SLOT_ACTIVE) =
      some (k, lo, hi, x) ∧ lo ≤ s.get Fld.SFI_SLOT_STREV ∧ s.get Fld.SFI_SLOT_STREV ≤ hi ∧ s.isl.copyA = some (ws, some s.sfiPcv)) ∧
    (∃ (s : State) (o : Origin), s.Accepts o Reg.SFI_CMD 3 ∧ s.islandRuns = false) ∧
    (∃ (s : State) (o : Origin), s.Accepts o Reg.SFI_CMD 4 ∧ s.on Fld.SFI_STAT_HOPREP = true) ∧
    (∃ (s : State) (o : Origin), s.Accepts o Reg.SFI_CMD 5 ∧ s.isl.shadowing = true) ∧
    (∃ s : State, s.Up 1 ∧ s.on Fld.SFI_STAT_HOPREP = true ∧ s.isl.commitDue = none) ∧
    (∃ s : State, s.Up 1 ∧ s.isl.switchDue = true) :=
  ⟨⟨b0, .ecc, up_of (by decide +kernel), (by decide +kernel)⟩,
   ⟨b0, up_of (by decide +kernel)⟩,
   ⟨st [(Fld.SFI_STAT_STATE, 5), (Fld.SFI_FAULT_COUNT, 2)], up_of (by decide +kernel), (by decide +kernel), (by decide +kernel)⟩,
   ⟨st [(Fld.SFI_STAT_STATE, 5), (Fld.SFI_FAULT_COUNT, 3)], up_of (by decide +kernel), (by decide +kernel), (by decide +kernel)⟩,
   ⟨st [(Fld.SFI_STAT_STATE, 0)], up_of (by decide +kernel), (by decide +kernel)⟩,
   ⟨st [(Fld.SFI_STAT_STATE, 3)], .safety, (st [(Fld.SFI_STAT_STATE, 3)]).sfiPcv, acc_of (by decide +kernel), (by decide +kernel),
     rfl⟩,
   ⟨b0, .safety, 0, acc_of (by decide +kernel), (by decide +kernel)⟩,
   ⟨(st [(Fld.SFI_STAT_STATE, 4), (Fld.SFI_SLOT_LOADED, 2)]).modIsl
     (fun x => { x with images := [(1, (0, 5, 0))], copyA := some ([], some (st [(Fld.SFI_STAT_STATE, 4), (Fld.SFI_SLOT_LOADED, 2)]).sfiPcv) }),
     .safety, 1, 0, 5, 0, [], acc_of (by decide +kernel), (by decide +kernel), (by decide +kernel), (by decide +kernel),
     (by decide +kernel), (by decide +kernel), rfl⟩,
   ⟨b0, .safety, acc_of (by decide +kernel), (by decide +kernel)⟩,
   ⟨st [(Fld.SFI_STAT_HOPREP, 1)], .safety, acc_of (by decide +kernel), (by decide +kernel)⟩,
   ⟨b0.modIsl (fun x => { x with shadowing := true }), .safety, acc_of (by decide +kernel), (by decide +kernel)⟩,
   ⟨st [(Fld.SFI_STAT_HOPREP, 1)], up_of (by decide +kernel), (by decide +kernel), (by decide +kernel)⟩,
   ⟨b0.modIsl (fun x => { x with switchDue := true }), up_of (by decide +kernel), (by decide +kernel)⟩⟩

theorem witness_SafetyConnectionsComplete :
    (∃ (s : State) (net : BitVec 2) (pdu : List Byte), s.Up 1 ∧ (net = 0 ∧ s.Up 9 ∨ (net = 1 ∨ net = 2) ∧ s.Up 8) ∧
      s.scl.rxq.length < 16) ∧
    (∃ (s : State) (kind n : Nat) (pdu : List Byte) (rest : List (List Byte)), s.scl.rxq = pdu :: rest ∧ s.sclUsed = true ∧
      pdu.length = 24 ∧ (crc32c (pdu.take 20)).toNat = beAt pdu 20 4 ∧ beAt pdu 0 1 / 16 = 1 ∧ sclKind pdu = kind ∧ 1 ≤ kind
      ∧ kind ≤ 4 ∧ s.connOf pdu (sclRole kind) = some n ∧ sclReserved pdu false = false ∧ s.on (Fld.SCL_CCFG_COMPAT n) =
      false) ∧
    (∃ (s u : State) (n : Nat) (pdu : List Byte), s.Up 1 ∧ s.sclTake 1 = (u, some (n, pdu)) ∧
      (let own := (crc32c (beBytes 4 (u.rd (Reg.SCL_CID n)) ++ beBytes 4 (u.rd (Reg.SCL_CTIM n)))).toNat;
       beAt pdu 16 4 = own)) ∧
    (∃ (s u : State) (n : Nat) (pdu : List Byte), s.Up 1 ∧ s.sclTake 1 = (u, some (n, pdu)) ∧
      (let own := (crc32c (beBytes 4 (u.rd (Reg.SCL_CID n)) ++ beBytes 4 (u.rd (Reg.SCL_CTIM n)))).toNat;
       beAt pdu 16 4 ≠ own)) ∧
    (∃ (s u : State) (n : Nat) (pdu : List Byte), s.Up 1 ∧ s.sclTake 2 = (u, some (n, pdu)) ∧ u.get (Fld.SCL_CSTAT_STATE n) ≠
      0 ∧ u.get (Fld.SCL_CSTAT_STATE n) ≠ 4 ∧ 0 < u.seqDiff n (beAt pdu 8 4) ∧ u.seqDiff n (beAt pdu 8 4) ≤ (u.get
      (Fld.SCL_CCFG_SEQWIN n) : Nat) ∧ (u.get (Fld.SCL_CSTAT_STATE n) = 1 → u.seqDiff n (beAt pdu 8 4) = 1)) ∧
    (∃ (s u : State) (n : Nat) (pdu : List Byte), s.Up 1 ∧ s.sclTake 3 = (u, some (n, pdu)) ∧ u.get (Fld.SCL_CSTAT_STATE n) =
      3 ∧ 0 < u.seqDiff n (beAt pdu 8 4) ∧ u.seqDiff n (beAt pdu 8 4) ≤ (u.get (Fld.SCL_CCFG_SEQWIN n) : Nat)) ∧
    (∃ (s u : State) (n : Nat) (pdu : List Byte), s.Up 1 ∧ s.sclTake 4 = (u, some (n, pdu)) ∧ u.get (Fld.SCL_CSTAT_STATE n) ≠
      0 ∧ u.get (Fld.SCL_CSTAT_STATE n) ≠ 4) ∧
    (∃ (s : State) (n : Fin 8) (pdu : List Byte), s.Up 1 ∧ (s.conn n.val).held = some pdu) ∧
    (∃ (s : State) (n : Fin 8), s.Up 1 ∧ s.sclUsed = true ∧ s.isProducer n.val = true ∧ s.get (Fld.SCL_CSTAT_STATE n.val) =
      3) ∧
    (∃ (s : State) (n : Fin 8), s.Up 1 ∧ s.sclUsed = true ∧ s.isConsumer n.val = true ∧ s.get (Fld.SCL_CSTAT_STATE n.val) =
      1) ∧
    (∃ (s : State) (n : Fin 8), s.Up 1 ∧ s.sclUsed = true ∧ s.isConsumer n.val = true ∧ (s.get (Fld.SCL_CSTAT_STATE n.val) =
      2 ∨ s.get (Fld.SCL_CSTAT_STATE n.val) = 3)) ∧
    (∃ (s : State) (n : Fin 8), s.Up 1 ∧ s.isConsumer n.val = true ∧ (s.get (Fld.SCL_CSTAT_STATE n.val) = 2 ∨ s.get
      (Fld.SCL_CSTAT_STATE n.val) = 3)) ∧
    (∃ (s : State) (n : Fin 8), s.Up 1 ∧ s.isProducer n.val = true ∧ s.get (Fld.SCL_CSTAT_STATE n.val) = 3 ∧ s.get
      (Fld.SCL_CTIM_WDT n.val) < s.rd Reg.SFI_CYCLE - (s.conn n.val).heard) ∧
    (∃ (s : State) (n : Fin 8), s.Up 1 ∧ s.sclUsed = true ∧ s.isConsumer n.val = true ∧ s.get (Fld.SCL_CSTAT_STATE n.val) =
      4) ∧
    (∃ (s : State) (o : Origin) (n : Fin 8), s.Accepts o Reg.SCL_CMD (1 + 256 * n.val) ∧ s.sclUsed = true ∧ s.isConsumer
      n.val = true ∧ s.get (Fld.SCL_CSTAT_STATE n.val) = 4) ∧
    (∃ (s : State) (o : Origin) (n : Fin 8), s.Accepts o Reg.SCL_CMD (2 + 256 * n.val) ∧ s.get (Fld.SCL_CSTAT_STATE n.val) ≠
      0 ∧ s.get (Fld.SCL_CSTAT_STATE n.val) ≠ 4) :=
  ⟨⟨b0, 0, [], up_of (by decide +kernel), (.inl ⟨rfl, up_of (by decide +kernel)⟩), (by decide +kernel)⟩,
   ⟨sc (pdu 2 7 1 0) [], 2, 0, pdu 2 7 1 0, [], rfl, used_of (by decide +kernel) (by decide +kernel), (by decide +kernel),
     (by decide +kernel), (by decide +kernel), (by decide +kernel), (by decide +kernel), (by decide +kernel),
     (by decide +kernel), (by decide +kernel), (by decide +kernel)⟩,
   ⟨sc (pdu 1 8 1 (crc32c (beBytes 4 8 ++ beBytes 4 10490885)).toNat) [], { sc (pdu 1 8 1 (crc32c (beBytes 4 8 ++ beBytes 4
     10490885)).toNat) [] with scl :=
     { (sc (pdu 1 8 1 (crc32c (beBytes 4 8 ++ beBytes 4 10490885)).toNat) []).scl with rxq := [] } }, 1, pdu 1 8 1 (crc32c
     (beBytes 4 8 ++ beBytes 4 10490885)).toNat, up_of (by decide +kernel), (take_of rfl (used_of (by decide +kernel)
     (by decide +kernel)) (by decide +kernel)), (by decide +kernel)⟩,
   ⟨sc (pdu 1 8 1 0) [], { sc (pdu 1 8 1 0) [] with scl := { (sc (pdu 1 8 1 0) []).scl with rxq := [] } }, 1, pdu 1 8 1 0,
     up_of (by decide +kernel), (take_of rfl (used_of (by decide +kernel) (by decide +kernel)) (by decide +kernel)),
     (by decide +kernel)⟩,
   ⟨sc (pdu 2 7 1 0) [(Fld.SCL_CSTAT_STATE 0, 1)], { sc (pdu 2 7 1 0) [(Fld.SCL_CSTAT_STATE 0, 1)] with scl :=
     { (sc (pdu 2 7 1 0) [(Fld.SCL_CSTAT_STATE 0, 1)]).scl with rxq := [] } }, 0, pdu 2 7 1 0, up_of (by decide +kernel),
     (take_of rfl (used_of (by decide +kernel) (by decide +kernel)) (by decide +kernel)), (by decide +kernel),
     (by decide +kernel), (by decide +kernel), (by decide +kernel), (by decide +kernel)⟩,
   ⟨sc (pdu 3 8 1 0) [(Fld.SCL_CSTAT_STATE 1, 3)], { sc (pdu 3 8 1 0) [(Fld.SCL_CSTAT_STATE 1, 3)] with scl :=
     { (sc (pdu 3 8 1 0) [(Fld.SCL_CSTAT_STATE 1, 3)]).scl with rxq := [] } }, 1, pdu 3 8 1 0, up_of (by decide +kernel),
     (take_of rfl (used_of (by decide +kernel) (by decide +kernel)) (by decide +kernel)), (by decide +kernel),
     (by decide +kernel), (by decide +kernel)⟩,
   ⟨sc (pdu 4 7 1 0) [(Fld.SCL_CSTAT_STATE 0, 1)], { sc (pdu 4 7 1 0) [(Fld.SCL_CSTAT_STATE 0, 1)] with scl :=
     { (sc (pdu 4 7 1 0) [(Fld.SCL_CSTAT_STATE 0, 1)]).scl with rxq := [] } }, 0, pdu 4 7 1 0, up_of (by decide +kernel),
     (take_of rfl (used_of (by decide +kernel) (by decide +kernel)) (by decide +kernel)), (by decide +kernel),
     (by decide +kernel)⟩,
   ⟨b0.modConn 7 (fun c => { c with held := some [] }), 7, [], up_of (by decide +kernel), (by decide +kernel)⟩,
   ⟨st (scl0 ++ [(Fld.SCL_CSTAT_STATE 1, 3)]), 1, up_of (by decide +kernel), used_of (by decide +kernel) (by decide +kernel),
     (by decide +kernel), (by decide +kernel)⟩,
   ⟨st (scl0 ++ [(Fld.SCL_CSTAT_STATE 0, 1)]), 0, up_of (by decide +kernel), used_of (by decide +kernel) (by decide +kernel),
     (by decide +kernel), (by decide +kernel)⟩,
   ⟨st (scl0 ++ [(Fld.SCL_CSTAT_STATE 0, 2)]), 0, up_of (by decide +kernel), used_of (by decide +kernel) (by decide +kernel),
     (by decide +kernel), (by decide +kernel)⟩,
   ⟨st [(Fld.SCL_CCFG_EN 0, 1), (Fld.SCL_CSTAT_STATE 0, 3)], 0, up_of (by decide +kernel), (by decide +kernel),
     (by decide +kernel)⟩,
   ⟨st [(Fld.SCL_CCFG_EN 0, 1), (Fld.SCL_CCFG_ROLE 0, 1), (Fld.SCL_CSTAT_STATE 0, 3), (whole Reg.SFI_CYCLE, 2000)], 0, up_of
     (by decide +kernel), (by decide +kernel), (by decide +kernel), (by decide +kernel)⟩,
   ⟨st (scl0 ++ [(Fld.SCL_CSTAT_STATE 0, 4)]), 0, up_of (by decide +kernel), used_of (by decide +kernel) (by decide +kernel),
     (by decide +kernel), (by decide +kernel)⟩,
   ⟨st (scl0 ++ [(Fld.SCL_CSTAT_STATE 0, 4)]), .safety, 0, acc_of (by decide +kernel), used_of (by decide +kernel)
     (by decide +kernel), (by decide +kernel), (by decide +kernel)⟩,
   ⟨st [(Fld.SCL_CSTAT_STATE 7, 1)], .safety, 7, acc_of (by decide +kernel), (by decide +kernel), (by decide +kernel)⟩⟩

theorem witness_FabricFrameChecks :
    (∃ (s : State) (n : Fin 5) (f : FabFrame), s.laneState n.val ≠ 0 ∧ s.laneState n.val ≠ 1 ∧ s.laneState n.val ≠ 5 ∧
      f.fcsOk = false) ∧
    (∃ (s : State) (n : Fin 5) (f : FabFrame), s.laneState n.val ≠ 0 ∧ s.laneState n.val ≠ 1 ∧ s.laneState n.val ≠ 5 ∧
      f.fcsOk = true ∧ ((f.dstMac ≠ ownMac n.val ∧ f.dstMac ≠ macBroadcast) ∨ f.etherType ≠ 0x88B5 ∨ 1466 <
      f.payload.length)) ∧
    (∃ (s : State) (n : Fin 5) (f : FabFrame), s.laneState n.val ≠ 0 ∧ s.laneState n.val ≠ 1 ∧ s.laneState n.val ≠ 5 ∧
      f.fcsOk = true ∧ macFits n.val f = true ∧ ((s.lane n.val).session = none ∨ s.tagHolds n.val f = false)) ∧
    (∃ (s : State) (n : Fin 5) (f : FabFrame), s.laneState n.val ≠ 0 ∧ s.laneState n.val ≠ 1 ∧ s.laneState n.val ≠ 5 ∧
      f.fcsOk = true ∧ macFits n.val f = true ∧ (s.lane n.val).session ≠ none ∧ s.tagHolds n.val f = true ∧ f.ctr.toNat ≤
      (s.lane n.val).rxCtr) ∧
    (∃ (s : State) (n : Fin 5) (f : FabFrame), s.laneState n.val ≠ 0 ∧ s.laneState n.val ≠ 1 ∧ s.laneState n.val ≠ 5 ∧
      f.fcsOk = true ∧ macFits n.val f = true ∧ (s.lane n.val).session ≠ none ∧ s.tagHolds n.val f = true ∧ (s.lane
      n.val).rxCtr < f.ctr.toNat ∧ (f.ver ≠ 1 ∨ f.rsv0 ≠ 0 ∨ f.rsvDst ≠ 0 ∨ f.rsvSrc ≠ 0 ∨ f.rsv7 ≠ 0 ∨ f.len.toNat ≠
      f.payload.length ∨ classFits f = false)) ∧
    (∃ (s : State) (n : Fin 5) (f : FabFrame), s.laneState n.val ≠ 0 ∧ s.laneState n.val ≠ 1 ∧ s.laneState n.val ≠ 5 ∧
      f.fcsOk = true ∧ macFits n.val f = true ∧ (s.lane n.val).session ≠ none ∧ s.tagHolds n.val f = true ∧ (s.lane
      n.val).rxCtr < f.ctr.toNat ∧
      (let t := s.modLane n.val (fun l => { l with rxCtr := f.ctr.toNat });
       f.ver = 1 ∧ rsvSet f = false ∧ f.len.toNat = f.payload.length ∧ classFits f = true ∧ (n.val = 4 → f.type.toNat = 7 ∨
       f.type.toNat = 1 ∨ f.type.toNat = 2) ∧ (n.val ≠ 4 → f.type.toNat ≠ 7) ∧ credited f = false)) ∧
    (∃ (s : State) (n : Fin 5) (f : FabFrame), s.laneState n.val ≠ 0 ∧ s.laneState n.val ≠ 1 ∧ s.laneState n.val ≠ 5 ∧
      f.fcsOk = true ∧ macFits n.val f = true ∧ (s.lane n.val).session ≠ none ∧ s.tagHolds n.val f = true ∧ (s.lane
      n.val).rxCtr < f.ctr.toNat ∧
      (let t := s.modLane n.val (fun l => { l with rxCtr := f.ctr.toNat });
       f.ver = 1 ∧ rsvSet f = false ∧ f.len.toNat = f.payload.length ∧ classFits f = true ∧ (n.val = 4 → f.type.toNat = 7 ∨
       f.type.toNat = 1 ∨ f.type.toNat = 2) ∧ (n.val ≠ 4 → f.type.toNat ≠ 7) ∧ credited f = true ∧ grantOf (frameCls f) < nth
       (t.lane n.val).held (frameCls f - 1) + frameBlocks f)) ∧
    (∃ (s : State) (n : Fin 5) (f : FabFrame), s.laneState n.val ≠ 0 ∧ s.laneState n.val ≠ 1 ∧ s.laneState n.val ≠ 5 ∧
      f.fcsOk = true ∧ macFits n.val f = true ∧ (s.lane n.val).session ≠ none ∧ s.tagHolds n.val f = true ∧ (s.lane
      n.val).rxCtr < f.ctr.toNat ∧
      (let t := s.modLane n.val (fun l => { l with rxCtr := f.ctr.toNat });
       f.ver = 1 ∧ rsvSet f = false ∧ f.len.toNat = f.payload.length ∧ classFits f = true ∧ (n.val = 4 → f.type.toNat = 7 ∨
       f.type.toNat = 1 ∨ f.type.toNat = 2) ∧ (n.val ≠ 4 → f.type.toNat ≠ 7) ∧ credited f = true ∧ nth (t.lane n.val).held
       (frameCls f - 1) + frameBlocks f ≤ grantOf (frameCls f))) :=
  ⟨⟨fl [], 0, { ff 4 2 0 5 [] with fcsOk := false }, (by decide +kernel), (by decide +kernel), (by decide +kernel),
    (by decide +kernel)⟩,
   ⟨fl [], 0, { ff 4 2 0 5 [] with etherType := 0x88B6 }, (by decide +kernel), (by decide +kernel), (by decide +kernel),
     (by decide +kernel), .inr (.inl (by decide +kernel))⟩,
   ⟨(fl []).modLane 0 (fun l => { l with session := none }), 0, ff 4 2 0 5 [], (by decide +kernel), (by decide +kernel),
     (by decide +kernel), (by decide +kernel), mac_of (by decide +kernel), .inl (by decide +kernel)⟩,
   ⟨fl [], 0, sg (fl []) 0 { ff 4 2 0 5 [] with ctr := 0 }, (by decide +kernel), (by decide +kernel), (by decide +kernel),
     (by decide +kernel), mac_of (by decide +kernel), (by decide +kernel), sg_holds _ _ _, (by decide +kernel)⟩,
   ⟨fl [], 0, sg (fl []) 0 { ff 4 2 0 5 [] with rsv7 := 1 }, (by decide +kernel), (by decide +kernel), (by decide +kernel),
     (by decide +kernel), mac_of (by decide +kernel), (by decide +kernel), sg_holds _ _ _, (by decide +kernel),
     (by decide +kernel)⟩,
   ⟨fl [], 0, sg (fl []) 0 (ff 5 0 0 5 []), (by decide +kernel), (by decide +kernel), (by decide +kernel),
     (by decide +kernel), mac_of (by decide +kernel), (by decide +kernel), sg_holds _ _ _, (by decide +kernel),
     (by decide +kernel), (by decide +kernel), (by decide +kernel), (by decide +kernel), (by decide +kernel),
     (by decide +kernel), (by decide +kernel)⟩,
   ⟨(fl []).modLane 0 (fun l => { l with held := [0, 64, 0] }), 0, sg ((fl []).modLane 0 (fun l => { l with held := [0, 64,
     0] })) 0 (ff 4 2 0 5 []), (by decide +kernel), (by decide +kernel), (by decide +kernel), (by decide +kernel), mac_of
     (by decide +kernel), (by decide +kernel), sg_holds _ _ _, (by decide +kernel), (by decide +kernel), (by decide +kernel),
     (by decide +kernel), (by decide +kernel), (by decide +kernel), (by decide +kernel), (by decide +kernel),
     (by decide +kernel)⟩,
   ⟨(fl []).modLane 0 (fun l => { l with held := [0, 63, 0] }), 0, sg ((fl []).modLane 0 (fun l => { l with held := [0, 63,
     0] })) 0 (ff 4 2 0 5 []), (by decide +kernel), (by decide +kernel), (by decide +kernel), (by decide +kernel), mac_of
     (by decide +kernel), (by decide +kernel), sg_holds _ _ _, (by decide +kernel), (by decide +kernel), (by decide +kernel),
     (by decide +kernel), (by decide +kernel), (by decide +kernel), (by decide +kernel), (by decide +kernel),
     (by decide +kernel)⟩⟩

theorem witness_LinkEventsComplete :
    (∃ (s : State) (n : Fin 5), s.Up 9 ∧ s.laneState n.val = 1) ∧
    (∃ (s : State) (n : Fin 5), s.Up 9 ∧ s.laneState n.val ≠ 1) ∧
    (∃ (s : State) (n : Fin 5), s.Up 9 ∧ s.laneState n.val ≠ 0) ∧
    (∃ (s : State) (n : Fin 5) (f : FabFrame) (k : Nat), s.Up 9 ∧ s.laneState n.val = 2 ∧ f.fcsOk = true ∧ macFits n.val f =
      true ∧ f.type = 1 ∧ f.ver = 1 ∧ rsvSet f = false ∧ f.cls = 2 ∧ f.payload.length = 24 ∧ f.len = 24 ∧ f.ctr = 0 ∧ beAt
      f.payload 19 1 = (if n.val = 4 then 1 else 0) ∧ beAt f.payload 20 4 = 0 ∧ (List.range 2).find? (fun k => s.keyLabel
      n.val k == beAt f.payload 18 1 && (s.slotKey n.val k).isSome) = some k ∧
      (let key := (s.slotKey n.val k).getD 0;
       let want := gcmTag key (frameIv (dirOf (beAt f.payload 0 8) Config.moduleUid.toNat) (beAt f.payload 8 8)) (frameText
           f);
       f.tag ≠ want)) ∧
    (∃ (s : State) (n : Fin 5) (f : FabFrame) (k : Nat), s.Up 9 ∧ s.laneState n.val = 2 ∧ f.fcsOk = true ∧ macFits n.val f =
      true ∧ f.type = 1 ∧ f.ver = 1 ∧ rsvSet f = false ∧ f.cls = 2 ∧ f.payload.length = 24 ∧ f.len = 24 ∧ f.ctr = 0 ∧ beAt
      f.payload 19 1 = (if n.val = 4 then 1 else 0) ∧ beAt f.payload 20 4 = 0 ∧ (List.range 2).find? (fun k => s.keyLabel
      n.val k == beAt f.payload 18 1 && (s.slotKey n.val k).isSome) = some k ∧
      (let key := (s.slotKey n.val k).getD 0;
       let want := gcmTag key (frameIv (dirOf (beAt f.payload 0 8) Config.moduleUid.toNat) (beAt f.payload 8 8)) (frameText
           f);
       f.tag = want ∧ (s.lane n.val).session = none)) ∧
    (∃ (s t : State) (n : Fin 5) (f : FabFrame), s.Up 9 ∧ s.receive n.val f = (t, true) ∧ f.type = 1 ∧ beAt f.payload 8 8 =
      (t.lane n.val).peerNonce) ∧
    (∃ (s t : State) (n : Fin 5) (f : FabFrame), s.Up 9 ∧ s.receive n.val f = (t, true) ∧ beAt f.payload 8 8 ≠ (t.lane
      n.val).peerNonce) ∧
    (∃ (s t : State) (n : Fin 5) (f : FabFrame), s.Up 9 ∧ s.receive n.val f = (t, true) ∧ f.type = 2 ∧ 6 ≤ f.payload.length)
      ∧
    (∃ (s : State) (n : Fin 5) (f : FabFrame), s.Up 9 ∧ (s.laneState n.val = 2 ∨ s.laneState n.val = 6 ∨ s.laneState n.val =
      5) ∧ (s.lane n.val).hello = some f) ∧
    (∃ (s : State) (n : Fin 5), s.Up 9 ∧ (s.laneState n.val = 3 ∨ s.laneState n.val = 4)) ∧
    (∃ (s : State) (n : Fin 5), s.Up 9 ∧ s.laneState n.val = 3 ∧ (s.lane n.val).queue.isEmpty = false) ∧
    (∃ (s : State) (n : Fin 5), s.Up 9 ∧ s.laneState n.val = 5) ∧
    (∃ (s : State) (o : Origin) (n : Fin 5), s.Accepts o (Reg.FP_CMD n.val) 1 ∧ s.laneOn n.val = true ∧ s.laneState n.val ≠
      5) ∧
    (∃ (s : State) (o : Origin) (n : Fin 5), s.Accepts o (Reg.FP_CMD n.val) 2 ∧ s.laneState n.val ≠ 0) ∧
    (∃ (s : State) (o : Origin) (n : Fin 5), s.Accepts o (Reg.FP_CMD n.val) 3 ∧ s.laneState n.val = 5) :=
  ⟨⟨st [(Fld.FP_STATE_STATE 4, 1)], 4, up_of (by decide +kernel), (by decide +kernel)⟩,
   ⟨st [(Fld.FP_STATE_STATE 0, 2)], 0, up_of (by decide +kernel), (by decide +kernel)⟩,
   ⟨st [(Fld.FP_STATE_STATE 4, 3)], 4, up_of (by decide +kernel), (by decide +kernel)⟩,
   ⟨(st [(Fld.FP_STATE_STATE 0, 2)]).modLane 0 (fun l => { l with keys := [some 0, none] }), 0, hf Complement.complement, 0,
     up_of (by decide +kernel), (by decide +kernel), (by decide +kernel), mac_of (by decide +kernel), (by decide +kernel),
     (by decide +kernel), (by decide +kernel), (by decide +kernel), (by decide +kernel), (by decide +kernel),
     (by decide +kernel), (by decide +kernel), (by decide +kernel), (by decide +kernel), (fun h => not_ne _ ((hf_tag
     _).symm.trans (h.trans (want_of _ (by decide +kernel) (by decide +kernel) (by decide +kernel)))))⟩,
   ⟨(st [(Fld.FP_STATE_STATE 0, 2)]).modLane 0 (fun l => { l with keys := [some 0, none] }), 0, hf (fun x => x), 0, up_of
     (by decide +kernel), (by decide +kernel), (by decide +kernel), mac_of (by decide +kernel), (by decide +kernel),
     (by decide +kernel), (by decide +kernel), (by decide +kernel), (by decide +kernel), (by decide +kernel),
     (by decide +kernel), (by decide +kernel), (by decide +kernel), (by decide +kernel), ((hf_tag _).trans (want_of _
     (by decide +kernel) (by decide +kernel) (by decide +kernel)).symm), (by decide +kernel)⟩,
   ⟨fl [], tk (fl []) 0 (ff 1 2 0 1 (List.replicate 24 0)), 0, sg (fl []) 0 (ff 1 2 0 1 (List.replicate 24 0)), up_of
     (by decide +kernel), recv (by decide +kernel) (by decide +kernel) (by decide +kernel), (by decide +kernel),
     (by decide +kernel)⟩,
   ⟨fl [], tk (fl []) 0 (ff 1 2 0 1 (List.replicate 24 1)), 0, sg (fl []) 0 (ff 1 2 0 1 (List.replicate 24 1)), up_of
     (by decide +kernel), recv (by decide +kernel) (by decide +kernel) (by decide +kernel), (by decide +kernel)⟩,
   ⟨fl [], tk (fl []) 0 (ff 2 2 0 1 (List.replicate 6 0)), 0, sg (fl []) 0 (ff 2 2 0 1 (List.replicate 6 0)), up_of
     (by decide +kernel), recv (by decide +kernel) (by decide +kernel) (by decide +kernel), (by decide +kernel),
     (by decide +kernel)⟩,
   ⟨(st [(Fld.FP_STATE_STATE 0, 6)]).modLane 0 (fun l => { l with hello := some (hf (fun x => x)) }), 0, hf (fun x => x),
     up_of (by decide +kernel), (by decide +kernel), rfl⟩,
   ⟨st [(Fld.FP_STATE_STATE 0, 4)], 0, up_of (by decide +kernel), (by decide +kernel)⟩,
   ⟨(fl []).modLane 0 (fun l => { l with queue := [⟨ff 4 2 0 5 [], none⟩] }), 0, up_of (by decide +kernel),
     (by decide +kernel), (by decide +kernel)⟩,
   ⟨st [(Fld.FP_STATE_STATE 0, 5)], 0, up_of (by decide +kernel), (by decide +kernel)⟩,
   ⟨sv [(Fld.FAB_STAT_STATE, 1), (Fld.ens (lanePage 0), 1), (Fld.FAB_CFG_PORTEN, 1), (Fld.FP_STATE_STATE 0, 3)], .host, 0,
     acc_of (by decide +kernel), (by decide +kernel), (by decide +kernel)⟩,
   ⟨sv [(Fld.FP_STATE_STATE 4, 3)], .host, 4, acc_of (by decide +kernel), (by decide +kernel)⟩,
   ⟨sv [(Fld.FP_STATE_STATE 0, 5)], .host, 0, acc_of (by decide +kernel), (by decide +kernel)⟩⟩

theorem witness_RoutingComplete :
    (∃ s : State, s.Up 9 ∧ s.fabRuns = true ∧ s.appUp = true) ∧
    (∃ (s t : State) (n : Fin 5) (f : FabFrame), s.Up 9 ∧ s.receive n.val f = (t, true) ∧ f.type = 3 ∧ f.payload.length = 20
      + 4 * beAt f.payload 16 1 ∧ beAt f.payload 2 2 = 0 ∧ beAt f.payload 17 3 = 0 ∧
      (let u := t.freeBlocks (srcOf n.val f);
       
      (let origin := beAt f.payload 0 2;
       
      (let uid := beAt f.payload 4 8;
       
      (let seq := beAt f.payload 12 4;
       origin = u.ownAddr ∧ uid = Config.moduleUid.toNat ∧ 0 < diff32 seq u.fab.ownSeq))))) ∧
    (∃ (s t : State) (n : Fin 5) (f : FabFrame), s.Up 9 ∧ s.receive n.val f = (t, true) ∧ f.type = 3 ∧ f.payload.length = 20
      + 4 * beAt f.payload 16 1 ∧ beAt f.payload 2 2 = 0 ∧ beAt f.payload 17 3 = 0 ∧
      (let u := t.freeBlocks (srcOf n.val f);
       
      (let origin := beAt f.payload 0 2;
       
      (let uid := beAt f.payload 4 8;
       
      (let seq := beAt f.payload 12 4;
       
      (let old := u.fab.lsas.find? (fun l => l.origin == origin && l.uid == uid);
       (origin ≠ u.ownAddr ∨ uid ≠ Config.moduleUid.toNat) ∧ (∀ l, old = some l → 0 < diff32 seq l.seq))))))) ∧
    (∃ (s t : State) (n : Fin 5) (f : FabFrame), s.Up 9 ∧ s.receive n.val f = (t, true) ∧ f.type = 3 ∧ f.payload.length = 20
      + 4 * beAt f.payload 16 1 ∧ beAt f.payload 2 2 = 0 ∧ beAt f.payload 17 3 = 0 ∧
      (let u := t.freeBlocks (srcOf n.val f);
       
      (let origin := beAt f.payload 0 2;
       
      (let uid := beAt f.payload 4 8;
       
      (let seq := beAt f.payload 12 4;
       
      (let old := u.fab.lsas.find? (fun l => l.origin == origin && l.uid == uid);
       (origin ≠ u.ownAddr ∨ uid ≠ Config.moduleUid.toNat) ∧ (∃ l, old = some l ∧ diff32 seq l.seq ≤ 0))))))) ∧
    (∃ (s : State) (a : BitVec 10) (uid : BitVec 64), s.Up 9) ∧
    (∃ (s : State) (a : BitVec 10), s.Up 9 ∧ s.conflicted a.toNat = true ∧ ((s.ownAddr, Config.moduleUid.toNat) ::
      s.fab.lsas.map (fun l => (l.origin, l.uid))).any (fun x => x.1 == a.toNat && ((s.ownAddr, Config.moduleUid.toNat) ::
      s.fab.lsas.map (fun l => (l.origin, l.uid))).any (fun y => y.1 == a.toNat && y.2 != x.2)) = false) ∧
    (∃ s : State, s.Up 9) ∧
    (∃ (s : State) (o : Origin), s.Accepts o Reg.FAB_CMD 1) ∧
    (∃ (s : State) (o : Origin), s.Accepts o Reg.FAB_CMD 3) ∧
    (∃ (s t : State) (n : Fin 5) (f : FabFrame), s.Up 9 ∧ s.receive n.val f = (t, true) ∧ n.val ≠ 4 ∧ f.dst.toNat ≠ t.ownAddr
      ∧ ∃ p, 2 ≤ f.ttl.toNat ∧ t.routePort f.dst.toNat = some p) ∧
    (∃ (s t : State) (n : Fin 5) (f : FabFrame), s.Up 9 ∧ s.receive n.val f = (t, true) ∧ n.val ≠ 4 ∧ f.dst.toNat ≠ t.ownAddr
      ∧ f.ttl.toNat < 2) ∧
    (∃ s : State, s.fabRuns = true ∧ s.appUp = true) :=
  ⟨⟨fl [], up_of (by decide +kernel), (by decide +kernel), (by decide +kernel)⟩,
   ⟨fl [], tk (fl []) 0 (ff 3 2 0 5 (beBytes 2 (fl []).ownAddr ++ beBytes 2 0 ++ beBytes 8 Config.moduleUid.toNat ++ beBytes
     4 1 ++ beBytes 4 0)), 0, sg (fl []) 0 (ff 3 2 0 5 (beBytes 2 (fl []).ownAddr ++ beBytes 2 0 ++ beBytes 8
     Config.moduleUid.toNat ++ beBytes 4 1 ++ beBytes 4 0)), up_of (by decide +kernel), recv (by decide +kernel)
     (by decide +kernel) (by decide +kernel), (by decide +kernel), (by decide +kernel), (by decide +kernel),
     (by decide +kernel), (by decide +kernel), (uid_at _ _), (by decide +kernel)⟩,
   ⟨fl [], tk (fl []) 0 (ff 3 2 0 5 (beBytes 2 9 ++ beBytes 2 0 ++ beBytes 8 5 ++ beBytes 4 3 ++ beBytes 4 0)), 0, sg (fl [])
     0 (ff 3 2 0 5 (beBytes 2 9 ++ beBytes 2 0 ++ beBytes 8 5 ++ beBytes 4 3 ++ beBytes 4 0)), up_of (by decide +kernel),
     recv (by decide +kernel) (by decide +kernel) (by decide +kernel), (by decide +kernel), (by decide +kernel),
     (by decide +kernel), (by decide +kernel), (by decide +kernel), (of_none (by decide +kernel))⟩,
   ⟨{ fl [] with fab := { (fl []).fab with lsas := [⟨9, 5, 3, [], 0⟩] } }, tk ({ fl [] with fab := { (fl []).fab with lsas :=
     [⟨9, 5, 3, [], 0⟩] } }) 0 (ff 3 2 0 5 (beBytes 2 9 ++ beBytes 2 0 ++ beBytes 8 5 ++ beBytes 4 3 ++ beBytes 4 0)), 0, sg
     ({ fl [] with fab := { (fl []).fab with lsas := [⟨9, 5, 3, [], 0⟩] } }) 0 (ff 3 2 0 5 (beBytes 2 9 ++ beBytes 2 0 ++
     beBytes 8 5 ++ beBytes 4 3 ++ beBytes 4 0)), up_of (by decide +kernel), recv (by decide +kernel) (by decide +kernel)
     (by decide +kernel), (by decide +kernel), (by decide +kernel), (by decide +kernel), (by decide +kernel),
     (by decide +kernel), ⟨⟨9, 5, 3, [], 0⟩, by decide +kernel, by decide +kernel⟩⟩,
   ⟨b0, 7, 0, up_of (by decide +kernel)⟩,
   ⟨{ b0 with fab := { b0.fab with conflicts := [7] } }, 7, up_of (by decide +kernel), (by decide +kernel),
     (by decide +kernel)⟩,
   ⟨b0, up_of (by decide +kernel)⟩,
   ⟨sv [], .host, acc_of (by decide +kernel)⟩,
   ⟨sv [], .host, acc_of (by decide +kernel)⟩,
   ⟨fl [(whole (routeWord 7 0), 2 ^ 28)], tk (fl [(whole (routeWord 7 0), 2 ^ 28)]) 0 (ff 4 2 7 2 []), 0, sg (fl [(whole
     (routeWord 7 0), 2 ^ 28)]) 0 (ff 4 2 7 2 []), up_of (by decide +kernel), recv (by decide +kernel) (by decide +kernel)
     (by decide +kernel), (by decide +kernel), (by decide +kernel), 0, (by decide +kernel), (by decide +kernel)⟩,
   ⟨fl [(whole (routeWord 7 0), 2 ^ 28)], tk (fl [(whole (routeWord 7 0), 2 ^ 28)]) 0 (ff 4 2 7 1 []), 0, sg (fl [(whole
     (routeWord 7 0), 2 ^ 28)]) 0 (ff 4 2 7 1 []), up_of (by decide +kernel), recv (by decide +kernel) (by decide +kernel)
     (by decide +kernel), (by decide +kernel), (by decide +kernel), (by decide +kernel)⟩,
   ⟨fl [], (by decide +kernel), (by decide +kernel)⟩⟩

theorem witness_GongAndKeysComplete :
    (∃ (s t : State) (n : Fin 5) (f : FabFrame), s.Up 9 ∧ s.receive n.val f = (t, true) ∧ f.type = 5 ∧ f.payload.length = 12
      ∧ n.val ≠ 4 ∧
      (let origin := beAt f.payload 0 2;
       
      (let gseq := beAt f.payload 2 2;
       t.fab.pairs.contains (origin, gseq) = true))) ∧
    (∃ (s t : State) (n : Fin 5) (f : FabFrame), s.Up 9 ∧ s.receive n.val f = (t, true) ∧ f.type = 5 ∧ f.payload.length = 12
      ∧ n.val ≠ 4 ∧
      (let origin := beAt f.payload 0 2;
       
      (let gseq := beAt f.payload 2 2;
       t.fab.pairs.contains (origin, gseq) = false))) ∧
    (∃ (s : State) (a g : BitVec 16), s.Up 9) ∧
    (∃ (s : State) (o : Origin) (r : Byte), s.Accepts o Reg.FAB_CMD (2 + 256 * r.toNat) ∧ s.fabRuns = true) ∧
    (∃ (s : State) (o : Origin) (n : Fin 5) (k : Fin 2) (w : Word), s.Accepts o (linkKeyTop n.val k.val) w.toNat) ∧
    (∃ (s : State) (o : Origin) (r : Fin 3) (w : Word), s.Accepts o (roleKeyTop (r.val + 1)) w.toNat) ∧
    (∃ (s : State) (o : Origin) (n : Fin 5) (k : Fin 2), s.Accepts o (Reg.FP_KEYCTL n.val) (putBit (s.rd (Reg.FP_KEYCTL
      n.val)) (28 + k.val) true)) ∧
    (∃ (s : State) (o : Origin) (n : Fin 5) (k : Fin 2), s.Accepts o (Reg.FP_KEYCTL n.val) (putBit (s.rd (Reg.FP_KEYCTL
      n.val)) 24 (k.val == 1)) ∧ s.ens (lanePage n.val) = false) ∧
    (∃ (s : State) (o : Origin) (n : Fin 5) (k : Fin 2), s.Accepts o (Reg.FP_KEYCTL n.val) (putBit (s.rd (Reg.FP_KEYCTL
      n.val)) 24 (k.val == 1)) ∧ s.ens (lanePage n.val) = true) ∧
    (∃ (s : State) (n : Fin 5) (v : Nat), s.laneOn n.val = true ∧ bitOf v 24 ≠ s.bit (Reg.FP_KEYCTL n.val) 24 ∧ v < 2 ^ 32)
      :=
  ⟨⟨{ fl [] with fab := { (fl []).fab with pairs := [(9, 3)] } }, tk ({ fl [] with fab := { (fl []).fab with pairs := [(9,
    3)] } }) 0 (ff 5 0 0 5 (beBytes 2 9 ++ beBytes 2 3 ++ List.replicate 8 0)), 0, sg ({ fl [] with fab := { (fl []).fab with
    pairs := [(9, 3)] } }) 0 (ff 5 0 0 5 (beBytes 2 9 ++ beBytes 2 3 ++ List.replicate 8 0)), up_of (by decide +kernel), recv
    (by decide +kernel) (by decide +kernel) (by decide +kernel), (by decide +kernel), (by decide +kernel),
    (by decide +kernel), (by decide +kernel)⟩,
   ⟨fl [], tk (fl []) 0 (ff 5 0 0 5 (beBytes 2 9 ++ beBytes 2 3 ++ List.replicate 8 0)), 0, sg (fl []) 0 (ff 5 0 0 5 (beBytes
     2 9 ++ beBytes 2 3 ++ List.replicate 8 0)), up_of (by decide +kernel), recv (by decide +kernel) (by decide +kernel)
     (by decide +kernel), (by decide +kernel), (by decide +kernel), (by decide +kernel), (by decide +kernel)⟩,
   ⟨b0, 9, 3, up_of (by decide +kernel)⟩,
   ⟨sv [(Fld.FAB_STAT_STATE, 1)], .host, 255, acc_of (by decide +kernel), (by decide +kernel)⟩,
   ⟨sv [], .host, 4, 1, 0, acc_of (by decide +kernel)⟩,
   ⟨st [(whole Reg.HST_ROLE, 1)], .host, 0, 0, acc_of (by decide +kernel)⟩,
   ⟨sv [], .host, 4, 1, acc_of (by decide +kernel)⟩,
   ⟨sv [], .host, 4, 1, acc_of (by decide +kernel), (by decide +kernel)⟩,
   ⟨sv [(Fld.ens (lanePage 4), 1)], .host, 4, 1, acc_of (by decide +kernel), (by decide +kernel)⟩,
   ⟨st [(Fld.FAB_STAT_STATE, 1), (Fld.ens (lanePage 0), 1), (Fld.FAB_CFG_PORTEN, 1)], 0, 2 ^ 24, (by decide +kernel),
     (by decide +kernel), (by decide +kernel)⟩⟩

theorem witness_DispatchAndSessionsComplete :
    (∃ (s : State) (q : Req) (d : DispatchBody), s.Served q 4 0 ∧ s.svc.role ≠ 2 ∧ s.dispatchVerdict d = 0 ∧
      s.dispatchRepeats d = false) ∧
    (∃ (s : State) (q : Req) (d : DispatchBody), s.Served q 4 0 ∧ s.svc.role ≠ 2 ∧ s.dispatchVerdict d = 0 ∧
      s.dispatchRepeats d = true) ∧
    (∃ (s : State) (q : Req) (d : DispatchBody), s.Served q 4 0 ∧ s.svc.role ≠ 2 ∧ s.dispatchVerdict d ≠ 0) ∧
    (∃ (s : State) (q : Req) (d : DispatchBody), s.Served q 4 0 ∧ s.svc.role = 2) ∧
    (∃ s : State, s.Up 9 ∧ s.get Fld.FAB_DISP_WDT ≠ 0 ∧ s.svc.state = .running ∧ s.appUp = true ∧ s.dsp.lastAt + s.get
      Fld.FAB_DISP_WDT * 1000000 ≤ s.nowNat) ∧
    (∃ s : State, s.Up 9 ∧ s.fabRuns = true ∧ s.appUp = true ∧ s.svc.state ≠ .recovery) ∧
    (∃ (s : State) (q : Req), q.origin = .host ∧ s.Up 9 ∧ s.appUp = true) ∧
    (∃ (s : State) (q : Req) (role : Byte) (tag : BitVec 128), q.origin = .host ∧ s.Up 9 ∧ s.appUp = true ∧ s.roleKey
      role.toNat = none) ∧
    (∃ (s : State) (q : Req) (role : Byte) (tag key : BitVec 128), q.origin = .host ∧ s.Up 9 ∧ s.appUp = true ∧ s.roleKey
      role.toNat = some key ∧ s.fab.challenge = none) ∧
    (∃ (s : State) (q : Req) (role : Byte) (tag key : BitVec 128), q.origin = .host ∧ s.Up 9 ∧ s.appUp = true ∧ s.roleKey
      role.toNat = some key ∧ ∃ c t, s.fab.challenge = some (c, t) ∧ role.toNat ≤ s.get Fld.HST_CFG_MAXROLE ∧ s.nowNat ≤ t +
      10000000000 ∧ sessionTag key c role.toNat = tag) ∧
    (∃ (s : State) (q : Req) (n : BitVec 10), q.origin = .fabric n ∧ s.Reached q 7) ∧
    (∃ (s : State) (q : Req) (n : BitVec 10), q.origin = .fabric n ∧ s.Reached q 8) ∧
    (∃ (s : State) (q : Req) (n : BitVec 10), q.origin = .fabric n ∧ s.Reached q 9) ∧
    (∃ (s : State) (d : DispatchBody), d.blen ≠ 28) ∧
    (∃ (s : State) (d : DispatchBody), d.blen = 28 ∧ (d.reservedZero = false ∨ 999999999 < d.actn.toNat ∨ fpIsNan d.iset =
      true ∨ fpIsInf d.iset = true)) ∧
    (∃ (s : State) (d : DispatchBody), d.blen = 28 ∧ d.reservedZero = true ∧ d.actn.toNat ≤ 999999999 ∧ fpIsNan d.iset =
      false ∧ fpIsInf d.iset = false ∧ d.string.toNat ≠ s.get Fld.FAB_STRING_STRING) ∧
    (∃ (s : State) (d : DispatchBody), d.blen = 28 ∧ d.reservedZero = true ∧ d.actn.toNat ≤ 999999999 ∧ fpIsNan d.iset =
      false ∧ fpIsInf d.iset = false ∧ d.string.toNat = s.get Fld.FAB_STRING_STRING ∧ s.dsp.last = some d) ∧
    (∃ (s : State) (d : DispatchBody), d.blen = 28 ∧ d.reservedZero = true ∧ d.actn.toNat ≤ 999999999 ∧ fpIsNan d.iset =
      false ∧ fpIsInf d.iset = false ∧ d.string.toNat = s.get Fld.FAB_STRING_STRING ∧ ∃ l, s.dsp.last = some l ∧ l ≠ d ∧
      (d.seq - l.seq).toInt ≤ 0) ∧
    (∃ (s : State) (d : DispatchBody), d.blen = 28 ∧ d.reservedZero = true ∧ d.actn.toNat ≤ 999999999 ∧ fpIsNan d.iset =
      false ∧ fpIsInf d.iset = false ∧ d.string.toNat = s.get Fld.FAB_STRING_STRING ∧ s.dsp.last ≠ some d ∧ (∀ l, s.dsp.last
      = some l → 0 < (d.seq - l.seq).toInt) ∧ s.dispatchTaken = false) ∧
    (∃ (s : State) (d : DispatchBody), d.blen = 28 ∧ d.reservedZero = true ∧ d.actn.toNat ≤ 999999999 ∧ fpIsNan d.iset =
      false ∧ fpIsInf d.iset = false ∧ d.string.toNat = s.get Fld.FAB_STRING_STRING ∧ s.dsp.last ≠ some d ∧ (∀ l, s.dsp.last
      = some l → 0 < (d.seq - l.seq).toInt) ∧ s.dispatchTaken = true ∧ s.on Fld.TIM_STATE_SYNC = false) ∧
    (∃ (s : State) (d : DispatchBody), d.blen = 28 ∧ d.reservedZero = true ∧ d.actn.toNat ≤ 999999999 ∧ fpIsNan d.iset =
      false ∧ fpIsInf d.iset = false ∧ d.string.toNat = s.get Fld.FAB_STRING_STRING ∧ s.dsp.last ≠ some d ∧ (∀ l, s.dsp.last
      = some l → 0 < (d.seq - l.seq).toInt) ∧ s.dispatchTaken = true ∧ s.on Fld.TIM_STATE_SYNC = true ∧ d.imm = false ∧
      s.dispatchAhead d < 200000) ∧
    (∃ (s : State) (d : DispatchBody), d.blen = 28 ∧ d.reservedZero = true ∧ d.actn.toNat ≤ 999999999 ∧ fpIsNan d.iset =
      false ∧ fpIsInf d.iset = false ∧ d.string.toNat = s.get Fld.FAB_STRING_STRING ∧ s.dsp.last ≠ some d ∧ (∀ l, s.dsp.last
      = some l → 0 < (d.seq - l.seq).toInt) ∧ s.dispatchTaken = true ∧ s.on Fld.TIM_STATE_SYNC = true ∧ d.imm = false ∧ (max
      1 (s.get Fld.FAB_DISP_MAXAHEAD) * 1000000000 : Nat) < s.dispatchAhead d) ∧
    (∃ (s : State) (d : DispatchBody), d.blen = 28 ∧ d.reservedZero = true ∧ d.actn.toNat ≤ 999999999 ∧ fpIsNan d.iset =
      false ∧ fpIsInf d.iset = false ∧ d.string.toNat = s.get Fld.FAB_STRING_STRING ∧ s.dsp.last ≠ some d ∧ (∀ l, s.dsp.last
      = some l → 0 < (d.seq - l.seq).toInt) ∧ s.dispatchTaken = true ∧ s.on Fld.TIM_STATE_SYNC = true ∧ (d.imm = true ∨
      200000 ≤ s.dispatchAhead d ∧ s.dispatchAhead d ≤ (max 1 (s.get Fld.FAB_DISP_MAXAHEAD) * 1000000000 : Nat))) :=
  ⟨⟨dsp [], hq, db 1, served_host (by decide +kernel), (by decide +kernel), (by decide +kernel), (by decide +kernel)⟩,
   ⟨{ dsp [] with dsp := { b0.dsp with last := some (db 1) } }, hq, db 1, served_host (by decide +kernel),
     (by decide +kernel), (by decide +kernel), (by decide +kernel)⟩,
   ⟨b0, hq, db 1, served_host (by decide +kernel), (by decide +kernel), (by decide +kernel)⟩,
   ⟨{ b0 with svc := { b0.svc with role := 2 } }, hq, db 1, served_host (by decide +kernel), (by decide +kernel)⟩,
   ⟨{ st [(Fld.FAB_DISP_WDT, 1)] with svc := { b0.svc with state := .running }, tim :=
     { b0.tim with mono := 1000000 * nsUnit } }, up_of (by decide +kernel), (by decide +kernel), (by decide +kernel),
     (by decide +kernel), (by decide +kernel)⟩,
   ⟨fl [], up_of (by decide +kernel), (by decide +kernel), (by decide +kernel), (by decide +kernel)⟩,
   ⟨b0, hq, (by decide +kernel), up_of (by decide +kernel), (by decide +kernel)⟩,
   ⟨b0, hq, 0, 0, (by decide +kernel), up_of (by decide +kernel), (by decide +kernel), (by decide +kernel)⟩,
   ⟨b0, hq, 3, 0, Config.serviceKey, (by decide +kernel), up_of (by decide +kernel), (by decide +kernel), rfl,
     (by decide +kernel)⟩,
   ⟨{ sv [] with fab := { b0.fab with challenge := some (0, 0), roleKeys := [none, some 0, none, none] } }, hq, 1, sessionTag
     0 0 1, 0, (by decide +kernel), up_of (by decide +kernel), (by decide +kernel), (by decide +kernel), 0, 0,
     (by decide +kernel), (by decide +kernel), (by decide +kernel), rfl⟩,
   ⟨b0, ⟨.fabric 9, 0, 2, 0, true⟩, 9, (by decide +kernel), (reached_fabric (n := 9) rfl (by decide +kernel))⟩,
   ⟨b0, ⟨.fabric 9, 0, 2, 0, true⟩, 9, (by decide +kernel), (reached_fabric (n := 9) rfl (by decide +kernel))⟩,
   ⟨b0, ⟨.fabric 9, 0, 2, 0, true⟩, 9, (by decide +kernel), (reached_fabric (n := 9) rfl (by decide +kernel))⟩,
   ⟨b0, { db 1 with blen := 27 }, (by decide +kernel)⟩,
   ⟨b0, { db 1 with actn := 1000000000 }, (by decide +kernel), (by decide +kernel)⟩,
   ⟨b0, { db 1 with string := 1 }, (by decide +kernel), (by decide +kernel), (by decide +kernel), (by decide +kernel),
     (by decide +kernel), (by decide +kernel)⟩,
   ⟨{ dsp [] with dsp := { b0.dsp with last := some (db 1) } }, db 1, (by decide +kernel), (by decide +kernel),
     (by decide +kernel), (by decide +kernel), (by decide +kernel), (by decide +kernel), (by decide +kernel)⟩,
   ⟨{ dsp [] with dsp := { b0.dsp with last := some (db 1) } }, db 0, (by decide +kernel), (by decide +kernel),
     (by decide +kernel), (by decide +kernel), (by decide +kernel), (by decide +kernel), db 1, (by decide +kernel),
     (by decide +kernel), (by decide +kernel)⟩,
   ⟨b0, db 1, (by decide +kernel), (by decide +kernel), (by decide +kernel), (by decide +kernel), (by decide +kernel),
     (by decide +kernel), (by decide +kernel), (of_none (by decide +kernel)), (by decide +kernel)⟩,
   ⟨{ b0 with svc := { b0.svc with state := .running, startDone := true } }, db 1, (by decide +kernel), (by decide +kernel),
     (by decide +kernel), (by decide +kernel), (by decide +kernel), (by decide +kernel), (by decide +kernel), (of_none
     (by decide +kernel)), (by decide +kernel), (by decide +kernel)⟩,
   ⟨dsp [], { db 1 with imm := false, actn := 199999 }, (by decide +kernel), (by decide +kernel), (by decide +kernel),
     (by decide +kernel), (by decide +kernel), (by decide +kernel), (by decide +kernel), (of_none (by decide +kernel)),
     (by decide +kernel), (by decide +kernel), (by decide +kernel), (by decide +kernel)⟩,
   ⟨dsp [], { db 1 with imm := false, acts := 0xFFFFFFFFFFFF }, (by decide +kernel), (by decide +kernel),
     (by decide +kernel), (by decide +kernel), (by decide +kernel), (by decide +kernel), (by decide +kernel), (of_none
     (by decide +kernel)), (by decide +kernel), (by decide +kernel), (by decide +kernel), (by decide +kernel)⟩,
   ⟨dsp [], { db 1 with imm := false, actn := 200000 }, (by decide +kernel), (by decide +kernel), (by decide +kernel),
     (by decide +kernel), (by decide +kernel), (by decide +kernel), (by decide +kernel), (of_none (by decide +kernel)),
     (by decide +kernel), (by decide +kernel), (by decide +kernel)⟩⟩

theorem witness_PtpMessagesComplete :
    (∃ (s : State) (n k : Nat) (m : PtpMsg),
      (let key := n * 4096 + k * 256 + m.domain.toNat;
       let seen := smGet (fun _ => (0 : Nat)) s.tim.ptpSeen key;
       s.ens Pg.TIM = true ∧ s.laneState n = 3 ∧ s.ptpFits n m = true ∧ seen < 160)) ∧
    (∃ (s : State) (n k : Nat) (m : PtpMsg),
      (let key := n * 4096 + k * 256 + m.domain.toNat;
       let seen := smGet (fun _ => (0 : Nat)) s.tim.ptpSeen key;
       s.ens Pg.TIM = false ∨ s.laneState n ≠ 3 ∨ s.ptpFits n m = false ∨ 160 ≤ seen)) ∧
    (∃ (s t : State) (n : Fin 4) (m : PtpMsg) (d : Nat), s.Up 3 ∧ s.Up 9 ∧ s.ptpAccept n.val 0xB m = (t, true) ∧
      m.ptpTimescale = true ∧
      (let u := match m.utcOffset with | some x => t.wr Reg.TIM_UTC (x.toNat + 65536) | none => t;
       u.ptpDom m = some d ∧ (u.dom d).best = none ∧ (u.on (Fld.TIM_DCFG_GMCAP d) = false ∨ listLess (dataSet m) (u.ownSet d)
       = true))) ∧
    (∃ (s t : State) (n : Fin 4) (m : PtpMsg) (d : Nat), s.Up 3 ∧ s.Up 9 ∧ s.ptpAccept n.val 0 m = (t, true) ∧ t.ptpDom m =
      some d ∧ t.fromMaster n.val d m = true ∧ m.twoStep = true) ∧
    (∃ (s t : State) (n : Fin 4) (m : PtpMsg) (d : Nat), s.Up 3 ∧ s.Up 9 ∧ s.ptpAccept n.val 0 m = (t, true) ∧ t.ptpDom m =
      some d ∧ t.fromMaster n.val d m = true ∧ m.twoStep = false) ∧
    (∃ (s t : State) (n : Fin 4) (m y : PtpMsg) (d : Nat) (rx : Int), s.Up 3 ∧ s.Up 9 ∧ s.ptpAccept n.val 8 m = (t, true) ∧
      t.ptpDom m = some d ∧ (t.dom d).sync = some (n.val, y, rx) ∧ y.seq = m.seq ∧ y.sourceId = m.sourceId) ∧
    (∃ (s t : State) (n : Fin 4) (m : PtpMsg), s.Up 3 ∧ s.Up 9 ∧ s.ptpAccept n.val 2 m = (t, true)) ∧
    (∃ (s t : State) (n : Fin 4) (m : PtpMsg), s.Up 3 ∧ s.Up 9 ∧ s.ptpAccept n.val 3 m = (t, true) ∧ m.seq.toNat = (t.pdel
      n.val).seq) ∧
    (∃ (s t : State) (n : Fin 4) (m : PtpMsg) (t2 t4 : Int), s.Up 3 ∧ s.Up 9 ∧ s.ptpAccept n.val 10 m = (t, true) ∧
      m.seq.toNat = (t.pdel n.val).seq ∧ (t.pdel n.val).t2 = some t2 ∧ (t.pdel n.val).t4 = some t4) ∧
    (∃ (s : State) (n : Fin 4), s.Up 3 ∧ s.Up 9 ∧ s.ens Pg.TIM = true ∧ s.laneState n.val = 3) ∧
    (∃ (s : State) (d : Fin 2), s.Up 3 ∧ s.Up 9 ∧ s.ens Pg.TIM = true ∧ (s.domState d.val = 7 ∨ s.domState d.val = 4 ∨
      s.domState d.val = 5) ∧ s.get (Fld.TIM_DCFG_SRC d.val) = 0) ∧
    (∃ (s : State) (n d : Nat) (x : Int), s.appUp = false ∧
      (let a := ((s.wr (Reg.TIM_DOFS d) (satSigned 32 x)).wr (Reg.TIM_DPDLY d) ((((s.pdel n).delay).getD 0).toNat % 2 ^
           32)).modDom d (fun y => { y with syncAt := some s.nowNat });
       let b := if a.domState d = 5 ∨ a.domState d = 6 ∨ a.domState d = 7 then (a.modDom d (fun y =>
           { y with good := 0, bad := 0 })).setDom d 3 else a;
       let win := b.get (Fld.TIM_DLOCK_LOCKWIN d);
       let c := b.modDom d (fun y => { y with good := if x.natAbs ≤ win then y.good + 1 else 0, bad := if x.natAbs > 4 * win
           then y.bad + 1 else 0 });
       c.domState d = 3 ∧ max 1 (c.get (Fld.TIM_DLOCK_LOCKN d)) ≤ (c.dom d).good ∧ (c.setDom d 4).appUp = false)) ∧
    (∃ (s : State) (n d : Nat) (x : Int), s.appUp = false ∧
      (let a := ((s.wr (Reg.TIM_DOFS d) (satSigned 32 x)).wr (Reg.TIM_DPDLY d) ((((s.pdel n).delay).getD 0).toNat % 2 ^
           32)).modDom d (fun y => { y with syncAt := some s.nowNat });
       let b := if a.domState d = 5 ∨ a.domState d = 6 ∨ a.domState d = 7 then (a.modDom d (fun y =>
           { y with good := 0, bad := 0 })).setDom d 3 else a;
       let win := b.get (Fld.TIM_DLOCK_LOCKWIN d);
       let c := b.modDom d (fun y => { y with good := if x.natAbs ≤ win then y.good + 1 else 0, bad := if x.natAbs > 4 * win
           then y.bad + 1 else 0 });
       c.domState d = 4 ∧ (c.dom d).bad < 2 ∧ c.appUp = false)) :=
  ⟨⟨pt [], 0, 0, pm, (by decide +kernel), (by decide +kernel), pfits rfl (by decide +kernel), (by decide +kernel)⟩,
   ⟨b0, 0, 0, pm, .inl (by decide +kernel)⟩,
   ⟨pt [], pk (pt []) 0 0xB pm, 0, pm, 0, up_of (by decide +kernel), up_of (by decide +kernel), paccept rfl
     (by decide +kernel) (by decide +kernel), (by decide +kernel), (by decide +kernel), (by decide +kernel),
     (by decide +kernel)⟩,
   ⟨(pt []).modDom 0 (fun x => { x with best := some (0, pm), sync := some (0, pm, 0) }), pk ((pt []).modDom 0 (fun x =>
     { x with best := some (0, pm), sync := some (0, pm, 0) })) 0 0 { pm with twoStep := true }, 0,
     { pm with twoStep := true }, 0, up_of (by decide +kernel), up_of (by decide +kernel), paccept rfl (by decide +kernel)
     (by decide +kernel), (by decide +kernel), (by decide +kernel), (by decide +kernel)⟩,
   ⟨(pt []).modDom 0 (fun x => { x with best := some (0, pm), sync := some (0, pm, 0) }), pk ((pt []).modDom 0 (fun x =>
     { x with best := some (0, pm), sync := some (0, pm, 0) })) 0 0 pm, 0, pm, 0, up_of (by decide +kernel), up_of
     (by decide +kernel), paccept rfl (by decide +kernel) (by decide +kernel), (by decide +kernel), (by decide +kernel),
     (by decide +kernel)⟩,
   ⟨(pt []).modDom 0 (fun x => { x with best := some (0, pm), sync := some (0, pm, 0) }), pk ((pt []).modDom 0 (fun x =>
     { x with best := some (0, pm), sync := some (0, pm, 0) })) 0 8 pm, 0, pm, pm, 0, 0, up_of (by decide +kernel), up_of
     (by decide +kernel), paccept rfl (by decide +kernel) (by decide +kernel), (by decide +kernel), rfl, (by decide +kernel),
     (by decide +kernel)⟩,
   ⟨pt [], pk (pt []) 0 2 pm, 0, pm, up_of (by decide +kernel), up_of (by decide +kernel), paccept rfl (by decide +kernel)
     (by decide +kernel)⟩,
   ⟨pt [], pk (pt []) 0 3 pm, 0, pm, up_of (by decide +kernel), up_of (by decide +kernel), paccept rfl (by decide +kernel)
     (by decide +kernel), (by decide +kernel)⟩,
   ⟨(pt []).modPdel 0 (fun p => { p with t2 := some 1, t4 := some 5 }), pk ((pt []).modPdel 0 (fun p =>
     { p with t2 := some 1, t4 := some 5 })) 0 10 pm, 0, pm, 1, 5, up_of (by decide +kernel), up_of (by decide +kernel),
     paccept rfl (by decide +kernel) (by decide +kernel), (by decide +kernel), (by decide +kernel), (by decide +kernel)⟩,
   ⟨pt [], 0, up_of (by decide +kernel), up_of (by decide +kernel), (by decide +kernel), (by decide +kernel)⟩,
   ⟨pt [(Fld.TIM_DSTAT_STATE 0, 4)], 0, up_of (by decide +kernel), up_of (by decide +kernel), (by decide +kernel),
     (by decide +kernel), (by decide +kernel)⟩,
   ⟨(pt [(Fld.TIM_DSTAT_STATE 0, 3), (Fld.DBG_SESSION_HALTED, 1), (Fld.TIM_DLOCK_LOCKN 0, 1)]), 0, 0, 0, (by decide +kernel),
     (by decide +kernel), (by decide +kernel), (by decide +kernel)⟩,
   ⟨(pt [(Fld.TIM_DSTAT_STATE 0, 4), (Fld.DBG_SESSION_HALTED, 1)]), 0, 0, 0, (by decide +kernel), (by decide +kernel),
     (by decide +kernel), (by decide +kernel)⟩⟩

theorem witness_TimeComplete :
    (∃ (s : State) (d : Fin 2), s.Up 3 ∧ s.domState d.val = 4) ∧
    (∃ (s : State) (d : Fin 2), s.Up 3 ∧ (s.domState d.val = 5 ∨ s.domState d.val = 3)) ∧
    (∃ (s : State) (d : Fin 2), s.Up 3 ∧ s.ens Pg.TIM = true ∧ s.on (Fld.TIM_DCFG_EN d.val) = true ∧ s.get (Fld.TIM_DCFG_SRC
      d.val) = 0 ∧ ∃ b, (s.dom d.val).best = some b) ∧
    (∃ (s : State) (d : Fin 2), s.Up 3 ∧ s.ens Pg.TIM = true ∧ s.on (Fld.TIM_DCFG_EN d.val) = true ∧ s.get (Fld.TIM_DCFG_SRC
      d.val) = 0 ∧ (s.dom d.val).best = none ∧ s.on (Fld.TIM_DCFG_GMCAP d.val) = true ∧ s.domState d.val ≠ 7) ∧
    (∃ (s : State) (o : Origin) (d : Fin 2) (v : Word), s.Accepts o (Reg.TIM_DADJ d.val) v.toNat) ∧
    (∃ (s : State) (o : Origin) (d : Fin 2) (v : Word), s.Accepts o (Reg.TIM_DINC d.val) v.toNat) ∧
    (∃ s : State, s.Up 3 ∧ s.residual = 0) ∧
    (∃ s : State, s.Up 3 ∧ s.ens Pg.TIM = true ∧ s.on Fld.TIM_CFG_REVERT = true ∧ s.activeDom ≠ s.get Fld.TIM_CFG_PREF ∧
      (s.domState (s.get Fld.TIM_CFG_PREF) = 4 ∨ s.domState (s.get Fld.TIM_CFG_PREF) = 7)) ∧
    (∃ (s : State) (o : Origin) (d : Fin 2), s.Accepts o Reg.TIM_CMD (1 + 256 * d.val) ∧ s.ens Pg.TIM = true ∧ syncedState
      (s.domState d.val) = true ∧ s.activeDom ≠ d.val) ∧
    (∃ (s : State) (o : Origin) (d : Fin 2), s.Accepts o Reg.TIM_CMD (1 + 256 * d.val) ∧ syncedState (s.domState d.val) =
      false) ∧
    (∃ (s : State) (o : Origin), s.Accepts o Reg.TIM_CMD 2) ∧
    (∃ (s : State) (q : Req), s.Served q 0x100 0) ∧
    (∃ (s : State) (q : Req) (d mode : Byte) (sec : BitVec 48) (ns : Word), s.Served q 0x101 1 ∧ d.toNat ≤ 1 ∧ mode.toNat ≤ 1
      ∧ ns.toNat ≤ 999999999 ∧ s.get (Fld.TIM_DCFG_SRC d.toNat) ≠ 0 ∧ s.domState d.toNat ≠ 0) ∧
    (∃ (s : State) (q : Req) (d mode : Byte) (sec : BitVec 48) (ns : Word), s.Served q 0x101 1 ∧ d.toNat ≤ 1 ∧ mode.toNat ≤ 1
      ∧ ns.toNat ≤ 999999999 ∧ (s.get (Fld.TIM_DCFG_SRC d.toNat) = 0 ∨ s.domState d.toNat = 0)) ∧
    (∃ (s : State) (q : Req) (d mode : Byte) (sec : BitVec 48) (ns : Word), s.Served q 0x101 1 ∧ (1 < d.toNat ∨ 1 <
      mode.toNat ∨ 999999999 < ns.toNat)) :=
  ⟨⟨st [(Fld.TIM_DSTAT_STATE 1, 4)], 1, up_of (by decide +kernel), (by decide +kernel)⟩,
   ⟨st [(Fld.TIM_DSTAT_STATE 1, 3)], 1, up_of (by decide +kernel), (by decide +kernel)⟩,
   ⟨(pt []).modDom 0 (fun x => { x with best := some (0, pm) }), 0, up_of (by decide +kernel), (by decide +kernel),
     (by decide +kernel), (by decide +kernel), (0, pm), rfl⟩,
   ⟨pt [(Fld.TIM_DCFG_GMCAP 0, 1)], 0, up_of (by decide +kernel), (by decide +kernel), (by decide +kernel),
     (by decide +kernel), (by decide +kernel), (by decide +kernel), (by decide +kernel)⟩,
   ⟨sv [], .firmware, 0, 0, acc_of (by decide +kernel)⟩,
   ⟨sv [], .firmware, 0, 0, acc_of (by decide +kernel)⟩,
   ⟨b0, up_of (by decide +kernel), (by decide +kernel)⟩,
   ⟨st [(Fld.ens Pg.TIM, 1), (Fld.TIM_CFG_REVERT, 1), (Fld.TIM_CFG_PREF, 1), (Fld.TIM_DSTAT_STATE 1, 7)], up_of
     (by decide +kernel), (by decide +kernel), (by decide +kernel), (by decide +kernel), (by decide +kernel)⟩,
   ⟨sv [(Fld.ens Pg.TIM, 1), (Fld.TIM_DSTAT_STATE 1, 4)], .host, 1, acc_of (by decide +kernel), (by decide +kernel),
     (by decide +kernel), (by decide +kernel)⟩,
   ⟨sv [], .host, 0, acc_of (by decide +kernel), (by decide +kernel)⟩,
   ⟨sv [], .host, acc_of (by decide +kernel)⟩,
   ⟨b0, hq, served_host (by decide +kernel)⟩,
   ⟨sv [(Fld.TIM_DCFG_SRC 1, 1), (Fld.TIM_DSTAT_STATE 1, 2)], hq, 1, 1, 0, 999999999, served_host (by decide +kernel),
     (by decide +kernel), (by decide +kernel), (by decide +kernel), (by decide +kernel), (by decide +kernel)⟩,
   ⟨sv [], hq, 1, 0, 0, 0, served_host (by decide +kernel), (by decide +kernel), (by decide +kernel), (by decide +kernel),
     (by decide +kernel)⟩,
   ⟨sv [], hq, 0, 0, 0, 1000000000, served_host (by decide +kernel), (by decide +kernel)⟩⟩

theorem witness_PulsesAndLaunchesComplete :
    (∃ (s : State) (k : Fin 8) (n : Nat), s.Up 3 ∧ (s.tpo k.val).next = some n ∧ s.ens Pg.TPO = true ∧ (s.get (Fld.TPO_KCFG_MODE k.val)
      = 1 ∨ s.get (Fld.TPO_KCFG_MODE k.val) = 2)) ∧
    (∃ (s : State) (k : Fin 8), s.Up 3 ∧ s.on (Fld.TPO_KSTAT_LEVEL k.val) = !s.on (Fld.TPO_KCFG_POL k.val)) ∧
    (∃ (s : State) (o : Origin) (kind : SlotKind) (k : Fin 8) (v : Word), s.Accepts o (slotCtl kind k.val) v.toNat) ∧
    (∃ (s : State) (k : Fin 8) (v : Nat), v < 2 ^ 32 ∧ s.bit (Reg.TIM_FLCTL k.val) 31 = false) ∧
    (∃ (s : State) (k : Fin 8) (v : Nat), v < 2 ^ 32 ∧ s.bit (Reg.TIM_CLCTL k.val) 31 = false) ∧
    (∃ (s : State) (k : Fin 8), s.Up 3 ∧ s.on (Fld.TIM_FLCTL_EN k.val) = true ∧ s.slotMisses k.val = true) ∧
    (∃ (s : State) (k : Fin 8), s.Up 3 ∧ s.on (Fld.TIM_FLCTL_EN k.val) = true ∧ ∃ p, s.slotMisses k.val = false ∧ s.routePort
      (s.slotFrame k.val).dst.toNat = some p) ∧
    (∃ (s : State) (k : Fin 8), s.Up 3 ∧ s.on (Fld.TIM_CLCTL_EN k.val) = true ∧ s.canLive (s.get (Fld.TIM_CLCTL_CTRLSEL
      k.val)) = true) ∧
    (∃ (s : State) (k : Fin 8), s.Up 3 ∧ s.on (Fld.TIM_CLCTL_EN k.val) = true ∧ s.canLive (s.get (Fld.TIM_CLCTL_CTRLSEL
      k.val)) = false) :=
  ⟨⟨(st [(Fld.ens Pg.TPO, 1), (Fld.TPO_KCFG_MODE 7, 2)]).modTpo 7 (fun x => { x with next := some 0 }), 7, 0, up_of
     (by decide +kernel), (by decide +kernel), (by decide +kernel), (by decide +kernel)⟩,
   ⟨st [(Fld.TPO_KSTAT_LEVEL 0, 1)], 0, up_of (by decide +kernel), (by decide +kernel)⟩,
   ⟨sv [], .host, .canSlot, 7, 0, acc_of (by decide +kernel)⟩,
   ⟨b0, 0, 2 ^ 31, (by decide +kernel), (by decide +kernel)⟩,
   ⟨b0, 7, 2 ^ 32 - 1, (by decide +kernel), (by decide +kernel)⟩,
   ⟨st [(Fld.TIM_FLCTL_EN 0, 1)], 0, up_of (by decide +kernel), (by decide +kernel), (by decide +kernel)⟩,
   ⟨fl [(Fld.TIM_FLCTL_EN 0, 1), (whole (routeWord 0 0), 2 ^ 28)], 0, up_of (by decide +kernel),
     (by decide +kernel), 0, (by decide +kernel), (by decide +kernel)⟩,
   ⟨st [(Fld.TIM_CLCTL_EN 0, 1), (Fld.CN_STATE_PSTATE 0, 2)], 0, up_of (by decide +kernel),
     (by decide +kernel), (by decide +kernel)⟩,
   ⟨st [(Fld.TIM_CLCTL_EN 0, 1)], 0, up_of (by decide +kernel), (by decide +kernel), (by decide +kernel)⟩⟩

theorem witness_CanEventsComplete :
    (∃ (s : State) (x : Fin 2), s.Up 8 ∧ s.canPs x.val = 1 ∧ s.svc.state ≠ .recovery ∧ s.svc.state ≠ .transport) ∧
    (∃ (s : State) (x : Fin 2) (f : CanFrame), s.Up 8 ∧ s.canLive x.val = true ∧ s.get (Fld.CN_CFG_MODE x.val) ≠ 3) ∧
    (∃ (s : State) (x : Fin 2), s.Up 8 ∧ s.canLive x.val = true ∧ s.get (Fld.CN_CFG_MODE x.val) ≠ 3) ∧
    (∃ (s : State) (x : Fin 2) (o : Fin 128) (sent : CanSent) (ws : List Word), s.Up 8 ∧ s.canLive x.val = true ∧ s.get
      (Fld.CN_CFG_MODE x.val) = 0 ∧ s.on (objTXRQ x.val o.val) = true ∧ s.on (objHOLD x.val o.val) = false ∧ s.objUsed x.val
      o.val true = true ∧ s.objTooLong x.val o.val = false ∧ (s.canOf x.val).onBus = some (o.val, ws)) ∧
    (∃ (s : State) (x : Fin 2) (o : Option (Fin 128)) (data heavy : Bool), s.Up 8 ∧ s.canLive x.val = true ∧ s.on
      (Fld.CN_CFG_PXE x.val) = true) ∧
    (∃ (s : State) (x : Fin 2) (e : CanErr) (data heavy : Bool), s.Up 8 ∧ s.canLive x.val = true ∧ (e = .exception → s.on
      (Fld.CN_CFG_PXE x.val) = false)) ∧
    (∃ (s : State) (x : Fin 2) (o : Fin 128) (e : CanErr) (data heavy : Bool) (ws : List Word), s.Up 8 ∧ s.canLive x.val =
      true ∧ (e = .exception → s.on (Fld.CN_CFG_PXE x.val) = false) ∧ (s.canOf x.val).onBus = some (o.val, ws)) ∧
    (∃ (s : State) (x : Fin 2), s.Up 8 ∧ s.canPs x.val = 5) ∧
    (∃ (s : State) (x : Fin 2) (o : Fin 128), s.Up 8 ∧ s.failsOver x.val o.val = true ∧
      (let fov := s.rd (objAddr x.val o.val 6);
       bitsOf fov 30 2 = 1 ∧ s.canLive (1 - x.val) = true ∧ s.objUsed (1 - x.val) (fov % 128) true = true)) ∧
    (∃ (s : State) (x : Fin 2) (o : Fin 128), s.Up 8 ∧ s.failsOver x.val o.val = true ∧
      (let fov := s.rd (objAddr x.val o.val 6);
       bitsOf fov 30 2 = 2 ∧ s.slotMisses (bitsOf fov 8 3) = false)) ∧
    (∃ (s : State) (x : Fin 2) (o : Fin 128), s.Up 8 ∧ (s.canOf x.val).stamps.contains o.val = true ∧ s.appUp = true) ∧
    (∃ (s : State) (x : Fin 2) (o : Fin 128), s.Up 8 ∧ (s.canOf x.val).stamps.contains o.val = true) ∧
    (∃ (s : State) (x : Fin 2), s.Up 8 ∧ s.on (Fld.CN_REF_EN x.val) = true ∧ s.ens (canPage x.val) = true) :=
  ⟨⟨st [(Fld.CN_STATE_PSTATE 1, 1)], 1, up_of (by decide +kernel), (by decide +kernel), (by decide +kernel),
    (by decide +kernel)⟩,
   ⟨st [(Fld.CN_STATE_PSTATE 0, 2)], 0, ⟨false, false, false, false, 0, 0, []⟩, up_of (by decide +kernel),
     (by decide +kernel), (by decide +kernel)⟩,
   ⟨st [(Fld.CN_STATE_PSTATE 0, 2)], 0, up_of (by decide +kernel), (by decide +kernel), (by decide +kernel)⟩,
   ⟨(st [(Fld.CN_STATE_PSTATE 0, 2), (objEN 0 5, 1), (objDIR 0 5, 1), (objTXRQ 0 5, 1)]).modCan 0 (fun c =>
     { c with onBus := some (5, []) }), 0, 5, ⟨0, 250⟩, [], up_of (by decide +kernel), (by decide +kernel),
     (by decide +kernel), (by decide +kernel), (by decide +kernel), (by decide +kernel), (by decide +kernel),
     (by decide +kernel)⟩,
   ⟨st [(Fld.CN_STATE_PSTATE 1, 2), (Fld.CN_CFG_PXE 1, 1)], 1, none, true, false, up_of (by decide +kernel),
     (by decide +kernel), (by decide +kernel)⟩,
   ⟨st [(Fld.CN_STATE_PSTATE 0, 2)], 0, .crc, false, false, up_of (by decide +kernel), (by decide +kernel),
     (by decide +kernel)⟩,
   ⟨(st [(Fld.CN_STATE_PSTATE 0, 2), (objEN 0 5, 1), (objDIR 0 5, 1), (objTXRQ 0 5, 1)]).modCan 0 (fun c =>
     { c with onBus := some (5, []) }), 0, 5, .ack, true, false, [], up_of (by decide +kernel), (by decide +kernel),
     (by decide +kernel), (by decide +kernel)⟩,
   ⟨st [(Fld.CN_STATE_PSTATE 1, 5)], 1, up_of (by decide +kernel), (by decide +kernel)⟩,
   ⟨st [(Fld.CN_STATE_PSTATE 0, 4), (objEN 0 5, 1), (objDIR 0 5, 1), (objTXRQ 0 5, 1), (whole (objAddr 0 5 6), 2 ^ 30 + 3),
     (Fld.CN_STATE_PSTATE 1, 2), (objEN 1 3, 1), (objDIR 1 3, 1)], 0, 5, up_of (by decide +kernel), (by decide +kernel),
     (by decide +kernel), (by decide +kernel), (by decide +kernel)⟩,
   ⟨fl [(Fld.CN_STATE_PSTATE 0, 4), (objEN 0 5, 1), (objDIR 0 5, 1), (objTXRQ 0 5, 1), (whole (objAddr 0 5 6), 2 ^ 31),
     (whole (routeWord 0 0), 2 ^ 28)], 0, 5, up_of (by decide +kernel), (by decide +kernel), (by decide +kernel),
     (by decide +kernel)⟩,
   ⟨b0.modCan 0 (fun c => { c with stamps := [127] }), 0, 127, up_of (by decide +kernel), (by decide +kernel),
     (by decide +kernel)⟩,
   ⟨b0.modCan 0 (fun c => { c with stamps := [127] }), 0, 127, up_of (by decide +kernel), (by decide +kernel)⟩,
   ⟨st [(Fld.CN_REF_EN 1, 1), (Fld.ens (canPage 1), 1)], 1, up_of (by decide +kernel), (by decide +kernel),
     (by decide +kernel)⟩⟩

theorem witness_CanCommandsComplete :
    (∃ (s : State) (o : Origin) (x : Fin 2) (n : Fin 128) (v : Word), s.Accepts o (objAddr x.val n.val 3) (putBit v.toNat 31 true)) ∧
    (∃ (s : State) (o : Origin) (x : Fin 2) (n : Fin 128) (v : Word), s.Accepts o (objAddr x.val n.val 3) (putBit v.toNat 31 false)) ∧
    (∃ (s : State) (x o : Nat), s.on (objTXRQ x o) = true) ∧
    (∃ (s : State) (x o : Nat), s.on (objTXRQ x o) = false) ∧
    (∃ (s : State) (x o : Nat), s.on (objTXRQ x o) = true ∧ s.on (objTXBUSY x o) = true) ∧
    (∃ (s : State) (x o : Nat), s.on (objTXRQ x o) = true ∧ s.on (objTXBUSY x o) = false) ∧
    (∃ (s : State) (o : Origin) (x : Fin 2), s.Accepts o (Reg.CN_CMD x.val) 1 ∧ s.canPs x.val = 4) ∧
    (∃ (s : State) (o : Origin) (x : Fin 2), s.Accepts o (Reg.CN_CMD x.val) 1 ∧ s.canPs x.val ≠ 4) ∧
    (∃ (s : State) (o : Origin) (x : Fin 2) (n : Fin 128), s.Accepts o (Reg.CN_CMD x.val) (2 + 256 * n.val) ∧ s.on (objHOLD x.val
      n.val) = true) ∧
    (∃ (s : State) (o : Origin) (x : Fin 2) (n : Fin 128), s.Accepts o (Reg.CN_CMD x.val) (3 + 256 * n.val)) ∧
    (∃ (s : State) (o : Origin) (x : Fin 2), s.Accepts o (Reg.CN_CMD x.val) 4) :=
  ⟨⟨sv [], .host, 1, 127, 0, acc_of (by decide +kernel)⟩,
   ⟨sv [], .host, 1, 127, 0, acc_of (by decide +kernel)⟩,
   ⟨st [(objEN 0 5, 1), (objDIR 0 5, 1), (objTXRQ 0 5, 1)], 0, 5, (by decide +kernel)⟩,
   ⟨b0, 0, 5, (by decide +kernel)⟩,
   ⟨st [(objEN 0 5, 1), (objDIR 0 5, 1), (objTXRQ 0 5, 1), (objTXBUSY 0 5, 1)], 0, 5, (by decide +kernel), (by decide +kernel)⟩,
   ⟨st [(objEN 0 5, 1), (objDIR 0 5, 1), (objTXRQ 0 5, 1)], 0, 5, (by decide +kernel), (by decide +kernel)⟩,
   ⟨sv [(Fld.CN_STATE_PSTATE 1, 4)], .host, 1, acc_of (by decide +kernel), (by decide +kernel)⟩,
   ⟨sv [], .host, 1, acc_of (by decide +kernel), (by decide +kernel)⟩,
   ⟨sv [(objHOLD 1 127, 1)], .host, 1, 127, acc_of (by decide +kernel), (by decide +kernel)⟩,
   ⟨sv [], .host, 1, 127, acc_of (by decide +kernel)⟩,
   ⟨sv [], .host, 0, acc_of (by decide +kernel)⟩⟩

theorem witness_OwnershipComplete :
    (∃ s : State, s.Up 2 ∧ s.ens Pg.TWN = true ∧ s.tstate = 4) ∧
    (∃ s : State, s.Up 2 ∧ (s.ens Pg.TWN = false ∨ s.tstate ≠ 4)) ∧
    (∃ s : State, s.Up 2 ∧ s.twn.armed = true ∧ s.tstate = 4 ∧ s.on Fld.TWN_STATE_OWNIN = false ∧ (s.on Fld.TWN_STATE_ELIG =
      true ∨ s.svc.state = .running)) ∧
    (∃ s : State, s.Up 2 ∧ s.ens Pg.TWN = true ∧ (s.tstate = 6 ∨ s.tstate = 2) ∧ s.on Fld.TWN_STATE_OWNIN = false ∧
      s.twn.lowAt + (if s.on Fld.TWN_CFG_HOME then 100000000 else 400000000) ≤ s.nowNat ∧ s.svc.state ≠ .recovery ∧
      s.svc.state ≠ .transport) ∧
    (∃ s : State, s.Up 2 ∧ s.ens Pg.TWN = true ∧ s.on Fld.TWN_STATE_OWNOUT = true ∧ s.on Fld.TWN_CFG_HOME = false) ∧
    (∃ s : State, s.Up 2 ∧ s.ens Pg.TWN = true ∧ s.on Fld.TWN_STATE_OWNOUT = true ∧ s.on Fld.TWN_CFG_HOME = true) ∧
    (∃ s : State, s.Up 9 ∧ s.mayHandOver = true) ∧
    (∃ (s : State) (o : Origin), s.Accepts o Reg.TWN_CMD 1 ∧ s.mayHandOver = true) ∧
    (∃ (s : State) (o : Origin), s.Accepts o Reg.TWN_CMD 1 ∧ s.mayHandOver = false) ∧
    (∃ (s : State) (h : Instant), s.Up 9 ∧ s.ens Pg.TWN = true ∧ s.tstate = 4) ∧
    (∃ (s : State) (h : Nat) (a : Bool), s.Up 2 ∧ s.twn.handover = some (h, true, a)) ∧
    (∃ (s : State) (h : Nat) (a : Bool), s.Up 2 ∧ s.twn.handover = some (h, true, a) ∧ a = false) ∧
    (∃ (s : State) (h : Nat) (a b : Bool), s.Up 2 ∧ s.twn.handover = some (h, false, a)) ∧
    (∃ s : State, s.Up 2 ∧ s.ens Pg.TWN = true ∧ s.on Fld.TWN_CFG_REVERT = true ∧ s.on Fld.TWN_CFG_HOME = true ∧ s.tstate = 4
      ∧ s.on Fld.TWN_STATE_ELIG = true ∧ 60 ≤ s.rd Reg.TWN_HOTIME) :=
  ⟨⟨st [(Fld.ens Pg.TWN, 1), (Fld.TWN_STATE_TSTATE, 4)], up_of (by decide +kernel), (by decide +kernel),
    (by decide +kernel)⟩,
   ⟨b0, up_of (by decide +kernel), (by decide +kernel)⟩,
   ⟨(st [(Fld.TWN_STATE_TSTATE, 4), (Fld.TWN_STATE_ELIG, 1)]).modTwn (fun t => { t with armed := true }), up_of
     (by decide +kernel), (by decide +kernel), (by decide +kernel), (by decide +kernel), (by decide +kernel)⟩,
   ⟨{ st [(Fld.ens Pg.TWN, 1), (Fld.TWN_STATE_TSTATE, 6), (Fld.TWN_CFG_HOME, 0)] with tim :=
     { b0.tim with mono := 400000000 * nsUnit } }, up_of (by decide +kernel), (by decide +kernel), (by decide +kernel),
     (by decide +kernel), (by decide +kernel), (by decide +kernel), (by decide +kernel)⟩,
   ⟨st [(Fld.ens Pg.TWN, 1), (Fld.TWN_STATE_OWNOUT, 1), (Fld.TWN_CFG_HOME, 0)], up_of (by decide +kernel),
     (by decide +kernel), (by decide +kernel), (by decide +kernel)⟩,
   ⟨st [(Fld.ens Pg.TWN, 1), (Fld.TWN_STATE_OWNOUT, 1), (Fld.TWN_CFG_HOME, 1)], up_of (by decide +kernel),
     (by decide +kernel), (by decide +kernel), (by decide +kernel)⟩,
   ⟨st [(Fld.ens Pg.TWN, 1), (Fld.TWN_STATE_TSTATE, 3), (Fld.TWN_STATE_PELIG, 1)], up_of (by decide +kernel),
     (by decide +kernel)⟩,
   ⟨sv [(Fld.ens Pg.TWN, 1), (Fld.TWN_STATE_TSTATE, 3), (Fld.TWN_STATE_PELIG, 1)], .host, acc_of (by decide +kernel),
     (by decide +kernel)⟩,
   ⟨sv [], .host, acc_of (by decide +kernel), (by decide +kernel)⟩,
   ⟨st [(Fld.ens Pg.TWN, 1), (Fld.TWN_STATE_TSTATE, 4)], 0, up_of (by decide +kernel), (by decide +kernel),
     (by decide +kernel)⟩,
   ⟨b0.modTwn (fun t => { t with handover := some (5, true, false) }), 5, false, up_of (by decide +kernel),
     (by decide +kernel)⟩,
   ⟨b0.modTwn (fun t => { t with handover := some (5, true, false) }), 5, false, up_of (by decide +kernel),
     (by decide +kernel), (by decide +kernel)⟩,
   ⟨b0.modTwn (fun t => { t with handover := some (5, false, true) }), 5, true, false, up_of (by decide +kernel),
     (by decide +kernel)⟩,
   ⟨st [(Fld.ens Pg.TWN, 1), (Fld.TWN_STATE_TSTATE, 4), (Fld.TWN_CFG_REVERT, 1), (Fld.TWN_CFG_HOME, 1), (Fld.TWN_STATE_ELIG,
     1), (whole Reg.TWN_HOTIME, 60)], up_of (by decide +kernel), (by decide +kernel), (by decide +kernel),
     (by decide +kernel), (by decide +kernel), (by decide +kernel), (by decide +kernel)⟩⟩

theorem witness_TwinFramesComplete :
    (∃ s : State, s.Up 9 ∧ s.ens Pg.TWN = true) ∧
    (∃ (s : State) (m : TollMsg), s.Up 9 ∧ s.ens Pg.TWN = true) ∧
    (∃ s : State, s.Up 2 ∧ s.ens Pg.TWN = true ∧ s.get Fld.TWN_STATE_PSTATE = 1) ∧
    (∃ (s : State) (m : SampleMsg), s.Up 9 ∧ s.ens Pg.TWN = true ∧ s.on Fld.TWN_STATE_OWNOUT = false ∧ m.instant.toNat = s.lpe.sampleAt
      ∧ s.lpe.sampleOpen = false) ∧
    (∃ (s : State) (a : Addr) (v : Word), s.Up 9 ∧ s.ens Pg.TWN = true ∧ s.laneState 4 = 3 ∧ s.Accepts .twin a.toNat v.toNat) ∧
    (∃ (s : State) (a : Addr) (v : Word), s.Up 9 ∧ s.ens Pg.TWN = true ∧ s.laneState 4 = 3 ∧ s.writeVerdict .twin a.toNat v.toNat = 0xA) ∧
    (∃ s : State, s.Up 2 ∧ s.ens Pg.TWN = true ∧ s.rd Reg.TWN_CFGCRC ≠ s.rd Reg.TWN_PCFGCRC) ∧
    (∃ (s : State) (cells : List (Fin 3072 × List Word)), s.Up 9 ∧ s.ens Pg.TWN = true ∧ s.on Fld.TWN_STATE_OWNOUT = false) ∧
    (∃ s : State, s.Up 9 ∧ s.ens Pg.TWN = true ∧ s.on Fld.TWN_STATE_OWNOUT = true) ∧
    (∃ (s : State) (r : Fin 4) (f : RingFrame), s.Up 9 ∧ s.ens Pg.TWN = true ∧ s.on Fld.TWN_CFG_RINGSPLIT = true ∧ s.on
      Fld.TWN_STATE_OWNOUT = true ∧ s.ens (Pg.SR r.val) = true) ∧
    (∃ (s : State) (recs : List (List Byte)), s.Up 9 ∧ s.ens Pg.TWN = true) :=
  ⟨⟨st [(Fld.ens Pg.TWN, 1)], up_of (by decide +kernel), (by decide +kernel)⟩,
   ⟨st [(Fld.ens Pg.TWN, 1)], ⟨0, false, 0, 0, 0, 0, 0, 0, 0, 0⟩, up_of (by decide +kernel), (by decide +kernel)⟩,
   ⟨st [(Fld.ens Pg.TWN, 1), (Fld.TWN_STATE_PSTATE, 1)], up_of (by decide +kernel), (by decide +kernel), (by decide +kernel)⟩,
   ⟨st [(Fld.ens Pg.TWN, 1)], ⟨0, 0, [], 0, 0, []⟩, up_of (by decide +kernel), (by decide +kernel), (by decide +kernel),
     (by decide +kernel), (by decide +kernel)⟩,
   ⟨st [(Fld.ens Pg.TWN, 1), (Fld.FP_STATE_STATE 4, 3)], BitVec.ofNat 32 Reg.BAL_CFG, 5, up_of (by decide +kernel),
     (by decide +kernel), (by decide +kernel), acc_of (by decide +kernel)⟩,
   ⟨({ st [(Fld.ens Pg.TWN, 1), (Fld.FP_STATE_STATE 4, 3)] with acc := { b0.acc with locksRestored := false } }), BitVec.ofNat 32
     Reg.BAL_CFG, 5, up_of (by decide +kernel), (by decide +kernel), (by decide +kernel), (by decide +kernel)⟩,
   ⟨st [(Fld.ens Pg.TWN, 1), (whole Reg.TWN_CFGCRC, 1)], up_of (by decide +kernel), (by decide +kernel), (by decide +kernel)⟩,
   ⟨st [(Fld.ens Pg.TWN, 1)], [], up_of (by decide +kernel), (by decide +kernel), (by decide +kernel)⟩,
   ⟨st [(Fld.ens Pg.TWN, 1), (Fld.TWN_STATE_OWNOUT, 1)], up_of (by decide +kernel), (by decide +kernel), (by decide +kernel)⟩,
   ⟨st [(Fld.ens Pg.TWN, 1), (Fld.TWN_CFG_RINGSPLIT, 1), (Fld.TWN_STATE_OWNOUT, 1), (Fld.ens Pg.SRA, 1)], 0, f0, up_of
     (by decide +kernel), (by decide +kernel), (by decide +kernel), (by decide +kernel), (by decide +kernel)⟩,
   ⟨st [(Fld.ens Pg.TWN, 1)], [], up_of (by decide +kernel), (by decide +kernel)⟩⟩

theorem witness_PartnerComplete :
    (∃ s : State, s.Up 2 ∧ s.ens Pg.TWN = true) ∧
    (∃ (s : State) (ok : Bool), s.Up 2 ∧ s.twn.testing = true) ∧
    (∃ (s : State) (o : Origin), s.Accepts o Reg.TWN_CMD 2 ∧ s.ens Pg.TWN = true) ∧
    (∃ (s : State) (o : Origin), s.Accepts o Reg.TWN_CMD 3 ∧ s.mayReset = true) ∧
    (∃ (s : State) (o : Origin), s.Accepts o Reg.TWN_CMD 3 ∧ s.mayReset = false) ∧
    (∃ s : State, s.Up 2 ∧ s.mayReset = true ∧ s.get Fld.TWN_STATE_PSTATE = 2 ∧ s.on Fld.TWN_STATE_OWNIN = true) ∧
    (∃ s : State, s.twn.resetOut = true) ∧
    (∃ (s : State) (o : Origin), s.Accepts o Reg.TWN_CMD 4 ∧ s.ens Pg.TWN = true ∧ s.on Fld.TWN_CFG_PWREN = true ∧ s.on
      Fld.TWN_STATE_OWNIN = false) ∧
    (∃ s : State, s.Up 2 ∧ s.ens Pg.TWN = true ∧ s.on Fld.TWN_CFG_PWREN = true ∧ s.get Fld.TWN_STATE_PSTATE = 2 ∧ s.twn.resets ≠ [] ∧
      s.twn.powerOut = true) ∧
    (∃ s : State, s.Up 2 ∧ s.twn.powerOut = false ∧ s.get Fld.TWN_STATE_PSTATE ≠ 3) ∧
    (∃ (s : State) (o : Origin), s.Accepts o Reg.TWN_CMD 5 ∧ s.ens Pg.TWN = true ∧ s.on Fld.TWN_STATE_OWNIN = false) ∧
    (∃ (s : State) (o : Origin), s.Accepts o Reg.TWN_CMD 6 ∧ s.ens Pg.TWN = true) ∧
    (∃ (s : State) (o : Origin), s.Accepts o Reg.TWN_CMD 7) :=
  ⟨⟨st [(Fld.ens Pg.TWN, 1)], up_of (by decide +kernel), (by decide +kernel)⟩,
   ⟨b0.modTwn (fun t => { t with testing := true }), true, up_of (by decide +kernel), (by decide +kernel)⟩,
   ⟨sv [(Fld.ens Pg.TWN, 1)], .host, acc_of (by decide +kernel), (by decide +kernel)⟩,
   ⟨sv [(Fld.ens Pg.TWN, 1), (Fld.TWN_CFG_RSTEN, 1), (Fld.TWN_PWR_MAXRST, 1), (Fld.TWN_STATE_PSTATE, 2), (Fld.TWN_STATE_OWNIN, 1),
     (whole Reg.TWN_HEALTH, 1024),
     (Fld.ADC_STAT_STATE, 3), (Fld.ADC_STAT_REFOK, 1), (Fld.LPE_STAT_STATE, 1), (Fld.ens Pg.PWM, 1), (Fld.SFI_STAT_STATE, 4),
     (Fld.PWM_CFG_PHEN, 0)], .host, acc_of (by decide +kernel), (by decide +kernel)⟩,
   ⟨sv [], .host, acc_of (by decide +kernel), (by decide +kernel)⟩,
   ⟨st [(Fld.ens Pg.TWN, 1), (Fld.TWN_CFG_RSTEN, 1), (Fld.TWN_PWR_MAXRST, 1), (Fld.TWN_STATE_PSTATE, 2), (Fld.TWN_STATE_OWNIN, 1),
     (whole Reg.TWN_HEALTH, 1024),
     (Fld.ADC_STAT_STATE, 3), (Fld.ADC_STAT_REFOK, 1), (Fld.LPE_STAT_STATE, 1), (Fld.ens Pg.PWM, 1), (Fld.SFI_STAT_STATE, 4),
     (Fld.PWM_CFG_PHEN, 0)], up_of (by decide +kernel), (by decide +kernel), (by decide +kernel), (by decide +kernel)⟩,
   ⟨b0.modTwn (fun t => { t with resetOut := true }), (by decide +kernel)⟩,
   ⟨sv [(Fld.ens Pg.TWN, 1), (Fld.TWN_CFG_PWREN, 1)], .host, acc_of (by decide +kernel), (by decide +kernel), (by decide +kernel),
     (by decide +kernel)⟩,
   ⟨(st [(Fld.ens Pg.TWN, 1), (Fld.TWN_CFG_PWREN, 1), (Fld.TWN_STATE_PSTATE, 2)]).modTwn
     (fun t => { t with resets := [0], powerOut := true }), up_of (by decide +kernel), (by decide +kernel), (by decide +kernel),
     (by decide +kernel), (by decide +kernel), (by decide +kernel)⟩,
   ⟨b0.modTwn (fun t => { t with powerOut := false }), up_of (by decide +kernel), (by decide +kernel), (by decide +kernel)⟩,
   ⟨sv [(Fld.ens Pg.TWN, 1)], .host, acc_of (by decide +kernel), (by decide +kernel), (by decide +kernel)⟩,
   ⟨sv [(Fld.ens Pg.TWN, 1)], .host, acc_of (by decide +kernel), (by decide +kernel)⟩,
   ⟨sv [], .host, acc_of (by decide +kernel)⟩⟩

theorem witness_RecorderComplete :
    (∃ (s : State) (r : RawRec) (rest : List RawRec), s.Up 2 ∧ s.evr.arriving = r :: rest) ∧
    (∃ (s : State) (r : RawRec), (keptAlways r.type = true ∨ s.get Fld.EVR_CFG_MINSEV ≤ r.sev)) ∧
    (∃ (s : State) (r : RawRec), keptAlways r.type = false ∧ r.sev < s.get Fld.EVR_CFG_MINSEV) ∧
    (∃ (s : State) (m : MediaResult) (c : Rec) (rest : List Rec), s.Up 2 ∧ s.evr.intake = c :: rest ∧ s.on Fld.EVR_STAT_FROZEN = true) ∧
    (∃ (s : State) (m : MediaResult) (c : Rec) (rest : List Rec), s.Up 2 ∧ s.evr.intake = c :: rest ∧ s.on Fld.EVR_STAT_FROZEN = false
      ∧ s.evr.releasing = false ∧ s.on Fld.EVR_STAT_MEDIAFLT = true) ∧
    (∃ (s : State) (m : MediaResult) (c : Rec) (rest : List Rec), s.Up 2 ∧ s.evr.intake = c :: rest ∧ s.on Fld.EVR_STAT_FROZEN = false
      ∧ s.evr.releasing = false ∧ s.on Fld.EVR_STAT_MEDIAFLT = false ∧ s.hugood = false) ∧
    (∃ (s : State) (m : MediaResult) (c : Rec) (rest : List Rec), s.Up 2 ∧ s.evr.intake = c :: rest ∧ s.on Fld.EVR_STAT_FROZEN = false
      ∧ s.evr.releasing = false ∧ s.on Fld.EVR_STAT_MEDIAFLT = false ∧ s.hugood = true ∧ m = .good ∧ c.sev = 7) ∧
    (∃ (s : State) (m : MediaResult) (c : Rec) (rest : List Rec), s.Up 2 ∧ s.evr.intake = c :: rest ∧ s.on Fld.EVR_STAT_FROZEN = false
      ∧ s.evr.releasing = false ∧ s.on Fld.EVR_STAT_MEDIAFLT = false ∧ s.hugood = true ∧ m = .good ∧ c.sev ≠ 7) ∧
    (∃ (s : State) (m : MediaResult) (c : Rec) (rest : List Rec), s.Up 2 ∧ s.evr.intake = c :: rest ∧ s.on Fld.EVR_STAT_FROZEN = false
      ∧ s.evr.releasing = false ∧ s.on Fld.EVR_STAT_MEDIAFLT = false ∧ s.hugood = true ∧ m ≠ .good) ∧
    (∃ (s : State) (m : MediaResult) (c : Rec) (rest : List Rec), s.Up 2 ∧ s.on Fld.EVR_STAT_FROZEN = false ∧ s.evr.releasing = true ∧
      s.evr.holding = c :: rest) ∧
    (∃ (s : State) (o : Origin), s.Accepts o Reg.EVR_CMD 1 ∧ s.on Fld.EVR_STAT_FROZEN = false) ∧
    (∃ (s : State) (o : Origin), s.Accepts o Reg.EVR_CMD 2 ∧ s.on Fld.EVR_STAT_FROZEN = true) ∧
    (∃ s : State, s.Up 2 ∧ s.on Fld.EVR_STAT_FROZEN = true) ∧
    (∃ (s : State) (o : Origin), s.on Fld.EVR_STAT_FROZEN = true) ∧
    (∃ (s : State) (o : Origin), s.Accepts o Reg.EVR_CMD 3 ∧ s.clearBusy = true) ∧
    (∃ (s : State) (o : Origin), s.Accepts o Reg.EVR_CMD 3 ∧ s.clearBusy = false) ∧
    (∃ (s : State) (o : Origin), s.Accepts o Reg.EVR_CMD 4 ∧ s.clearBusy = true) ∧
    (∃ (s : State) (o : Origin), s.Accepts o Reg.EVR_CMD 4 ∧ s.clearBusy = false) ∧
    (∃ (s : State) (o : Origin), s.on Fld.EVR_STAT_MEDIAFLT = true ∧ s.Accepts o Reg.EVR_CMD 5) ∧
    (∃ (s : State) (o : Origin), s.on Fld.EVR_STAT_MEDIAFLT = true ∧ s.Up 2) ∧
    (∃ (s : State) (o : Origin), s.Accepts o Reg.EVR_CMD 5) :=
  ⟨⟨{ st [] with evr := { b0.evr with arriving := [⟨2, 2, 0, 1, [], none⟩] } }, ⟨2, 2, 0, 1, [], none⟩, [], up_of (by decide +kernel),
     (by decide +kernel)⟩,
   ⟨b0, ⟨2, 2, 0, 1, [], none⟩, (by decide +kernel)⟩,
   ⟨st [(Fld.EVR_CFG_MINSEV, 3)], ⟨2, 1, 0, 1, [], none⟩, (by decide +kernel), (by decide +kernel)⟩,
   ⟨{ st [(Fld.EVR_STAT_FROZEN, 1)] with evr := { b0.evr with intake := [⟨2, 2, 0, 1, 0, 0, 0, 0, none, [], false, false, false⟩] } },
     .good, ⟨2, 2, 0, 1, 0, 0, 0, 0, none, [], false, false, false⟩, [], up_of (by decide +kernel), (by decide +kernel),
     (by decide +kernel)⟩,
   ⟨{ st [(Fld.EVR_STAT_MEDIAFLT, 1)] with evr := { b0.evr with intake := [⟨2, 2, 0, 1, 0, 0, 0, 0, none, [], false, false, false⟩] } },
     .good, ⟨2, 2, 0, 1, 0, 0, 0, 0, none, [], false, false, false⟩, [], up_of (by decide +kernel), (by decide +kernel),
     (by decide +kernel), (by decide +kernel), (by decide +kernel)⟩,
   ⟨{ st [(Fld.PWR_STAT_HUGOOD, 0)] with evr := { b0.evr with intake := [⟨2, 2, 0, 1, 0, 0, 0, 0, none, [], false, false, false⟩] } },
     .good, ⟨2, 2, 0, 1, 0, 0, 0, 0, none, [], false, false, false⟩, [], up_of (by decide +kernel), (by decide +kernel),
     (by decide +kernel), (by decide +kernel), (by decide +kernel), (by decide +kernel)⟩,
   ⟨{ st [(Fld.PWR_STAT_HUGOOD, 1)] with evr := { b0.evr with intake := [⟨7, 2, 0, 1, 0, 0, 0, 0, none, [], false, false, false⟩] } },
     .good, ⟨7, 2, 0, 1, 0, 0, 0, 0, none, [], false, false, false⟩, [], up_of (by decide +kernel), (by decide +kernel),
     (by decide +kernel), (by decide +kernel), (by decide +kernel), (by decide +kernel), (by decide +kernel), (by decide +kernel)⟩,
   ⟨{ st [(Fld.PWR_STAT_HUGOOD, 1)] with evr := { b0.evr with intake := [⟨2, 2, 0, 1, 0, 0, 0, 0, none, [], false, false, false⟩] } },
     .good, ⟨2, 2, 0, 1, 0, 0, 0, 0, none, [], false, false, false⟩, [], up_of (by decide +kernel), (by decide +kernel),
     (by decide +kernel), (by decide +kernel), (by decide +kernel), (by decide +kernel), (by decide +kernel), (by decide +kernel)⟩,
   ⟨{ st [(Fld.PWR_STAT_HUGOOD, 1)] with evr := { b0.evr with intake := [⟨2, 2, 0, 1, 0, 0, 0, 0, none, [], false, false, false⟩] } },
     .slow, ⟨2, 2, 0, 1, 0, 0, 0, 0, none, [], false, false, false⟩, [], up_of (by decide +kernel), (by decide +kernel),
     (by decide +kernel), (by decide +kernel), (by decide +kernel), (by decide +kernel), (by decide +kernel)⟩,
   ⟨{ st [] with evr := { b0.evr with releasing := true, holding := [⟨2, 2, 0, 1, 0, 0, 0, 0, none, [], false, false, false⟩] } },
     .good, ⟨2, 2, 0, 1, 0, 0, 0, 0, none, [], false, false, false⟩, [], up_of (by decide +kernel), (by decide +kernel),
     (by decide +kernel), (by decide +kernel)⟩,
   ⟨sv [], .host, acc_of (by decide +kernel), (by decide +kernel)⟩,
   ⟨sv [(Fld.EVR_STAT_FROZEN, 1)], .host, acc_of (by decide +kernel), (by decide +kernel)⟩,
   ⟨st [(Fld.EVR_STAT_FROZEN, 1)], up_of (by decide +kernel), (by decide +kernel)⟩,
   ⟨st [(Fld.EVR_STAT_FROZEN, 1)], .host, (by decide +kernel)⟩,
   ⟨sv [(Fld.EVR_STAT_FROZEN, 1)], .host, acc_of (by decide +kernel), (by decide +kernel)⟩,
   ⟨sv [], .host, acc_of (by decide +kernel), (by decide +kernel)⟩,
   ⟨sv [(Fld.EVR_STAT_MEDIAFLT, 1)], .host, acc_of (by decide +kernel), (by decide +kernel)⟩,
   ⟨sv [], .host, acc_of (by decide +kernel), (by decide +kernel)⟩,
   ⟨sv [(Fld.EVR_STAT_MEDIAFLT, 1)], .host, (by decide +kernel), acc_of (by decide +kernel)⟩,
   ⟨sv [(Fld.EVR_STAT_MEDIAFLT, 1)], .host, (by decide +kernel), up_of (by decide +kernel)⟩,
   ⟨sv [], .host, acc_of (by decide +kernel)⟩⟩

theorem witness_LogServicesComplete :
    (∃ (s : State) (q : Req), s.Served q 0x200 0) ∧
    (∃ (s : State) (q : Req) (area minsev : Byte) (seq pcc : Word), s.Served q 0x201 0 ∧ ∃ l, s.flushArriving.areaRecs area.toNat =
      some l) ∧
    (∃ (s : State) (q : Req) (area minsev : Byte) (seq pcc : Word), s.Served q 0x201 0 ∧ 5 < area.toNat) ∧
    (∃ (s : State) (q : Req), s.Served q 0x202 1) ∧
    (∃ (s : State) (q : Req), s.Served q 0x203 1) ∧
    (∃ (s : State) (q : Req) (area : Byte), area.toNat ≤ 1 ∧ s.Served q 0x204 (if area = 1 then 3 else 1) ∧ s.clearBusy = true) ∧
    (∃ (s : State) (q : Req) (area : Byte), area.toNat ≤ 1 ∧ s.Served q 0x204 (if area = 1 then 3 else 1) ∧ s.clearBusy = false) ∧
    (∃ (s : State) (q : Req) (text : List Byte), s.Served q 0x205 0 ∧ text ≠ [] ∧ text.length ≤ 64) ∧
    (∃ (s : State) (q : Req) (text : List Byte), s.Served q 0x205 0 ∧ (text = [] ∨ 64 < text.length)) :=
  ⟨⟨b0, hq, served_host (by decide +kernel)⟩,
   ⟨b0, hq, 5, 0, 0, 0, served_host (by decide +kernel), [], (by decide +kernel)⟩,
   ⟨b0, hq, 6, 0, 0, 0, served_host (by decide +kernel), (by decide +kernel)⟩,
   ⟨sv [], hq, served_host (by decide +kernel)⟩,
   ⟨sv [], hq, served_host (by decide +kernel)⟩,
   ⟨sv [(Fld.EVR_STAT_FROZEN, 1)], hq, 1, (by decide +kernel), served_host (by decide +kernel), (by decide +kernel)⟩,
   ⟨sv [], hq, 1, (by decide +kernel), served_host (by decide +kernel), (by decide +kernel)⟩,
   ⟨b0, hq, List.replicate 64 0, served_host (by decide +kernel), (by decide +kernel), (by decide +kernel)⟩,
   ⟨b0, hq, List.replicate 65 0, served_host (by decide +kernel), (by decide +kernel)⟩⟩

theorem witness_ResetsComplete :
    (∃ (s : State) (src : Fin 16), s.svc.state ≠ .transport ∧ allowedLevels src.val ≠ [] ∧ (src = 8 → s.twn.resetOut = false)) ∧
    (∃ (s : State) (src : Fin 16), bitOf s.clk.asserted src.val = true ∧ (src = 10 → s.clk.dieLatch = false)) ∧
    (∃ (s : State) (n d : Nat) (rest : List Nat), s.clk.held = d :: rest ∧ (s.reached d = true ∨ (∃ k, domainPll d = some k ∧
      s.pllLocked k = false))) ∧
    (∃ (s : State) (n d : Nat) (rest : List Nat), s.clk.held = d :: rest ∧ s.reached d = false ∧ (∀ k, domainPll d = some k →
      s.pllLocked k = true)) ∧
    (∃ (s : State) (k : Fin 5), s.pllLocked k.val = false ∧ s.reached (if k = 0 then 10 else 2) = false) ∧
    (∃ s : State, s.clk.startPending = true ∧ s.domUp 10 = true) ∧
    (∃ (s : State) (o : Origin) (v : Word), s.Accepts o Reg.RST_SWRST v.toNat) ∧
    (∃ (s : State) (o : Origin) (v : Word), s.Accepts o Reg.RST_BOOTOK v.toNat ∧ v.toNat % 2 = 1 ∧ s.clk.startPending = true ∧ s.domUp
      10 = true) ∧
    (∃ s : State, s.clk.held.contains 10 = false ∧ s.on Fld.DBG_SESSION_HALTED = false) ∧
    (∃ s : State, s.clk.held.contains 10 = false ∧ s.on Fld.DBG_SESSION_HALTED = false ∧ s.clk.startPending = true) ∧
    (∃ (s : State) (o : Origin), s.Accepts o Reg.RST_CMD 1 ∧ s.svc.state = .recovery) ∧
    (∃ (s : State) (o : Origin), s.Accepts o Reg.RST_CMD 1 ∧ s.svc.state ≠ .recovery) ∧
    (∃ (s : State) (o : Origin), s.Accepts o Reg.RST_CMD 2 ∧ s.svc.state = .recovery ∧ s.on Fld.RST_FUSECFG_BURNT = false ∧ s.fusesOk =
      true) ∧
    (∃ (s : State) (o : Origin), s.Accepts o Reg.RST_CMD 2 ∧ (s.svc.state ≠ .recovery ∨ s.on Fld.RST_FUSECFG_BURNT = true ∨ s.fusesOk =
      false)) ∧
    (∃ (s : State) (o : Origin), s.Accepts o Reg.RST_CMD 3) :=
  ⟨⟨b0, 8, (by decide +kernel), (by decide +kernel), (by decide +kernel)⟩,
   ⟨b0.modClk (fun c => { c with asserted := 64 }), 6, (by decide +kernel), (by decide +kernel)⟩,
   ⟨(st [(Fld.CLK_STAT_PLLLOCK, 0)]).modClk (fun c => { c with held := [2] }), 0, 2, [], (by decide +kernel), (by decide +kernel)⟩,
   ⟨(st [(Fld.CLK_STAT_PLLLOCK, 31)]).modClk (fun c => { c with held := [2, 5] }), 0, 2, [5], (by decide +kernel),
     (by decide +kernel), (by decide +kernel)⟩,
   ⟨st [(Fld.CLK_STAT_PLLLOCK, 0)], 0, (by decide +kernel), (by decide +kernel)⟩,
   ⟨b0, (by decide +kernel), (by decide +kernel)⟩,
   ⟨sv [], .firmware, 0x5A3C0003, acc_of (by decide +kernel)⟩,
   ⟨sv [], .firmware, 1, acc_of (by decide +kernel), (by decide +kernel), (by decide +kernel), (by decide +kernel)⟩,
   ⟨b0, (by decide +kernel), (by decide +kernel)⟩,
   ⟨b0, (by decide +kernel), (by decide +kernel), (by decide +kernel)⟩,
   ⟨(sv []).setSvc .recovery, .host, acc_of (by decide +kernel), (by decide +kernel)⟩,
   ⟨sv [], .host, acc_of (by decide +kernel), (by decide +kernel)⟩,
   ⟨(sv [(whole Reg.RST_FUSEPRG, 0x1C10500), (whole Reg.RST_BOOTPRG, 2)]).setSvc .recovery, .host, acc_of (by decide +kernel),
     (by decide +kernel), (by decide +kernel), (by decide +kernel)⟩,
   ⟨sv [], .host, acc_of (by decide +kernel), (by decide +kernel)⟩,
   ⟨sv [], .host, acc_of (by decide +kernel)⟩⟩

theorem witness_ClocksAndSuppliesComplete :
    (∃ s : State, s.on refOk = true) ∧
    (∃ (s : State) (k : Fin 5), s.pllLocked k.val = true) ∧
    (∃ (s : State) (ppm : BitVec 16), 1000 < (toSigned 16 ppm.toNat).natAbs) ∧
    (∃ (s : State) (ppm : BitVec 16),
       (let t := s.wr Reg.CLK_REFPPM ppm.toNat; (toSigned 16 ppm.toNat).natAbs ≤ 1000 ∧ t.on refOk = true)) ∧
    (∃ (s : State) (ppm : BitVec 16),
       (let t := s.wr Reg.CLK_REFPPM ppm.toNat; (toSigned 16 ppm.toNat).natAbs ≤ 1000 ∧ t.on refOk = false)) ∧
    (∃ (s : State) (vmain : BitVec 16) (low : Bool),
       (let a := (s.put Fld.PWR_VMAIN_VMAIN vmain.toNat).setOn Fld.PWR_STAT_PFAIL low; a.on Fld.PWR_STAT_WARN = false ∧ (low = true ∨
             vmain.toNat < a.get Fld.PWR_BO_WARN))) ∧
    (∃ (s : State) (vmain : BitVec 16),
       (let a := (s.put Fld.PWR_VMAIN_VMAIN vmain.toNat).setOn Fld.PWR_STAT_PFAIL false; a.on Fld.PWR_STAT_WARN = true ∧ a.get
             Fld.PWR_BO_WARN < vmain.toNat)) ∧
    (∃ s : State, s.hugood = true) ∧
    (∃ s : State, s.hugood = false) ∧
    (∃ (s : State) (vio : BitVec 16),
       (let a := s.put Fld.PWR_VMAIN_VIO vio.toNat; a.on Fld.PWR_STAT_VIOLOW = false ∧ vio.toNat < 2950)) ∧
    (∃ (s : State) (vio : BitVec 16),
       (let a := s.put Fld.PWR_VMAIN_VIO vio.toNat; a.on Fld.PWR_STAT_VIOLOW = true ∧ 3135 ≤ vio.toNat ∧ vio.toNat ≤ 3465)) ∧
    (∃ (s : State) (n : Nat) (bad : Word), bad = 0) ∧
    (∃ (s : State) (n : Nat) (bad : Word), bad ≠ 0) ∧
    (∃ (s : State) (t : BitVec 16) (die : BitVec 3),
       (let a := s.wr Reg.PWR_DIE (t.toNat + die.toNat * 65536);
        (let w : Int := a.get Fld.PWR_THERM_WARN; a.on Fld.PWR_STAT_DIEWARN = false ∧ w < t.toInt))) ∧
    (∃ (s : State) (t : BitVec 16) (die : BitVec 3),
       (let a := s.wr Reg.PWR_DIE (t.toNat + die.toNat * 65536);
        (let w : Int := a.get Fld.PWR_THERM_WARN; a.on Fld.PWR_STAT_DIEWARN = true ∧ t.toInt ≤ w - 50))) ∧
    (∃ (s : State) (t : BitVec 16) (die : BitVec 3),
       (let a := s.wr Reg.PWR_DIE (t.toNat + die.toNat * 65536);
        (let w : Int := a.get Fld.PWR_THERM_WARN; a.on Fld.PWR_STAT_DIEWARN = false ∧ t.toInt ≤ w))) ∧
    (∃ (s : State) (t : BitVec 16) (die : BitVec 3),
       (let a := s.wr Reg.PWR_DIE (t.toNat + die.toNat * 65536);
        (let w : Int := a.get Fld.PWR_THERM_WARN; a.on Fld.PWR_STAT_DIEWARN = true ∧ w - 50 < t.toInt))) ∧
    (∃ s : State, s.svc.state ≠ .transport ∧ s.clk.dieLatch = false) ∧
    (∃ s : State, s.clk.transportDue = true) ∧
    (∃ s : State, s.svc.state = .transport) :=
  ⟨⟨b0, (by decide +kernel)⟩,
   ⟨st [(Fld.CLK_STAT_PLLLOCK, 31)], 4, (by decide +kernel)⟩,
   ⟨b0, 1001, (by decide +kernel)⟩,
   ⟨b0, 1000, (by decide +kernel), (by decide +kernel)⟩,
   ⟨st [(refOk, 0)], 0, (by decide +kernel), (by decide +kernel)⟩,
   ⟨b0, 0, true, (by decide +kernel), (by decide +kernel)⟩,
   ⟨st [(Fld.PWR_STAT_WARN, 1)], 6000, (by decide +kernel), (by decide +kernel)⟩,
   ⟨st [(Fld.PWR_STAT_HUGOOD, 1)], (by decide +kernel)⟩,
   ⟨st [(Fld.PWR_STAT_HUGOOD, 0)], (by decide +kernel)⟩,
   ⟨b0, 2949, (by decide +kernel), (by decide +kernel)⟩,
   ⟨st [(Fld.PWR_STAT_VIOLOW, 1)], 3135, (by decide +kernel), (by decide +kernel), (by decide +kernel)⟩,
   ⟨b0, 0, 0, (by decide +kernel)⟩,
   ⟨b0, 0, 1, (by decide +kernel)⟩,
   ⟨b0, 2000, 0, (by decide +kernel), (by decide +kernel)⟩,
   ⟨st [(Fld.PWR_STAT_DIEWARN, 1)], 0, 0, (by decide +kernel), (by decide +kernel)⟩,
   ⟨b0, 0, 0, (by decide +kernel), (by decide +kernel)⟩,
   ⟨st [(Fld.PWR_STAT_DIEWARN, 1)], 2000, 0, (by decide +kernel), (by decide +kernel)⟩,
   ⟨b0, (by decide +kernel), (by decide +kernel)⟩,
   ⟨b0.modClk (fun c => { c with transportDue := true }), (by decide +kernel)⟩,
   ⟨b0.setSvc .transport, (by decide +kernel)⟩⟩

theorem witness_UpdateComplete :
    (∃ (s : State) (q : Req), s.Served q 0x300 0) ∧
    (∃ (s : State) (q : Req), s.ens Pg.UPD = true ∧ s.lockedOut q.origin = false ∧ s.Served q 0x301 1) ∧
    (∃ (s : State) (q : Req), s.ens Pg.UPD = true ∧ s.lockedOut q.origin = false ∧ s.Served q 0x302 1) ∧
    (∃ (s : State) (q : Req), s.ens Pg.UPD = true ∧ s.lockedOut q.origin = false ∧
      (let u := s.lockUsed q.origin;
       ∃ (off : Word) (data : List Byte), s.Served q 0x303 1 ∧ data.length ≤ 1008 ∧ off.toNat + data.length ≤ 0x1800000 ∧
       (u.bank u.stagingIdx).verified = false ∧ u.get Fld.UPD_STAT_PHASE ≠ 2)) ∧
    (∃ (s : State) (q : Req), s.ens Pg.UPD = true ∧ s.lockedOut q.origin = false ∧ s.Served q 0x304 1) ∧
    (∃ (s : State) (q : Req), s.ens Pg.UPD = true ∧ s.lockedOut q.origin = false ∧
      (let u := s.lockUsed q.origin;
       ∃ (acts : BitVec 48) (actn : Word), s.Served q 0x305 1 ∧ u.activateBar = 0)) ∧
    (∃ (s : State) (q : Req), s.ens Pg.UPD = true ∧ s.lockedOut q.origin = false ∧
      (let u := s.lockUsed q.origin;
       ∃ (acts : BitVec 48) (actn : Word), s.Served q 0x305 1 ∧ u.activateBar = 0 ∧ actn.toNat ≤ 999999999 ∧
      (let ahead : Int := ((acts.toNat * 1000000000 + actn.toNat : Nat) : Int) - (u.plantNs : Int);
       1000000000 ≤ ahead ∧ ahead ≤ 86400000000000))) ∧
    (∃ (s : State) (q : Req), s.ens Pg.UPD = true ∧ s.lockedOut q.origin = false ∧ s.Served q 0x306 1) ∧
    (∃ (s : State) (q : Req), s.ens Pg.UPD = true ∧ s.lockedOut q.origin = true ∧ s.Served q 0x301 1) ∧
    (∃ (s : State) (q : Req), s.ens Pg.UPD = true ∧ s.lockedOut q.origin = true ∧ ∃ (off : Word) (data : List Byte), s.Served
      q 0x303 1) ∧
    (∃ (s : State) (q : Req) (bid : BitVec 64) (version svn len : Word), s.Reached q 0x307 ∧ s.appUp = true ∧ s.ens Pg.UPD =
      true ∧ s.fromNeighbour q.origin q.lane.val = true ∧ (s.bankWith bid.toNat).isSome = true) ∧
    (∃ (s : State) (q : Req) (bid : BitVec 64) (version svn len : Word), s.Reached q 0x307 ∧ s.appUp = true ∧ s.ens Pg.UPD =
      true ∧ s.fromNeighbour q.origin q.lane.val = true ∧ (s.bankWith bid.toNat).isSome = false ∧ s.lockedOut q.origin =
      false ∧ (s.bank s.stagingIdx).verified = false ∧ len.toNat ≤ 0x1800000) ∧
    (∃ (s : State) (q : Req) (bid : BitVec 64) (off : Word) (len : BitVec 16) (b : BankState), s.Reached q 0x308 ∧ s.appUp =
      true ∧ s.ens Pg.UPD = true ∧ s.fromNeighbour q.origin q.lane.val = true ∧ s.bankWith bid.toNat = some b ∧ len.toNat ≤
      1008 ∧ off.toNat + len.toNat ≤ b.length) ∧
    (∃ (s : State) (q : Req) (kind : Byte) (im m : Nat × Nat × Nat × Nat × Nat), s.Served q 0x309 1 ∧ s.ens Pg.UPD = true ∧
      s.lockedOut q.origin = false ∧
      (let u := s.lockUsed q.origin;
       u.svc.state = .recovery ∧ (u.bank u.stagingIdx).verified = true ∧ (u.bank u.stagingIdx).image kind.toNat = some im ∧
       (u.bank u.activeIdx).image 1 = some m ∧ u.imageFits m.1 im = true ∧ (kind = 4 ∨ kind = 5 ∨ kind = 6))) ∧
    (∃ (s : State) (q : Req) (kind : Byte) (im m : Nat × Nat × Nat × Nat × Nat), s.Served q 0x309 1 ∧ s.ens Pg.UPD = true ∧
      s.lockedOut q.origin = false ∧
      (let u := s.lockUsed q.origin;
       u.svc.state = .recovery ∧ (u.bank u.stagingIdx).verified = true ∧ (u.bank u.stagingIdx).image kind.toNat = some im ∧
       (u.bank u.activeIdx).image 1 = some m ∧ u.imageFits m.1 im = true ∧ kind = 3)) ∧
    (∃ (s : State) (o : Origin), s.ens Pg.UPD = true ∧ s.lockedOut o = false ∧ s.Accepts o Reg.UPD_CMD 1) ∧
    (∃ (s : State) (o : Origin), s.ens Pg.UPD = true ∧ s.lockedOut o = false ∧ s.Accepts o Reg.UPD_CMD 2) ∧
    (∃ (s : State) (o : Origin), s.ens Pg.UPD = true ∧ s.lockedOut o = false ∧ s.Accepts o Reg.UPD_CMD 3) ∧
    (∃ (s : State) (o : Origin), s.ens Pg.UPD = true ∧ s.lockedOut o = false ∧
      (let u := s.lockUsed o;
       s.Accepts o Reg.UPD_CMD 4 ∧ u.activateBar = 0)) ∧
    (∃ (s : State) (o : Origin), s.ens Pg.UPD = true ∧ s.lockedOut o = false ∧ s.Accepts o Reg.UPD_CMD 5) ∧
    (∃ (s : State) (o : Origin), s.ens Pg.UPD = true ∧ s.lockedOut o = false ∧ s.Accepts o Reg.UPD_CMD 6 ∧ s.upd.armed =
      true) ∧
    (∃ (s : State) (o : Origin), s.ens Pg.UPD = false ∧ s.Accepts o Reg.UPD_CMD 1) ∧
    (∃ (s : State) (o : Origin), s.ens Pg.UPD = false ∧ s.Accepts o Reg.UPD_CMD 4) ∧
    (∃ s : State, s.Up 2 ∧ s.get Fld.UPD_STAT_PHASE = 2 ∧ s.appUp = true) ∧
    (∃ s : State, s.Up 2 ∧ s.on Fld.UPD_LOCK_HELD = true ∧ s.upd.lastAt + 60000000000 ≤ s.nowNat) ∧
    (∃ s : State, s.Up 2 ∧ s.upd.armed = true ∧ s.appUp = true ∧ toSigned 64 ((s.nowNat + 2 ^ 64 - s.rd64 Reg.UPD_ACTT) % 2 ^
      64) ≥ 0 ∧ s.twinGate = .now) ∧
    (∃ s : State, s.Up 2 ∧ s.upd.armed = true ∧ s.appUp = true ∧ toSigned 64 ((s.nowNat + 2 ^ 64 - s.rd64 Reg.UPD_ACTT) % 2 ^
      64) ≥ 0 ∧ s.twinGate = .handOver) ∧
    (∃ s : State, s.Up 2 ∧ s.upd.armed = true ∧ s.appUp = true ∧ toSigned 64 ((s.nowNat + 2 ^ 64 - s.rd64 Reg.UPD_ACTT) % 2 ^
      64) ≥ 0 ∧ s.twinGate = .no) ∧
    (∃ s : State,
      (let a := (((s.modUpd (fun u => { u with armed := false })).setPhase 5).wr64 Reg.UPD_ACTT 0).wr Reg.TWN_HOTIME 0;
       
      (let b := (a.put Fld.UPD_BANKS_ACTIVE a.stagingIdx).setOn Fld.UPD_BANKS_TRIAL true;
       b.svc.state = .recovery))) ∧
    (∃ s : State,
      (let a := (((s.modUpd (fun u => { u with armed := false })).setPhase 5).wr64 Reg.UPD_ACTT 0).wr Reg.TWN_HOTIME 0;
       
      (let b := (a.put Fld.UPD_BANKS_ACTIVE a.stagingIdx).setOn Fld.UPD_BANKS_TRIAL true;
       b.svc.state ≠ .recovery))) ∧
    (∃ (s : State) (lane : Fin 5) (off : Word) (data : List Byte) (bid len : Nat), s.Up 9 ∧ s.upd.fetch = some (lane.val,
      bid, off.toNat, len) ∧ data ≠ [] ∧ s.appUp = true) :=
  ⟨⟨b0, hq, served_host (by decide +kernel)⟩,
   ⟨sv [(Fld.ens Pg.UPD, 1)], hq, (by decide +kernel), (by decide +kernel), served_host (by decide +kernel)⟩,
   ⟨sv [(Fld.ens Pg.UPD, 1)], hq, (by decide +kernel), (by decide +kernel), served_host (by decide +kernel)⟩,
   ⟨sv [(Fld.ens Pg.UPD, 1)], hq, (by decide +kernel), (by decide +kernel), 0, List.replicate 1008 0, served_host
     (by decide +kernel), (by decide +kernel), (by decide +kernel), (by decide +kernel), (by decide +kernel)⟩,
   ⟨sv [(Fld.ens Pg.UPD, 1)], hq, (by decide +kernel), (by decide +kernel), served_host (by decide +kernel)⟩,
   ⟨(sv [(Fld.ens Pg.UPD, 1)]).modBank 1 (fun b => { b with verified := true, images := [(1, (0, 0, 0, 2 ^ 256 - 1, 0))] }),
     hq, (by decide +kernel), (by decide +kernel), 0, 0, served_host (by decide +kernel), (by decide +kernel)⟩,
   ⟨(sv [(Fld.ens Pg.UPD, 1)]).modBank 1 (fun b => { b with verified := true, images := [(1, (0, 0, 0, 2 ^ 256 - 1, 0))] }),
     hq, (by decide +kernel), (by decide +kernel), 1, 0, served_host (by decide +kernel), (by decide +kernel),
     (by decide +kernel), (by decide +kernel), (by decide +kernel)⟩,
   ⟨sv [(Fld.ens Pg.UPD, 1)], hq, (by decide +kernel), (by decide +kernel), served_host (by decide +kernel)⟩,
   ⟨sv [(Fld.ens Pg.UPD, 1), (Fld.UPD_LOCK_HELD, 1), (Fld.UPD_LOCK_ORIGIN, 1)], hq, (by decide +kernel), (by decide +kernel),
     served_host (by decide +kernel)⟩,
   ⟨sv [(Fld.ens Pg.UPD, 1), (Fld.UPD_LOCK_HELD, 1), (Fld.UPD_LOCK_ORIGIN, 1)], hq, (by decide +kernel), (by decide +kernel),
     0, [], served_host (by decide +kernel)⟩,
   ⟨(sv [(Fld.ens Pg.UPD, 1), (Fld.FP_STATE_STATE 0, 3), (Fld.FP_STATE_PEER 0, 9)]).modBank 1 (fun b =>
     { b with verified := true, bid := 5 }), ⟨.fabric 9, 0, 2, 0, true⟩, 5, 0, 0, 0, (reached_fabric (n := 9) rfl
     (by decide +kernel)), (by decide +kernel), (by decide +kernel), (by decide +kernel), (by decide +kernel)⟩,
   ⟨sv [(Fld.ens Pg.UPD, 1), (Fld.FP_STATE_STATE 0, 3), (Fld.FP_STATE_PEER 0, 9)], ⟨.fabric 9, 0, 2, 0, true⟩, 5, 0, 0,
     0x1800000, (reached_fabric (n := 9) rfl (by decide +kernel)), (by decide +kernel), (by decide +kernel),
     (by decide +kernel), (by decide +kernel), (by decide +kernel), (by decide +kernel), (by decide +kernel)⟩,
   ⟨(sv [(Fld.ens Pg.UPD, 1), (Fld.FP_STATE_STATE 0, 3), (Fld.FP_STATE_PEER 0, 9)]).modBank 1 (fun _ => ⟨[], true, 0, 0,
     1008, 5, [], none⟩), ⟨.fabric 9, 0, 3, 0, true⟩, 5, 0, 1008, ⟨[], true, 0, 0, 1008, 5, [], none⟩, (reached_fabric (n :=
     9) rfl (by decide +kernel)), (by decide +kernel), (by decide +kernel), (by decide +kernel), (by decide +kernel),
     (by decide +kernel), (by decide +kernel)⟩,
   ⟨((((sv [(Fld.ens Pg.UPD, 1)]).modBank 1 (fun b =>
     { b with verified := true, images := [(1, (0, 0, 0, 2 ^ 256 - 1, 0))] })).modBank 1 (fun b =>
     { b with images := [(4, (0, 0, 0, 2 ^ 256 - 1, 0))] })).modBank 0 (fun b =>
     { b with images := [(1, (0, 0, 0, 2 ^ 256 - 1, 0))] })).setSvc .recovery, hq, 4, (0, 0, 0, 2 ^ 256 - 1, 0), (0, 0, 0, 2
     ^ 256 - 1, 0), served_host (by decide +kernel), (by decide +kernel), (by decide +kernel), (by decide +kernel),
     (by decide +kernel), (by decide +kernel), (by decide +kernel), (by decide +kernel), (by decide +kernel)⟩,
   ⟨((((sv [(Fld.ens Pg.UPD, 1)]).modBank 1 (fun b =>
     { b with verified := true, images := [(1, (0, 0, 0, 2 ^ 256 - 1, 0))] })).modBank 1 (fun b =>
     { b with images := [(3, (0, 0, 0, 2 ^ 256 - 1, 0))] })).modBank 0 (fun b =>
     { b with images := [(1, (0, 0, 0, 2 ^ 256 - 1, 0))] })).setSvc .recovery, hq, 3, (0, 0, 0, 2 ^ 256 - 1, 0), (0, 0, 0, 2
     ^ 256 - 1, 0), served_host (by decide +kernel), (by decide +kernel), (by decide +kernel), (by decide +kernel),
     (by decide +kernel), (by decide +kernel), (by decide +kernel), (by decide +kernel), (by decide +kernel)⟩,
   ⟨sv [(Fld.ens Pg.UPD, 1)], .host, (by decide +kernel), (by decide +kernel), acc_of (by decide +kernel)⟩,
   ⟨sv [(Fld.ens Pg.UPD, 1)], .host, (by decide +kernel), (by decide +kernel), acc_of (by decide +kernel)⟩,
   ⟨sv [(Fld.ens Pg.UPD, 1)], .host, (by decide +kernel), (by decide +kernel), acc_of (by decide +kernel)⟩,
   ⟨(sv [(Fld.ens Pg.UPD, 1)]).modBank 1 (fun b => { b with verified := true, images := [(1, (0, 0, 0, 2 ^ 256 - 1, 0))] }),
     .host, (by decide +kernel), (by decide +kernel), acc_of (by decide +kernel), (by decide +kernel)⟩,
   ⟨sv [(Fld.ens Pg.UPD, 1)], .host, (by decide +kernel), (by decide +kernel), acc_of (by decide +kernel)⟩,
   ⟨(sv [(Fld.ens Pg.UPD, 1)]).modUpd (fun u => { u with armed := true }), .host, (by decide +kernel), (by decide +kernel),
     acc_of (by decide +kernel), (by decide +kernel)⟩,
   ⟨sv [], .host, (by decide +kernel), acc_of (by decide +kernel)⟩,
   ⟨sv [], .host, (by decide +kernel), acc_of (by decide +kernel)⟩,
   ⟨st [(Fld.UPD_STAT_PHASE, 2)], up_of (by decide +kernel), (by decide +kernel), (by decide +kernel)⟩,
   ⟨{ st [(Fld.UPD_LOCK_HELD, 1)] with tim := { b0.tim with mono := 60000000000 * nsUnit } }, up_of (by decide +kernel),
     (by decide +kernel), (by decide +kernel)⟩,
   ⟨b0.modUpd (fun u => { u with armed := true }), up_of (by decide +kernel), (by decide +kernel), (by decide +kernel),
     (by decide +kernel), (by decide +kernel)⟩,
   ⟨(({ st [(Fld.TWN_STATE_TSTATE, 3), (Fld.TWN_STATE_PELIG, 1)] with twn :=
     { b0.twn with partner := some ⟨0, false, 0, 0, 0, 0, 0, 65535, 0, 0⟩ } } : State).modUpd (fun u =>
     { u with armed := true })), up_of (by decide +kernel), (by decide +kernel), (by decide +kernel), (by decide +kernel),
     (by decide +kernel)⟩,
   ⟨(st [(Fld.TWN_STATE_TSTATE, 2)]).modUpd (fun u => { u with armed := true }), up_of (by decide +kernel),
     (by decide +kernel), (by decide +kernel), (by decide +kernel), (by decide +kernel)⟩,
   ⟨b0.setSvc .recovery, (by decide +kernel)⟩,
   ⟨b0, (by decide +kernel)⟩,
   ⟨b0.modUpd (fun u => { u with fetch := some (3, 5, 0, 1008) }), 3, 0, [0], 5, 1008, up_of (by decide +kernel),
     (by decide +kernel), (by decide +kernel), (by decide +kernel)⟩⟩

theorem witness_AgeingComplete :
    (∃ (s : State) (i : Fin 42) (v : Word), s.Up 2 ∧ 6 ≤ i.val ∧ i.val < 18) ∧
    (∃ (s : State) (i : Fin 42) (v : Word), s.Up 2 ∧ i.val = 1) ∧
    (∃ (s : State) (i : Fin 42) (v : Word), s.Up 2 ∧ 2 ≤ i.val ∧ i.val < 6) ∧
    (∃ (s : State) (i : Fin 42) (v : Word), s.Up 2 ∧ (i.val = 0 ∨ 18 ≤ i.val)) ∧
    (∃ (s : State) (i : Nat), s.notEvaluated i = false) ∧
    (∃ (s : State) (i : Nat), s.notEvaluated i = true) ∧
    (∃ (s : State) (o : Origin), s.appUp = true ∧ s.Up 2) ∧
    (∃ (s : State) (o : Origin), s.appUp = true ∧ s.Accepts o Reg.AGE_CMD 1) ∧
    (∃ (s : State) (o : Origin) (pair : BitVec 4), s.Accepts o Reg.AGE_CMD (2 + 256 * pair.toNat) ∧ pair.toNat ≤ 9) ∧
    (∃ (s : State) (o : Origin) (pair : BitVec 4), s.Accepts o Reg.AGE_CMD (2 + 256 * pair.toNat) ∧ 9 < pair.toNat) ∧
    (∃ (s : State) (n : Fin 12) (k : Int), s.Up 2 ∧ s.age.trims.find? (fun t => t.1 == n.val) = some (n.val, k) ∧ s.on
      (Fld.PRT_CMPSTAT_LEVEL n.val) = true) ∧
    (∃ (s : State) (n : Fin 12) (k : Int), s.Up 2 ∧ s.age.trims.find? (fun t => t.1 == n.val) = some (n.val, k) ∧ s.on
      (Fld.PRT_CMPSTAT_LEVEL n.val) = false) ∧
    (∃ (s : State) (l : List RefreshBlock), s.Up 2 ∧ s.appUp = true ∧ s.hugood = true) ∧
    (∃ (s : State) (l : List RefreshBlock), s.Up 2 ∧ s.appUp = true) ∧
    (∃ (s : State) (q : Req) (i : Byte) (day : BitVec 16), s.Served q 0x500 0) ∧
    (∃ (s : State) (q : Req) (i : Byte) (day : BitVec 16), s.Served q 0x501 0 ∧ i.toNat ≤ 41) ∧
    (∃ (s : State) (q : Req) (i : Byte) (day : BitVec 16), s.Served q 0x501 0 ∧ 41 < i.toNat) :=
  ⟨⟨b0, 17, 0, up_of (by decide +kernel), (by decide +kernel), (by decide +kernel)⟩,
   ⟨b0, 1, 0, up_of (by decide +kernel), (by decide +kernel)⟩,
   ⟨b0, 5, 0, up_of (by decide +kernel), (by decide +kernel), (by decide +kernel)⟩,
   ⟨b0, 18, 0, up_of (by decide +kernel), (by decide +kernel)⟩,
   ⟨b0, 0, (by decide +kernel)⟩,
   ⟨st [(Fld.AGE_CTKREF_IREF, 0)], 22, (by decide +kernel)⟩,
   ⟨b0, .host, (by decide +kernel), up_of (by decide +kernel)⟩,
   ⟨sv [], .host, (by decide +kernel), acc_of (by decide +kernel)⟩,
   ⟨sv [], .host, 9, acc_of (by decide +kernel), (by decide +kernel)⟩,
   ⟨sv [], .host, 10, acc_of (by decide +kernel), (by decide +kernel)⟩,
   ⟨(st [(Fld.PRT_CMPSTAT_LEVEL 11, 1)]).modAge (fun a => { a with trims := [(11, -8)] }), 11, -8, up_of (by decide +kernel),
     (by decide +kernel), (by decide +kernel)⟩,
   ⟨b0.modAge (fun a => { a with trims := [(11, -8)] }), 11, -8, up_of (by decide +kernel), (by decide +kernel),
     (by decide +kernel)⟩,
   ⟨st [(Fld.PWR_STAT_HUGOOD, 1)], [], up_of (by decide +kernel), (by decide +kernel), (by decide +kernel)⟩,
   ⟨b0, [], up_of (by decide +kernel), (by decide +kernel)⟩,
   ⟨b0, hq, 0, 0, served_host (by decide +kernel)⟩,
   ⟨b0, hq, 41, 0, served_host (by decide +kernel), (by decide +kernel)⟩,
   ⟨b0, hq, 42, 0, served_host (by decide +kernel), (by decide +kernel)⟩⟩

theorem witness_TapAndDebugComplete :
    (∃ s : State, (s.setIr 3).boundaryOk = true) ∧
    (∃ s : State, (s.setIr 3).boundaryOk = false) ∧
    (∃ s : State, (s.setIr 4).boundaryOk = true) ∧
    (∃ s : State, (s.setIr 4).boundaryOk = false) ∧
    (∃ s : State, (s.setIr 5).boundaryOk = true) ∧
    (∃ s : State, (s.setIr 5).boundaryOk = false) ∧
    (∃ s : State, s.dbg.acting = true ∧ s.boundaryOk = false) ∧
    (∃ s : State,
      (let a := s.setIr 0x10;
       a.on Fld.DBG_JTAG_LOCKOUT = false)) ∧
    (∃ (s : State) (x y : BitVec 384),
      (let a := s.setIr 0x10;
       a.on Fld.DBG_JTAG_LOCKOUT = false)) ∧
    (∃ (s : State) (x : AuthStep), (s.setIr 0x10).on Fld.DBG_JTAG_LOCKOUT = true) ∧
    (∃ (s : State) (w : Bool) (a : Addr) (v : Word), (s.setIr 0x11).on Fld.DBG_SESSION_ACTIVE = false) ∧
    (∃ (s : State) (a : Addr) (v : Word), (s.setIr 0x11).on Fld.DBG_SESSION_ACTIVE = true) ∧
    (∃ s : State, s.on Fld.DBG_SESSION_ACTIVE = true) ∧
    (∃ s : State, 600 ≤ s.debugIdle) ∧
    (∃ (s : State) (o : Origin), ((o = .debug ∧ s.on Fld.DBG_SESSION_ACTIVE = true) ∨ ((o = .host ∨ ∃ n, o = .fabric n) ∧
      s.ens Pg.DBG = true ∧ s.roleOf o = some 3)) ∧ s.Accepts o Reg.DBG_CMD 1) ∧
    (∃ (s : State) (o : Origin), ((o = .debug ∧ s.on Fld.DBG_SESSION_ACTIVE = true) ∨ ((o = .host ∨ ∃ n, o = .fabric n) ∧
      s.ens Pg.DBG = true ∧ s.roleOf o = some 3)) ∧ s.Accepts o Reg.DBG_CMD 2) ∧
    (∃ (s : State) (o : Origin), ((o = .debug ∧ s.on Fld.DBG_SESSION_ACTIVE = true) ∨ ((o = .host ∨ ∃ n, o = .fabric n) ∧
      s.ens Pg.DBG = true ∧ s.roleOf o = some 3)) ∧ s.Accepts o Reg.DBG_CMD 3) ∧
    (∃ (s : State) (o : Origin), ((o = .debug ∧ s.on Fld.DBG_SESSION_ACTIVE = true) ∨ ((o = .host ∨ ∃ n, o = .fabric n) ∧
      s.ens Pg.DBG = true ∧ s.roleOf o = some 3)) ∧ s.Accepts o Reg.DBG_CMD 4) ∧
    (∃ (s : State) (o : Origin), ((o = .debug ∧ s.on Fld.DBG_SESSION_ACTIVE = true) ∨ ((o = .host ∨ ∃ n, o = .fabric n) ∧
      s.ens Pg.DBG = true ∧ s.roleOf o = some 3)) ∧ s.Accepts o Reg.DBG_CMD 5) ∧
    (∃ (s : State) (o : Origin), ((o = .debug ∧ s.on Fld.DBG_SESSION_ACTIVE = false) ∨ (o ≠ .debug ∧ (s.ens Pg.DBG = false ∨
      s.roleOf o ≠ some 3))) ∧ s.Accepts o Reg.DBG_CMD 1) ∧
    (∃ (s : State) (o : Origin), ((o = .debug ∧ s.on Fld.DBG_SESSION_ACTIVE = false) ∨ (o ≠ .debug ∧ (s.ens Pg.DBG = false ∨
      s.roleOf o ≠ some 3))) ∧ s.Accepts o Reg.DBG_CMD 2) ∧
    (∃ (s : State) (o : Origin), ((o = .debug ∧ s.on Fld.DBG_SESSION_ACTIVE = false) ∨ (o ≠ .debug ∧ (s.ens Pg.DBG = false ∨
      s.roleOf o ≠ some 3))) ∧ s.Accepts o Reg.DBG_CMD 3) ∧
    (∃ (s : State) (o : Origin), ((o = .debug ∧ s.on Fld.DBG_SESSION_ACTIVE = false) ∨ (o ≠ .debug ∧ (s.ens Pg.DBG = false ∨
      s.roleOf o ≠ some 3))) ∧ s.Accepts o Reg.DBG_CMD 4) ∧
    (∃ (s : State) (o : Origin), ((o = .debug ∧ s.on Fld.DBG_SESSION_ACTIVE = false) ∨ (o ≠ .debug ∧ (s.ens Pg.DBG = false ∨
      s.roleOf o ≠ some 3))) ∧ s.Accepts o Reg.DBG_CMD 5) :=
  ⟨⟨st [(whole Reg.CTK_AUX, 0x3FF)], (by decide +kernel)⟩,
   ⟨b0.setSvc .running, (by decide +kernel)⟩,
   ⟨st [(whole Reg.CTK_AUX, 0x3FF)], (by decide +kernel)⟩,
   ⟨b0.setSvc .running, (by decide +kernel)⟩,
   ⟨st [(whole Reg.CTK_AUX, 0x3FF)], (by decide +kernel)⟩,
   ⟨b0.setSvc .running, (by decide +kernel)⟩,
   ⟨(b0.setSvc .running).modDbg (fun d => { d with acting := true }), (by decide +kernel), (by decide +kernel)⟩,
   ⟨b0, (by decide +kernel)⟩,
   ⟨b0, 0, 0, (by decide +kernel)⟩,
   ⟨st [(Fld.DBG_JTAG_LOCKOUT, 1)], .challenge, (by decide +kernel)⟩,
   ⟨b0, true, 0, 0, (by decide +kernel)⟩,
   ⟨st [(Fld.DBG_SESSION_ACTIVE, 1)], 0, 0, (by decide +kernel)⟩,
   ⟨st [(Fld.DBG_SESSION_ACTIVE, 1)], (by decide +kernel)⟩,
   ⟨{ st [(Fld.DBG_SESSION_ACTIVE, 1)] with tim := { b0.tim with mono := 600000000000 * nsUnit } }, (by decide +kernel)⟩,
   ⟨st [(Fld.DBG_SESSION_ACTIVE, 1)], .debug, (.inl (by decide +kernel)), acc_of (by decide +kernel)⟩,
   ⟨st [(Fld.DBG_SESSION_ACTIVE, 1)], .debug, (.inl (by decide +kernel)), acc_of (by decide +kernel)⟩,
   ⟨st [(Fld.DBG_SESSION_ACTIVE, 1)], .debug, (.inl (by decide +kernel)), acc_of (by decide +kernel)⟩,
   ⟨st [(Fld.DBG_SESSION_ACTIVE, 1)], .debug, (.inl (by decide +kernel)), acc_of (by decide +kernel)⟩,
   ⟨st [(Fld.DBG_SESSION_ACTIVE, 1)], .debug, (.inl (by decide +kernel)), acc_of (by decide +kernel)⟩,
   ⟨sv [], .host, (.inr ⟨(by decide +kernel), .inl (by decide +kernel)⟩), acc_of (by decide +kernel)⟩,
   ⟨sv [], .host, (.inr ⟨(by decide +kernel), .inl (by decide +kernel)⟩), acc_of (by decide +kernel)⟩,
   ⟨sv [], .host, (.inr ⟨(by decide +kernel), .inl (by decide +kernel)⟩), acc_of (by decide +kernel)⟩,
   ⟨sv [], .host, (.inr ⟨(by decide +kernel), .inl (by decide +kernel)⟩), acc_of (by decide +kernel)⟩,
   ⟨sv [], .host, (.inr ⟨(by decide +kernel), .inl (by decide +kernel)⟩), acc_of (by decide +kernel)⟩⟩

/-! ### Ill-formed operands -/

/-- No service request comes from the firmware (R63, R65). -/
theorem test_wf_request_origin : Instr.wellFormed (.halt ⟨.firmware, 0, 2, 0, true⟩) = false := by decide
/-- REG_WRITE carries COUNT + 1 words (R64). -/
theorem test_wf_reg_write : Instr.wellFormed (.regWrite hq 4096 1 [0]) = false := by decide
/-- A calibration report names a position from 1 (R135). -/
theorem test_wf_calibration : Instr.wellFormed (.calibrationTickReturn 0 .north 1 [⟨0, none, 0⟩]) = false := by decide
/-- Network type 3 is reserved (R461). -/
theorem test_wf_safety_frame : Instr.wellFormed (.safetyFrame 3 []) = false := by decide
/-- Only the host opens sessions (R508). -/
theorem test_wf_session : Instr.wellFormed (.sessionClose ⟨.fabric 9, 0, 2, 0, true⟩) = false := by decide
/-- A SAMPLE frame carries eight duties (R591). -/
theorem test_wf_sample : Instr.wellFormed (.twinSample ⟨0, 0, [], 0, 0, []⟩) = false := by decide
/-- Reset sources 13 to 15 are spare (R634). -/
theorem test_wf_source : Instr.wellFormed (.resetAssert 13) = false := by decide
/-- EXTEST's code does not select BYPASS (R716). -/
theorem test_wf_bypass : Instr.wellFormed (.bypass 3) = false := by decide
/-- What the formats allow is well-formed. -/
theorem test_wf_good : (Instr.wellFormed (.halt hq) && Instr.wellFormed (.regWrite hq 4096 0 [0]) &&
    Instr.wellFormed (.safetyFrame 2 []) && Instr.wellFormed (.resetAssert 12) && Instr.wellFormed (.bypass 0xFF)) = true := by decide
/-- The table gives no row bits, so no word spells a command. -/
theorem test_no_bits : decodeTableWord 32 0 = none := by decide

/-! ### Single commands -/

/-- The check value of CRC-32C for the digits 1 to 9. -/
theorem test_crc32c : crc32c ([0x31, 0x32, 0x33, 0x34, 0x35, 0x36, 0x37, 0x38, 0x39] : List Byte) = 0xE3069283 := by decide +kernel
/-- The check value of CRC-16 0x1021 from 0xFFFF for the digits 1 to 9 (R79). -/
theorem test_crc16 : crc16 0xFFFF ([0x31, 0x32, 0x33, 0x34, 0x35, 0x36, 0x37, 0x38, 0x39] : List Byte) = 0x29B1 := by decide +kernel
/-- AES-128-GCM of nothing under key and IV 0 (test case 1 of the GCM specification; R482). -/
theorem test_gcm : gcmTag 0 0 [] = 0x58E2FCCEFA7E3061367F1D57A4E7455A := by decide +kernel
/-- SHA-384 of 'abc' (FIPS 180-4; R673). -/
theorem test_sha384 : sha384Num [0x61, 0x62, 0x63] =
    0xCB00753F45A35E8BB5A03D699AC65007272C32AB0EDED1631A8B605A43FF5BED8086072BA1E7CC2358BAECA134C825A7 := by decide +kernel
/-- A step takes the front command and leaves the rest. -/
theorem test_step_front : (after (step { b0 with pending := [.idcode, .highz] })).pending = [.highz] := by decide +kernel
/-- R51, R52: the key 0xA5C3 locks a page, and a write to it is rejected with LOCKED (5) in its ERRA. -/
theorem test_lock : (after (exec (.lockPage .host 15) (sv []))).rd (Reg.lock 15) = 1 := by decide +kernel
theorem test_locked : bitsOf ((after (exec (.registerWrite .host (BitVec.ofNat 32 (Reg.ctrl 15)) 1) (sv [(Fld.locked 15, 1)]))).rd
    (Reg.erra 15)) 27 4 = 5 := by decide +kernel
/-- R54: ERRA holds VALID, ALIGN (2), the write and the offset 6. -/
theorem test_erra : (after (exec (.registerWrite .host (BitVec.ofNat 32 (Reg.ctrl 15 - Reg.ctrl 15 % 4096 + 6)) 1) (sv []))).rd
    (Reg.erra 15) = 2 ^ 31 + 2 * 2 ^ 27 + originCode .host * 2 ^ 24 + 2 ^ 23 + 6 := by decide +kernel
/-- R62: a bit of IRQS on a page whose mask bit is set asserts IRQ_N. -/
theorem test_irq_line : (settle (st [(whole (Reg.irqr 15), 1), (whole (Reg.irqe 15), 1)])).pins.irqN =
    (st []).irqMasked 15 := by decide +kernel
/-- R291: a gate-driver fault input of an enabled phase trips Snare and names itself first. -/
theorem test_gate_fault : (let t := after (exec (.gateDriverFaultInput 0) (st [(Fld.ens Pg.PWM, 1), (Fld.PWM_CFG_PHEN, 1)]))
    (t.snare, t.get Fld.PWM_GDFSTAT_FIRST)) = (true, 0) := by decide +kernel
/-- R528: one TIME cycle advances the operating time by 4 ns. -/
theorem test_tick : (after (step b0)).evr.opTime = b0.evr.opTime + 4 * 2 ^ 28 := by decide +kernel
/-- R508: a Sahric Service session needs a challenge that stands. -/
theorem test_session_role : (after (exec (.sessionOpen hq 3 0 ()) b0)).rd Reg.HST_ROLE = 0 := by decide +kernel
/-- R234: MODE 3 of BAL_CFG is stored as 0. -/
theorem test_reserved_mode : (after (exec (.registerWrite .host (BitVec.ofNat 32 Reg.BAL_CFG) 3) (sv []))).rd Reg.BAL_CFG % 4 = 0 := by
  decide +kernel
/-- R633, R634: POWER_ON reaches every domain. -/
theorem test_power_on : (after (exec (.resetAssert 0) b0)).domUp 1 = false := by decide +kernel

end Sys2Proof.Tests
end

section
/-! Register access (R30, R50 to R54): what the verdict on a write says about each check of log 8, what a rejected write leaves,
and the statements of the family that follow from them. -/

namespace Sys2Proof.Machine

variable {s : State} {o : Origin} {p a v c : Nat} {w : WordSpec}

/-! ### The checks of an access, in their order (log 8) -/

/-- Before the word itself is looked at, only NOT_READY, ALIGN and RESERVED can be the answer: any other verdict is that of the
word. -/
theorem writeVerdict_eq_iff (hReserved : c ≠ 1) (hAlign : c ≠ 2) (hNotReady : c ≠ 0xA) :
    s.writeVerdict o a v = c ↔ s.locksOut o = false ∧ a % 4 = 0 ∧
      ∃ p w, ownerPage a = some p ∧ s.specAt o p a = some w ∧ s.wordVerdict o p a v w = c := by
  unfold State.writeVerdict
  cases s.locksOut o with
  | true => simp [hNotReady.symm]
  | false =>
    by_cases ha : a % 4 = 0
    case neg => simp [ha, hAlign.symm]
    cases ownerPage a with
    | none => simp [ha, hReserved.symm]
    | some p => cases hw : s.specAt o p a <;> simp [ha, hw, hReserved.symm]

/-- A word is written exactly when it passes every check (R33, R42, R44, R46, R49 to R52). -/
theorem wordVerdict_eq_zero_iff :
    s.wordVerdict o p a v w = 0 ↔
      s.busReady o p = true ∧ s.mayWrite o p a v = true ∧
      (s.on (Fld.locked p) = true → irqWord a = true ∨ lockWord a = true) ∧
      w.acc ≠ .ro ∧ s.writesFrozen p a v w = false ∧
      (needsClaim p a w = true → s.claimedByOther o p = false ∧ s.on (cpend p) = false) ∧
      (lockWord a = true → v / 65536 = 0xA5C3) ∧ (a = Reg.RST_SWRST → v / 65536 = 0x5A3C) := by
  unfold State.wordVerdict
  split_ifs <;> simp_all [or_iff_not_imp_left]

/-- LOCKED is the verdict exactly on a word that the lock covers, when the origin may write it (R52). -/
theorem wordVerdict_eq_locked_iff :
    s.wordVerdict o p a v w = 5 ↔
      s.busReady o p = true ∧ s.mayWrite o p a v = true ∧
      s.on (Fld.locked p) = true ∧ irqWord a = false ∧ lockWord a = false := by
  unfold State.wordVerdict
  split_ifs <;> simp_all

/-- A misaligned write is answered ALIGN, unless the locks are out (R30, R53). -/
theorem writeVerdict_of_misaligned (ha : a % 4 ≠ 0) : s.writeVerdict o a v = if s.locksOut o then 0xA else 2 := by
  simp [State.writeVerdict, ha]

/-- A misaligned read is answered ALIGN, unless the locks are out (R30, R53). -/
theorem readVerdict_of_misaligned (ha : a % 4 ≠ 0) : s.readVerdict o a = if s.locksOut o then 0xA else 2 := by
  simp [State.readVerdict, ha]

/-- What an accepted write has passed, of the checks that stand for rules of their own: role, lock and key (R49 to R52). -/
theorem checks_of_accepts (h : s.Accepts o a v) :
    ∃ p, ownerPage a = some p ∧ s.mayWrite o p a v = true ∧
      (s.on (Fld.locked p) = true → irqWord a = true ∨ lockWord a = true) ∧
      (lockWord a = true → v / 65536 = 0xA5C3) := by
  obtain ⟨-, -, p, w, hp, -, hw⟩ := (writeVerdict_eq_iff (by decide) (by decide) (by decide)).mp h
  obtain ⟨-, hrole, hlock, -, -, -, hkey, -⟩ := wordVerdict_eq_zero_iff.mp hw
  exact ⟨p, hp, hrole, hlock, hkey⟩

/-! ### LOCK -/

theorem lockWord_lock (p : Fin 41) : lockWord (Reg.lock p.val) = true := by revert p; decide

theorem ownerPage_lock (p : Fin 41) : ownerPage (Reg.lock p.val) = some p.val := by revert p; decide

theorem lock_aligned (p : Fin 41) : Reg.lock p.val % 4 = 0 := by revert p; decide

theorem lock_ne_swrst (p : Fin 41) : Reg.lock p.val ≠ Reg.RST_SWRST := by revert p; decide

/-- LOCK is a header word that every page has (R35, R51). -/
theorem specAt_lock (s : State) (o : Origin) (p : Fin 41) :
    s.specAt o p.val (Reg.lock p.val) = some ⟨.live, .rw, 1, [], true, false⟩ := by
  have hpage : (pageAt (Reg.lock p.val)).isNone = false := by revert p; decide
  have hoff : Reg.lock p.val % 0x1000 = 0x20 := by revert p; decide
  simp [State.specAt, hpage, hoff, headerSpec]

/-- LOCK is neither frozen nor shadowed, so of the checks behind the role only the key is left (R51, R52). -/
theorem wordVerdict_lock (p : Fin 41) (hready : s.busReady o p.val = true) (hrole : s.mayWrite o p.val (Reg.lock p.val) v = true) :
    s.wordVerdict o p.val (Reg.lock p.val) v ⟨.live, .rw, 1, [], true, false⟩ = if v / 65536 = 0xA5C3 then 0 else 9 := by
  have hctrl : Reg.lock p.val ≠ Reg.ctrl p.val := by simp [Reg.lock, Reg.ctrl]
  have hcommit : Reg.lock p.val ≠ Reg.commit p.val := by simp [Reg.lock, Reg.commit]
  simp [State.wordVerdict, State.writesFrozen, needsClaim, hready, hrole, lockWord_lock, hctrl, hcommit, lock_ne_swrst]

/-! ### What a rejected write leaves -/

/-- A rejection changes no register but the ERRA that records it (R54). -/
theorem word_reject_ne (s : State) (code : Nat) (o : Origin) (wr : Bool) (a v : Nat) {b : Nat}
    (hb : b ≠ Reg.erra ((ownerPage a).getD Pg.DEV)) : (s.reject code o wr a v).word b = s.word b := by
  unfold State.reject State.rejectAt
  split_ifs
  · rw [word_auditReject]; exact word_setWord_ne s hb.symm _
  · exact word_setWord_ne s hb.symm _
  · rfl

/-- A register write is the bus write of its operands. -/
theorem exec_registerWrite (s : State) (o : Origin) (a : Addr) (v : Word) :
    exec (.registerWrite o a v) s = .next (settle (s.busCommand o a.toNat v.toNat)) := rfl

/-- A register write that fails a check is its rejection and nothing else. -/
theorem exec_registerWrite_rejected {a : Addr} {v : Word} (h : s.writeVerdict o a.toNat v.toNat ≠ 0) :
    exec (.registerWrite o a v) s =
      .next (settle (s.reject (s.writeVerdict o a.toNat v.toNat) o true a.toNat v.toNat)) := by
  simp [exec_registerWrite, State.busCommand, State.busWriteBy, State.writeOne_, State.auditMany, h]

/-- A register write that fails a check leaves every word but the ERRA that records it (R54). -/
theorem exec_registerWrite_rejected_frame {a : Addr} {v : Word} (h : s.writeVerdict o a.toNat v.toNat ≠ 0) :
    ∃ t, exec (.registerWrite o a v) s = .next t ∧
      ∀ b, b ≠ Reg.erra ((ownerPage a.toNat).getD Pg.DEV) → t.word b = s.word b :=
  ⟨_, exec_registerWrite_rejected h, fun _ hb => word_reject_ne s _ o true _ _ hb⟩

/-! ### The statements -/

/-- Settles O10: alignment is checked right behind the locks, and what it turns away is rejected. -/
theorem misalignedAccessRejected : Obligations.MisalignedAccessRejected := by
  unfold Obligations.MisalignedAccessRejected
  constructor
  · intro s o a v ha hlocks
    simp [readVerdict_of_misaligned ha, writeVerdict_of_misaligned ha, hlocks]
  · intro s o a v ha _
    apply exec_registerWrite_rejected_frame
    rw [writeVerdict_of_misaligned ha]
    split_ifs <;> decide

/-- Settles O11: an accepted write has passed the check of R50 on its page. -/
theorem firmwareAndSafetyWrites : Obligations.FirmwareAndSafetyWrites := by
  unfold Obligations.FirmwareAndSafetyWrites
  constructor
  · intro s a p v hp hisland h
    obtain ⟨q, hq, hrole, -⟩ := checks_of_accepts h
    obtain rfl : p = q := Option.some.inj (hp.symm.trans hq)
    rcases hisland with rfl | rfl <;> simp [State.mayWrite] at hrole
  · intro s a v hother h
    obtain ⟨q, hq, hrole, -⟩ := checks_of_accepts h
    obtain ⟨hsfi, hscl⟩ := hother q hq
    simp [State.mayWrite, hsfi, hscl] at hrole

/-- Settles O12: the lock's check lets only the three words pass, and LOCKED is its answer to every other. -/
theorem lockedPageWrites : Obligations.LockedPageWrites := by
  unfold Obligations.LockedPageWrites
  intro s o p a v hp hlocked
  refine ⟨fun hirq hlock h => ?_, fun hirq hlock ha hlocks hspec hready hrole => ?_, fun hfree h => ?_⟩
  · obtain ⟨q, hq, -, hpass, -⟩ := checks_of_accepts h
    obtain rfl : p = q := Option.some.inj (hp.symm.trans hq)
    simpa [hirq, hlock] using hpass hlocked
  · obtain ⟨w, hw⟩ := Option.isSome_iff_exists.mp hspec
    exact (writeVerdict_eq_iff (by decide) (by decide) (by decide)).mpr
      ⟨hlocks, ha, p, w, hp, hw, wordVerdict_eq_locked_iff.mpr ⟨hready, hrole, hlocked, hirq, hlock⟩⟩
  · obtain ⟨-, -, q, w, -, -, hw⟩ := (writeVerdict_eq_iff (by decide) (by decide) (by decide)).mp h
    obtain ⟨-, -, -, hirq, hlock⟩ := wordVerdict_eq_locked_iff.mp hw
    simp [hirq, hlock] at hfree

/-- An accepted write of LOCK has the key (R51). -/
theorem writeVerdict_lock_ne_zero (p : Fin 41) (hkey : v / 65536 ≠ 0xA5C3) : s.writeVerdict o (Reg.lock p.val) v ≠ 0 := by
  intro h
  obtain ⟨-, -, -, -, hpass⟩ := checks_of_accepts h
  exact hkey (hpass (lockWord_lock p))

/-- Settles O13: without the key a write of LOCK fails the last check at the latest, and is rejected. -/
theorem lockNeedsKey : Obligations.LockNeedsKey := by
  unfold Obligations.LockNeedsKey
  constructor
  · intro s o p v hkey
    refine ⟨writeVerdict_lock_ne_zero p hkey, fun hlocks hready hrole => ?_⟩
    exact (writeVerdict_eq_iff (by decide) (by decide) (by decide)).mpr
      ⟨hlocks, lock_aligned p, p.val, _, ownerPage_lock p, specAt_lock s o p, by
        rw [wordVerdict_lock p hready hrole, if_neg hkey]⟩
  · intro s o p v hkey _
    have haddr : (BitVec.ofNat 32 (Reg.lock p.val)).toNat = Reg.lock p.val := by revert p; decide
    have hframe := exec_registerWrite_rejected_frame (s := s) (o := o) (a := BitVec.ofNat 32 (Reg.lock p.val)) (v := v)
      (by rw [haddr]; exact writeVerdict_lock_ne_zero p hkey)
    rwa [haddr, ownerPage_lock] at hframe

end Sys2Proof.Machine
end

section
/-! Register access: the words of the common header, what mirroring leaves, and what an accepted write of LOCK, IRQS, ERRA or COMMIT does
(R35 to R38, R45, R51, R54). -/

namespace Sys2Proof.Machine
variable {s : State} {o : Origin} {p a v : Nat} {w : WordSpec}

/-! ### Header words -/

theorem base_aligned (p : Fin 41) : Reg.base p.val % 0x1000 = 0 := by revert p; decide

theorem pageAt_base (p : Fin 41) : pageAt (Reg.base p.val) = some p.val := by revert p; decide

/-- The words below 0x40 of a page lie on that page (R31, R35). -/
theorem pageAt_header (p : Fin 41) {off : Nat} (h : off < 0x40) : pageAt (Reg.base p.val + off) = some p.val := by
  have hbase := base_aligned p
  have hround : (Reg.base p.val + off) / 0x1000 * 0x1000 = Reg.base p.val / 0x1000 * 0x1000 := by omega
  rw [← pageAt_base p]
  unfold pageAt
  rw [hround]

theorem header_offset (p : Fin 41) {off : Nat} (h : off < 0x40) : (Reg.base p.val + off) % 0x1000 = off := by
  have hbase := base_aligned p
  omega

theorem ownerPage_of_pageAt (h : pageAt a = some p) : ownerPage a = some p := by simp [ownerPage, h]

theorem inWindow_of_pageAt (h : pageAt a = some p) : inWindow a = false := by simp [inWindow, h]

theorem specAt_header (s : State) (o : Origin) (p : Fin 41) {off : Nat} (h : off < 0x40) :
    s.specAt o p.val (Reg.base p.val + off) = headerSpec p.val off := by
  simp [State.specAt, pageAt_header p h, header_offset p h, h]

/-- An accepted write of a header word is mirrored and written (R35 to R38). -/
theorem header_accepted (p : Fin 41) {off : Nat} (hoff : off < 0x40) (hw : headerSpec p.val off = some w)
    (h : s.Accepts o (Reg.base p.val + off) v) :
    s.command o (Reg.base p.val + off) v =
      (s.mirrorOut o p.val (Reg.base p.val + off) v).writeWord true o p.val (Reg.base p.val + off) v w := by
  refine command_accepted h (ownerPage_of_pageAt (pageAt_header p hoff)) ((specAt_header s o p hoff).trans hw)
    (inWindow_of_pageAt (pageAt_header p hoff)) fun hdoor => ?_
  have hmod := header_offset p hoff
  rw [hdoor] at hmod
  simp [Reg.HST_SDOOR] at hmod
  omega

theorem lockWord_header (p : Fin 41) {off : Nat} (hoff : off < 0x40) (hne : off ≠ 0x20) : lockWord (Reg.base p.val + off) = false := by
  simp [lockWord, header_offset p hoff, hne]

/-! ### Mirroring leaves registers and access state -/

@[simp] theorem mirrorOut_regs (s : State) (o : Origin) (p a v : Nat) : (s.mirrorOut o p a v).regs = s.regs := by
  obtain ⟨l, x, h⟩ := mirrorOut_frame s o p a v; rw [h]

@[simp] theorem mirrorOut_acc (s : State) (o : Origin) (p a v : Nat) : (s.mirrorOut o p a v).acc = s.acc := by
  obtain ⟨l, x, h⟩ := mirrorOut_frame s o p a v; rw [h]

@[simp] theorem mirrorOut_word (s : State) (o : Origin) (p a v b : Nat) : (s.mirrorOut o p a v).word b = s.word b := by
  simp [State.word]

@[simp] theorem mirrorOut_rd (s : State) (o : Origin) (p a v b : Nat) : (s.mirrorOut o p a v).rd b = s.rd b := by
  simp [State.rd]

/-! ### The commands of the header (R38, R45, R51, R54) -/

theorem lock_ne_door (p : Fin 41) : Reg.lock p.val ≠ Reg.HST_SDOOR := by revert p; decide

theorem lock_accepted (p : Fin 41) (h : s.Accepts o (Reg.lock p.val) v) :
    s.command o (Reg.lock p.val) v =
      (((if s.rd (Reg.lock p.val) = v % 2 then s else s.audit 6 o (Reg.lock p.val) (s.rd (Reg.lock p.val)) (v % 2)).wr (Reg.lock p.val) (v % 2)).remember
        (Reg.lock p.val) (v % 2)) := by
  rw [command_accepted h (ownerPage_lock p) (specAt_lock s o p) (inWindow_of_pageAt (pageAt_header p (by decide))) (lock_ne_door p),
    mirrorOut_lock (lockWord_lock p)]
  simp only [State.writeWord, lockWord_lock p, if_true]

theorem irqs_accepted (p : Fin 41) (h : s.Accepts o (Reg.irqs p.val) v) :
    s.command o (Reg.irqs p.val) v = (s.mirrorOut o p.val (Reg.irqs p.val) v).wr (Reg.irqr p.val)
      (Nat.land (s.rd (Reg.irqr p.val)) (0xFFFFFFFF - Nat.land v (kindOf p.val).irqMask)) := by
  rw [Reg.irqs, header_accepted p (by decide) rfl h]
  simp [State.writeWord, lockWord_header p, Reg.ctrl, Reg.irqe, Reg.irqs]

theorem erra_accepted (p : Fin 41) (h : s.Accepts o (Reg.erra p.val) v) (hvalid : bitOf v 31 = true) :
    s.command o (Reg.erra p.val) v = (s.mirrorOut o p.val (Reg.erra p.val) v).wr (Reg.erra p.val) 0 := by
  rw [Reg.erra, header_accepted p (by decide) rfl h]
  simp [State.writeWord, lockWord_header p, Reg.ctrl, Reg.irqe, Reg.irqs, Reg.erra, hvalid]

theorem commit_accepted (p : Fin 41) (h : s.Accepts o (Reg.commit p.val) v) :
    s.command o (Reg.commit p.val) v = (s.mirrorOut o p.val (Reg.commit p.val) v).writeCommit p.val v := by
  rw [Reg.commit, header_accepted p (by decide) rfl h]
  simp [State.writeWord, lockWord_header p, Reg.ctrl, Reg.irqe, Reg.irqs, Reg.erra, Reg.commit]

/-- GO pends (R45). -/
theorem writeCommit_go (s : State) (p : Nat) :
    s.writeCommit p 1 = (let u := s.setOn (cpend p) true; if !u.ens p || u.promptPage p then u.applyCommit p else u) := by
  simp [State.writeCommit, bitOf]

/-- DISCARD ends shadow and claim (R45). -/
theorem writeCommit_discard (s : State) (p : Nat) : s.writeCommit p 2 = s.dropShadow p := by
  simp [State.writeCommit, bitOf]

end Sys2Proof.Machine
end

section
/-! Register access: the commands of the common header and of COMMIT complete (R38, R45, R51, R54). -/

namespace Sys2Proof.Machine
variable {s : State} {o : Origin} {p a v : Nat} {w : WordSpec}

/-- A pending commit leaves every EN (R36, R45). -/
@[simp] theorem ens_setOn_cpend (s : State) (p q : Nat) (b : Bool) : (s.setOn (cpend p) b).ens q = s.ens q := by
  have h := get_put_other s (f := cpend p) (g := Fld.ens q) (show 1 + 1 ≤ 32 by decide) (.inr (.inr (show 0 + 1 ≤ 1 by decide))) (bitNat b)
  unfold State.ens State.on State.setOn
  rw [h]

@[simp] theorem promptPage_setOn_cpend (s : State) (p q : Nat) (b : Bool) : (s.setOn (cpend p) b).promptPage q = s.promptPage q := by
  simp [State.promptPage]

@[simp] theorem mirrorOut_ens (s : State) (o : Origin) (p a v q : Nat) : (s.mirrorOut o p a v).ens q = s.ens q := mirrorOut_on s o p a v _

@[simp] theorem mirrorOut_promptPage (s : State) (o : Origin) (p a v q : Nat) : (s.mirrorOut o p a v).promptPage q = s.promptPage q := by
  simp [State.promptPage]

/-- A GO on a page that waits for its boundary pends (R45). -/
theorem commitGo_pends (p : Fin 41) (h : s.Accepts o (Reg.commit p.val) 1) (hens : s.ens p.val = true) (hwait : s.promptPage p.val = false) :
    s.command o (Reg.commit p.val) 1 = (s.mirrorOut o p.val (Reg.commit p.val) 1).setOn (cpend p.val) true := by
  simp [commit_accepted p h, writeCommit_go, hens, hwait]

/-- Settles O15: each command is the write of its header word. -/
theorem headerCommandsComplete : Obligations.HeaderCommandsComplete := by
  unfold Obligations.HeaderCommandsComplete
  refine ⟨fun s o p h => ?_, fun s o p h => ?_, fun s o p bits h => ?_, fun s o p h => ?_, fun s o p h hens hwait => ?_,
    fun s o p h hnow => ?_, fun s o p h => ?_⟩
  · exact congrArg done (lock_accepted p h)
  · exact congrArg done (lock_accepted p h)
  · exact congrArg done (irqs_accepted p h)
  · exact congrArg done (erra_accepted p h (by decide))
  · exact congrArg done (commitGo_pends p h hens hwait)
  · refine congrArg done ?_
    rw [commit_accepted p h, writeCommit_go]
    exact if_pos (by simpa using hnow)
  · exact congrArg done ((commit_accepted p h).trans (writeCommit_discard _ _))
end Sys2Proof.Machine
end

section
/-! Register access: what the short commands leave unchanged (R33, R34, R594, R716). -/

namespace Sys2Proof.Machine
variable {s t : State} {o : Origin} {p a v : Nat} {w : WordSpec}

/-! ### What register access leaves -/

/-- An update of registers, access state, records, outbox and pins leaves everything else. -/
theorem sameBlocks_of_access (s : State) (r : List (Nat × Word)) (c : AccessState) (e : RecorderState) (x : List Out) (y : Pins) :
    s.SameBlocks { s with regs := r, acc := c, evr := e, outbox := x, pins := y } where
  pending := rfl
  free := rfl
  svc := rfl
  faults := ⟨rfl, rfl, rfl, rfl⟩
  converter := ⟨rfl, rfl, rfl⟩
  clocks := ⟨rfl, rfl⟩
  cells := ⟨rfl, rfl, rfl, rfl, rfl, rfl⟩
  safety := ⟨rfl, rfl⟩
  links := ⟨rfl, rfl, rfl, rfl⟩
  support := ⟨rfl, rfl, rfl⟩

/-- A frame of the TWIN lane moves that lane's counter, or does not leave at all (R482, R484). -/
theorem sendTwin_counter (s : State) (k : Nat) (b : List Byte) :
    ∃ f x, s.sendTwin k b = { s with fab := f, outbox := x } ∧ (f = s.fab ∨ ∃ c, f = (s.modLane 4 (fun l => { l with txCtr := c })).fab) := by
  unfold State.sendTwin
  split
  · exact ⟨s.fab, s.outbox, rfl, .inl rfl⟩
  · exact ⟨_, _, rfl, .inr ⟨_, rfl⟩⟩

theorem mirrorOut_counter (s : State) (o : Origin) (p a v : Nat) :
    ∃ f x, s.mirrorOut o p a v = { s with fab := f, outbox := x } ∧ (f = s.fab ∨ ∃ c, f = (s.modLane 4 (fun l => { l with txCtr := c })).fab) := by
  unfold State.mirrorOut
  split
  · exact sendTwin_counter s _ _
  · exact ⟨s.fab, s.outbox, rfl, .inl rfl⟩

/-- What leaves the blocks of a mirrored write alone leaves those before it, the counter of the TWIN lane apart (R594). -/
theorem sameButMirror_of (h : (s.mirrorOut o p a v).SameBlocks t) : s.SameButMirror t := by
  obtain ⟨f, x, hmirror, hf⟩ := mirrorOut_counter s o p a v
  rw [hmirror] at h
  obtain ⟨hlinks, hdsp, hcan, htwn⟩ := h.links
  refine ⟨by rwa [hlinks], ?_⟩
  exact ⟨h.pending, h.free, h.svc, h.faults, h.converter, h.clocks, h.cells, h.safety, ⟨rfl, hdsp, hcan, htwn⟩, h.support⟩

/-! ### Reads -/

theorem makeLatches_frame (s : State) (o : Origin) (p a : Nat) : ∃ c, s.makeLatches o p a = { s with acc := c } := by
  unfold State.makeLatches
  dsimp only
  split_ifs <;> exact ⟨_, rfl⟩

/-- A read that takes no word of a queue changes the latches alone (R34, R159, R552, R566). -/
theorem readWord_frame (s : State) (o : Origin) (p : Nat) (hqueue : queDataAt a = none) :
    ∃ c, (s.readWord o p a).2 = { s with acc := c } := by
  unfold State.readWord
  rw [hqueue]
  cases s.latchAt o a with
  | none => exact makeLatches_frame s o p a
  | some l => dsimp only; split_ifs <;> exact ⟨_, rfl⟩

theorem readBy_frame (hverdict : s.readVerdict o a = 0) (hqueue : queDataAt a = none) :
    ∃ c x, s.readBy o a = { s with acc := c, outbox := x } := by
  obtain ⟨c, hc⟩ := readWord_frame s o ((ownerPage a).getD Pg.DEV) hqueue
  simp only [State.readBy, State.busRead, hverdict, ne_eq, not_true_eq_false, if_false, true_or, if_true, hc]
  exact ⟨_, _, rfl⟩

/-! ### The frames of the short commands -/

theorem lock_frame (p : Fin 41) (h : s.Accepts o (Reg.lock p.val) v) :
    s.SameBlocks (settle (s.command o (Reg.lock p.val) v)) ∧
      ∀ b, b ≠ Reg.lock p.val → (settle (s.command o (Reg.lock p.val) v)).word b = s.word b := by
  rw [lock_accepted p h]
  split_ifs
  · exact ⟨sameBlocks_of_access s _ _ _ _ _, fun b hb => word_setWord_ne _ hb.symm _⟩
  · exact ⟨sameBlocks_of_access s _ _ _ _ _, fun b hb => word_setWord_ne _ hb.symm _⟩

/-- A mirrored write of one word leaves the blocks and every other word. -/
theorem mirrored_write_frame (s : State) (o : Origin) (p a v b n : Nat) :
    s.SameButMirror (settle ((s.mirrorOut o p a v).wr b n)) ∧
      ∀ c, c ≠ b → (settle ((s.mirrorOut o p a v).wr b n)).word c = s.word c := by
  refine ⟨sameButMirror_of (sameBlocks_of_access (s.mirrorOut o p a v) _ _ _ _ _), fun c hc => ?_⟩
  rw [word_settle]
  exact (word_setWord_ne _ hc.symm _).trans (mirrorOut_word s o p a v c)

/-- An instruction that takes the instruction register changes DBG_JTAG and the TAP (R716). -/
theorem setIr_frame (s : State) (code : Nat) (x : DbgState) (y : List Out) :
    s.SameBlocks { settle { s.setIr code with dbg := x, outbox := y } with dbg := s.dbg } ∧
      ∀ b, b ≠ Fld.DBG_JTAG_IR.addr → (settle { s.setIr code with dbg := x, outbox := y }).word b = s.word b :=
  ⟨sameBlocks_of_access s _ _ _ _ _, fun _ hb => word_setWord_ne s.tapActive hb.symm _⟩

/-- Settles O14. -/
theorem accessFrames : Obligations.AccessFrames := by
  unfold Obligations.AccessFrames
  refine ⟨fun s t o p h ht => ?_, fun s t o p h ht => ?_, fun s t o p bits h ht => ?_, fun s t o p h ht => ?_,
    fun s t o p h hens hwait ht => ?_, fun s t o p h ht => ?_, fun s t o a hverdict hqueue ht => ?_, fun s t ht => ?_⟩
  · obtain rfl := Host.Outcome.next.inj ht
    exact lock_frame p h
  · obtain rfl := Host.Outcome.next.inj ht
    exact lock_frame p h
  · obtain rfl := Host.Outcome.next.inj ht
    rw [irqs_accepted p h]
    exact mirrored_write_frame s o _ _ _ _ _
  · obtain rfl := Host.Outcome.next.inj ht
    rw [erra_accepted p h (by decide)]
    exact mirrored_write_frame s o _ _ _ _ _
  · obtain rfl := Host.Outcome.next.inj ht
    rw [commitGo_pends p h hens hwait]
    exact mirrored_write_frame s o _ _ _ _ _
  · obtain rfl := Host.Outcome.next.inj ht
    rw [commit_accepted p h, writeCommit_discard]
    exact ⟨sameButMirror_of (sameBlocks_of_access _ _ _ _ _ _), mirrorOut_word s o _ _ _⟩
  · obtain rfl := Host.Outcome.next.inj ht
    obtain ⟨c, x, hread⟩ := readBy_frame hverdict hqueue
    rw [hread]
    exact ⟨sameBlocks_of_access s _ _ _ _ _, fun _ => rfl⟩
  · rcases ht with ht | ⟨pattern, ht⟩ | ⟨code, ht⟩ <;> obtain rfl := Host.Outcome.next.inj ht
    · exact setIr_frame s 1 _ _
    · exact setIr_frame s 2 _ _
    · exact setIr_frame s code.toNat _ _
end Sys2Proof.Machine
end

section
/-! Register access: reads, boundaries, commits, lapsed claims and summaries complete (R34, R39, R45, R47, R55). -/

namespace Sys2Proof.Machine
variable {s t : State} {o : Origin} {p a v : Nat} {w : WordSpec}

/-! ### What a read returns -/

/-- An accepted read is answered with the word. -/
theorem readBy_accepted (hverdict : s.readVerdict o a = 0) :
    s.readBy o a = (s.readWord o ((ownerPage a).getD Pg.DEV) a).2.emit (.word o a (s.readWord o ((ownerPage a).getD Pg.DEV) a).1) := by
  simp [State.readBy, State.busRead, hverdict]

/-- A read with no latched copy returns the word as the origin sees it and makes its latches (R33, R34). -/
theorem readBy_unlatched (hverdict : s.readVerdict o a = 0) (howner : ownerPage a = some p) (hqueue : queDataAt a = none)
    (hlatch : s.latchAt o a = none) :
    s.readBy o a = (s.makeLatches o p a).emit (.word o a (BitVec.ofNat 32 (s.shown o p a))) := by
  rw [readBy_accepted hverdict, howner]
  simp [State.readWord, hqueue, hlatch]

theorem queDataAt_queData (q : Fin 4) : queDataAt (Reg.SRQ_QDATA q.val) = some q.val := by revert q; decide

/-- A read of a queue's data word takes the queue's next word (R151). -/
theorem readBy_queueData (q : Fin 4) (hverdict : s.readVerdict o (Reg.SRQ_QDATA q.val) = 0) :
    s.readBy o (Reg.SRQ_QDATA q.val) = (s.queueRead q.val).2.emit (.word o (Reg.SRQ_QDATA q.val) (s.queueRead q.val).1) := by
  rw [readBy_accepted hverdict]
  simp [State.readWord, queDataAt_queData]

/-! ### Where the words with latches lie (R31, R32) -/

/-- An address in a gap between the pages lies on none. -/
theorem pageAt_eq_none_of_gap {lo hi : Nat} (hgap : ∀ b ∈ pageBases, b < lo ∨ hi ≤ b) (hlo : lo % 0x1000 = 0) (h1 : lo ≤ a) (h2 : a < hi) :
    pageAt a = none := by
  rw [pageAt, List.findIdx?_eq_none_iff]
  intro b hb
  rcases hgap b hb with h | h
  · simp only [beq_eq_false_iff_ne]; omega
  · simp only [beq_eq_false_iff_ne]; omega

theorem ownerPage_cellWindow (h1 : 0x20000 ≤ a) (h2 : a < 0x50000) : ownerPage a = some Pg.SRQ := by
  simp [ownerPage, pageAt_eq_none_of_gap (lo := 0x20000) (hi := 0x50000) (by decide) rfl h1 h2, h1, h2]

theorem pageAt_canWindow (h1 : 0xA8000 ≤ a) (h2 : a < 0xAC000) : pageAt a = none :=
  pageAt_eq_none_of_gap (lo := 0xA8000) (hi := 0xAC000) (by decide) rfl h1 h2

/-- The words of a CAN controller's objects belong to its page (R563). -/
theorem ownerPage_objAddr (x : Fin 2) (n : Fin 128) (k : Fin 16) : ownerPage (objAddr x.val n.val k.val) = some (Pg.CNA + x.val) := by
  have hn := n.isLt
  have hk := k.isLt
  unfold objAddr
  rw [ownerPage, pageAt_canWindow (by omega) (by omega)]
  fin_cases x
  · simp only [Pg.CNA]
    rw [if_neg (by omega), if_neg (by omega), if_neg (by omega), if_pos (by omega)]
  · simp only [Pg.CNB, Pg.CNA]
    rw [if_neg (by omega), if_neg (by omega), if_neg (by omega), if_neg (by omega), if_pos (by omega)]

theorem queDataAt_eq_none (h : a < 0x14000 ∨ 0x15000 ≤ a) : queDataAt a = none := by
  rw [queDataAt, List.find?_eq_none]
  intro q hq
  have hlt := List.mem_range.mp hq
  simp only [Reg.SRQ_QDATA, beq_iff_eq]
  omega

/-- The words whose reads latch a time lie on the TIM page (R552). -/
theorem ownerPage_timeReadAddr (k : TimeRead) : ownerPage (timeReadAddr k) = some Pg.TIM := by
  cases k with
  | plant => rfl
  | p0 => rfl
  | domain d => revert d; decide

theorem timeReadAddr_ge (k : TimeRead) : 0x90000 ≤ timeReadAddr k := by
  cases k with
  | plant => decide
  | p0 => decide
  | domain d => revert d; decide

/-- Settles O17. -/
theorem readsComplete : Obligations.ReadsComplete := by
  unfold Obligations.ReadsComplete
  refine ⟨fun s o a p hverdict howner hqueue hlatch => ?_, fun s o q hverdict => ?_, fun s o e hverdict hlatch => ?_,
    fun s o x n hverdict hlatch => ?_, fun s o k hverdict hlatch => ?_⟩
  · exact congrArg done (readBy_unlatched hverdict howner hqueue hlatch)
  · exact congrArg done (readBy_queueData q hverdict)
  · exact congrArg done (readBy_unlatched hverdict (ownerPage_cellWindow (by omega) (by omega)) (queDataAt_eq_none (by omega)) hlatch)
  · exact congrArg done (readBy_unlatched hverdict (ownerPage_objAddr x n 3) (queDataAt_eq_none (by unfold objAddr; omega)) hlatch)
  · exact congrArg done (readBy_unlatched hverdict (ownerPage_timeReadAddr k)
      (queDataAt_eq_none (.inr (le_trans (by decide) (timeReadAddr_ge k)))) hlatch)

/-! ### Boundaries, commits, claims and runs -/

/-- An event of a block acts while its domain runs. -/
theorem event_up {d : Nat} (h : s.Up d) (f : State → State) : done (s.upIn d f) = .next (settle (f s)) := by
  rw [upIn_of h]; rfl

theorem boundaryOf_of_not_can (hA : p ≠ Pg.CNA) (hB : p ≠ Pg.CNB) (q : Nat) : s.boundaryOf p q = s.boundary_ p q := by
  simp [State.boundaryOf, hA, hB]

/-- At the boundary of a CAN page arbitration starts (R39, R573). -/
theorem boundaryOf_can (x : Fin 2) (q : Nat) : s.boundaryOf (Pg.CNA + x.val) q = (s.boundary_ (Pg.CNA + x.val) q).canArbitrate x.val := by
  fin_cases x <;> rfl

/-- The end of a run with further rejections makes its summary (R55, R609). -/
theorem runSummary_of_extra {code : Nat} {r : RejectRun}
    (hrun : s.acc.runs.find? (fun r => decide (r.origin = o) && r.code == code && r.addr == a) = some r) (hextra : r.extra ≠ 0) :
    s.runSummary code o a = { s with acc := { s.acc with runs := s.acc.runs.filter (fun x =>
        !(decide (x.origin = o) && x.code == code && x.addr == a)) } }.raiseRec
      ⟨3, 6, (ownerPage a).getD 0xFF, 1, beBytes 4 r.extra ++ beBytes 2 code ++ beBytes 1 (originCode o) ++ beBytes 1 0 ++
        beBytes 2 (originNode o) ++ beBytes 4 a ++ beBytes 4 r.seq, none⟩ := by
  unfold State.runSummary
  rw [hrun]
  exact if_neg hextra

/-- Settles O16. -/
theorem boundaryEventsComplete : Obligations.BoundaryEventsComplete := by
  unfold Obligations.BoundaryEventsComplete
  refine ⟨fun s p q hup hA hB => ?_, fun s x q hup => ?_, fun s p hup hpend => ?_, fun s p o hup hclaim hpend => ?_,
    fun s o code a r hup hrun hextra => ?_⟩
  · refine (event_up hup _).trans ?_
    rw [boundaryOf_of_not_can hA hB]
    rfl
  · have hdomain : pageDomain (Pg.CNA + x.val) = 8 := by revert x; decide
    refine (event_up (hdomain ▸ hup) _).trans ?_
    rw [boundaryOf_can]
  · refine (event_up hup _).trans ?_
    simp only [State.commitDue, hpend, if_true]
  · refine (event_up hup _).trans ?_
    simp [State.claimLapses, hclaim, hpend]
  · refine (event_up hup _).trans ?_
    rw [runSummary_of_extra hrun hextra]
end Sys2Proof.Machine
end

section
/-! Register access: what a rejected write leaves, and what an accepted write of a live or frozen word stores (R39, R54, R642). -/

namespace Sys2Proof.Machine
variable {s t : State} {o : Origin} {p a v : Nat} {w : WordSpec}

/-! ### Rejected writes -/

/-- ERRA holds what a rejection notes: VALID, the code, the origin, WR and the offset (R54). -/
theorem word_reject_erra (s : State) (code : Nat) (o : Origin) (wr : Bool) (a v : Nat) (h : s.domUp 2 = true) :
    (s.reject code o wr a v).word (Reg.erra ((ownerPage a).getD Pg.DEV)) =
      BitVec.ofNat 32 (2 ^ 31 + code * 2 ^ 27 + originCode o * 2 ^ 24 + bitNat wr * 2 ^ 23 + a % 4096) := by
  unfold State.reject State.rejectAt
  rw [if_pos h]
  split_ifs
  · rw [word_auditReject]; exact word_setWord_same s _ _
  · exact word_setWord_same s _ _

/-- Settles O8: a write that fails a check is its rejection and nothing else. -/
theorem rejectedWriteLeavesRegisters : Obligations.RejectedWriteLeavesRegisters := by
  unfold Obligations.RejectedWriteLeavesRegisters
  intro s o a v hup hverdict
  refine ⟨_, exec_registerWrite_rejected hverdict, ?_, fun b hb => word_reject_ne s _ o true _ _ hb⟩
  unfold State.rd
  rw [word_settle, word_reject_erra s _ o true _ _ hup]
  simp [bitNat]

/-! ### Accepted writes of live and frozen words -/

/-- A write that is accepted on a page is mirrored and written. -/
theorem busCommand_accepted (h : s.Accepts o a v) (hp : pageAt a = some p) (hw : s.specAt o p a = some w) (hdoor : a ≠ Reg.HST_SDOOR) :
    s.busCommand o a v = (s.mirrorOut o p a v).writeWord false o p a v w := by
  have hverdict : s.writeVerdict o a v = 0 := h
  simp [State.busCommand, State.busWriteBy, State.writeOne_, windowChange, hverdict, ownerPage_of_pageAt hp, hw,
    inWindow_of_pageAt hp, hdoor, State.auditMany]

/-- A word of a page lies in the 4 KiB from the page's base (R31). -/
theorem pageAt_region (h : pageAt a = some p) : a / 0x1000 * 0x1000 = Reg.base p := by
  rw [pageAt, List.findIdx?_eq_some_iff_getElem] at h
  obtain ⟨hlt, hbase, -⟩ := h
  simp only [beq_iff_eq] at hbase
  rw [hbase, Reg.base, List.getD_eq_getElem?_getD, List.getElem?_eq_getElem hlt]
  rfl

/-- A block register is no header word (R35). -/
theorem ne_header_of_block (h : pageAt a = some p) (hoff : 0x40 ≤ a % 0x1000) {k : Nat} (hk : k < 0x40) : a ≠ Reg.base p + k := by
  have hregion := pageAt_region h
  omega

theorem lockWord_of_block (hoff : 0x40 ≤ a % 0x1000) : lockWord a = false := by
  have : a % 0x1000 ≠ 0x20 := by omega
  simp [lockWord, this]

/-- A live or frozen block register is written as `writeLive` says (R39, R42). -/
theorem writeWord_live (hp : pageAt a = some p) (hoff : 0x40 ≤ a % 0x1000) (hacc : w.acc = .rw) (hcls : w.cls ≠ .shadow) (atOnce : Bool) :
    s.writeWord atOnce o p a v w = (s.writeLive o p a v w).keyClears o p a v := by
  have hctrl : a ≠ Reg.ctrl p := ne_header_of_block hp hoff (k := 8) (by decide)
  have hirqe : a ≠ Reg.irqe p := ne_header_of_block hp hoff (k := 20) (by decide)
  have hirqs : a ≠ Reg.irqs p := ne_header_of_block hp hoff (k := 24) (by decide)
  have herra : a ≠ Reg.erra p := ne_header_of_block hp hoff (k := 36) (by decide)
  have hcommit : a ≠ Reg.commit p := ne_header_of_block hp hoff (k := 28) (by decide)
  simp [State.writeWord, lockWord_of_block hoff, hctrl, hirqe, hirqs, herra, hcommit, hacc, hcls]

/-- The pages of this statement whose words have no effect beyond their value (R39). -/
def plainPages : List Nat := [Pg.EST, Pg.BAL, Pg.THM, Pg.PWM, Pg.LPE, Pg.ISO, Pg.SRQ]

/-- No block acts on a new value of a plain page's word. -/
theorem afterWrite_plain (hp : pageAt a = some p) (hplain : p ∈ plainPages) (old : Nat) : s.afterWrite p a old = s := by
  have hzsel : a ≠ Reg.CHM_ZSEL := by
    rintro rfl
    obtain rfl : Pg.CHM = p := Option.some.inj ((show pageAt Reg.CHM_ZSEL = some Pg.CHM by decide).symm.trans hp)
    exact absurd hplain (by decide)
  have hpage : p ≠ Pg.TMX ∧ p ≠ Pg.ADC ∧ p ≠ Pg.TPO ∧ p ≠ Pg.CNA ∧ p ≠ Pg.CNB ∧ p ≠ Pg.PRT ∧ p ≠ Pg.TIM ∧ ¬ (25 ≤ p ∧ p ≤ 29) := by
    revert hplain; clear hp hzsel; revert p; decide
  obtain ⟨h1, h2, h3, h4, h5, h6, h7, h8⟩ := hpage
  have h9 : ¬ (25 ≤ p ∧ p ≤ 29 ∧ a % 0x1000 = 0x50) := fun h => h8 ⟨h.1, h.2.1⟩
  simp [State.afterWrite, hp, h1, h2, h3, h4, h5, h6, h7, h9, hzsel]

theorem keyClears_of_not_lane (h : ¬ (25 ≤ p ∧ p ≤ 29)) : s.keyClears o p a v = s := by
  have : ¬ (25 ≤ p ∧ p ≤ 29 ∧ a % 0x1000 = 0x50) := fun h' => h ⟨h'.1, h'.2.1⟩
  simp [State.keyClears, this]

/-- A comparator that does not stand asserted is left as it is (R382). -/
theorem comparatorIdle_of_low {n : Nat} (h : s.on (Fld.PRT_CMPSTAT_LEVEL n) = false) : s.comparatorIdle n = s := by
  simp [State.comparatorIdle, h]

/-- An update that does nothing at any index does nothing at all. -/
theorem each_eq_self {n : Nat} {f : State → Nat → State} (h : ∀ k < n, f s k = s) : s.each n f = s := by
  have hmem : ∀ k ∈ List.range n, f s k = s := fun k hk => h k (List.mem_range.mp hk)
  unfold State.each
  generalize List.range n = l at hmem
  induction l with
  | nil => rfl
  | cons k l ih =>
    rw [List.foldl_cons, hmem k List.mem_cons_self]
    exact ih fun j hj => hmem j (List.mem_cons_of_mem k hj)

/-- A new setup word leaves comparators that stand low (R382). -/
theorem afterWrite_prt (hp : pageAt a = some Pg.PRT) (old : Nat)
    (hlow : ∀ n < 12, a = Reg.PRT_CMPCFG n → s.on (Fld.PRT_CMPSTAT_LEVEL n) = false) : s.afterWrite Pg.PRT a old = s := by
  have hstep : s.each 12 (fun s n => if a = Reg.PRT_CMPCFG n then s.comparatorIdle n else s) = s := by
    refine each_eq_self fun n hn => ?_
    split_ifs with ha
    · exact comparatorIdle_of_low (hlow n hn ha)
    · rfl
  simpa [State.afterWrite, hp, Pg.PRT, Pg.TMX, Pg.ADC, Pg.TPO, Pg.CNA, Pg.CNB] using hstep

/-- The word that `writeLive` stores over the present one. -/
def State.newWord (s : State) (w : WordSpec) (a v : Nat) : Nat := s.storedOver w a (s.rd a) v

/-- A live word that acts now, and whose value no block acts on, takes its value, enters the stored configuration and overtakes what
waits (R39, R48, R642). -/
theorem writeLive_now (hserves : w.serves = false) (hnow : s.actsNow p w = true)
    (hafter : ∀ u : State, u.regs = (s.wr a (s.newWord w a v)).regs → u.afterWrite p a (s.rd a) = u) :
    ∃ e l, s.writeLive o p a v w = { s.wr a (s.newWord w a v) with
      evr := e, acc := { s.acc with stored := smInsert a (BitVec.ofNat 32 (s.newWord w a v)) s.acc.stored, pendL := l } } := by
  unfold State.writeLive
  dsimp only
  rw [hserves]
  simp only [Bool.false_eq_true, if_false]
  rw [if_pos (by split_ifs <;> exact hnow)]
  split_ifs <;> exact ⟨_, _, hafter _ rfl⟩

/-! ### The pages whose words only hold their value -/

@[simp] theorem mirrorOut_storedOver (s : State) (o : Origin) (p a v : Nat) (w : WordSpec) (b old n : Nat) :
    (s.mirrorOut o p a v).storedOver w b old n = s.storedOver w b old n := by
  obtain ⟨l, x, h⟩ := mirrorOut_frame s o p a v; rw [h]; rfl

@[simp] theorem mirrorOut_newWord (s : State) (o : Origin) (p a v : Nat) (w : WordSpec) (b n : Nat) :
    (s.mirrorOut o p a v).newWord w b n = s.newWord w b n := by simp [State.newWord]

@[simp] theorem mirrorOut_actsNow (s : State) (o : Origin) (p a v : Nat) (w : WordSpec) (q : Nat) :
    (s.mirrorOut o p a v).actsNow q w = s.actsNow q w := by simp [State.actsNow]

/-- The setup and the status of a comparator are different words. -/
theorem cmpstat_ne_cmpcfg (n m : Nat) : Reg.PRT_CMPCFG n ≠ Reg.PRT_CMPSTAT m := by
  unfold Reg.PRT_CMPCFG Reg.PRT_CMPSTAT; omega

/-- No block acts on the new value when the word lies on a plain page, or when it is no setup of an asserted comparator (R382). -/
theorem afterWrite_quiet {n : Nat} (u : State) (hregs : u.regs = (s.wr a n).regs) (hp : pageAt a = some p)
    (hpage : p ∈ Pg.PRT :: plainPages)
    (hlow : ∀ n < 12, a = Reg.PRT_CMPCFG n → s.on (Fld.PRT_CMPSTAT_LEVEL n) = false) (old : Nat) : u.afterWrite p a old = u := by
  rcases List.mem_cons.mp hpage with rfl | hplain
  · refine afterWrite_prt hp old fun k hk ha => ?_
    rw [← hlow k hk ha]
    have hrd : u.rd (Reg.PRT_CMPSTAT k) = s.rd (Reg.PRT_CMPSTAT k) := by
      rw [State.rd, State.word, hregs]
      exact rd_wr_ne s (ha ▸ cmpstat_ne_cmpcfg k k) n
    simp [State.on, State.get, Fld.PRT_CMPSTAT_LEVEL, hrd]
  · exact afterWrite_plain hp hplain old

theorem quiet_pages (h : [Pg.EST, Pg.BAL, Pg.THM, Pg.PWM, Pg.LPE, Pg.PRT, Pg.ISO, Pg.SRQ].contains p = true) :
    p ∈ Pg.PRT :: plainPages ∧ p ≠ Pg.HST ∧ ¬ (25 ≤ p ∧ p ≤ 29) := by
  have hmem := List.contains_iff_mem.mp h
  clear h; revert hmem; revert p; decide

/-- A write of a live word on one of these pages: the word takes its value and enters the stored configuration (R39, R642). -/
theorem busCommand_stores (hmem : p ∈ Pg.PRT :: plainPages) (hhst : p ≠ Pg.HST) (hlane : ¬ (25 ≤ p ∧ p ≤ 29))
    (hp : pageAt a = some p) (hoff : 0x40 ≤ a % 0x1000) (hw : s.specAt o p a = some w) (hacc : w.acc = .rw)
    (hcls : w.cls ≠ .shadow) (hserves : w.serves = false) (haccept : s.Accepts o a v) (hnow : s.actsNow p w = true)
    (hlow : ∀ n < 12, a = Reg.PRT_CMPCFG n → s.on (Fld.PRT_CMPSTAT_LEVEL n) = false) :
    ∃ e l, s.busCommand o a v = { (s.mirrorOut o p a v).wr a (s.newWord w a v) with
      evr := e, acc := { s.acc with stored := smInsert a (BitVec.ofNat 32 (s.newWord w a v)) s.acc.stored, pendL := l } } := by
  have hdoor : a ≠ Reg.HST_SDOOR := by
    rintro rfl
    exact hhst (Option.some.inj (hp.symm.trans (show pageAt Reg.HST_SDOOR = some Pg.HST by decide)))
  have hlow' : ∀ n < 12, a = Reg.PRT_CMPCFG n → (s.mirrorOut o p a v).on (Fld.PRT_CMPSTAT_LEVEL n) = false :=
    fun n hn ha => by rw [mirrorOut_on]; exact hlow n hn ha
  rw [busCommand_accepted haccept hp hw hdoor, writeWord_live hp hoff hacc hcls, keyClears_of_not_lane hlane]
  obtain ⟨e, l, hlive⟩ := writeLive_now (s := s.mirrorOut o p a v) (o := o) (p := p) (a := a) (v := v) hserves
    (by rw [mirrorOut_actsNow]; exact hnow) fun u hu => afterWrite_quiet u hu hp hmem hlow' _
  refine ⟨e, l, ?_⟩
  rw [hlive, mirrorOut_newWord, mirrorOut_acc]

/-- Settles O9. -/
theorem registerWriteStores : Obligations.RegisterWriteStores := by
  unfold Obligations.RegisterWriteStores
  refine ⟨fun s o a v p w hpage hp hoff hw hacc hcls hserves haccept hnow hlow => ?_, fun s n hen hlevel => ?_⟩
  · obtain ⟨hmem, hhst, hlane⟩ := quiet_pages hpage
    obtain ⟨e, l, hwrite⟩ := busCommand_stores hmem hhst hlane hp hoff hw hacc hcls hserves haccept hnow hlow
    refine ⟨_, exec_registerWrite s o a v, ?_⟩
    rw [hwrite]
    exact ⟨rd_wr_same _ _ _, fun b hb => (word_setWord_ne _ hb.symm _).trans (mirrorOut_word s o _ _ _ b), rfl⟩
  · simp [State.comparatorIdle, hen, hlevel]
end Sys2Proof.Machine
end

section
/-! Every step: the front command or a cycle of the TIME clock, the lines that follow it, the register space and the reset state. -/

namespace Sys2Proof.Machine

variable {s t : State}

/-! ### What every step ends in -/

/-- Every command is an effect, after which the lines follow (log 3). -/
theorem exec_eq_done (c : Instr) (s : State) : ∃ u, exec c s = done u := by
  cases c <;> exact ⟨_, rfl⟩

/-- With no command waiting a step is a cycle of the TIME clock while its domain runs (log 3). -/
theorem step_of_pending_nil (h : s.pending = []) : step s = done (if s.domUp 3 then s.timeTick else s) := by
  simp only [step, h]

/-- Settles O1: this is the step's second branch. -/
theorem stepRunsFrontCommand : Obligations.StepRunsFrontCommand := by
  unfold Obligations.StepRunsFrontCommand
  intro s c rest h
  simp only [step, h]

/-- Every step is an effect, after which the lines follow. -/
theorem step_eq_done (s : State) : ∃ u, step s = done u := by
  cases h : s.pending with
  | nil => exact ⟨_, step_of_pending_nil h⟩
  | cons c rest =>
    rw [stepRunsFrontCommand s c rest h]
    exact exec_eq_done c _

/-- Settles O3: no command answers but with a next state, so no run of any length stops. -/
theorem everyStepGoesOn : Obligations.EveryStepGoesOn := by
  unfold Obligations.EveryStepGoesOn
  refine ⟨fun c s => ?_, fun k => ?_⟩
  · obtain ⟨u, hu⟩ := exec_eq_done c s
    exact ⟨settle u, hu⟩
  · induction k with
    | zero => exact fun _ => trivial
    | succ k ih =>
      intro s
      obtain ⟨u, hu⟩ := step_eq_done s
      exact ⟨settle u, hu, ih _⟩

/-- The state after a step is a settled one. -/
theorem settled_of_step (h : step s = .next t) : ∃ u, t = settle u := by
  obtain ⟨u, hu⟩ := step_eq_done s
  exact ⟨u, Host.Outcome.next.inj (h.symm.trans hu)⟩

/-! ### The lines of a settled state

No output that follows the state depends on the pins, so settling brings every line up to date. -/

theorem linesFollow_settle (u : State) : (settle u).LinesFollow := ⟨rfl, rfl, rfl, rfl, rfl, rfl, rfl⟩

theorem linesFollow_of_step (h : step s = .next t) : t.LinesFollow := by
  obtain ⟨u, rfl⟩ := settled_of_step h
  exact linesFollow_settle u

/-- IRQ_N is asserted exactly while a page with its mask bit set has a non-zero IRQS (R62). -/
theorem irqLine_iff (s : State) :
    s.irqLine = true ↔ ∃ p : Nat, p < 41 ∧ s.irqMasked p = true ∧ Nat.land (s.rd (Reg.irqr p)) (s.rd (Reg.irqe p)) ≠ 0 := by
  simp [State.irqLine, State.irqs]

/-- Settles O4: every step ends in `settle`, which brings the lines up to date. -/
theorem linesFollowEveryStep : Obligations.LinesFollowEveryStep := by
  unfold Obligations.LinesFollowEveryStep
  refine ⟨fun s t h => linesFollow_of_step h, fun s t h => ?_⟩
  rw [(linesFollow_of_step h).irq]
  exact irqLine_iff t

/-- Settles O5: the PWM outputs follow the state, and none carries pulses in these states (R291, R584, R651). -/
theorem snareSilencesConverter : Obligations.SnareSilencesConverter := by
  unfold Obligations.SnareSilencesConverter
  intro s t h hsilent
  unfold State.quiet
  rw [(linesFollow_of_step h).pwm]
  unfold State.pwmDriven
  rw [if_pos]
  rcases hsilent with hsnare | hvio | howns
  · simp [hsnare]
  · simp [hvio]
  · simp [howns]

/-- Settles O7: the laws of words and fields, one for each clause. -/
theorem registerSpaceLaws : Obligations.RegisterSpaceLaws := by
  unfold Obligations.RegisterSpaceLaws
  refine ⟨fun s a b w => ?_, fun s a w h => regsWf_setWord s h a w,
    fun s f g v h => ⟨get_put_same s h v, fun hd => get_put_other s h hd v⟩⟩
  by_cases h : a = b
  · rw [if_pos h, ← h, word_setWord_same]
  · rw [if_neg h, word_setWord_ne s h]

/-- At reset every word reads its reset value. -/
theorem word_reset (a : Nat) : State.reset.word a = resetWord a := rfl

theorem linesFollow_reset : State.reset.LinesFollow := by
  constructor <;> decide

/-- Settles O6: the reset state is a literal, so each line and register is computed. -/
theorem resetHolds : Obligations.ResetHolds := by
  unfold Obligations.ResetHolds
  exact ⟨rfl, by decide, linesFollow_reset, word_reset, by decide, by decide, by decide, by decide⟩

/-! ### A cycle of the TIME clock -/

/-- The state after the clocks of a TIME cycle outside a slew, ahead of Chime (R528, R612). -/
def State.clocksTick (s : State) : State :=
  { s with
    tim := { s.tim with d0 := s.tim.d0 + s.domInc 0, d1 := s.tim.d1 + s.domInc 1,
                        pt := s.tim.pt + s.domInc s.activeDom, mono := s.tim.mono + s.domInc s.activeDom }
    evr := { s.evr with opTime := s.evr.opTime + 4 * nsUnit } }

/-- Outside a slew a TIME cycle moves the clocks by their increments, and Chime behind them (R165, R528). -/
theorem timeTick_of_not_slewing (h : s.on Fld.TIM_STATE_SLEWING = false) :
    s.timeTick = if s.domUp 2 then s.clocksTick.chmAdvance s.clocksTick.nowNat else s.clocksTick := by
  have h' : ∀ x y, ({ s with tim := x, evr := y } : State).on Fld.TIM_STATE_SLEWING = false := fun _ _ => h
  simp only [State.timeTick, h, h', Bool.not_false, if_true, Bool.false_eq_true, if_false]
  rfl

/-- Settles O2. -/
theorem emptyQueueCountsTime : Obligations.EmptyQueueCountsTime := by
  unfold Obligations.EmptyQueueCountsTime
  refine ⟨fun s hq hup hslew => ?_, fun s now h => ?_, fun s now t0 h hlt => ?_, fun s now t0 h hle => ?_, fun s hq hup => ?_⟩
  · rw [step_of_pending_nil hq, if_pos hup, timeTick_of_not_slewing hslew]
    rfl
  · simp [State.chmAdvance, h]
  · simp [State.chmAdvance, h, hlt]
  · simp [State.chmAdvance, h, hle]
  · rw [step_of_pending_nil hq, hup]; rfl


end Sys2Proof.Machine
end

section
/-! CTRL.EN: the blocks start and stop (R28, R641). -/

namespace Sys2Proof.Machine
variable {s t : State} {o : Origin} {p a v : Nat} {w : WordSpec}

/-! ### Every block starts by the EN of its page (R36, R37) -/

theorem hasCtrl_sr (r : Fin 4) : hasCtrl (Pg.SR r.val) = true := by revert r; decide

theorem hasCtrl_can (x : Fin 2) : hasCtrl (Pg.CNA + x.val) = true := by revert x; decide

/-- Settles O20: the accepted write sets EN, and each page starts its own block. -/
theorem blocksStart : Obligations.BlocksStart := by
  unfold Obligations.BlocksStart
  refine ⟨⟨fun s o r h hoff hfree => ?_, fun s o h hoff hfree => ?_, fun s o h hoff hfree => ?_, fun s o x h hoff hfree => ?_⟩,
    ⟨fun s o h hoff hfree => ?_, fun s o h hoff hfree hens => ?_, fun s o h hoff hfree hens => ?_, fun s o h hoff hfree => ?_⟩,
    fun s o h hoff hfree => ?_, fun s o h hoff hfree => ?_, fun s o h hoff hfree => ?_⟩ <;> refine congrArg done ?_
  · exact (enable_accepted h (hasCtrl_sr r) hoff hfree).trans (pageOn_sr _ r)
  · exact (enable_accepted h (by decide) hoff hfree).trans (pageOn_chm _)
  · exact (enable_accepted h (by decide) hoff hfree).trans (pageOn_est _)
  · exact (enable_accepted h (hasCtrl_can x) hoff hfree).trans (pageOn_can _ x)
  · exact (enable_accepted h (by decide) hoff hfree).trans (pageOn_pwm _)
  · exact (enable_accepted h (by decide) hoff hfree).trans ((pageOn_adc _).trans (by rw [State.adcOn, hens]; rfl))
  · exact (enable_accepted h (by decide) hoff hfree).trans ((pageOn_lpe _).trans (by rw [State.lpeOn, hens]; rfl))
  · exact (enable_accepted h (by decide) hoff hfree).trans (pageOn_iso _)
  · exact (enable_accepted h (by decide) hoff hfree).trans (pageOn_sfi _)
  · exact (enable_accepted h (by decide) hoff hfree).trans (pageOn_scl _)
  · exact (enable_accepted h (by decide) hoff hfree).trans (pageOn_fab _)

/-! ### Every block stops by the EN of its page -/

/-- An accepted CTRL.EN 0 of a block that stands on is one that is not held (R320, R364, R396, R446). -/
theorem enHeld_of_accepts (h : s.Accepts o (Reg.ctrl p) 0) (hp : ownerPage (Reg.ctrl p) = some p) (hon : s.on (Fld.ctrlEn p) = true) :
    s.enHeld p = false := by
  obtain ⟨-, -, q, w, hq, -, hword⟩ := (writeVerdict_eq_iff (by decide) (by decide) (by decide)).mp h
  obtain rfl : p = q := Option.some.inj (hp.symm.trans hq)
  obtain ⟨-, -, -, -, hfrozen, -⟩ := wordVerdict_eq_zero_iff.mp hword
  simp only [State.writesFrozen, Bool.or_eq_false_iff] at hfrozen
  simpa [hon, bitOf] using hfrozen.2

/-- Settles O21: the accepted write clears EN, and each page stops its own block. -/
theorem blocksStop : Obligations.BlocksStop := by
  unfold Obligations.BlocksStop
  refine ⟨⟨fun s o r h hon => ?_, fun s o h hon => ?_, fun s o h hon => ?_, fun s o h hon => ?_, fun s o h hon => ?_,
    fun s o h hon => ?_, fun s o h hon => ?_⟩, fun s o h hon => ⟨?_, ?_⟩, fun s o h hon => ⟨?_, ?_⟩⟩
  · exact congrArg done ((disable_accepted h (hasCtrl_sr r) hon).trans (congrArg State.loadStale (pageOff_sr _ r)))
  · exact congrArg done ((disable_accepted h (by decide) hon).trans (congrArg State.loadStale (pageOff_srq _)))
  · exact congrArg done ((disable_accepted h (by decide) hon).trans (congrArg State.loadStale (pageOff_chm _)))
  · exact congrArg done ((disable_accepted h (by decide) hon).trans (congrArg State.loadStale (pageOff_bal _)))
  · exact congrArg done ((disable_accepted h (by decide) hon).trans (congrArg State.loadStale (pageOff_pwm _)))
  · exact congrArg done ((disable_accepted h (by decide) hon).trans (congrArg State.loadStale (pageOff_lpe _)))
  · exact congrArg done ((disable_accepted h (by decide) hon).trans (congrArg State.loadStale (pageOff_ctk _)))
  · simpa [State.enHeld, Pg.ADC, Pg.LPE, Pg.CTK, Pg.SFI] using enHeld_of_accepts h (by decide) hon
  · exact congrArg done ((disable_accepted h (by decide) hon).trans (congrArg State.loadStale (pageOff_adc _)))
  · simpa [State.enHeld, Pg.ADC, Pg.LPE, Pg.CTK, Pg.SFI] using enHeld_of_accepts h (by decide) hon
  · exact congrArg done ((disable_accepted h (by decide) hon).trans (congrArg State.loadStale (pageOff_sfi _)))

end Sys2Proof.Machine
end

section
/-! The host port, the service buffer, the register services and the string commands complete (R16, R22, R57, R508). -/

namespace Sys2Proof.Machine
variable {s t : State} {o : Origin} {p a v : Nat} {w : WordSpec}

/-! ### Transactions of the host port (R57 to R61) -/

theorem hostUp_of_up (h : s.Up 9) : s.hostUp = true := by
  obtain ⟨hfab, hsys⟩ := h
  simpa [State.hostUp, hfab] using hsys

/-- A request as R57 frames it is carried out and answered. -/
theorem hostTransaction_ok {op count : Byte} {a : Addr} {data : List Word} {crc : Word} (hup : s.Up 9)
    (hok : requestOk op count a data crc = true) :
    s.hostTransaction op count a data crc =
      (let x := s.hostAccess op.toNat count.toNat a.toNat data
       x.2.2.emit (hostResponse x.1.status x.2.1 x.1.data)) := by
  simp [State.hostTransaction, hostUp_of_up hup, State.hostRequest, hok]

/-- Opcodes 0x02 and 0x03 write. -/
theorem hostAccess_write {op count : Nat} (hop : writesOpcode op = true) (hcount : count ≤ 63) (a : Nat) (data : List Word) :
    s.hostAccess op count a data =
      (let x := s.writeBurst hostDoor .host a (op == 3) data; (⟨accessStatus x.2.1, []⟩, x.1, x.2.2)) := by
  have h0E : op ≠ 0x0E := by rintro rfl; simp [writesOpcode] at hop
  simp [State.hostAccess, hop, Nat.not_lt.2 hcount, h0E]

/-- Opcodes 0x0B and 0x0C read. -/
theorem hostAccess_read {op count : Nat} (hop : op = 0x0B ∨ op = 0x0C) (hcount : count ≤ 63) (a : Nat) (data : List Word) :
    s.hostAccess op count a data =
      (let x := s.readBurst .host a (count + 1) (op == 0x0C)
       let r : ReadResponse := ⟨accessStatus x.1, x.2.1⟩
       (r, x.2.1.length, { x.2.2 with acc := { x.2.2.acc with lastRead := r } })) := by
  have h0E : op ≠ 0x0E := by omega
  have hread : writesOpcode op = false := by rcases hop with rfl | rfl <;> rfl
  have hknown : (op == 0x0B || op == 0x0C) = true := by simpa using hop
  simp [State.hostAccess, hread, hknown, Nat.not_lt.2 hcount, h0E]

/-- Opcode 0x0E repeats the last read response (R61). -/
theorem hostAccess_resend {count : Nat} (hcount : count ≤ 63) (a : Nat) (data : List Word) :
    s.hostAccess 0x0E count a data = (s.acc.lastRead, s.acc.lastRead.data.length, s) := by
  simp [State.hostAccess, Nat.not_lt.2 hcount]

/-- A reserved opcode is answered BAD_OPCODE (R57). -/
theorem hostAccess_reserved {op count : Nat} (hop : op ∉ ([2, 3, 0x0B, 0x0C, 0x0E] : List Nat)) (a : Nat) (data : List Word) :
    s.hostAccess op count a data = (⟨4, []⟩, 0, s) := by
  simp only [List.mem_cons, List.not_mem_nil, or_false, not_or] at hop
  obtain ⟨h2, h3, hB, hC, hE⟩ := hop
  simp [State.hostAccess, writesOpcode, h2, h3, hB, hC, hE]

theorem toNat_reserved {op : Byte} (h : op ∉ ([0x02, 0x03, 0x0B, 0x0C, 0x0E] : List Byte)) :
    op.toNat ∉ ([2, 3, 0x0B, 0x0C, 0x0E] : List Nat) := by
  revert h; revert op; decide

/-- A transaction cut ahead of its CRC is only counted (R61). -/
theorem hostCut_none (hup : s.Up 9) : s.hostCut none = s.bump (whole Reg.HST_ABORT) := by
  simp [State.hostCut, hostUp_of_up hup]

/-! ### The service buffer and the register services (R63, R64) -/

theorem specAt_door (s : State) (o : Origin) : ∃ w, s.specAt o Pg.HST Reg.HST_SDOOR = some w ∧ w.acc = .wo := ⟨_, rfl, rfl⟩

/-- HST_SDOOR is no command register of a block. -/
theorem writeCommand_door (s : State) (o : Origin) (v : Nat) : s.writeCommand o Reg.HST_SDOOR v = s := rfl

/-- An accepted write of HST_SDOOR submits the message in HST_SREQ (R63). -/
theorem door_accepted (h : s.Accepts o Reg.HST_SDOOR v) : s.command o Reg.HST_SDOOR v = hostDoor s v := by
  have hverdict : s.writeVerdict o Reg.HST_SDOOR v = 0 := h
  have howner : ownerPage Reg.HST_SDOOR = some Pg.HST := by decide
  have hwindow : inWindow Reg.HST_SDOOR = false := by decide
  obtain ⟨w, hw, hacc⟩ := specAt_door s o
  have hwrite : s.writeWord true o Pg.HST Reg.HST_SDOOR v w = s := by
    have hspin : spinAt Reg.HST_SDOOR = false := by decide
    have hword3 : word3At Reg.HST_SDOOR = none := by decide
    have hheader : ∀ k, k < 0x40 → Reg.HST_SDOOR ≠ Reg.base Pg.HST + k := by
      intro k hk; rw [show Reg.base Pg.HST = 0x5000 from rfl, Reg.HST_SDOOR]; omega
    have hctrl : Reg.HST_SDOOR ≠ Reg.ctrl Pg.HST := hheader 8 (by decide)
    have hirqe : Reg.HST_SDOOR ≠ Reg.irqe Pg.HST := hheader 20 (by decide)
    have hirqs : Reg.HST_SDOOR ≠ Reg.irqs Pg.HST := hheader 24 (by decide)
    have herra : Reg.HST_SDOOR ≠ Reg.erra Pg.HST := hheader 36 (by decide)
    have hcommit : Reg.HST_SDOOR ≠ Reg.commit Pg.HST := hheader 28 (by decide)
    have hlock : lockWord Reg.HST_SDOOR = false := by decide
    simp [State.writeWord, hlock, hctrl, hirqe, hirqs, herra, hcommit, hacc, hspin, State.commandActs, hword3, writeCommand_door]
  simp [State.command, State.busWriteBy, State.writeOne_, windowChange, hverdict, howner, hw, hwindow,
    mirrorOut_same (show mirrorPages.contains Pg.HST = false by decide), hwrite, State.auditMany]

/-- Settles O18. -/
theorem hostPortComplete : Obligations.HostPortComplete := by
  unfold Obligations.HostPortComplete
  refine ⟨⟨fun s count a data crc hup hcount hok => ?_, fun s count a data crc hup hcount hok => ?_,
    fun s count a crc hup hcount hok => ?_, fun s count a crc hup hcount hok => ?_, fun s count a crc hup hcount hok => ?_,
    fun s op count a crc hup hop hok => ?_, fun s hup => ?_⟩, fun s o v h => ?_, fun s q a count h hrole hcount => ?_,
    fun s q a count data h hrole hcount hlen => ?_⟩ <;> refine congrArg done ?_
  · rw [hostTransaction_ok hup hok, hostAccess_write (by decide) hcount]; rfl
  · rw [hostTransaction_ok hup hok, hostAccess_write (by decide) hcount]; rfl
  · rw [hostTransaction_ok hup hok, hostAccess_read (.inl (by decide)) hcount]; rfl
  · rw [hostTransaction_ok hup hok, hostAccess_read (.inr (by decide)) hcount]; rfl
  · exact (hostTransaction_ok hup hok).trans (by rw [show (0x0E : Byte).toNat = 0x0E from rfl, hostAccess_resend hcount])
  · exact (hostTransaction_ok hup hok).trans (by rw [hostAccess_reserved (toNat_reserved hop)])
  · exact hostCut_none hup
  · exact door_accepted h
  · rw [State.regRead, arrive_reached h]
    simp [Nat.not_lt.2 hcount, hrole]
  · rw [State.regWrite, arrive_reached h]
    simp [Nat.not_lt.2 hcount, hrole, hlen]

/-! ### The string commands (R22) -/

/-- A string command that the service state allows is audited and answered OK. -/
theorem stringCommand_acts {q : Req} {cmd : Nat} (h : s.Served q 3 0) (hcmd : ¬ (cmd = 0 ∨ cmd > 6)) (hact : s.stringAct cmd = (true, t)) :
    s.stringCommand q cmd = (t.auditCommand q.origin Reg.DEV_SSTATE s.sstate t.sstate).respond q 3 0 [] := by
  rw [State.stringCommand, firmware_served h]
  simp [hcmd, hact, okBare]

/-- Settles O19: each command is allowed in the state that R22 gives it. -/
theorem stringCommandsComplete : Obligations.StringCommandsComplete := by
  unfold Obligations.StringCommandsComplete
  refine ⟨fun s q h hstate => ?_, fun s q h hstate => ?_, fun s q h hstate hsnare hbars => ?_, fun s q h hstate => ?_,
    fun s q h hstate hbars hopening hmixed => ?_, fun s q h hmay hopen hbranches => ?_⟩ <;>
    refine congrArg done (stringCommand_acts h (by decide) ?_)
  · simp [State.stringAct, State.haltString, hstate]
  · simp [State.stringAct, State.disconnectString, hstate]
  · simp [State.stringAct, State.clearTrip, hstate, hsnare, hbars]
  · simp [State.stringAct, State.transportString, hstate]
  · simp [State.stringAct, State.runString, hstate, hbars, hopening, hmixed]
  · simp [State.stringAct, State.connectString, hmay, hopen, hbranches]

end Sys2Proof.Machine
end

section
/-! Sense rings: the commands of a ring and of the queue, the frames, the deadlines and the backoffs complete (R74, R87, R96, R104). -/

namespace Sys2Proof.Machine
variable {s t : State} {o : Origin} {p a v r : Nat} {w : WordSpec}

/-- An event of a block that runs has its own effect. -/
theorem event_eq {d : Nat} {f : State → State} (h : s.Up d) (heffect : f s = t) : done (s.upIn d f) = .next (settle t) := by
  rw [event_up h, heffect]

/-! ### SRx_CMD and QUE_CMD (R119, R153) -/

/-- The operation and the position of a write of SRx_CMD. -/
theorem srCmd_fields {op : Nat} (p : BitVec 6) (hop : op < 16) : bitsOf (op + 256 * p.toNat) 0 4 = op ∧ bitsOf (op + 256 * p.toNat) 8 6 = p.toNat := by
  have hp := p.isLt
  unfold bitsOf
  omega

/-- A position that does not exist cannot be isolated, nor can one of a ring out of service (R113, R119). -/
theorem ringCommand_isolate_rejected (h : s.inService r = false ∨ p = 0 ∨ s.nsup r < p) :
    s.ringCommand r 3 p = s.irq (Pg.SR r) Irq.SR_CMDREJ := by
  rcases h with h | h | h
  · simp [State.ringCommand, h]
  · simp [State.ringCommand, h]
  · simp [State.ringCommand, Nat.not_le.2 h]

/-- Settles O22. -/
theorem ringCommandsComplete : Obligations.RingCommandsComplete := by
  unfold Obligations.RingCommandsComplete
  refine ⟨fun s o r h hserv hextra => ?_, fun s o r h hserv => ?_, fun s o r p h hserv hlo hhi => ?_, fun s o r p h hserv hlo hhi => ?_,
    fun s o r h hserv => ?_, fun s o q classes h => ?_, fun s o r p h hbad => ?_⟩ <;> refine congrArg done ?_
  · rw [srCmd_accepted r h]; simp [State.ringCommand, bitsOf, hserv, hextra]
  · rw [srCmd_accepted r h]; simp [State.ringCommand, bitsOf, hserv]
  · obtain ⟨hop, hpos⟩ := srCmd_fields (op := 3) p (by decide)
    rw [srCmd_accepted r h, hop, hpos]
    simp [State.ringCommand, hserv, hlo, hhi]
  · obtain ⟨hop, hpos⟩ := srCmd_fields (op := 4) p (by decide)
    rw [srCmd_accepted r h, hop, hpos]
    simp [State.ringCommand, hserv, hlo, hhi]
  · rw [srCmd_accepted r h]; simp [State.ringCommand, bitsOf, hserv]
  · exact queueFlush_accepted q h
  · obtain ⟨hop, hpos⟩ := srCmd_fields (op := 3) p (by decide)
    rw [srCmd_accepted r h, hop, hpos, ringCommand_isolate_rejected hbad]

/-! ### Frames at a ring port (R75, R88, R112) -/

section
variable {port : Side} {f : RingFrame} {x : RingTxn}
variable (hacts : s.portActs r (port == .south) = true) (hown : s.listens r = false)
include hacts hown

theorem ringReceive_codeViolation (hline : f.line = .codeViolation) :
    s.ringReceive r port f = (s.bump (whole (Reg.SR_CNT_CODE r))).rewind r f := by
  simp [State.ringReceive, hacts, hown, hline]

theorem ringReceive_long (hline : f.line = .clean) (hlen : 1024 < f.len.toNat) :
    s.ringReceive r port f = (s.bump (whole (Reg.SR_CNT_DISC r))).rewind r f := by
  simp [State.ringReceive, hacts, hown, hline, hlen]

theorem ringReceive_badCheck (hline : f.line = .clean) (hlen : f.len.toNat ≤ 1024) (hcheck : frameCheckOk f = false) :
    s.ringReceive r port f =
      (let u := (s.bump (whole (Reg.SR_CNT_CRC r))).rewind r f; if f.rsp then u.bump (whole (Reg.SR_CNT_UNSOL r)) else u) := by
  simp [State.ringReceive, hacts, hown, hline, Nat.not_lt.2 hlen, hcheck]

theorem ringReceive_badHeader (hline : f.line = .clean) (hlen : f.len.toNat ≤ 1024) (hcheck : frameCheckOk f = true)
    (hhead : frameBadHeader f = true) : s.ringReceive r port f = (s.bump (whole (Reg.SR_CNT_DISC r))).rewind r f := by
  simp [State.ringReceive, hacts, hown, hline, Nat.not_lt.2 hlen, hcheck, hhead]

/-- A response without ERR that matches a transaction returns its tag, enters the queue and acts for its purpose (R86, R88). -/
theorem ringReceive_matched (hline : f.line = .clean) (hlen : f.len.toNat ≤ 1024) (hcheck : frameCheckOk f = true)
    (hhead : frameBadHeader f = false) (herr : f.err = false) (hmatch : s.matching r f = some x) :
    s.ringReceive r port f =
      ((((((s.retire r x.tag).enqueuePacket r x false f.payload).answered r x true (port == .south) f.payload).configureNew r).flow r).tempCheck).relayReport r x f := by
  simp [State.ringReceive, State.accept, hacts, hown, hline, Nat.not_lt.2 hlen, hcheck, hhead, herr, hmatch]

end

theorem isSouth_eq (port : Side) : isSouth port = (port == .south) := by cases port <;> rfl

section
variable {port : Side} {tag : Nat} {x : RingTxn}
variable (hacts : s.portActs r (port == .south) = true) (htxn : (s.ring r).txns.find? (fun t => t.tag == tag) = some x)
include hacts htxn

/-- The echo of a request changes nothing but for a path test that shows the ring closed and a RESET broadcast (R83, R93, R111). -/
theorem takeEcho_eq :
    s.takeEcho r tag (isSouth port) =
      (let t := if (port == .south) && !x.south && decide (x.req.purpose = .path ∨ x.req.purpose = .healPath) then
         s.modRing r (fun g => { g with through := true }) else s
       if x.req.purpose = .reset then (t.retire r tag).flow r else t) := by
  rw [State.takeEcho, isSouth_eq, hacts, htxn]
  simp

/-- The echo of a path test that comes back at the south port shows the ring closed (R93, R111). -/
theorem takeEcho_path (hport : port = .south) (hnorth : x.south = false) (htest : x.req.purpose = .path ∨ x.req.purpose = .healPath) :
    s.takeEcho r tag (isSouth port) = s.modRing r (fun g => { g with through := true }) := by
  have hreset : x.req.purpose ≠ .reset := by rcases htest with h | h <;> simp [h]
  rw [takeEcho_eq hacts htxn]
  simp [hport, hnorth, htest, hreset]

theorem takeEcho_reset (hreset : x.req.purpose = .reset) : s.takeEcho r tag (isSouth port) = (s.retire r tag).flow r := by
  rw [takeEcho_eq hacts htxn]
  simp [hreset]

theorem takeEcho_other (hreset : x.req.purpose ≠ .reset) (hpath : x.req.purpose ≠ .path) (hheal : x.req.purpose ≠ .healPath) :
    s.takeEcho r tag (isSouth port) = s := by
  rw [takeEcho_eq hacts htxn]
  simp [hreset, hpath, hheal]

end

/-- A deadline repeats the request while repeats are left, else records its failure (R89, R90). -/
theorem timedOut_of_found {tag : Nat} {x : RingTxn} (htxn : (s.ring r).txns.find? (fun t => t.tag == tag) = some x) :
    s.timedOut r tag =
      (let u := (s.retire r tag).bump (whole (Reg.SR_CNT_TMO r))
       ((((if x.req.left = 0 then (u.recordFailed r x.req 0).answered r x false false [] else u.repeatReq r x.req).configureNew r).flow r).tempCheck)) := by
  simp [State.timedOut, htxn, State.failed]

/-- Settles O23. -/
theorem ringFramesComplete : Obligations.RingFramesComplete := by
  unfold Obligations.RingFramesComplete
  refine ⟨⟨fun s r port f x hup hacts hown hline hlen hcheck hhead herr hmatch => ?_, fun s r port tag x hup hacts htxn => ⟨?_, ?_, ?_⟩,
    fun s r tag x hup htxn => ?_, fun s r k q hup hback => ?_⟩, fun s r port f hup hacts hown => ⟨?_, ?_, ?_, ?_⟩⟩
  · have hrecv := ringReceive_matched hacts hown hline hlen hcheck hhead herr hmatch
    refine ⟨event_eq hup hrecv, fun hp => event_eq hup (hrecv.trans ?_), fun hp => event_eq hup (hrecv.trans ?_),
      fun hp => event_eq hup (hrecv.trans ?_), fun k hp => event_eq hup (hrecv.trans ?_)⟩ <;> simp [State.answered, hp]
  · exact fun hport hnorth htest => event_eq hup (takeEcho_path hacts htxn hport hnorth htest)
  · exact fun hreset => event_eq hup (takeEcho_reset hacts htxn hreset)
  · exact fun hreset hpath hheal => event_eq hup (takeEcho_other hacts htxn hreset hpath hheal)
  · exact event_eq hup (timedOut_of_found htxn)
  · refine event_eq hup ?_
    simp [State.backoffOver, hback]
  · exact fun hline => event_eq hup (ringReceive_codeViolation hacts hown hline)
  · exact fun hline hlen => event_eq hup (ringReceive_long hacts hown hline hlen)
  · exact fun hline hlen hcheck => event_eq hup (ringReceive_badCheck hacts hown hline hlen hcheck)
  · exact fun hline hlen hcheck hhead => event_eq hup (ringReceive_badHeader hacts hown hline hlen hcheck hhead)

end Sys2Proof.Machine
end

section
/-! Sense rings: line and link events, scans, delay calibration and flushes complete (R110, R118, R135). -/

namespace Sys2Proof.Machine
variable {s t : State} {o : Origin} {p a v r : Nat} {w : WordSpec}

/-! ### Line events (R76, R103 to R113) -/

/-- A notice of a new fold is counted, and re-forms a ring in service (R103, R106). -/
theorem linkLostNotice_new {port lost : Side} (hacts : s.portActs r (port == .south) = true) (hlo : 1 ≤ p) (hhi : p ≤ s.nsup r)
    (hnew : (s.ring r).folds.contains (p, lost == .south) = false) :
    s.linkLostNotice r port p lost =
      (((s.bump (whole (Reg.SR_CNT_LOS r))).modRing r (fun g => { g with folds := (p, lost == .south) :: g.folds })).delegate r).broke r := by
  have hfresh : ((s.bump (whole (Reg.SR_CNT_LOS r))).ring r).folds.contains (p, lost == .south) = false := hnew
  have hpos : p ≠ 0 := by omega
  rw [State.linkLostNotice, if_neg (by simp [hacts, hpos, hhi])]
  exact if_neg (by rw [hfresh]; decide)

/-- Settles O24. -/
theorem ringLineEventsComplete : Obligations.RingLineEventsComplete := by
  unfold Obligations.RingLineEventsComplete
  refine ⟨fun s r hup hmode => ?_, fun s r port hup hacts => ?_, fun s r port hup hens => ?_, fun s r port hup hens => ?_,
    fun s r port pos lost hup hacts hlo hhi hnew => ?_, fun s r hup hmode hauto hextra hcause => ?_, fun s r hup => event_up hup _⟩ <;>
    refine event_eq hup ?_
  · exact if_pos hmode
  · exact if_neg (by simp [hacts])
  · exact if_neg (by simp [hens])
  · exact if_neg (by simp [hens])
  · exact linkLostNotice_new hacts hlo hhi hnew
  · exact if_pos (by simp only [State.mayHeal, hmode, hauto, hextra, hcause]; rfl)

/-! ### Scans (R122 to R131) -/

/-- A publication is due once no position owes a report, or at the deadline (R130). -/
theorem scanReady_of {deadline : Bool} (hscan : s.tel.scanOn = true) (hdue : deadline = true ∨ ∀ r : Nat, r < 4 → s.owing r = []) :
    s.scanReady deadline = true := by
  rcases hdue with hdue | hdue
  · simp [State.scanReady, hscan, hdue]
  · have hall : (List.range 4).all (fun r => (s.owing r).isEmpty) = true := by
      rw [List.all_eq_true]
      intro r hr
      rw [hdue r (List.mem_range.mp hr)]
      rfl
    simp [State.scanReady, hscan, hall]

/-- Settles O25. -/
theorem scansComplete : Obligations.ScansComplete := by
  unfold Obligations.ScansComplete
  refine ⟨fun s hup => event_up hup _, fun s hup hscan => ?_, fun s deadline hup hscan hdue => ?_, fun s hup htemp => ?_,
    fun s hup htemp => ?_⟩ <;> refine event_eq hup ?_
  · exact if_neg (by simp [hscan])
  · exact if_pos (scanReady_of hscan hdue)
  · exact if_neg (by simp [htemp])
  · exact if_neg (by simp [htemp])

/-! ### Delay calibration and queues (R133 to R153) -/

/-- Settles O26. -/
theorem calibrationAndQueuesComplete : Obligations.CalibrationAndQueuesComplete := by
  unfold Obligations.CalibrationAndQueuesComplete
  refine ⟨fun s r hup hscan => ?_, fun s r tret reports hup hlaunch hport => ?_, fun s r k q hup hstall hserv hwanted hroom hfree => ?_,
    fun s q hup => event_up hup _⟩ <;> refine event_eq hup ?_
  · exact if_neg (by simp [hscan])
  · have hnorth : isSouth .north = false := rfl
    exact (if_neg (by simp [Option.isSome_iff_ne_none.mp hlaunch])).trans ((if_neg (by simp [hnorth])).trans (if_neg (by simp [hnorth, hport])))
  · simp [State.unstall, hstall, hserv, hwanted, hroom, hfree]

end Sys2Proof.Machine
end

section
/-! Chime: collection, deadline and commands complete (R187 to R197). -/

namespace Sys2Proof.Machine
variable {s t : State} {o : Origin} {p a v r : Nat} {w : WordSpec}

/-! ### What mirroring leaves of the cells' blocks -/

@[simp] theorem mirrorOut_get (s : State) (o : Origin) (p a v : Nat) (f : RegField) : (s.mirrorOut o p a v).get f = s.get f := by
  simp [State.get]

@[simp] theorem mirrorOut_est (s : State) (o : Origin) (p a v : Nat) : (s.mirrorOut o p a v).est = s.est := by
  obtain ⟨l, x, h⟩ := mirrorOut_frame s o p a v; rw [h]

@[simp] theorem mirrorOut_chmRuns (s : State) (o : Origin) (p a v : Nat) : (s.mirrorOut o p a v).chmRuns = s.chmRuns := by
  simp [State.chmRuns]

/-! ### Chime (R187 to R197) -/

theorem collectPhasors_of_due {c : ChmWindow} (h : (s.chmAdvance s.nowNat).chm.coll = some c) :
    s.collectPhasors =
      (let q := s.chmAdvance s.nowNat
       let ps := q.allPositions.filter (fun x => bitOf (q.get Fld.CHM_CFG_RINGS) x.1)
       let due := q.tones.flatMap (fun k => ps.map (fun x => (x.1, x.2, k)))
       (due.foldl (fun (u : State) x =>
         u.request x.1 (.phasor x.2.2) 8 x.2.1 none (beBytes 1 x.2.2) (8 + 8 * u.cellsOf x.1 x.2.1))
         { q with chm := { q.chm with due := due } }).each 4 (fun u r => u.flow r)) := by
  unfold State.collectPhasors
  dsimp only
  rw [h]

/-- Settles O27. -/
theorem chimeComplete : Obligations.ChimeComplete := by
  unfold Obligations.ChimeComplete
  refine ⟨fun s c hup hcoll => event_eq hup (collectPhasors_of_due hcoll), fun s c hup hcoll => event_eq hup ?_, fun s o h => congrArg done ?_,
    fun s o h hruns => congrArg done ?_, fun s o h => congrArg done ?_⟩
  · unfold State.phasorDeadline
    dsimp only
    rw [hcoll]
  · rw [chmCmd_accepted h]; rfl
  · rw [chmCmd_accepted h]
    exact if_pos (by simpa using hruns)
  · rw [chmCmd_accepted h]; rfl

end Sys2Proof.Machine
end

section
/-! Balancing and the thermal unit complete (R234 to R266). -/

namespace Sys2Proof.Machine
variable {s t : State} {o : Origin} {p a v r : Nat} {w : WordSpec}

/-! ### Balancing (R234 to R262) -/

/-- Settles O29. -/
theorem balancingComplete : Obligations.BalancingComplete := by
  unfold Obligations.BalancingComplete
  refine ⟨fun s hup hens happ => event_eq hup (if_neg (by simp [hens, happ])), fun s o h => congrArg done ?_, fun s o h => congrArg done ?_⟩
  · rw [balCmd_accepted h]; rfl
  · rw [balCmd_accepted h]; rfl

/-! ### The thermal unit (R249 to R266) -/

@[simp] theorem mirrorOut_geti (s : State) (o : Origin) (p a v : Nat) (f : RegField) : (s.mirrorOut o p a v).geti f = s.geti f := by
  simp [State.geti]

@[simp] theorem mirrorOut_thOf (s : State) (o : Origin) (p a v i : Nat) : (s.mirrorOut o p a v).thOf i = s.thOf i := by
  have hthm : (s.mirrorOut o p a v).thm = s.thm := by obtain ⟨l, x, h⟩ := mirrorOut_frame s o p a v; rw [h]
  simp [State.thOf, hthm]

@[simp] theorem mirrorOut_otCool (s : State) (o : Origin) (p a v : Nat) : (s.mirrorOut o p a v).otCool = s.otCool := by
  simp [State.otCool]

theorem otCool_of_le (h : ∀ i : Nat, i < 3072 → s.thOf i ≤ ((s.geti Fld.THM_OT_TLATCH - s.get Fld.THM_OT_HYST : Int) : Rat)) :
    s.otCool = true :=
  List.all_eq_true.mpr (fun i hi => decide_eq_true (h i (List.mem_range.mp hi)))

theorem not_otCool_of_lt {i : Nat} (hi : i < 3072) (h : ((s.geti Fld.THM_OT_TLATCH - s.get Fld.THM_OT_HYST : Int) : Rat) < s.thOf i) :
    s.otCool = false :=
  List.all_eq_false.mpr ⟨i, List.mem_range.mpr hi, by simpa using h⟩

theorem thmCommand_clearOt : s.thmCommand o (1 % 16) = s.clearOt o 1 := if_pos rfl

/-- Settles O30. -/
theorem thermalComplete : Obligations.ThermalComplete := by
  unfold Obligations.ThermalComplete
  refine ⟨fun s hup happ hens => event_eq hup ?_, fun s hup happ hens => event_eq hup ?_, fun s o h hlatch hcool => congrArg done ?_,
    fun s o i h hi hhot => congrArg done ?_, fun s o h => congrArg done ?_, fun s hup hen hens => event_eq hup (if_neg (by simp [hen, hens])),
    fun s t hup hen hat hlate hlost => event_eq hup ?_⟩
  · simp [State.thermalScan, happ, hens]
  · simp [State.thermalScan, happ, hens]
  · rw [thmCmd_accepted h]
    rw [thmCommand_clearOt, State.clearOt, if_neg (by simp [otCool_of_le hcool]), if_pos (by rw [mirrorOut_on]; exact hlatch)]
  · rw [thmCmd_accepted h]
    rw [thmCommand_clearOt, State.clearOt, if_pos (by simp [not_otCool_of_lt hi hhot])]
  · rw [thmCmd_accepted h]; rfl
  · have hsilent : s.chillerSilent = s.chillerLost := by
      unfold State.chillerSilent
      rw [hat]
      exact (if_neg (by simp [hen])).trans (if_pos hlate)
    exact hsilent.trans (if_neg (by simp [hlost]))

end Sys2Proof.Machine
end

section
/-! The PWM unit: triggers, carrier points, starts, stops and gate-driver faults complete (R267 to R297). -/

namespace Sys2Proof.Machine
variable {s t : State} {o : Origin} {p a v r : Nat} {w : WordSpec}

/-! ### The PWM unit (R267 to R297) -/

/-- A sample trigger comes closer than half a sample period to the last one (R297). -/
theorem trigger_of_near {l : Nat} (hl : (s.chmAdvance s.nowNat).pwm.lastTrig = some l)
    (h : ((s.nowNat - l : Nat) : Rat) < (s.chmAdvance s.nowNat).tsUnits * 5 / 4) : s.trigger = s.chmAdvance s.nowNat := by
  unfold State.trigger
  dsimp only
  rw [hl]
  exact if_pos (by simp [h])

theorem trigger_of_idle (h : (s.chmAdvance s.nowNat).ens Pg.PWM = false ∨ (s.chmAdvance s.nowNat).anyPhase (fun v => v != 0) = false) :
    s.trigger = s.chmAdvance s.nowNat := by
  unfold State.trigger
  exact if_pos (by rcases h with h | h <;> simp [h])

theorem trigger_of_runs {t : State} (ht : s.chmAdvance s.nowNat = t) (hens : t.ens Pg.PWM = true) (hphase : t.anyPhase (fun v => v != 0) = true)
    (hfar : ∀ l, t.pwm.lastTrig = some l → t.tsUnits * 5 / 4 ≤ ((s.nowNat - l : Nat) : Rat)) :
    s.trigger =
      (let u := ({ t with pwm := { t.pwm with lastTrig := some s.nowNat, trigs := t.pwm.trigs + 1 } } : State).emit (.trigger (t.trigCount t.pwm.trigs))
       let runs := u.ens Pg.LPE && u.get Fld.LPE_STAT_STATE == 1
       let v := if runs && u.lpe.sampleOpen then u.overrun else u
       let w : State := { v.injTrigger.1 with lpe := { v.injTrigger.1.lpe with sampleOpen := runs, sampleAt := s.nowNat, inj := [] } }
       if runs && v.injTrigger.2 then w.skipSample else w) := by
  unfold State.trigger
  dsimp only
  rw [ht]
  refine if_neg ?_
  cases hl : t.pwm.lastTrig with
  | none => simp [hens, hphase]
  | some l => simpa [hens, hphase] using hfar l hl

/-- What a carrier point of an enabled unit does before it comes to its cell (R273, R282). -/
def State.carrierStarts (s : State) (c : Nat) (peak : Bool) : State :=
  let a := if c = 0 ∧ peak = false then s.valley0 else s
  if c % 2 = 0 ∧ peak = false then a.carrierTurn c else a

theorem carrierPoint_enabled {c : Nat} {peak : Bool} (hens : s.ens Pg.PWM = true) :
    s.carrierPoint c peak =
      (let b := s.carrierStarts c peak
       if !b.cellEn c || b.get (phaseField (c / 2)) == 0 then b else
       let old := b.pwmCell c
       let x := if peak = true ∧ old.switching = true then old else b.cellSettings c old
       let y := if peak = false ∨ b.on Fld.PWM_CFG_DUPD = true then b.loadCell c x else (b, x)
       let d := y.1.setCell c y.2
       if !d.phaseSwitching (c / 2) then d
       else if old.switching then d.timePulses c old y.2 (!peak) (peak || !d.on Fld.PWM_CFG_DUPD)
       else if peak then d.timePulses c { y.2 with upper := .suppressed } { y.2 with switching := true, lower := .normal } false true
       else d) := by
  unfold State.carrierPoint State.carrierStarts
  rw [if_neg (by simp [hens])]
  cases peak <;> simp

theorem stopOver_of_quiet (hstate : s.svc.state = .stopping) (hfailing : s.pwm.failing = false) (hopening : s.ctk.opening = none)
    (hquiet : s.lpe.stopDone = true ∨ s.switching = false ∧ ratAbs (s.inVal 4) ≤ s.zband) :
    s.stopOver =
      (let t : State := { s.phasesIdle with lpe := { s.phasesIdle.lpe with stopDone := false } }
       match t.svc.stopCause with
       | some .cat1 => t.beginOpening t.drivenBranches true true
       | some .classC => (t.setOn Fld.FLT_INFORCE_OPENALL true).beginOpening t.drivenBranches true true
       | some .classCBranch =>
         let mask := bitsOf (t.rd Reg.FLT_INFORCE) 8 8
         let left := Nat.land t.drivenBranches (255 - mask)
         t.beginOpening mask (left == 0) (left == 0)
       | _ => t.haltOver) := by
  unfold State.stopOver
  exact if_neg (by rcases hquiet with h | ⟨h, h'⟩ <;> simp [*])

/-! ### What the converter's return to idle leaves of the service state -/

/-- A part that each of the steps keeps, their sequence keeps. -/
theorem each_keeps {α : Type} {f : State → α} {g : State → Nat → State} (hg : ∀ u k, f (g u k) = f u) (s : State) (n : Nat) :
    f (s.each n g) = f s := by
  unfold State.each
  generalize List.range n = l
  induction l generalizing s with
  | nil => rfl
  | cons k l ih => exact (ih (g s k)).trans (hg s k)

theorem setPhases_svc (s : State) (v : Nat) : (s.setPhases v).svc = s.svc :=
  each_keeps (f := State.svc) (fun u k => by split <;> rfl) s 4

theorem irq_svc (s : State) (p b : Nat) : (s.irq p b).svc = s.svc := rfl

theorem put_svc (s : State) (f : RegField) (v : Nat) : (s.put f v).svc = s.svc := rfl

theorem abortTest_svc (s : State) : s.abortTest.svc = s.svc := by
  have hcap : ∀ u : State, (if u.lpe.capRun then (u.put Fld.LPE_CAPSTAT_STATE 3).irq Pg.LPE Irq.LPE_CAP_DONE else u).svc = u.svc := by
    intro u
    split
    · rw [irq_svc, put_svc]
    · rfl
  unfold State.abortTest
  split
  · exact hcap _
  · rfl

theorem pwmDead_svc (s : State) : s.pwmDead.svc = s.svc :=
  each_keeps (f := State.svc) (g := fun u p => u.put (phaseField p) 0) (fun _ _ => rfl) s.stopCells 4

theorem phasesIdle_svc (s : State) : s.phasesIdle.svc = s.svc := by
  have h : ∀ v, ((s.abortTest.stopCells).setPhases v).svc = s.svc := fun v => (setPhases_svc _ v).trans (abortTest_svc s)
  unfold State.phasesIdle
  generalize (if s.snare = true then 5 else 1) = v
  dsimp only
  split
  · exact (pwmDead_svc _).trans (h v)
  · exact h v

theorem setBit_get {f : RegField} (h : a ≠ f.addr) (n : Nat) (b : Bool) : (s.setBit a n b).get f = s.get f :=
  congrArg (fun x => bitsOf x f.lo f.width) (rd_wr_ne s h _)

theorem setBit_gdEvaluated (s : State) (n k : Nat) (b : Bool) : (s.setBit Reg.PWM_GDFSTAT n b).gdEvaluated k = s.gdEvaluated k := by
  have hcfg : ∀ f : RegField, f.addr = Reg.PWM_CFG → (s.setBit Reg.PWM_GDFSTAT n b).get f = s.get f := fun f hf =>
    setBit_get (by rw [hf]; decide) n b
  unfold State.gdEvaluated State.phaseEn State.threeLevel
  rw [hcfg _ rfl, hcfg _ rfl]

/-- The mask of the fault inputs survives what a fault shows (R288). -/
theorem gateShown_gdMasked (s : State) (n k : Nat) (b c : Bool) :
    (((s.setBit Reg.PWM_GDFSTAT n b).setBit Reg.PWM_GDFSTAT k c).irq Pg.PWM Irq.PWM_GDF).gdMasked k = s.gdMasked k := by
  unfold State.gdMasked State.irq
  rw [setBit_get (by decide), setBit_get (by decide), setBit_get (by decide)]

theorem haltOver_of_halt (hstate : s.svc.state = .stopping) (hcause : s.svc.stopCause = some .halt) :
    s.haltOver = { s with svc := { s.svc with state := .connected, stopCause := none } } := if_pos ⟨hstate, hcause⟩

/-- Settles O31. -/
theorem converterEventsComplete : Obligations.ConverterEventsComplete := by
  unfold Obligations.ConverterEventsComplete
  refine ⟨fun s hup => ⟨fun hens hphase hfar => event_eq hup (trigger_of_runs rfl hens hphase hfar), fun h => event_eq hup ?_⟩,
    fun s c peak hup => ⟨fun hens => event_eq hup (if_pos (by simp [hens])), fun hens => ?_⟩,
    fun s hup hstart hph hcaps => event_eq hup (if_pos (by simp [hstart, hph, hcaps])),
    fun s hup hstart hph => event_eq hup (if_pos (by simp [hstart, hph])),
    fun s hup hstart hph hfull => event_eq hup (if_pos (by simp [hstart, hph, hfull])),
    fun s hup hstart hph => event_eq hup (if_pos (by simp [hstart, hph])),
    fun s hup hstate hfailing hopening hquiet => ?_, fun s n hup => ⟨fun h => event_eq hup (if_pos (by rw [setBit_gdEvaluated, Bool.not_eq_true']; exact h)), fun h => event_eq hup ?_⟩,
    fun s n hup => event_eq hup rfl⟩
  · rcases h with h | h | ⟨l, hl, hnear⟩
    · exact trigger_of_idle (.inl h)
    · exact trigger_of_idle (.inr h)
    · exact trigger_of_near hl hnear
  · refine ⟨fun hoff => event_eq hup ?_, fun hcell hphase => ?_⟩
    · refine (carrierPoint_enabled hens).trans (if_pos ?_)
      have hoff' : (s.carrierStarts c.val peak).cellEn c.val = false ∨ (s.carrierStarts c.val peak).get (phaseField (c.val / 2)) = 0 := hoff
      generalize s.carrierStarts c.val peak = b at hoff'
      simpa using hoff'
    have hcell' : (s.carrierStarts c.val peak).cellEn c.val = true := hcell
    have hphase' : (s.carrierStarts c.val peak).get (phaseField (c.val / 2)) ≠ 0 := hphase
    have hpoint := (carrierPoint_enabled (c := c.val) (peak := peak) hens).trans (if_neg (by simp [hcell', hphase']))
    refine ⟨fun hsw => event_eq hup ?_, fun hsw hold => event_eq hup ?_, fun hsw hold => event_eq hup ?_⟩
    · exact hpoint.trans (if_pos (by rw [Bool.not_eq_true']; exact hsw))
    · exact hpoint.trans ((if_neg (by rw [Bool.not_eq_true']; exact ne_of_eq_of_ne hsw (by decide))).trans (if_pos hold))
    · exact hpoint.trans ((if_neg (by rw [Bool.not_eq_true']; exact ne_of_eq_of_ne hsw (by decide))).trans (if_neg (by
        rw [Bool.not_eq_true]; exact hold)))
  · have hsvc := phasesIdle_svc s
    have hover := stopOver_of_quiet hstate hfailing hopening hquiet
    generalize s.phasesIdle = u at hsvc hover
    have hcause : u.svc.stopCause = s.svc.stopCause := by rw [hsvc]
    refine ⟨fun hc => event_eq hup ?_, fun hc => event_eq hup ?_, fun hc => event_eq hup ?_, fun hc => event_eq hup ?_⟩
    · rw [hc] at hcause
      dsimp only at hover ⊢
      rw [hover, hcause]
      rw [← hsvc] at hstate ⊢
      exact haltOver_of_halt hstate hcause
    all_goals
      rw [hc] at hcause
      dsimp only at hover ⊢
      rw [hover, hcause]
  · unfold State.gateFault
    dsimp only
    rw [if_neg (by rw [setBit_gdEvaluated]; simp [h]), gateShown_gdMasked]

end Sys2Proof.Machine
end

section
/-! Analog acquisition: sequences, conversions, reference, calibration and the Kirchhoff check complete (R302 to R325). -/

namespace Sys2Proof.Machine
variable {s t : State} {o : Origin} {p a v r : Nat} {w : WordSpec}

/-! ### Analog acquisition (R302 to R325) -/

theorem injConverted_of_slot {k n : Nat} {nv : Int} {at_ : Instant} {l : List Nat} (h : takeSlot (s.adc.injLeft.getD k []) n = some l) :
    s.injConverted k n nv at_ =
      (let a : State := { s with adc := { s.adc with injLeft := updAt s.adc.injLeft k (fun _ => l), midway := putBit s.adc.midway k false } }
       let u := (a.storeResult k n nv at_).noteResult n at_
       { u with lpe := { u.lpe with inj := smInsert n (u.inWord n) u.lpe.inj } }) := by
  unfold State.injConverted
  rw [h]

theorem regConverted_of_slot {k n : Nat} {nv : Int} {at_ : Instant} {l : List Nat}
    (hinj : s.adc.injLeft.getD k [] = [] ∨ bitOf s.adc.midway k = true) (h : takeSlot (s.adc.regLeft.getD k []) n = some l) :
    s.regConverted k n nv at_ =
      (let again := l.isEmpty && bitOf s.adc.regDeferred k
       let a : State := { s with adc := { s.adc with
         regLeft := updAt s.adc.regLeft k (fun _ => if again then s.regSlots k else l)
         regDeferred := if again then putBit s.adc.regDeferred k false else s.adc.regDeferred
         midway := putBit s.adc.midway k false } }
       let u := (a.storeResult k n nv at_).noteResult n at_
       if 5 ≤ n ∧ n ≤ 12 then u.branchResult (n - 5) (u.clipped n) at_.toNat else u) := by
  unfold State.regConverted
  rw [if_neg (by rcases hinj with h | h <;> simp only [h] <;> simp), h]

theorem streamConverted_of_turn {k : Nat} (nv : Int) (at_ : Instant) (hcal : s.calibrating k = false)
    (hturn : s.adc.streamBy ≠ some k ∨ s.calibrating (standIn k) = true) :
    s.streamConverted k 4 nv at_ =
      (let u := (({ s with adc := { s.adc with streamBy := some k } } : State).storeResult k 4 nv at_).noteResult 4 at_
       if u.lpe.sampleOpen && decide (u.lpe.sampleAt ≤ at_.toNat) && !u.lpe.inj.any (fun x => x.1 == 4) then
         { u with lpe := { u.lpe with inj := smInsert 4 (u.inWord 4) u.lpe.inj } }
       else u) :=
  if_neg (by rcases hturn with h | h <;> simp [hcal, h])

/-! ### The reference (R313) -/

theorem refCheck_within {x : RefSample} (hens : s.ens Pg.ADC = true)
    (hin : (({ s with adc := { s.adc with refUv := x.selected } } : State).noteRef x).refWithin x = true) :
    s.refCheck x =
      (let t := ({ s with adc := { s.adc with refUv := x.selected } } : State).noteRef x
       let u : State := { t with adc := { t.adc with refGood := t.adc.refGood + 1 } }
       if t.adc.refGood + 1 < 2 then u else
         let w := (u.setOn Fld.ADC_STAT_REFOK true).latchFault Pg.ADC Flt.ADC_REF
         if w.get Fld.ADC_STAT_STATE = 1 then w.initialCal else w) :=
  (if_neg (by simp [hens])).trans (if_pos hin)

theorem refCheck_outside {x : RefSample} (hens : s.ens Pg.ADC = true)
    (hout : (({ s with adc := { s.adc with refUv := x.selected } } : State).noteRef x).refWithin x = false) :
    s.refCheck x =
      (let t := ({ s with adc := { s.adc with refUv := x.selected } } : State).noteRef x
       let u := ({ t with adc := { t.adc with refGood := 0 } } : State).setOn Fld.ADC_STAT_REFOK false
       if t.on Fld.ADC_STAT_REFOK then u.refFault else u) :=
  (if_neg (by simp [hens])).trans (if_neg (by rw [hout]; decide))

/-! ### Calibration commands (R325) -/

@[simp] theorem mirrorOut_adcRuns (s : State) (o : Origin) (p a v : Nat) : (s.mirrorOut o p a v).adcRuns = s.adcRuns := by
  simp [State.adcRuns]

theorem calibrate_accepted (k : Fin 4) (h : s.Accepts o Reg.ADC_CMD (1 + 256 * k.val)) :
    s.command o Reg.ADC_CMD (1 + 256 * k.val) =
      (let t := s.mirrorOut o Pg.ADC Reg.ADC_CMD (1 + 256 * k.val)
       if !s.adcRuns || s.get Fld.ADC_STAT_CALBUSY ≠ 0 then t.irq Pg.ADC Irq.ADC_CMDREJ else t.startCal k.val) := by
  have hop : (1 + 256 * k.val) % 16 = 1 := by omega
  have hconv : bitsOf (1 + 256 * k.val) 8 2 = k.val := by clear h; revert k; decide
  rw [adcCmd_accepted h, hop, hconv, State.adcCommand, if_pos rfl, mirrorOut_adcRuns, mirrorOut_get]

/-! ### The Kirchhoff check (R323) -/

theorem kirchhoff_of_idle (h : s.adcRuns = false ∨ s.on Fld.ADC_CFG_KEN = false) :
    s.kirchhoff = { s with adc := { s.adc with kSum := s.adc.kSum.filter (fun x => decide (s.plantMs s.nowNat - 1 < x.1 / 32)) } } := by
  have hoff : (!(s.adcRuns && s.on Fld.ADC_CFG_KEN)) = true := by rcases h with h | h <;> simp [h]
  exact if_pos hoff

/-- What the interval compares once it has a mean of the string and of every branch that takes part. -/
def State.kirchhoffCompare (s : State) (m : Rat) : State :=
  let ms := s.plantMs s.nowNat - 1
  let mean := intervalMean s.adc.kSum ms
  let bs := (List.range 8).filter (fun b => bitOf (s.get Fld.ADC_KCFG_BRMASK) b)
  let d := m - (bs.map (fun b => (mean (5 + b)).getD 0)).sum
  let u := ({ s with adc := { s.adc with kSum := s.adc.kSum.filter (fun x => decide (ms < x.1 / 32)) } } : State).put Fld.ADC_KSTAT_DIFF
    (satSigned 16 (ratRound (d * 10)))
  let tol := (u.get Fld.ADC_KTOL_TOLA : Rat) / 10 + (u.get Fld.ADC_KTOL_TOLR : Rat) / 1000 * ratAbs m
  let confirm := max 1 (u.get Fld.ADC_KCFG_CONFIRM)
  if ratAbs d > tol then
    let w : State := { (u.bump Fld.ADC_KSTAT_RUN) with adc := { u.adc with kPass := 0 } }
    if w.get Fld.ADC_KSTAT_RUN ≥ confirm && !w.on Fld.ADC_STAT_KFAIL then
      ((w.setOn Fld.ADC_STAT_KFAIL true).irq Pg.ADC Irq.ADC_KIRCHHOFF).fault Pg.ADC Flt.KIRCHHOFF 0 (fpOf d)
    else w
  else
    let w : State := { (u.put Fld.ADC_KSTAT_RUN 0) with adc := { u.adc with kPass := u.adc.kPass + 1 } }
    if u.adc.kPass + 1 ≥ confirm && w.on Fld.ADC_STAT_KFAIL then (w.setOn Fld.ADC_STAT_KFAIL false).latchFault Pg.ADC Flt.KIRCHHOFF else w

theorem kirchhoff_of_means {m : Rat} (hruns : s.adcRuns = true) (hken : s.on Fld.ADC_CFG_KEN = true)
    (hmean : intervalMean s.adc.kSum (s.plantMs s.nowNat - 1) 4 = some m)
    (hbranches : ∀ b : Nat, b ∈ (List.range 8).filter (fun b => bitOf (s.get Fld.ADC_KCFG_BRMASK) b) →
      (intervalMean s.adc.kSum (s.plantMs s.nowNat - 1) (5 + b)).isSome = true) :
    s.kirchhoff = s.kirchhoffCompare m := by
  have hon : ¬ (!(s.adcRuns && s.on Fld.ADC_CFG_KEN)) = true := by simp [hruns, hken]
  have hall := List.all_eq_true.mpr hbranches
  unfold State.kirchhoff
  refine (if_neg hon).trans ?_
  dsimp only
  split
  case h_1 m' hm _ =>
    obtain rfl : m' = m := Option.some.inj (hm.symm.trans hmean)
    rfl
  case h_2 hnone => exact absurd hall (hnone m hmean)

/-- Settles O32. -/
theorem measurementComplete : Obligations.MeasurementComplete := by
  unfold Obligations.MeasurementComplete
  refine ⟨fun s k hup hruns hilv => ⟨fun hcal => event_eq hup ?_, fun hcal hleft => event_eq hup ?_, fun hcal hleft => event_eq hup ?_⟩,
    fun s k n nv t l hup hruns hslot => event_eq hup ?_, fun s k n nv t l hup hruns hilv hinj hslot => event_eq hup ?_,
    fun s k nv t hup hruns hilv hcal hturn => event_eq hup ?_,
    fun s x hup hens => ⟨fun hout => event_eq hup (refCheck_outside hens hout), fun hin => event_eq hup (refCheck_within hens hin)⟩,
    fun s hup hens hrefok => ⟨fun hst => event_eq hup ?_, fun hst => event_eq hup ?_⟩,
    fun s hup hruns heff => event_eq hup (if_neg (by simp [hruns, heff])), fun s k gain offs hup hcal => event_eq hup (if_neg (by simp [hcal])),
    fun s o k h hruns hbusy => congrArg done ?_, fun s o k h hoff => congrArg done ?_, fun s o h => congrArg done ?_,
    fun s hup hoff => event_eq hup (kirchhoff_of_idle hoff), fun s m hup hruns hken hmean hbranches =>
      event_eq hup (kirchhoff_of_means hruns hken hmean hbranches)⟩
  · exact (if_neg (by simp [hruns, hilv])).trans (if_pos hcal)
  · exact (if_neg (by simp [hruns, hilv])).trans ((if_neg (by simp [hcal])).trans (if_neg (by rw [hleft]; decide)))
  · exact (if_neg (by simp [hruns, hilv])).trans ((if_neg (by simp [hcal])).trans (if_pos (by
      rw [Bool.not_eq_true', List.isEmpty_eq_false_iff]; exact hleft)))
  · simp only [State.converted, hruns, Bool.not_true, Bool.false_eq_true, if_false, if_true]
    exact injConverted_of_slot hslot
  · simp only [State.converted, hruns, hilv, Bool.not_true, Bool.false_eq_true, if_false]
    exact regConverted_of_slot hinj hslot
  · simp only [State.converted, hruns, hilv, Bool.not_true, Bool.false_eq_true, if_false, if_true]
    exact streamConverted_of_turn nv t hcal hturn
  · simp [State.refTimeout, hens, hrefok, hst]
  · simp [State.refTimeout, hens, hrefok, hst]
  · rw [calibrate_accepted k h]
    exact if_neg (by simp [hruns, hbusy])
  · rw [calibrate_accepted k h]
    exact if_pos (by rcases hoff with h | h <;> simp [h])
  · rw [adcCmd_accepted h]; rfl

end Sys2Proof.Machine
end

section
/-! The loop engine: setpoints, samples, tests and captures complete (R328 to R369). -/

namespace Sys2Proof.Machine
variable {s t : State} {o : Origin} {p a v r : Nat} {w : WordSpec}

/-! ### Setpoint frames (R339) -/

theorem submitFrame_clear (hres : bitsOf (s.rd (Reg.LPE_SPIN 0)) 16 11 = 0) (hkind : bitsOf (s.rd (Reg.LPE_SPIN 0)) 28 4 = 2) :
    s.submitFrame = ({ s with lpe := { s.lpe with frames := [] } } : State).spShow :=
  (if_neg (not_not.mpr hres)).trans (if_pos hkind)

theorem submitFrame_take (hres : bitsOf (s.rd (Reg.LPE_SPIN 0)) 16 11 = 0) (hkind : bitsOf (s.rd (Reg.LPE_SPIN 0)) 28 4 = 1)
    (hnan : fpIsNan (s.word (Reg.LPE_SPIN 3)) = false) (hinf : fpIsInf (s.word (Reg.LPE_SPIN 3)) = false) (hroom : s.lpe.frames.length < 8) :
    s.submitFrame =
      (let h := s.rd (Reg.LPE_SPIN 0)
       let act : Instant := if bitOf h 27 then s.now else BitVec.ofNat 64 (s.rd (Reg.LPE_SPIN 1) * 2 ^ 32 + s.rd (Reg.LPE_SPIN 2))
       ({ s with lpe := { s.lpe with frames := s.lpe.frames ++
         [⟨bitOf h 27, h % 65536, act, s.word (Reg.LPE_SPIN 3), s.word (Reg.LPE_SPIN 4), s.now⟩] } } : State).spShow) := by
  have hk : bitsOf (s.word (Reg.LPE_SPIN 0)).toNat 28 4 = 1 := hkind
  exact (if_neg (not_not.mpr hres)).trans ((if_neg (by rw [hk]; decide)).trans (if_neg (by simp [hk, hnan, hinf, hroom])))

theorem submitFrame_discard
    (h : bitsOf (s.rd (Reg.LPE_SPIN 0)) 16 11 ≠ 0 ∨ (bitsOf (s.rd (Reg.LPE_SPIN 0)) 28 4 ≠ 2 ∧ (bitsOf (s.rd (Reg.LPE_SPIN 0)) 28 4 ≠ 1 ∨
      fpIsNan (s.word (Reg.LPE_SPIN 3)) = true ∨ fpIsInf (s.word (Reg.LPE_SPIN 3)) = true ∨ 8 ≤ s.lpe.frames.length))) :
    s.submitFrame = (s.bump Fld.LPE_SPCNT_DISC).irq Pg.LPE Irq.LPE_SPDISC := by
  by_cases hres : bitsOf (s.rd (Reg.LPE_SPIN 0)) 16 11 = 0
  · obtain ⟨hkind, hbad⟩ := h.resolve_left (not_not.mpr hres)
    refine (if_neg (not_not.mpr hres)).trans ((if_neg hkind).trans (if_pos ?_))
    have hbad' : bitsOf (s.word (Reg.LPE_SPIN 0)).toNat 28 4 ≠ 1 ∨ fpIsNan (s.word (Reg.LPE_SPIN 3)) = true ∨
      fpIsInf (s.word (Reg.LPE_SPIN 3)) = true ∨ 8 ≤ s.lpe.frames.length := hbad
    simpa [or_assoc] using hbad'
  · exact if_pos hres

/-! ### Tests and captures (R368, R369) -/

@[simp] theorem mirrorOut_lpe (s : State) (o : Origin) (p a v : Nat) : (s.mirrorOut o p a v).lpe = s.lpe := by
  obtain ⟨l, x, h⟩ := mirrorOut_frame s o p a v; rw [h]

@[simp] theorem mirrorOut_phasesAre (s : State) (o : Origin) (p a v n : Nat) : (s.mirrorOut o p a v).phasesAre n = s.phasesAre n := by
  obtain ⟨l, x, h⟩ := mirrorOut_frame s o p a v; rw [h]; rfl

@[simp] theorem mirrorOut_testNodeOk (s : State) (o : Origin) (p a v n : Nat) : (s.mirrorOut o p a v).testNodeOk n = s.testNodeOk n := by
  obtain ⟨l, x, h⟩ := mirrorOut_frame s o p a v; rw [h]; rfl

theorem lpeCommand_test (hrun : s.lpe.capRun = false) (harmed : s.lpe.capArmed = false) (htest : s.lpe.testArmed = false)
    (hon : s.on Fld.LPE_STAT_TEST = false) (hph : s.phasesAre 4 = true) (hnode : s.testNodeOk (s.get Fld.LPE_TEST_SEL) = true)
    (htype : s.get Fld.LPE_TEST_TYPE ≠ 0) : s.lpeCommand 1 = { s with lpe := { s.lpe with testArmed := true } } := by
  simp only [State.lpeCommand, hrun, harmed, htest, hon, hph, hnode, if_true]
  exact if_neg (by simpa using htype)

theorem lpeCommand_stop (hrun : s.lpe.capRun = true) : s.lpeCommand 2 = { s with lpe := { s.lpe with testStop := true } } := by
  simp [State.lpeCommand, hrun]

theorem lpeCommand_capture (hrun : s.lpe.capRun = false) (harmed : s.lpe.capArmed = false) (htest : s.lpe.testArmed = false) :
    s.lpeCommand 3 = { s with lpe := { s.lpe with capArmed := true } } := by
  simp [State.lpeCommand, hrun, harmed, htest]

/-- Settles O33. -/
theorem loopsComplete : Obligations.LoopsComplete := by
  unfold Obligations.LoopsComplete
  refine ⟨fun s o w4 h => ⟨fun hres hkind => congrArg done ?_, fun hres hkind hnan hinf hroom => congrArg done ?_, fun hbad => congrArg done ?_⟩,
    fun s hup hready => event_eq hup ?_, fun s o v h => congrArg done ?_, fun s => rfl,
    fun s o h hrun harmed htest hon hph hnode htype => congrArg done ?_, fun s o h hrun => congrArg done ?_,
    fun s o h hrun harmed htest => congrArg done ?_, fun s o h => congrArg done ?_, fun s hup hsome => event_eq hup (if_neg ?_),
    fun s hup hsome => event_eq hup (if_neg ?_)⟩
  · exact (spin_accepted h).trans (submitFrame_clear hres hkind)
  · exact (spin_accepted h).trans (submitFrame_take hres hkind hnan hinf hroom)
  · exact (spin_accepted h).trans (submitFrame_discard hbad)
  · simp only [State.sampleDone, hready, if_true]
  · rw [lpeSwap_accepted h]; rfl
  · rw [lpeCmd_accepted h]
    exact lpeCommand_test (by simpa using hrun) (by simpa using harmed) (by simpa using htest) (by rw [mirrorOut_on]; exact hon)
      (by simpa using hph) (by simpa using hnode) (by simpa using htype)
  · rw [lpeCmd_accepted h]
    exact lpeCommand_stop (by simpa using hrun)
  · rw [lpeCmd_accepted h]
    exact lpeCommand_capture (by simpa using hrun) (by simpa using harmed) (by simpa using htest)
  · rw [lpeCmd_accepted h]; rfl
  · simp [← Option.not_isSome, hsome]
  · simp [← Option.not_isSome, hsome]

end Sys2Proof.Machine
end

section
/-! Comparators, the protection contribution and digital limits complete (R377 to R385). -/

namespace Sys2Proof.Machine
variable {s t : State} {o : Origin} {p a v r : Nat} {w : WordSpec}

/-! ### Comparators and digital limits (R377, R381 to R385) -/

theorem cmpSees_of {x : CompSample} (hen : s.on (Fld.PRT_CMPCFG_EN x.comparator.val) = true)
    (hin : s.get (Fld.PRT_CMPCFG_INPUT x.comparator.val) = x.input.val) : s.cmpSees x = true := by
  simp [State.cmpSees, hen, hin]

/-- A register written reads back after an interrupt of another register. -/
theorem rd_wr_irq (s : State) {a p : Nat} (h : Reg.irqr p ≠ a) (n b : Nat) (c : Bool) :
    (if c then (s.wr a n).irq p b else s.wr a n).rd a = n % 2 ^ 32 := by
  cases c
  · exact rd_wr_same s a n
  · exact (rd_wr_ne _ h _).trans (rd_wr_same s a n)

theorem rowDrop_of_failed {row i : Nat} (h : s.prt.failed.contains (row, i) = true) :
    s.rowDrop row i =
      (let left := s.prt.failed.filter (fun x => x != (row, i))
       let u : State := { s with prt := { s.prt with failed := left } }
       (if left.any (fun x => x.1 == row) then u else u.setOn (Fld.PRT_DLSTAT_LEVEL row) false).endInstance Pg.PRT (0x10 + row) i) :=
  if_neg (by simp only [h]; decide)

/-- Settles O34. -/
theorem protectionComplete : Obligations.ProtectionComplete := by
  unfold Obligations.ProtectionComplete
  refine ⟨fun s x hup hen hin hlevel hbeyond hheld => event_eq hup (if_neg ?_), fun s x hup hen hin hlevel hback => event_eq hup (if_pos ?_),
    fun s hup hens => ?_, fun s hup hens => event_eq hup (if_pos (by simp [hens])),
    fun s row i hup hens htests hvalid hheld hfailed => event_eq hup (if_neg ?_), fun s row i hup hvalid hheld hfailed => event_eq hup ?_⟩
  · simp only [cmpSees_of hen hin, hlevel, hbeyond]
    simpa using hheld
  · simp [cmpSees_of hen hin, hlevel, hback]
  · have hon : ¬ (!s.ens Pg.PRT) = true := by simp [hens]
    exact ⟨_, event_eq hup (if_neg hon), rfl, rfl, rd_wr_irq s (by decide) _ _ _⟩
  · simp only [hens, htests, hvalid, hheld, hfailed]
    decide
  · exact (if_pos (by simp [hvalid, hheld])).trans (rowDrop_of_failed hfailed)

end Sys2Proof.Machine
end

section
/-! Contactors: events and commands complete (R387 to R401). -/

namespace Sys2Proof.Machine
variable {s t : State} {o : Origin} {p a v r : Nat} {w : WordSpec}

/-! ### Readback of the pairs (R389, R390) -/

/-- What follows a readback that has changed, after it has been stored. -/
def State.readbackStored (s : State) (p : Nat) (readsOpen : Bool) : State :=
  let a := s.setBit Reg.CTK_AUX p readsOpen
  if p < 8 then a.setBranches (putBit a.svc.branches p (!readsOpen)) else a

theorem auxChange_closing (hopen : s.pairOpen p = true) (hst : s.get (pairField p) = 1) :
    s.auxChange p false =
      (let b := s.readbackStored p false
       let c := if b.pairDriven p then b.put (pairField p) 2 else if b.owns then b.weld p else b
       c.advanceConnect.advanceOpening.openingRest) := by
  unfold State.auxChange State.readbackStored
  rw [if_neg (by simp [hopen])]
  simp only [hst]
  rfl

theorem auxChange_opening (hopen : s.pairOpen p = false) (hst : s.get (pairField p) = 3) :
    s.auxChange p true = ((s.readbackStored p true).put (pairField p) 0).advanceConnect.advanceOpening.openingRest := by
  unfold State.auxChange State.readbackStored
  rw [if_neg (by simp [hopen])]
  simp [hst]

/-! ### Commands of the pairs (R393, R394) -/

theorem join_near {b : Nat} {u : Rat} (hstate : s.svc.state = .connected) (hmask : bitOf (s.get Fld.CTK_CFG_BRMASK) b = true)
    (hvolt : s.branchVolt b = some u) (hvalid : s.inValid 14 = true)
    (hnear : ratAbs (u - s.inVal 14) ≤ (s.rd Reg.CTK_JOIN % 65536 : Nat) / (10 : Rat)) (hbarred : s.branchBarred b = false)
    (hdriven : s.pairDriven b = false) : s.join b = s.closePair b := by
  unfold State.join
  rw [hvolt]
  simp only [hstate, hmask, hvalid, hnear, hbarred, hdriven]
  simp

theorem separate_driven {b : Nat} (hstate : s.svc.state = .connected ∨ s.svc.state = .ready) (hdriven : s.pairDriven b = true) :
    s.separate b = s.openPair b :=
  (if_pos hstate).trans (if_pos hdriven)

theorem clearWeld_allOpen (h : s.allOpen = true) :
    s.clearWeld = (s.each 10 (fun u p => if u.get (pairField p) = 4 then u.put (pairField p) 0 else u)).clearFault Flt.CTK_WELD :=
  if_neg (by simp [h])

@[simp] theorem mirrorOut_allOpen (s : State) (o : Origin) (p a v : Nat) : (s.mirrorOut o p a v).allOpen = s.allOpen := by
  obtain ⟨l, x, h⟩ := mirrorOut_frame s o p a v; rw [h]; rfl

theorem mirrorOut_join {b : Nat} {u : Rat} (hstate : s.svc.state = .connected) (hmask : bitOf (s.get Fld.CTK_CFG_BRMASK) b = true)
    (hvolt : s.branchVolt b = some u) (hvalid : s.inValid 14 = true)
    (hnear : ratAbs (u - s.inVal 14) ≤ (s.rd Reg.CTK_JOIN % 65536 : Nat) / (10 : Rat)) (hbarred : s.branchBarred b = false)
    (hdriven : s.pairDriven b = false) : (s.mirrorOut o p a v).join b = (s.mirrorOut o p a v).closePair b := by
  obtain ⟨l, x, h⟩ := mirrorOut_frame s o p a v
  rw [h]
  exact join_near hstate hmask hvolt hvalid hnear hbarred hdriven

theorem mirrorOut_separate {b : Nat} (hstate : s.svc.state = .connected ∨ s.svc.state = .ready) (hdriven : s.pairDriven b = true) :
    (s.mirrorOut o p a v).separate b = (s.mirrorOut o p a v).openPair b := by
  obtain ⟨l, x, h⟩ := mirrorOut_frame s o p a v
  rw [h]
  exact separate_driven hstate hdriven

/-- Settles O35. -/
theorem contactorsComplete : Obligations.ContactorsComplete := by
  unfold Obligations.ContactorsComplete
  refine ⟨fun s p hup hopen hst hdriven => event_eq hup (auxChange_closing hopen hst), fun s p hup hopen hst => event_eq hup (auxChange_opening hopen hst),
    fun s p hup hst howns => event_eq hup (if_neg (by simp [hst, howns])), fun s p hup hst howns => event_eq hup (if_neg (by simp [hst, howns])),
    fun s hup hseq h9 hvalid hnear => event_eq hup (if_pos ?_), fun s hup hseq => event_eq hup (if_neg (by simp [hseq])),
    fun s o b u h hstate hmask hvolt hvalid hnear hbarred hdriven => congrArg done ?_, fun s o b h hstate hdriven => congrArg done ?_,
    fun s o h hopen => congrArg done ?_, fun s hup hwaits hzero => event_eq hup (if_pos (by simp [hwaits, hzero])),
    fun s hup hwaits => event_eq hup (if_pos hwaits), fun s hup hheld hlocks hagrees hdrv => event_eq hup ?_, fun s hheld => congrArg done ?_⟩
  · simp only [hseq, h9, hvalid, hnear]; decide
  · have hop : (2 + 256 * b.val) % 16 = 2 := by omega
    have hpair : bitsOf (2 + 256 * b.val) 8 3 = b.val := by clear h hmask hvolt hbarred hdriven; revert b; decide
    rw [ctkCmd_accepted h, hop, hpair]
    exact mirrorOut_join hstate hmask hvolt hvalid hnear hbarred hdriven
  · have hop : (1 + 256 * b.val) % 16 = 1 := by omega
    have hpair : bitsOf (1 + 256 * b.val) 8 3 = b.val := by clear h hdriven; revert b; decide
    rw [ctkCmd_accepted h, hop, hpair]
    exact mirrorOut_separate hstate hdriven
  · rw [ctkCmd_accepted h]
    exact clearWeld_allOpen (by simpa using hopen)
  · exact (if_neg (by simp [hheld, hlocks, hagrees])).trans (if_pos hdrv)
  · exact if_neg (by simp [hheld])

end Sys2Proof.Machine
end

section
/-! The insulation monitor and the handling of faults complete (R397 to R408). -/

namespace Sys2Proof.Machine
variable {s t u : State} {o : Origin} {p a v r : Nat} {w : WordSpec}

/-! ### The insulation monitor (R397, R398) -/

/-- What every half-period does first: it stores its voltage and changes the polarity. -/
def State.isoTurn (s : State) : State :=
  let v := ratDiv s.iso.last.1 (s.iso.last.2 : Rat)
  let a := s.setWord (if s.iso.high then Reg.ISO_VPOS else Reg.ISO_VNEG) (fpOf v)
  let b : State := { a with iso := { a.iso with
    prevV := some v, high := !a.iso.high, startAt := a.nowNat, last := (0, 0), earlier := (0, 0) } }
  if b.owns then b.emit (.ball "ISO_INJ" b.iso.high) else b

theorem isoHalf_first (hens : s.ens Pg.ISO = true) (hrun : s.on Fld.ISO_STAT_HALTED = false) (hprev : s.iso.prevV = none) :
    s.isoHalf = s.isoTurn := by
  unfold State.isoHalf State.isoTurn
  rw [if_neg (by simp [hens, hrun])]
  simp only [setWord_iso, hprev]

/-- The half-period's result with the voltage of the one before. -/
def State.isoForm (s c : State) (pv : Rat) : State :=
  let v := ratDiv s.iso.last.1 (s.iso.last.2 : Rat)
  let w := ratDiv s.iso.earlier.1 (s.iso.earlier.2 : Rat)
  let d := ratAbs (v - pv)
  let kohm := 2 * ((c.get Fld.ISO_NET_UINJ : Rat) / 10) * (c.get Fld.ISO_NET_RM : Rat) / d / 1000 - (c.get Fld.ISO_RC_RC : Rat)
  let r := if d < 1 / 1000 then 65535 else satNat 16 (ratRound kohm)
  let unsettled := decide (ratAbs (v - w) > (c.get Fld.ISO_CFG_SETTLE : Rat) / 1000 * d)
  let e := ((c.wr Reg.ISO_RES (r + 2 ^ 16 + bitNat unsettled * 2 ^ 17)).bump Fld.ISO_CNT_Results).irq Pg.ISO Irq.ISO_RESULT
  if unsettled then
    let n := e.iso.unsettled + 1
    let f := (({ e with iso := { e.iso with unsettled := n } } : State).bump ⟨Reg.ISO_CNT, 16, 16⟩).irq Pg.ISO Irq.ISO_UNSETTLED
    if n = 8 then f.fault Pg.ISO Flt.ISO_MONITOR_FAIL 0 else f
  else
    let f := e.latchFault Pg.ISO Flt.ISO_MONITOR_FAIL
    let x := f.isoLimit f.iso.below f.iso.above r (f.get Fld.ISO_LIM_TRIP) Flt.INSULATION_LOW Irq.ISO_TRIP
    let y := x.2.isoLimit x.2.iso.belowWarn x.2.iso.aboveWarn r (f.get Fld.ISO_LIM_WARN) Flt.ISO_WARN Irq.ISO_WARN
    let g := y.2
    { g with iso := { g.iso with below := x.1.1, above := x.1.2, belowWarn := y.1.1, aboveWarn := y.1.2, unsettled := 0 } }

theorem isoHalf_later {pv : Rat} (hens : s.ens Pg.ISO = true) (hrun : s.on Fld.ISO_STAT_HALTED = false) (hprev : s.iso.prevV = some pv) :
    s.isoHalf = s.isoForm s.isoTurn pv := by
  unfold State.isoHalf
  rw [if_neg (by simp [hens, hrun])]
  unfold State.isoForm
  simp only [setWord_iso, hprev]
  rfl

/-! ### Handled faults (R403 to R407) -/

theorem dequeue_last {h : FaultItem} (hh : s.flt.handling = some h) (hdone : s.handlingDone h = true) (hq : s.flt.queue = []) :
    s.dequeue = (({ s with flt := { s.flt with handling := none } } : State).wr Reg.FLT_INFORCE 0).fltShow := by
  unfold State.dequeue
  rw [hh]
  dsimp only
  rw [if_neg (by simp [hdone]), hq]

theorem dequeue_next {h i : FaultItem} {rest : List FaultItem} (hh : s.flt.handling = some h) (hdone : s.handlingDone h = true)
    (hq : s.flt.queue = i :: rest) :
    s.dequeue = State.afterTrip (({ s with flt := { s.flt with queue := rest } } : State).handle i) := by
  unfold State.dequeue
  rw [hh]
  dsimp only
  rw [if_neg (by simp [hdone]), hq]

/-- Settles O36. -/
theorem faultHandlingComplete : Obligations.FaultHandlingComplete := by
  unfold Obligations.FaultHandlingComplete
  refine ⟨fun s hup hens hrun hprev => event_eq hup (isoHalf_first hens hrun hprev),
    fun s pv hup hens hrun hprev => event_eq hup (isoHalf_later hens hrun hprev),
    fun s h hup hh hdone => ⟨fun hq => event_eq hup (dequeue_last hh hdone hq), fun i rest hq => event_eq hup (dequeue_next hh hdone hq)⟩,
    fun s hup => event_eq hup rfl, fun s hup => event_eq hup rfl, fun s hup => event_eq hup rfl,
    fun s hup hstorm hq => event_eq hup (if_pos (by simp [hstorm, hq])), fun s o h => congrArg done ?_⟩
  rw [fltCmd_accepted h]
  rfl

end Sys2Proof.Machine
end

section
/-! What Snare and the fault manager leave of the estimator. -/

namespace Sys2Proof.Machine
variable {s t u : State} {o : Origin} {p a v r : Nat} {w : WordSpec}

/-! ### What the fault manager and Snare leave (R291, R400 to R408)

A fault, its reaction and its records change nothing of the estimator. -/

@[simp] theorem wr_est (a n : Nat) : (s.wr a n).est = s.est := rfl
@[simp] theorem put_est (f : RegField) (v : Nat) : (s.put f v).est = s.est := rfl
@[simp] theorem setOn_est (f : RegField) (b : Bool) : (s.setOn f b).est = s.est := rfl
@[simp] theorem bumpBy_est (f : RegField) (n : Nat) : (s.bumpBy f n).est = s.est := rfl
@[simp] theorem bump_est (f : RegField) : (s.bump f).est = s.est := rfl
@[simp] theorem setBit_est (a n : Nat) (b : Bool) : (s.setBit a n b).est = s.est := rfl
@[simp] theorem irq_est (p n : Nat) : (s.irq p n).est = s.est := rfl
@[simp] theorem faultRec_est (page code cls st inst value : Nat) : (s.faultRec page code cls st inst value).est = s.est := rfl
@[simp] theorem with_svc_est (x : ServiceFields) : ({ s with svc := x } : State).est = s.est := rfl
@[simp] theorem with_pwm_est (x : PwmState) : ({ s with pwm := x } : State).est = s.est := rfl
@[simp] theorem with_lpe_est (x : LoopState) : ({ s with lpe := x } : State).est = s.est := rfl
@[simp] theorem with_ctk_est (x : ContactorState) : ({ s with ctk := x } : State).est = s.est := rfl
@[simp] theorem with_flt_est (x : FaultState) : ({ s with flt := x } : State).est = s.est := rfl
@[simp] theorem with_evr_est (x : RecorderState) : ({ s with evr := x } : State).est = s.est := rfl
@[simp] theorem with_acc_est (x : AccessState) : ({ s with acc := x } : State).est = s.est := rfl

theorem ite_est {c : Prop} [Decidable c] (hs : s.est = u.est) (ht : t.est = u.est) : (if c then s else t).est = u.est := by
  split
  · exact hs
  · exact ht

/-! #### Snare -/

@[simp] theorem setPhases_est (v : Nat) : (s.setPhases v).est = s.est :=
  each_keeps (f := State.est) (fun _ _ => ite_est (put_est _ _) rfl) s 4

@[simp] theorem abortTest_est : s.abortTest.est = s.est := by
  have hcap : ∀ u : State, (if u.lpe.capRun then (u.put Fld.LPE_CAPSTAT_STATE 3).irq Pg.LPE Irq.LPE_CAP_DONE else u).est = u.est := fun u =>
    ite_est (by rw [irq_est, put_est]) rfl
  exact ite_est ((hcap _).trans (setOn_est _ _)) rfl

@[simp] theorem endConnect_est : s.endConnect.est = s.est := ite_est (put_est _ _) rfl

theorem trip_est : s.trip.1.est = s.est := by
  unfold State.trip
  dsimp only
  rw [with_svc_est]
  refine (ite_est ?_ rfl).trans ?_
  · rw [irq_est, put_est]
  · rw [endConnect_est, with_pwm_est, abortTest_est, irq_est, setOn_est, setPhases_est]
    rfl

@[simp] theorem snareAssert_est (src : Nat) : (s.snareAssert src).1.est = s.est := by
  unfold State.snareAssert
  split
  · rfl
  · rw [trip_est, irq_est, setBit_est, put_est, setOn_est]

/-! #### Contactors -/

@[simp] theorem countOpening_est (p : Nat) : (s.countOpening p).est = s.est := by
  have hcount : ((s.bumpBy (whole (Reg.CTK_POPS p)) 1).bump (Fld.CTK_PBRK_COUNT p)).est = s.est := by rw [bump_est, bumpBy_est]
  have hmax : ∀ (c : Prop) [Decidable c] (x : Nat),
      (if c then ((s.bumpBy (whole (Reg.CTK_POPS p)) 1).bump (Fld.CTK_PBRK_COUNT p)).put (Fld.CTK_PBRK_MAX p) x
        else (s.bumpBy (whole (Reg.CTK_POPS p)) 1).bump (Fld.CTK_PBRK_COUNT p)).est = s.est := fun c _ x =>
    ite_est ((put_est _ x).trans hcount) hcount
  unfold State.countOpening
  exact ite_est (ite_est (hmax _ _) (hmax _ _)) (bumpBy_est _ _)

theorem openPair_est (p : Nat) : (s.openPair p).est = s.est := by
  unfold State.openPair
  exact ite_est rfl (ite_est (put_est _ _) ((put_est _ _).trans (countOpening_est p)))

@[simp] theorem openAllNow_est : s.openAllNow.est = s.est :=
  each_keeps (f := State.est) (fun _ p => openPair_est p) s 10

@[simp] theorem beginOpening_est (branches : Nat) (mains toReady : Bool) : (s.beginOpening branches mains toReady).est = s.est :=
  ite_est rfl rfl

/-! #### Reactions -/

theorem reactC_est : s.reactC.est = s.est := by
  unfold State.reactC
  exact ite_est rfl (ite_est rfl (ite_est rfl (beginOpening_est _ _ _)))

theorem reactCBranch_est (b : Nat) : (s.reactCBranch b).est = s.est := by
  unfold State.reactCBranch
  exact ite_est rfl (ite_est rfl (beginOpening_est _ _ _))

theorem react_est (i : FaultItem) : (s.react i).1.est = s.est := by
  unfold State.react
  split_ifs
  · dsimp only
    rw [openAllNow_est, setOn_est, snareAssert_est, setOn_est]
  · rw [snareAssert_est, setOn_est]
  · split
    · exact reactC_est
    · exact reactCBranch_est _
  · rfl

theorem fltShow_est : s.fltShow.est = s.est := by
  unfold State.fltShow
  dsimp only
  split <;> rw [put_est, put_est, put_est]

theorem handle_est (i : FaultItem) : (s.handle i).1.est = s.est := by
  unfold State.handle
  rw [fltShow_est, react_est]

/-! #### Raising a fault -/

@[simp] theorem setStanding_est (c v : Nat) : (s.setStanding c v).est = s.est := by
  unfold State.setStanding
  dsimp only
  rw [put_est]
  exact (ite_est (bump_est _) rfl).trans (ite_est (put_est _ _) rfl)

theorem startStorm_est (code : Nat) : (s.startStorm code).1.est = s.est := by
  unfold State.startStorm
  rw [react_est, put_est, setStanding_est, put_est, put_est, put_est, irq_est, setOn_est]

theorem queueFault_est (i : FaultItem) : (s.queueFault i).1.est = s.est := by
  unfold State.queueFault
  split
  · exact handle_est i
  · split_ifs
    · exact startStorm_est _
    · rw [handle_est, irq_est]
    · exact fltShow_est

theorem evrFills_est : s.evrFills.est = s.est := by
  unfold State.evrFills
  dsimp only
  rw [wr_est, put_est, put_est, put_est, put_est, put_est]

theorem hold_est (c : Rec) : (s.hold c).1.est = s.est := by
  unfold State.hold
  dsimp only
  rw [evrFills_est]
  refine ite_est rfl ?_
  rw [irq_est, bumpBy_est]

theorem noteStamped_est (x : RawRec) (c : Rec) : (s.noteStamped x c).est = s.est := by
  have hseq : ∀ n, (if (s.wr Reg.EVR_SEQ n).get Fld.EVR_CFG_IRQSEV ≤ c.sev then (s.wr Reg.EVR_SEQ n).irq Pg.EVR Irq.EVR_RECORD
      else s.wr Reg.EVR_SEQ n).est = s.est := fun n => ite_est ((irq_est _ _).trans (wr_est _ _)) (wr_est _ _)
  unfold State.noteStamped
  refine ite_est (hseq _) ?_
  dsimp only
  split
  case' h_2 => rw [with_acc_est]
  all_goals
    rw [wr_est, wr_est, wr_est, wr_est]
    refine (ite_est (irq_est _ _) rfl).trans ?_
    rw [irq_est, bump_est, wr_est]
    exact hseq _

theorem beginFreeze_est (o : Origin) : (s.beginFreeze o).est = s.est := by
  unfold State.beginFreeze
  refine ite_est rfl ?_
  rw [irq_est, hold_est, with_evr_est, put_est, setOn_est, noteStamped_est]

theorem noteRaise_est (c inst value cls : Nat) : (s.noteRaise c inst value cls).est = s.est := by
  unfold State.noteRaise State.wr64
  rw [irq_est, wr_est, wr_est, wr_est, put_est, put_est, put_est, with_flt_est, put_est, setStanding_est]

theorem raiseAgain_est (page code inst value : Nat) : (s.raiseAgain page code inst value).est = s.est :=
  ite_est rfl (ite_est rfl rfl)

theorem raiseOne_est (page code inst value : Nat) (masked : Bool) : (s.raiseOne page code inst value masked).1.est = s.est := by
  unfold State.raiseOne
  split_ifs
  · exact raiseAgain_est _ _ _ _
  · dsimp only
    split_ifs
    · rw [put_est, bump_est, noteRaise_est]
    · rw [queueFault_est, beginFreeze_est, faultRec_est, noteRaise_est]
    · rw [queueFault_est, faultRec_est, noteRaise_est]

theorem markEvent_est (code : Nat) : (s.markEvent code).est = s.est := ite_est rfl rfl

theorem afterTrip_est (x : State × Bool) : (State.afterTrip x).est = x.1.est := by
  unfold State.afterTrip
  refine ite_est ?_ rfl
  rw [markEvent_est, raiseOne_est]

theorem fault_est (page code inst : Nat) (value : Word) (masked : Bool) : (s.fault page code inst value masked).est = s.est :=
  (afterTrip_est _).trans (raiseOne_est _ _ _ _ _)

theorem faultEvent_est (page code inst : Nat) (value : Word) : (s.faultEvent page code inst value).est = s.est :=
  (markEvent_est _).trans (fault_est _ _ _ _ _)

end Sys2Proof.Machine
end

section
/-! The estimator: updates, write-backs and commands complete (R203 to R230). -/

namespace Sys2Proof.Machine
variable {s t u : State} {o : Origin} {p a v r : Nat} {w : WordSpec}

/-! ### The estimator's update (R203) -/

/-- When the estimator last updated and whether it starts afresh. -/
def State.updateStamp (s : State) : Option Nat × Bool := (s.est.lastUpdate, s.est.fresh)

theorem updateStamp_of_est (h : t.est = s.est) : t.updateStamp = s.updateStamp := congrArg (fun x : EstState => (x.lastUpdate, x.fresh)) h

theorem disqualify_stamp (s : State) (i cause : Nat) : (s.disqualify i cause).updateStamp = s.updateStamp := by
  unfold State.disqualify
  dsimp only
  split
  · rfl
  · exact updateStamp_of_est (s := s.setEst i _) (bump_est _)

theorem foldl_keeps {α β : Type} {f : State → α} {g : State → β → State} (hg : ∀ u x, f (g u x) = f u) (l : List β) (s : State) :
    f (l.foldl g s) = f s := by
  induction l generalizing s with
  | nil => rfl
  | cons x l ih => exact (ih (g s x)).trans (hg s x)

theorem disqualifyAll_stamp (s : State) (cause : Nat) (f : Nat → Bool) : (s.disqualifyAll cause f).updateStamp = s.updateStamp :=
  foldl_keeps (f := State.updateStamp) (fun u i => by
    split
    · exact disqualify_stamp u i cause
    · rfl) _ s

theorem setCopy_stamp (s : State) (b : Bool) (f : LdCopy → LdCopy) : (s.setCopy b f).updateStamp = s.updateStamp := by
  cases b <;> rfl

theorem ldTorn_stamp (s : State) : s.ldTorn.updateStamp = s.updateStamp := by
  unfold State.ldTorn
  dsimp only
  rw [disqualifyAll_stamp, updateStamp_of_est (faultEvent_est _ _ _ _), updateStamp_of_est (irq_est _ _), updateStamp_of_est (bump_est _)]

theorem startWriteback_stamp (s : State) : s.startWriteback.updateStamp = s.updateStamp := by
  unfold State.startWriteback
  split
  · rfl
  · dsimp only
    split
    · exact (ldTorn_stamp _).trans (setCopy_stamp _ _ _)
    · exact (updateStamp_of_est (setOn_est _ _)).trans (setCopy_stamp s s.targetB (fun c => { c with magic := 0 }))

theorem takeIncoming_nowNat (s : State) : s.takeIncoming.nowNat = s.nowNat :=
  foldl_keeps (f := State.nowNat) (g := fun u (x : Nat × List Word) => u.setEst x.1 (takeRecord (u.estCell x.1) x.2)) (fun _ _ => rfl) _
    { s with est := { s.est with incoming := [] } }

theorem estimate_stamp (hens : s.ens Pg.EST = true) (hstate : s.get Fld.EST_STAT_STATE = 1) (happ : s.appUp = true) :
    s.estimate.updateStamp = (some s.nowNat, false) := by
  unfold State.estimate
  rw [if_neg (by simp [hens, hstate, happ])]
  refine (each_keeps (f := State.updateStamp) (fun u _ => startWriteback_stamp u) _ _).trans ?_
  exact Prod.ext (congrArg some (takeIncoming_nowNat s)) rfl

/-! ### Write-backs (R223 to R228) -/

theorem startWriteback_of_free (h : s.est.writing = none) :
    s.startWriteback =
      (let u := s.setCopy s.targetB (fun c => { c with magic := 0 })
       if u.on Fld.PWR_STAT_HUGOOD then
         ({ u with est := { u.est with writing := some ⟨s.targetB, s.ldSnapshot, false⟩ } } : State).setOn Fld.EST_STAT_LDBUSY true
       else u.ldTorn) := by
  unfold State.startWriteback
  rw [if_neg (by simp [h])]
  dsimp only
  split <;> rename_i hgood
  · rw [if_neg (by simpa using hgood)]
  · rw [if_pos (by simpa using hgood)]

theorem endWriteback_verified {w : Writeback} (hw : s.est.writing = some w) (hheld : s.est.held = false) :
    s.endWriteback true =
      (({ s with est := { s.est with writing := none } } : State).setOn Fld.EST_STAT_LDBUSY false).ldWritten w := by
  have hkeep : ∀ u : State, u.est.held = false → (u.ldWritten w).est.held = false := fun u hu => by
    cases h : w.toB <;> simpa [State.ldWritten, State.setCopy, h] using hu
  unfold State.endWriteback
  rw [hw]
  exact if_neg (by
    rw [if_pos rfl, Bool.not_eq_true]
    exact hkeep _ hheld)

theorem endWriteback_torn {w : Writeback} (hw : s.est.writing = some w) :
    s.endWriteback false =
      (let v := (({ s with est := { s.est with writing := none } } : State).setOn Fld.EST_STAT_LDBUSY false).ldTorn
       if v.est.held then ({ v with est := { v.est with held := false } } : State).startWriteback else v) := by
  unfold State.endWriteback
  rw [hw]
  rfl

theorem ldWritten_clk (s : State) (w : Writeback) : (s.ldWritten w).clk = s.clk := by
  have hcopy : (s.setCopy w.toB (fun _ => w.snap.sealed)).clk = s.clk := by cases w.toB <;> rfl
  exact hcopy

theorem writebackEnds_verified {w : Writeback} (hw : s.est.writing = some w) (hheld : s.est.held = false) (hdue : s.clk.transportDue = false) :
    s.writebackEnds .verified =
      (({ s with est := { s.est with writing := none } } : State).setOn Fld.EST_STAT_LDBUSY false).ldWritten w := by
  have hgood : s.endsGood .verified = true := rfl
  have hclk : ((({ s with est := { s.est with writing := none } } : State).setOn Fld.EST_STAT_LDBUSY false).ldWritten w).clk = s.clk :=
    ldWritten_clk _ w
  unfold State.writebackEnds
  rw [if_neg (by simp [hw]), hgood]
  dsimp only
  rw [endWriteback_verified hw hheld]
  exact if_neg (by rw [hclk, hdue, Bool.false_and, Bool.false_and]; exact Bool.false_ne_true)

theorem endsGood_torn {w : Writeback} {how : WritebackEnd} (hw : s.est.writing = some w)
    (h : how = .readbackWrong ∨ (how = .hugoodLost ∧ w.low = true)) : s.endsGood how = false := by
  rcases h with rfl | ⟨rfl, hlow⟩
  · rfl
  · simp [State.endsGood, hw, hlow]

theorem writebackEnds_torn {w : Writeback} {how : WritebackEnd} (hw : s.est.writing = some w)
    (h : how = .readbackWrong ∨ (how = .hugoodLost ∧ w.low = true)) : s.writebackEnds how = s.endWriteback false := by
  unfold State.writebackEnds
  rw [if_neg (by simp [hw]), endsGood_torn hw h]
  exact if_neg (by simp)

theorem estCommand_reload (h : s.get Fld.EST_STAT_STATE = 0) : s.estCommand (2 % 16) = s.loadLearned := by
  simp [State.estCommand, h]

theorem estCommand_restart :
    s.estCommand (3 % 16) = (s.est.cells.map Prod.fst).foldl (fun (u : State) i => u.disqualify i 5) s := by
  simp [State.estCommand, State.disqualifyAll]

/-- Settles O28. -/
theorem estimatorComplete : Obligations.EstimatorComplete := by
  unfold Obligations.EstimatorComplete
  refine ⟨fun s hup hens hstate happ => ⟨event_eq hup rfl, congrArg Prod.fst (estimate_stamp hens hstate happ), congrArg Prod.snd (estimate_stamp hens hstate happ)⟩,
    fun s o h hfree => congrArg done ?_, fun s hup happ hbusy => event_eq hup ?_, fun s hup happ hfree => event_eq hup (if_pos happ),
    fun s w hup hw hheld hdue => ⟨event_eq hup (writebackEnds_verified hw hheld hdue),
      fun how hhow => event_eq hup ((writebackEnds_torn hw hhow).trans (endWriteback_torn hw))⟩, fun s o h hstate => congrArg done ?_,
    fun s o h => congrArg done ?_⟩
  · rw [estCmd_accepted h]
    exact startWriteback_of_free (by simpa using hfree)
  · exact (if_pos happ).trans (if_pos hbusy)
  · rw [estCmd_accepted h]
    exact estCommand_reload (by simpa using hstate)
  · rw [estCmd_accepted h, estCommand_restart, mirrorOut_est]

end Sys2Proof.Machine
end

section
/-! The safety island: events at the inputs complete (R422 to R433). -/

namespace Sys2Proof.Machine
variable {s t u : State} {o : Origin} {p a v r n : Nat} {w : WordSpec}

/-- A field of another register keeps its value. -/
theorem put_get {f g : RegField} (h : f.addr ≠ g.addr) (v : Nat) : (s.put f v).get g = s.get g := by
  simp only [State.get, rd_put_ne s h]

/-! ### Edges at the island's inputs (R422, R423) -/

theorem instat_ne_incfg (n : Nat) : Reg.SFI_INSTAT ≠ Reg.SFI_INCFG n := by simp only [Reg.SFI_INSTAT, Reg.SFI_INCFG]; omega

theorem instat_ne_intim (n : Nat) : Reg.SFI_INSTAT ≠ Reg.SFI_INTIM n := by simp only [Reg.SFI_INSTAT, Reg.SFI_INTIM]; omega

/-- The fields of SFI_INSTAT in which a channel's raw and filtered levels stand. -/
def instatField (raw : Bool) (c : Nat) : RegField :=
  if raw then (if c = 0 then Fld.SFI_INSTAT_A else Fld.SFI_INSTAT_B) else (if c = 0 then Fld.SFI_INSTAT_A2 else Fld.SFI_INSTAT_B2)

theorem instatField_addr (raw : Bool) (c : Nat) : (instatField raw c).addr = Reg.SFI_INSTAT := by
  unfold instatField
  split_ifs <;> rfl

theorem put_instat_get (raw : Bool) (c v : Nat) {g : RegField} (h : Reg.SFI_INSTAT ≠ g.addr) :
    (s.put (instatField raw c) v).get g = s.get g :=
  put_get (by rw [instatField_addr]; exact h) v

theorem notePress_get (s : State) (n : Nat) (was : Bool) (g : RegField) : (s.notePress n was).get g = s.get g := by
  unfold State.notePress
  split_ifs <;> rfl

theorem filteredEdge_short {c : Nat} {x : RawLevel} (h : x.held10us < 10 * s.get (Fld.SFI_INTIM_FILT n)) :
    s.filteredEdge n c x =
      (let raw := if c = 0 then Fld.SFI_INSTAT_A else Fld.SFI_INSTAT_B
       s.put raw (putBit (s.get raw) n x.level)) := by
  have hfilt : ∀ v, (s.put (instatField true c) v).get (Fld.SFI_INTIM_FILT n) = s.get (Fld.SFI_INTIM_FILT n) := fun v =>
    put_instat_get true c v (instat_ne_intim n)
  exact if_pos (lt_of_lt_of_eq h (congrArg (fun k => 10 * k) (hfilt _).symm))

theorem filteredEdge_held {c : Nat} {x : RawLevel} (hruns : s.islandRuns = true) (htype : s.get (Fld.SFI_INCFG_TYPE n) ≠ 0)
    (h : 10 * s.get (Fld.SFI_INTIM_FILT n) ≤ x.held10us) :
    s.filteredEdge n c x =
      (let raw := if c = 0 then Fld.SFI_INSTAT_A else Fld.SFI_INSTAT_B
       let fil := if c = 0 then Fld.SFI_INSTAT_A2 else Fld.SFI_INSTAT_B2
       let r := s.put raw (putBit (s.get raw) n x.level)
       let a := (r.put fil (putBit (r.get fil) n x.level)).notePress n (s.pressed n)
       let b := if a.chanSafe n 0 && a.chanSafe n 1 then
           let t := a.modIsl (fun x => { x with seenSafe := if s.inputFaulty n then putBit x.seenSafe n true else x.seenSafe })
           if bitOf t.isl.stuck n then
             (t.modIsl (fun x => { x with stuck := putBit x.stuck n false })).endInstance Pg.SFI Flt.SFI_INPUT_FAULT n
           else t
         else a.clearInput n
       b.inputMoved n (s.inputSafe n) (s.inputFaulty n)) := by
  have hfilt : ∀ v, (s.put (instatField true c) v).get (Fld.SFI_INTIM_FILT n) = s.get (Fld.SFI_INTIM_FILT n) := fun v =>
    put_instat_get true c v (instat_ne_intim n)
  have hget : ∀ (v v' : Nat) (g : RegField), Reg.SFI_INSTAT ≠ g.addr →
      (((s.put (instatField true c) v).put (instatField false c) v').notePress n (s.pressed n)).get g = s.get g := fun v v' g hg =>
    (notePress_get _ _ _ _).trans ((put_instat_get false c v' hg).trans (put_instat_get true c v hg))
  have hon : ∀ v v', (((s.put (instatField true c) v).put (instatField false c) v').notePress n (s.pressed n)).islandRuns = true := fun v v' =>
    (congrArg (fun k => k == 4) (hget v v' _ (by decide))).trans hruns
  have hkind : ∀ v v', (((s.put (instatField true c) v).put (instatField false c) v').notePress n (s.pressed n)).get (Fld.SFI_INCFG_TYPE n) ≠ 0 :=
    fun v v' => ne_of_eq_of_ne (hget v v' _ (instat_ne_incfg n)) htype
  refine (if_neg (not_lt.mpr (le_of_eq_of_le (congrArg (fun k => 10 * k) (hfilt _)) h))).trans (if_neg ?_)
  simpa using ⟨hon _ _, hkind _ _⟩

/-- Settles O37. -/
theorem safetyInputsComplete : Obligations.SafetyInputsComplete := by
  unfold Obligations.SafetyInputsComplete
  refine ⟨fun s n ch x hup h => event_eq hup (congrArg State.safetyOut (filteredEdge_short h)),
    fun s n ch x hup hruns htype h => event_eq hup (congrArg State.safetyOut (filteredEdge_held hruns htype h)),
    fun s src la lb hup hruns => event_eq hup (congrArg State.safetyOut (if_neg ?_)),
    fun s n hup hruns htype hdiff hdisc => event_eq hup (congrArg State.safetyOut (if_neg ?_)),
    fun s n hup hruns hstop hfn => event_eq hup (congrArg State.safetyOut (if_pos (by simp [hruns, hstop, hfn]))),
    fun s hup hruns hdone => event_eq hup (congrArg State.safetyOut (if_neg (by simp [hruns, hdone]))),
    fun s n ms hup hms => ⟨fun hruns htype hfaulty hlo hhi => event_eq hup (congrArg State.safetyOut (if_pos ?_)),
      fun hout => event_eq hup (congrArg State.safetyOut (if_neg ?_))⟩,
    fun s n hup hruns htype h0 h1 hstuck hlong => event_eq hup (congrArg State.safetyOut (if_pos ?_)),
    fun s hup hoffs hsettled => event_eq hup (congrArg State.safetyOut (if_pos (by simp [hoffs, hsettled])))⟩
  · rw [Bool.not_eq_true']
    exact ne_of_eq_of_ne hruns (by decide)
  · simp [hruns, htype, hdiff, hdisc]
  · subst hms
    have hruns' : ∀ f, (s.modIsl f).islandRuns = true := fun _ => hruns
    have htype' : ∀ f, (s.modIsl f).get (Fld.SFI_INCFG_TYPE n.val) = 5 := fun _ => htype
    have hfaulty' : (s.modIsl (fun x => { x with pressedFor := smErase n.val x.pressedFor })).inputFaulty n.val = false := hfaulty
    simp [hruns', htype', hfaulty', hlo, hhi]
  · subst hms
    simp only [Bool.and_eq_true, decide_eq_true_eq]
    omega
  · simp only [hruns, htype, State.pressed, h0, h1, hstuck]
    simpa using hlong

end Sys2Proof.Machine
end

section
/-! The safety island: the cycle, its commands and the test pulses of the outputs complete (R434 to R440). -/

namespace Sys2Proof.Machine
variable {s t u : State} {o : Origin} {p a v r n : Nat} {w : WordSpec}

/-! ### The safety cycle and the test pulses of the outputs (R434 to R439) -/

theorem rimEnd_of_pulse {ch k : Nat} {low : Bool} {q : RimPulse} (h : s.isl.rim.find? (fun x => x.1 == ch) = some (k, q)) (hrun : q.ended = false) :
    s.rimEnd ch low =
      (let a := s.modIsl (fun x => { x with rim := smInsert ch { q with ended := true, low := low } x.rim })
       if a.on (outCmd ch) then a.emit (.ball (outBall ch) true) else a) := by
  unfold State.rimEnd
  rw [h]
  exact if_neg (by simp [hrun])

theorem rimVerdict_of_pulse {ch k : Nat} {high : Bool} {q : RimPulse} (h : s.isl.rim.find? (fun x => x.1 == ch) = some (k, q))
    (hended : q.ended = true) :
    s.rimVerdict ch high =
      (let a := s.modIsl (fun x => { x with rim := smErase ch x.rim })
       if q.disc then a.bump Fld.SFI_RIMCNT_DISC
       else if q.low && high then a.bump Fld.SFI_RIMCNT_PASS
       else State.coilSeen a ((a.bump Fld.SFI_RIMCNT_FAIL).outFault (ch / 2))) := by
  unfold State.rimVerdict
  rw [h]
  exact if_neg (by simp [hended])

/-- Settles O38. -/
theorem safetyOutputsComplete : Obligations.SafetyOutputsComplete := by
  unfold Obligations.SafetyOutputsComplete
  refine ⟨fun s rbA rbB eq hup h0 h5 => event_eq hup (congrArg (fun t : State => t.slotShow.safetyOut) (if_neg (by simp [h0, h5]))),
    fun s o h hruns => congrArg done ?_, fun s o h => congrArg done ?_,
    fun s ch hup hon hcycle hrim => event_eq hup (congrArg State.safetyOut (if_pos (by simp [hon, hcycle, hrim]))),
    fun s ch low k q hup h hrun => event_eq hup (congrArg State.safetyOut (rimEnd_of_pulse h hrun)),
    fun s ch high k q hup h hended => event_eq hup (congrArg State.safetyOut (rimVerdict_of_pulse h hended))⟩
  · rw [sfiCmd_accepted h]
    exact if_neg (by simp [hruns])
  · rw [sfiCmd_accepted h]
    rfl

end Sys2Proof.Machine
end

section
/-! The safety island: faults, initialisation, confirmation and slot handover complete (R419, R420, R444 to R449). -/

namespace Sys2Proof.Machine
variable {s t u : State} {o : Origin} {p a v r n : Nat} {w : WordSpec}

/-! ### The island's states and the handover between its slots (R419 to R420, R444 to R449) -/

theorem initDone_of_init (h : s.get Fld.SFI_STAT_STATE = 0) :
    s.initDone =
      (let a := match s.storedBlock with
         | none => s
         | some (ws, _) => ((List.range 64).zip ws).foldl (fun (t : State) (x : Nat × Word) => t.setWord (0x70100 + 4 * x.1) x.2) s
       let b := (a.modIsl (fun x => { x with okLine := true })).latchFault Pg.SFI Flt.SFI_ISLAND_FAULT
       let c := b.setEns Pg.SFI b.isl.storedEn
       if !c.isl.storedEn then c.put Fld.SFI_STAT_STATE 1
       else match c.storedBlock with
       | some (_, some v) => if v = c.sfiPcv then c.enterRun.maybeReady
           else (c.put Fld.SFI_STAT_STATE 3).fault Pg.SFI Flt.SFI_CONFIRM_LOST 0
       | _ => (c.put Fld.SFI_STAT_STATE 3).fault Pg.SFI Flt.SFI_CONFIRM_LOST 0) := by
  unfold State.initDone
  exact if_neg (not_not.mpr h)

theorem prepare_of_fit {k lo hi x : Nat} {ws : List Word} (hruns : s.islandRuns = true)
    (hloaded : bitOf (s.get Fld.SFI_SLOT_LOADED) (1 - s.get Fld.SFI_SLOT_ACTIVE) = true)
    (himage : s.isl.images.find? (fun y => y.1 == 1 - s.get Fld.SFI_SLOT_ACTIVE) = some (k, lo, hi, x))
    (hlo : lo ≤ s.get Fld.SFI_SLOT_STREV) (hhi : s.get Fld.SFI_SLOT_STREV ≤ hi) (hcopy : s.isl.copyA = some (ws, some s.sfiPcv)) :
    s.prepare =
      ((s.modIsl (fun y => { y with shadowing := true, commitDue := none })).put Fld.SFI_SLOT_SHADOW 0).setOn Fld.SFI_STAT_HOPREP false := by
  unfold State.prepare
  dsimp only
  rw [himage, hcopy]
  exact if_pos (by simp [hruns, hloaded, hlo, hhi])

theorem prepare_of_stopped (h : s.islandRuns = false) : s.prepare = s.irq Pg.SFI Irq.SFI_HANDOVER_FAIL :=
  if_neg (by simp [h])

theorem sfiConfirm_right {x : Word} (hstate : s.get Fld.SFI_STAT_STATE = 3) (h : x = s.sfiPcv) :
    (s.sfiConfirm o x).1 = s.modIsl (fun y => { y with confirmDue := some o }) := by
  simp [State.sfiConfirm, hstate, h]

theorem sfiConfirm_late {x : Word} (hstate : s.get Fld.SFI_STAT_STATE ≠ 3) (h : x = s.sfiPcv) : (s.sfiConfirm o x).1 = s := by
  simp [State.sfiConfirm, hstate, h]

theorem sfiConfirm_wrong {x : Word} (h : x ≠ s.sfiPcv) :
    (s.sfiConfirm o x).1 = (s.irq Pg.SFI Irq.SFI_MISMATCH).audit 1 o Reg.SFI_CONFIRM 0 x.toNat := by
  simp [State.sfiConfirm, h]

/-- Settles O39. -/
theorem islandStatesComplete : Obligations.IslandStatesComplete := by
  unfold Obligations.IslandStatesComplete
  have hconfirm : ∀ {s : State} {o : Origin} {x : Word}, s.Accepts o Reg.SFI_CONFIRM x.toNat →
      s.command o Reg.SFI_CONFIRM x.toNat = (s.sfiConfirm o x).1 := fun h => by
    rw [sfiConfirm_accepted h, BitVec.ofNat_toNat, BitVec.setWidth_eq]
  refine ⟨fun s c hup h5 => event_eq hup (congrArg State.safetyOut (if_neg h5)), fun s hup => rfl, fun s hup => event_eq hup rfl,
    fun s hup h5 hcount => event_eq hup (congrArg (fun t : State => t.slotShow.safetyOut) (if_pos ⟨h5, hcount⟩)),
    fun s hup h5 hcount => event_eq hup (congrArg (fun t : State => t.slotShow.safetyOut) (if_neg fun h => not_lt.mpr hcount h.2)),
    fun s hup h0 => event_eq hup (congrArg State.safetyOut (initDone_of_init h0)),
    fun s o x h => ⟨fun h3 hx => congrArg done ((hconfirm h).trans (sfiConfirm_right h3 hx)),
      fun h3 hx => congrArg done ((hconfirm h).trans (sfiConfirm_late h3 hx)), fun hx => congrArg done ((hconfirm h).trans (sfiConfirm_wrong hx))⟩,
    fun s o k lo hi x ws h hruns hloaded himage hlo hhi hcopy => congrArg done ?_, fun s o h hruns => congrArg done ?_,
    fun s o h hprep => congrArg done ?_, fun s o h hshadow => congrArg done ?_,
    fun s hup hprep hdue => event_eq hup (congrArg State.safetyOut (if_pos (by simp [hprep, hdue]))), fun s => rfl,
    fun s hup hdue => event_eq hup (congrArg State.safetyOut (if_pos hdue))⟩
  · rw [sfiCmd_accepted h]
    exact prepare_of_fit hruns hloaded himage hlo hhi hcopy
  · rw [sfiCmd_accepted h]
    exact prepare_of_stopped hruns
  · rw [sfiCmd_accepted h]
    exact if_pos hprep
  · rw [sfiCmd_accepted h]
    exact if_pos hshadow

end Sys2Proof.Machine
end

section
/-! Safety connections: PDUs, timers and commands complete (R460 to R476). -/

namespace Sys2Proof.Machine
variable {s t u : State} {o : Origin} {p a v r n : Nat} {w : WordSpec} {pdu : List Byte}

/-! ### Safety PDUs (R460 to R469) -/

theorem networkUp_of {net : BitVec 2} (h : net = 0 ∧ s.Up 9 ∨ (net = 1 ∨ net = 2) ∧ s.Up 8) (f : State → State) : s.networkUp net.toNat f = f s := by
  unfold State.networkUp
  rcases h with ⟨rfl, hup⟩ | ⟨rfl | rfl, hup⟩
  · exact upIn_of hup f
  · exact upIn_of hup f
  · exact upIn_of hup f

theorem sclArrive_of_room (h : s.scl.rxq.length < 16) : s.sclArrive pdu = { s with scl := { s.scl with rxq := s.scl.rxq ++ [pdu] } } :=
  if_neg (not_le.mpr h)

theorem sclTake_single {kind : Nat} {rest : List (List Byte)} (hq : s.scl.rxq = pdu :: rest) (hused : s.sclUsed = true) (hlen : pdu.length = 24)
    (hcrc : (crc32c (pdu.take 20)).toNat = beAt pdu 20 4) (hver : beAt pdu 0 1 / 16 = 1) (hkind : sclKind pdu = kind) (hlo : 1 ≤ kind)
    (hhi : kind ≤ 4) (hconn : s.connOf pdu (sclRole kind) = some n) (hres : sclReserved pdu false = false)
    (hcompat : s.on (Fld.SCL_CCFG_COMPAT n) = false) :
    s.sclTake kind = ({ s with scl := { s.scl with rxq := rest } }, some (n, pdu)) := by
  have hused' : ({ s with scl := { s.scl with rxq := rest } } : State).sclUsed = true := hused
  have hconn' : ({ s with scl := { s.scl with rxq := rest } } : State).connOf pdu (sclRole kind) = some n := hconn
  have hcompat' : ({ s with scl := { s.scl with rxq := rest } } : State).on (Fld.SCL_CCFG_COMPAT n) = false := hcompat
  unfold State.sclTake
  rw [hq]
  dsimp only
  rw [hkind, if_neg (by simp [hused']), if_neg (by simp [hlen, hcrc]), if_neg (by omega), hconn']
  dsimp only
  rw [hcompat', if_neg (by simp [hres]), if_neg (by simp), if_pos (by simp)]

theorem sclOpenPdu_taken (h : s.sclTake 1 = (u, some (n, pdu))) :
    s.sclOpenPdu =
      (let own := (crc32c (beBytes 4 (u.rd (Reg.SCL_CID n)) ++ beBytes 4 (u.rd (Reg.SCL_CTIM n)))).toNat
       if beAt pdu 16 4 ≠ own then ((u.sclSendNext n 4 4).irq Pg.SCL Irq.SCL_MISMATCH).fault Pg.SCL Flt.SCL_PARAM_MISMATCH n
       else
         let a := (u.endInstance Pg.SCL Flt.SCL_PARAM_MISMATCH n).connRevive n
         let b := a.modConn n (fun c => { c with lastSeq := 0, ownSeq := 0, stamp := beAt pdu 12 2, heard := a.rd Reg.SFI_CYCLE })
         (((b.wr (Reg.SCL_CSEQ n) 0).put (Fld.SCL_CSTAT_REASON n) 0).setConn n 3).sclSendData n) := by
  unfold State.sclOpenPdu
  rw [h]

theorem sclClosePdu_taken (h : s.sclTake 4 = (u, some (n, pdu))) : s.sclClosePdu = u.connFail n 6 := by
  unfold State.sclClosePdu
  rw [h]

theorem connFail_standing {reason : Nat} (h0 : s.get (Fld.SCL_CSTAT_STATE n) ≠ 0) (h4 : s.get (Fld.SCL_CSTAT_STATE n) ≠ 4) :
    s.connFail n reason =
      (let a := ((s.setConn n 4).put (Fld.SCL_CSTAT_REASON n) reason).setOn (Fld.SCL_CSTAT_PERMIT n) false
       let b := (a.modConn n (fun c => { c with held := none })).sclSendNext n 4 reason
       ((b.irq Pg.SCL Irq.SCL_FAIL).fault Pg.SCL Flt.SCL_CONN_FAIL n (BitVec.ofNat 32 reason)).islandLines) :=
  if_neg (by simp [h0, h4])

theorem seqCheck_inWindow {q : Nat} (hlo : 0 < s.seqDiff n q) (hhi : s.seqDiff n q ≤ (s.get (Fld.SCL_CCFG_SEQWIN n) : Nat)) :
    s.seqCheck n q = ((s.modConn n (fun c => { c with lastSeq := q })).wr (Reg.SCL_CSEQ n) q, true) :=
  (if_neg (not_le.mpr hlo)).trans (if_neg (not_lt.mpr hhi))

theorem sclDataPdu_taken (h : s.sclTake 2 = (u, some (n, pdu))) (h0 : u.get (Fld.SCL_CSTAT_STATE n) ≠ 0) (h4 : u.get (Fld.SCL_CSTAT_STATE n) ≠ 4)
    (hlo : 0 < u.seqDiff n (beAt pdu 8 4)) (hhi : u.seqDiff n (beAt pdu 8 4) ≤ (u.get (Fld.SCL_CCFG_SEQWIN n) : Nat))
    (hfirst : u.get (Fld.SCL_CSTAT_STATE n) = 1 → u.seqDiff n (beAt pdu 8 4) = 1) :
    s.sclDataPdu =
      (let a := (u.modConn n (fun c => { c with lastSeq := beAt pdu 8 4 })).wr (Reg.SCL_CSEQ n) (beAt pdu 8 4)
       let b := (a.modConn n (fun c => { c with stamp := beAt pdu 12 2, texp := beAt pdu 14 2 })).wr (Reg.SCL_CRX n) (beAt pdu 16 4)
       let c := if u.get (Fld.SCL_CSTAT_STATE n) = 1 then b.setConn n (if b.on (Fld.SCL_CCFG_AUTO n) then 3 else 2) else b
       (c.connDeliver n).islandLines) := by
  unfold State.sclDataPdu
  rw [h]
  dsimp only
  rw [if_neg (by simp [h0, h4]), if_neg (fun hx => by have := hfirst hx.1; omega), seqCheck_inWindow hlo hhi]
  rfl

theorem sclStatusPdu_taken (h : s.sclTake 3 = (u, some (n, pdu))) (h3 : u.get (Fld.SCL_CSTAT_STATE n) = 3)
    (hlo : 0 < u.seqDiff n (beAt pdu 8 4)) (hhi : u.seqDiff n (beAt pdu 8 4) ≤ (u.get (Fld.SCL_CCFG_SEQWIN n) : Nat)) :
    s.sclStatusPdu =
      ((u.modConn n (fun c => { c with lastSeq := beAt pdu 8 4 })).wr (Reg.SCL_CSEQ n) (beAt pdu 8 4)).modConn n
        (fun c => { c with stamp := beAt pdu 12 2, heard := u.rd Reg.SFI_CYCLE }) := by
  unfold State.sclStatusPdu
  rw [h]
  dsimp only
  rw [if_neg (not_not.mpr h3), seqCheck_inWindow hlo hhi]
  rfl

/-! ### Timers and commands of the connections (R464, R465, R471, R476) -/

theorem not_isConsumer_of_isProducer (h : s.isProducer n = true) : s.isConsumer n = false := by
  simp only [State.isProducer, Bool.and_eq_true] at h
  simp [State.isConsumer, h]

theorem not_isProducer_of_isConsumer (h : s.isConsumer n = true) : s.isProducer n = false := by
  simp only [State.isConsumer, Bool.and_eq_true, Bool.not_eq_true'] at h
  simp [State.isProducer, h]

theorem sclSingle_held (h : (s.conn n).held = some pdu) :
    s.sclSingle n = (s.bump (Fld.SCL_CCNT_SINGLE n)).modConn n (fun c => { c with held := none }) := by
  unfold State.sclSingle
  rw [h]

theorem sclReturn_failed (hused : s.sclUsed = true) (hcons : s.isConsumer n = true) (hst : s.get (Fld.SCL_CSTAT_STATE n) = 4) :
    s.sclReturn n = (s.connOpening n).islandLines :=
  if_pos (by simp [hused, hcons, hst])

theorem connWatch_consumer (hcons : s.isConsumer n = true) (hst : s.get (Fld.SCL_CSTAT_STATE n) = 2 ∨ s.get (Fld.SCL_CSTAT_STATE n) = 3) :
    s.connWatch n =
      (let a := s.put (Fld.SCL_CSTAT_AGE n) (min 255 (s.connAge n))
       if s.get (Fld.SCL_CTIM_WDT n) < a.connAge n then a.connFail n 1 else a) :=
  (if_pos hcons).trans (if_neg (by omega))

theorem connWatch_producer (hprod : s.isProducer n = true) (hst : s.get (Fld.SCL_CSTAT_STATE n) = 3)
    (hlate : s.get (Fld.SCL_CTIM_WDT n) < s.rd Reg.SFI_CYCLE - (s.conn n).heard) : s.connWatch n = s.connFail n 1 :=
  (if_neg (by simp [not_isConsumer_of_isProducer hprod])).trans (if_pos (by simp [hprod, hst, hlate]))

theorem sclPeriod_producer (hused : s.sclUsed = true) (hprod : s.isProducer n = true) (hst : s.get (Fld.SCL_CSTAT_STATE n) = 3) :
    s.sclPeriod n = s.sclSendData n :=
  (if_neg (by simp [hused])).trans ((if_pos hprod).trans (if_pos hst))

theorem sclPeriod_opening (hused : s.sclUsed = true) (hcons : s.isConsumer n = true) (hst : s.get (Fld.SCL_CSTAT_STATE n) = 1) :
    s.sclPeriod n = s.sclSend n 1 0 (crc32c (beBytes 4 (s.rd (Reg.SCL_CID n)) ++ beBytes 4 (s.rd (Reg.SCL_CTIM n)))).toNat :=
  (if_neg (by simp [hused])).trans ((if_neg (by simp [not_isProducer_of_isConsumer hcons])).trans ((if_neg (by simp [hcons])).trans (if_pos hst)))

theorem sclPeriod_consumer (hused : s.sclUsed = true) (hcons : s.isConsumer n = true)
    (hst : s.get (Fld.SCL_CSTAT_STATE n) = 2 ∨ s.get (Fld.SCL_CSTAT_STATE n) = 3) : s.sclPeriod n = s.sclSendNext n 3 0 :=
  (if_neg (by simp [hused])).trans ((if_neg (by simp [not_isProducer_of_isConsumer hcons])).trans ((if_neg (by simp [hcons])).trans
    ((if_neg (by omega)).trans (if_pos hst))))

/-- The operation and the connection that SCL_CMD names (R476). -/
theorem sclCmd_fields (n : Fin 8) : (1 + 256 * n.val) % 16 = 1 ∧ bitsOf (1 + 256 * n.val) 8 3 = n.val ∧ (2 + 256 * n.val) % 16 = 2 ∧
    bitsOf (2 + 256 * n.val) 8 3 = n.val := by
  revert n
  decide

/-- Settles O40. -/
theorem safetyConnectionsComplete : Obligations.SafetyConnectionsComplete := by
  unfold Obligations.SafetyConnectionsComplete
  refine ⟨⟨fun s net pdu hup hnet hroom => event_eq hup ?_,
    fun s kind n pdu rest hq hused hlen hcrc hver hkind hlo hhi hconn hres hcompat =>
      sclTake_single hq hused hlen hcrc hver hkind hlo hhi hconn hres hcompat,
    fun s u n pdu hup h => ⟨fun hown => event_eq hup (congrArg State.safetyOut ((sclOpenPdu_taken h).trans (if_neg (not_not.mpr hown)))),
      fun hown => event_eq hup (congrArg State.safetyOut ((sclOpenPdu_taken h).trans (if_pos hown)))⟩,
    fun s u n pdu hup h h0 h4 hlo hhi hfirst => event_eq hup (congrArg State.safetyOut (sclDataPdu_taken h h0 h4 hlo hhi hfirst)),
    fun s u n pdu hup h h3 hlo hhi => event_eq hup (congrArg State.safetyOut (sclStatusPdu_taken h h3 hlo hhi)),
    fun s u n pdu hup h h0 h4 => event_eq hup (congrArg State.safetyOut ((sclClosePdu_taken h).trans (connFail_standing h0 h4)))⟩,
    fun s n pdu hup h => event_eq hup (congrArg State.safetyOut (sclSingle_held h)),
    fun s n hup hused => ⟨fun hprod hst => event_eq hup (congrArg State.safetyOut (sclPeriod_producer hused hprod hst)),
      fun hcons hst => event_eq hup (congrArg State.safetyOut (sclPeriod_opening hused hcons hst)),
      fun hcons hst => event_eq hup (congrArg State.safetyOut (sclPeriod_consumer hused hcons hst))⟩,
    fun s n hup hcons hst => event_eq hup (congrArg State.safetyOut (connWatch_consumer hcons hst)),
    fun s n hup hprod hst hlate => event_eq hup (congrArg State.safetyOut (connWatch_producer hprod hst hlate)),
    fun s n hup hused hcons hst => event_eq hup (congrArg State.safetyOut (sclReturn_failed hused hcons hst)),
    fun s o n h hused hcons hst => congrArg done ?_, fun s o n h h0 h4 => congrArg done ?_⟩
  · exact (networkUp_of hnet _).trans (congrArg State.safetyOut (sclArrive_of_room hroom))
  · obtain ⟨hop, hconn, -, -⟩ := sclCmd_fields n
    rw [sclCmd_accepted h, hop, hconn]
    exact congrArg State.drainScl (sclReturn_failed hused hcons hst)
  · obtain ⟨-, -, hop, hconn⟩ := sclCmd_fields n
    rw [sclCmd_accepted h, hop, hconn]
    exact congrArg State.drainScl (connFail_standing h0 h4)

end Sys2Proof.Machine
end

section
/-! The fabric: a frame is checked in order (R478 to R484). -/

namespace Sys2Proof.Machine
variable {s t u : State} {o : Origin} {p a v r n : Nat} {w : WordSpec} {f : FabFrame}

/-! ### The checks of a fabric frame, in order (R478 to R484) -/

theorem macFits_iff (n : Nat) (f : FabFrame) :
    macFits n f = false ↔ (f.dstMac ≠ ownMac n ∧ f.dstMac ≠ macBroadcast) ∨ f.etherType ≠ 0x88B5 ∨ 1466 < f.payload.length := by
  simp only [macFits, Bool.and_eq_false_iff, Bool.or_eq_false_iff, beq_eq_false_iff_ne, decide_eq_false_iff_not, not_le]
  tauto

theorem rsvSet_iff (f : FabFrame) : rsvSet f = true ↔ f.rsv0 ≠ 0 ∨ f.rsvDst ≠ 0 ∨ f.rsvSrc ≠ 0 ∨ f.rsv7 ≠ 0 := by
  simp [rsvSet, or_assoc]

theorem receive_badFcs (h0 : s.laneState n ≠ 0) (h1 : s.laneState n ≠ 1) (hfcs : f.fcsOk = false) : s.receive n f = (s.fcsFail n f, false) :=
  (if_neg (by omega)).trans (if_pos (by simp [hfcs]))

theorem fcsFail_eq (s : State) (n : Nat) (f : FabFrame) :
    s.fcsFail n f =
      (let u := s.bump (whole (Reg.FP_CNT_FCS n))
       if f.dst.toNat = u.ownAddr ∧ f.type = 4 then u.rejectAt Pg.FAB 0xB (.fabric f.src) true (Reg.base Pg.FAB) 0 else u) := by
  have htype : f.type.toNat = 4 ↔ f.type = 4 := ⟨fun h => BitVec.eq_of_toNat_eq h, fun h => by rw [h]; rfl⟩
  simp only [State.fcsFail, htype]

theorem receive_badMac (h0 : s.laneState n ≠ 0) (h1 : s.laneState n ≠ 1) (hfcs : f.fcsOk = true) (hmac : macFits n f = false) :
    s.receive n f = (s.laneDiscard n (Reg.FP_CNT_DISC n), false) :=
  (if_neg (by omega)).trans ((if_neg (by simp [hfcs])).trans (if_pos (by simp [hmac])))

theorem receive_badTag (h0 : s.laneState n ≠ 0) (h1 : s.laneState n ≠ 1) (hfcs : f.fcsOk = true) (hmac : macFits n f = true)
    (htag : (s.lane n).session = none ∨ s.tagHolds n f = false) : s.receive n f = (s.authFail n f, false) :=
  (if_neg (by omega)).trans ((if_neg (by simp [hfcs])).trans ((if_neg (by simp [hmac])).trans (if_pos (by
    rcases htag with h | h <;> simp [h]))))

theorem receive_replay (h0 : s.laneState n ≠ 0) (h1 : s.laneState n ≠ 1) (hfcs : f.fcsOk = true) (hmac : macFits n f = true)
    (hsession : (s.lane n).session ≠ none) (htag : s.tagHolds n f = true) (hctr : f.ctr.toNat ≤ (s.lane n).rxCtr) :
    s.receive n f = ((s.bump Fld.FAB_AUTHCNT_REPLAY).laneDiscard n (Reg.FP_CNT_REPLAY n), false) :=
  (if_neg (by omega)).trans ((if_neg (by simp [hfcs])).trans ((if_neg (by simp [hmac])).trans ((if_neg (by
    simp [hsession, htag])).trans (if_pos hctr))))

/-- What is left to check once a frame is authentic and new. -/
theorem receive_fresh (h0 : s.laneState n ≠ 0) (h1 : s.laneState n ≠ 1) (h5 : s.laneState n ≠ 5) (hfcs : f.fcsOk = true) (hmac : macFits n f = true)
    (hsession : (s.lane n).session ≠ none) (htag : s.tagHolds n f = true) (hctr : (s.lane n).rxCtr < f.ctr.toNat) :
    s.receive n f =
      (let t := s.modLane n (fun l => { l with rxCtr := f.ctr.toNat })
       if f.ver ≠ 1 || rsvSet f || f.len.toNat ≠ f.payload.length || !classFits f ||
         (n == 4 && !(f.type.toNat == 7 || f.type.toNat == 1 || f.type.toNat == 2)) || (n != 4 && f.type.toNat == 7)
       then (t.laneDiscard n (Reg.FP_CNT_DISC n), false)
       else if !credited f then (t, true)
       else if nth (t.lane n).held (frameCls f - 1) + frameBlocks f > grantOf (frameCls f) then (t.laneDiscard n (Reg.FP_CNT_NOCRED n), false)
       else ((t.modLane n (fun l => { l with held := updAt l.held (frameCls f - 1) (· + frameBlocks f) })).laneShow n, true)) := by
  have hlane : (s.modLane n (fun l => { l with rxCtr := f.ctr.toNat })).laneState n = s.laneState n := rfl
  unfold State.receive
  rw [if_neg (by omega), if_neg (by simp [hfcs]), if_neg (by simp [hmac]), if_neg (by simp [hsession, htag]), if_neg (by omega)]
  dsimp only
  rw [hlane, decide_eq_false h5, Bool.false_and]
  rfl

/-- Settles O41. -/
theorem fabricFrameChecks : Obligations.FabricFrameChecks := by
  unfold Obligations.FabricFrameChecks
  intro s n f h0 h1 h5
  refine ⟨fun hfcs => (receive_badFcs h0 h1 hfcs).trans (by rw [fcsFail_eq]), fun hfcs hmac => receive_badMac h0 h1 hfcs ((macFits_iff _ _).mpr hmac),
    fun hfcs hmac htag => receive_badTag h0 h1 hfcs hmac htag,
    fun hfcs hmac hsession htag => ⟨receive_replay h0 h1 hfcs hmac hsession htag, fun hctr => ?_⟩⟩
  have hfresh := receive_fresh h0 h1 h5 hfcs hmac hsession htag hctr
  refine ⟨fun hbad => hfresh.trans (if_pos ?_), fun hver hrsv hlen hcls hlink hring => ?_⟩
  · have hrsv : (f.rsv0 ≠ 0 ∨ f.rsvDst ≠ 0 ∨ f.rsvSrc ≠ 0 ∨ f.rsv7 ≠ 0) → rsvSet f = true := (rsvSet_iff f).mpr
    simp only [Bool.or_eq_true, decide_eq_true_eq, Bool.not_eq_true']
    tauto
  · have hgood : ¬ (f.ver ≠ 1 || rsvSet f || f.len.toNat ≠ f.payload.length || !classFits f ||
         (n.val == 4 && !(f.type.toNat == 7 || f.type.toNat == 1 || f.type.toNat == 2)) || (n.val != 4 && f.type.toNat == 7)) = true := by
      simp only [hver, hrsv, hlen, hcls, Bool.or_eq_true, Bool.and_eq_true, Bool.not_eq_true', Bool.or_eq_false_iff, beq_iff_eq, bne_iff_ne,
        beq_eq_false_iff_ne, decide_eq_true_eq]
      tauto
    refine ⟨fun hcred => ?_, fun hcred hover => ?_, fun hcred hfits => ?_⟩
    · exact hfresh.trans ((if_neg hgood).trans (if_pos (by simp [hcred])))
    · exact hfresh.trans ((if_neg hgood).trans ((if_neg (by simp [hcred])).trans (if_pos hover)))
    · exact hfresh.trans ((if_neg hgood).trans ((if_neg (by simp [hcred])).trans (if_neg (not_lt.mpr hfits))))

end Sys2Proof.Machine
end

section
/-! The fabric: link events complete (R486 to R501). -/

namespace Sys2Proof.Machine
variable {s t u : State} {o : Origin} {p a v r n : Nat} {w : WordSpec} {f : FabFrame}

/-! ### The links of the fabric ports (R486, R494, R500, R501) -/

theorem restartLink_eq (s : State) (n : Nat) :
    s.restartLink n =
      (let a := ((s.dropSession n).endInstance (lanePage n) Flt.FAB_HOSTILE n).modLane n (fun l => { l with discards := [] })
       if a.laneOn n = false then a.setLane n 0
       else if (a.lane n).sync = false then a.setLane n 1
       else (((a.drawNonce.2.modLane n (fun l => { l with nonce := a.drawNonce.1.toNat % 2 ^ 64 })).setLane n 2).formHello n).sendHello n) := by
  unfold State.restartLink
  simp only [Bool.not_eq_true']

theorem creditIn_accepted (hrx : s.receive n f = (t, true)) (htype : f.type = 2) (hlen : 6 ≤ f.payload.length) :
    s.creditIn n f =
      (let upd := fun (l : LaneState) (k : Nat) => nth l.freedSeen k + (beAt f.payload (2 * k) 2 + 65536 - nth l.freedSeen k % 65536) % 65536
       let freed := (List.range 3).any (fun k => upd (t.lane n) k != nth (t.lane n).freedSeen k)
       let a := t.modLane n (fun l => { l with freedSeen := [upd l 0, upd l 1, upd l 2] })
       (if a.laneState n = 2 then (a.setLane n 3).laneRtt n
        else if a.laneState n = 4 && freed then a.setLane n 3 else a).drain n) := by
  unfold State.creditIn
  rw [hrx]
  dsimp only
  rw [if_neg (by rw [htype, not_or]; exact ⟨not_not.mpr rfl, by omega⟩)]

theorem keepalive_same (hrx : s.receive n f = (t, true)) (htype : f.type = 1) (hnonce : beAt f.payload 8 8 = (t.lane n).peerNonce) :
    s.keepalive n f = t := by
  unfold State.keepalive
  rw [hrx]
  dsimp only
  rw [if_neg (by rw [htype, not_or]; exact ⟨not_not.mpr rfl, not_not.mpr hnonce⟩)]

theorem keepalive_other (hrx : s.receive n f = (t, true)) (hnonce : beAt f.payload 8 8 ≠ (t.lane n).peerNonce) :
    s.keepalive n f = t.laneDiscard n (Reg.FP_CNT_DISC n) := by
  unfold State.keepalive
  rw [hrx]
  exact if_pos (.inr hnonce)

/-- A HELLO in the form that opens a session (R494, R495). -/
structure HelloForm (n : Nat) (f : FabFrame) : Prop where
  fcs : f.fcsOk = true
  mac : macFits n f = true
  type : f.type = 1
  ver : f.ver = 1
  rsv : rsvSet f = false
  cls : f.cls = 2
  length : f.payload.length = 24
  len : f.len = 24
  ctr : f.ctr = 0
  lane : beAt f.payload 19 1 = (if n = 4 then 1 else 0)
  tail : beAt f.payload 20 4 = 0

theorem HelloForm.classFits (h : HelloForm n f) : classFits f = true := by
  simp [Sys2Proof.Machine.classFits, frameCls, h.type, h.cls]

/-- A HELLO in its form is judged by the key that its label names. -/
theorem helloIn_formed {k : Nat} (hst : s.laneState n = 2) (h : HelloForm n f)
    (hslot : (List.range 2).find? (fun k => s.keyLabel n k == beAt f.payload 18 1 && (s.slotKey n k).isSome) = some k) :
    s.helloIn n f =
      (let key := (s.slotKey n k).getD 0
       let uid := beAt f.payload 0 8
       let nonce := beAt f.payload 8 8
       if gcmTag key (frameIv (dirOf uid Config.moduleUid.toNat) nonce) (frameText f) ≠ f.tag then (s.authFail n f).keyFailed n else
       if (s.lane n).session.isSome && nonce == (s.lane n).peerNonce then s else
       let s := if (s.lane n).session.isSome then s.restartLink n else s
       let s := if s.laneState n = 6 then s.setLane n 2 else s
       let own := (s.lane n).nonce
       let ks := sessionKey key (if Config.moduleUid.toNat < uid then own else nonce) (if Config.moduleUid.toNat < uid then nonce else own)
       let s := s.modLane n (fun l => { l with session := some ks, peerNonce := nonce, peerMac := f.srcMac })
       let s := (s.put (Fld.FP_STATE_LABEL n) (beAt f.payload 18 1)).put (Fld.FP_STATE_PEER n) (beAt f.payload 16 2 % 1024)
       (s.wr64 (Reg.FP_PEERUID n) uid).sendCredit n) := by
  have htype : f.type.toNat = 1 := by rw [h.type]; rfl
  have hlen : f.len.toNat = 24 := by rw [h.len]; rfl
  unfold State.helloIn
  rw [if_neg (by omega), if_neg (by simp [h.fcs]), if_neg]
  · dsimp only
    rw [hslot]
  · simp only [h.mac, htype, h.ver, h.rsv, h.classFits, h.length, hlen, h.ctr, h.lane, h.tail]
    simp

theorem helloIn_unverified {k : Nat} (hst : s.laneState n = 2) (h : HelloForm n f)
    (hslot : (List.range 2).find? (fun k => s.keyLabel n k == beAt f.payload 18 1 && (s.slotKey n k).isSome) = some k)
    (htag : f.tag ≠ gcmTag ((s.slotKey n k).getD 0) (frameIv (dirOf (beAt f.payload 0 8) Config.moduleUid.toNat) (beAt f.payload 8 8)) (frameText f)) :
    s.helloIn n f = (s.authFail n f).keyFailed n :=
  (helloIn_formed hst h hslot).trans (if_pos htag.symm)

theorem helloIn_opens {k : Nat} (hst : s.laneState n = 2) (h : HelloForm n f)
    (hslot : (List.range 2).find? (fun k => s.keyLabel n k == beAt f.payload 18 1 && (s.slotKey n k).isSome) = some k)
    (htag : f.tag = gcmTag ((s.slotKey n k).getD 0) (frameIv (dirOf (beAt f.payload 0 8) Config.moduleUid.toNat) (beAt f.payload 8 8)) (frameText f))
    (hnone : (s.lane n).session = none) :
    s.helloIn n f =
      (let key := (s.slotKey n k).getD 0
       let own := (s.lane n).nonce
       let peer := beAt f.payload 8 8
       let ks := if Config.moduleUid.toNat < beAt f.payload 0 8 then sessionKey key own peer else sessionKey key peer own
       let a := s.modLane n (fun l => { l with session := some ks, peerNonce := peer, peerMac := f.srcMac })
       let b := (a.put (Fld.FP_STATE_LABEL n) (beAt f.payload 18 1)).put (Fld.FP_STATE_PEER n) (beAt f.payload 16 2 % 1024)
       (b.wr64 (Reg.FP_PEERUID n) (beAt f.payload 0 8)).sendCredit n) := by
  rw [helloIn_formed hst h hslot]
  dsimp only
  have hsome : (s.lane n).session.isSome = false := by simp [hnone]
  rw [if_neg (not_not.mpr htag.symm), hsome, if_neg (by simp), if_neg (by decide : ¬ (false = true)), if_neg (by omega : ¬ s.laneState n = 6)]
  by_cases hless : Config.moduleUid.toNat < beAt f.payload 0 8 <;> simp only [hless, if_true, if_false]

/-- Settles O42. -/
theorem linkEventsComplete : Obligations.LinkEventsComplete := by
  unfold Obligations.LinkEventsComplete
  refine ⟨fun s n hup => ⟨fun h1 => event_eq hup (if_pos h1), fun h1 => event_eq hup (if_neg h1), fun h0 => event_eq hup (if_neg h0)⟩,
    fun s n f k hup hst hfcs hmac htype hver hrsv hcls hlength hlen hctr hlane htail hslot => ?_,
    fun s t n f hup hrx => ⟨fun htype hnonce => event_eq hup (keepalive_same hrx htype hnonce), fun hnonce => event_eq hup (keepalive_other hrx hnonce),
      fun htype hlen => event_eq hup (creditIn_accepted hrx htype hlen)⟩,
    fun s n f hup hst hhello => event_eq hup ?_, fun s n hup hst => ⟨event_eq hup (if_neg (by omega)), event_eq hup (if_pos hst)⟩,
    fun s n hup hst hq => event_eq hup (if_neg (by simp [hst, hq])), fun s n hup hst => event_eq hup (if_pos hst),
    fun s o n h hon hst => congrArg done ?_, fun s o n h hst => congrArg done ?_, fun s o n h hst => congrArg done ?_, restartLink_eq⟩
  · have hform : HelloForm n.val f := ⟨hfcs, hmac, htype, hver, hrsv, hcls, hlength, hlen, hctr, hlane, htail⟩
    exact ⟨fun htag => event_eq hup (helloIn_unverified hst hform hslot htag), fun htag hnone => event_eq hup (helloIn_opens hst hform hslot htag hnone)⟩
  · have hsend : s.sendHello n.val = s.putOnWire n.val f := by
      unfold State.sendHello
      rw [hhello]
    exact (if_pos hst).trans hsend
  · exact (fpCmd_accepted n h).trans ((if_pos rfl).trans (if_pos (by simp [hon, hst])))
  · exact (fpCmd_accepted n h).trans ((if_neg (by decide)).trans ((if_pos rfl).trans (if_neg hst)))
  · exact (fpCmd_accepted n h).trans ((if_neg (by decide)).trans ((if_neg (by decide)).trans ((if_pos rfl).trans (if_pos hst))))

end Sys2Proof.Machine
end

section
/-! The fabric: LSAs, conflicts, routes and forwarding complete (R489 to R493). -/

namespace Sys2Proof.Machine
variable {s t u : State} {o : Origin} {p a v r n : Nat} {w : WordSpec} {f : FabFrame}

/-! ### LSAs (R489, R492) -/

/-- An LSA in its form. -/
def lsaFormed (f : FabFrame) : Prop :=
  f.type = 3 ∧ f.payload.length = 20 + 4 * beAt f.payload 16 1 ∧ beAt f.payload 2 2 = 0 ∧ beAt f.payload 17 3 = 0

theorem lsaIn_formed (hrx : s.receive n f = (t, true)) (hform : lsaFormed f) :
    s.lsaIn n f =
      (let u := t.freeBlocks (srcOf n f)
       let origin := beAt f.payload 0 2
       let uid := beAt f.payload 4 8
       let seq := beAt f.payload 12 4
       if origin = u.ownAddr ∧ uid = Config.moduleUid.toNat then
         if diff32 seq u.fab.ownSeq > 0 then ({ u with fab := { u.fab with ownSeq := seq } } : State).originate else u
       else
         let old := u.fab.lsas.find? (fun l => l.origin == origin && l.uid == uid)
         let newer := match old with
           | none => true
           | some l => decide (diff32 seq l.seq > 0)
         if !newer then u else
         let rest := u.fab.lsas.filter (fun l => !(l.origin == origin && l.uid == uid))
         let a : State := { u with fab := { u.fab with lsas := rest ++ [⟨origin, uid, seq, lsaLinks f.payload (beAt f.payload 16 1), u.nowNat⟩] } }
         let ttl := f.ttl.toNat - 1
         let b := if ttl = 0 then a else
           (a.floodPorts n false).foldl (fun v m => v.egress m { f with ttl := BitVec.ofNat 8 ttl } none) a
         b.markConflicts.topoShow) := by
  obtain ⟨htype, hlen, hres, hpad⟩ := hform
  have htype' : f.type.toNat = 3 := by rw [htype]; rfl
  unfold State.lsaIn
  rw [hrx]
  dsimp only
  exact if_neg (by simp [htype', hlen, hres, hpad])

/-! ### Routes (R490, R493) -/

theorem forwardFrame_transit {k : Fin 5} (hrx : s.receive k.val f = (t, true)) (hlane : k.val ≠ 4) (hdst : f.dst.toNat ≠ t.ownAddr) :
    s.forwardFrame k f = t.transit k.val f := by
  unfold State.forwardFrame
  rw [hrx]
  exact (if_neg hlane).trans (if_pos hdst)

theorem transit_routed (hlane : n ≠ 4) (httl : 2 ≤ f.ttl.toNat) :
    t.transit n f = t.routeFrame { f with ttl := BitVec.ofNat 8 (f.ttl.toNat - 1) } (srcOf n f) :=
  if_neg (by omega)

theorem transit_expired (httl : f.ttl.toNat < 2) :
    t.transit n f = (t.laneDiscard n (Reg.FP_CNT_DISC n)).freeBlocks (srcOf n f) :=
  if_pos (by omega)

theorem routeFrame_port {k : Nat} {src : Option (Nat × Nat × Nat)} (h : s.routePort f.dst.toNat = some k) :
    s.routeFrame f src = (s.bump (whole (routeWord f.dst.toNat 6))).egress k f src := by
  unfold State.routeFrame
  rw [h]

/-- Settles O43. -/
theorem routingComplete : Obligations.RoutingComplete := by
  unfold Obligations.RoutingComplete
  refine ⟨⟨fun s hup hruns happ => event_eq hup (if_neg (by simp [hruns, happ])), fun s t n f hup hrx htype hlen hres hpad => ?_,
    fun s a uid hup => event_eq hup rfl, fun s a hup hconf hone => event_eq hup (if_neg ?_), fun s hup => event_eq hup rfl,
    fun s o h => congrArg done ?_, fun s o h => congrArg done ?_, fun s t n f hup hrx hlink hdst => ⟨fun p httl hroute => event_eq hup ?_, fun httl => event_eq hup ?_⟩⟩,
    fun s hruns happ => if_neg (by simp [hruns, happ])⟩
  · have hform := lsaIn_formed hrx ⟨htype, hlen, hres, hpad⟩
    refine ⟨fun horigin huid hnew => event_eq hup ?_, fun hother hnew => event_eq hup ?_, fun hother hold => event_eq hup ?_⟩
    · exact hform.trans ((if_pos ⟨horigin, huid⟩).trans (if_pos hnew))
    · refine hform.trans ((if_neg (not_and_or.mpr hother)).trans (if_neg ?_))
      rw [Bool.not_eq_true', Bool.not_eq_false]
      split
      · rfl
      case h_2 l hl => exact decide_eq_true (hnew l hl)
    · obtain ⟨l, hl, hle⟩ := hold
      refine hform.trans ((if_neg (not_and_or.mpr hother)).trans (if_pos ?_))
      rw [hl]
      simpa using hle
  · rw [hconf, Bool.not_true, Bool.false_or, Bool.not_eq_true]
    exact hone
  · rw [fabCmd_accepted h]
    rfl
  · rw [fabCmd_accepted h]
    rfl
  · exact (forwardFrame_transit hrx hlink hdst).trans ((transit_routed hlink httl).trans
      (routeFrame_port (f := { f with ttl := BitVec.ofNat 8 (f.ttl.toNat - 1) }) hroute))
  · exact (forwardFrame_transit hrx hlink hdst).trans (transit_expired httl)

end Sys2Proof.Machine
end

section
/-! The fabric: Gongs and keys complete (R485, R508, R519 to R521). -/

namespace Sys2Proof.Machine
variable {s t u : State} {o : Origin} {p a v r n : Nat} {w : WordSpec} {f : FabFrame}

/-! ### Gongs (R519 to R521) -/

theorem gongIn_formed (hrx : s.receive n f = (t, true)) (htype : f.type = 5) (hlen : f.payload.length = 12) (hlane : n ≠ 4) :
    s.gongIn n f =
      (let origin := beAt f.payload 0 2
       let gseq := beAt f.payload 2 2
       if t.fab.pairs.contains (origin, gseq) then t.bump Fld.FAB_GONGCNT_DUP else
       let a := (t.enterPair (origin, gseq)).bump Fld.FAB_GONGCNT_RX
       let ttl := f.ttl.toNat - 1
       let b := if ttl = 0 then a else (a.floodPorts n true).foldl (fun u m => u.sendFrame m { f with ttl := BitVec.ofNat 8 ttl }) a
       if beAt f.payload 5 1 ≠ 0xFF ∧ beAt f.payload 5 1 ≠ b.get Fld.FAB_CFG_ZONE then b else
       let c := (((b.put Fld.FAB_GONGSTAT_ORIGIN origin).put Fld.FAB_GONGSTAT_REASON (beAt f.payload 4 1)).put Fld.FAB_GONGSTAT_GSEQ
         gseq).irq Pg.FAB Irq.FAB_GONG
       let masked := !c.on Fld.PRT_CFG_GONGEN
       ((if masked then c else c.snareBy 0x1E).fault Pg.FAB Flt.GONG 0 0 masked).markEvent Flt.GONG) := by
  have htype' : f.type.toNat = 5 := by rw [htype]; rfl
  unfold State.gongIn
  rw [hrx]
  dsimp only
  rw [if_neg (by simp [htype', hlen, hlane])]

/-! ### Link keys and role keys (R485, R508) -/

/-- FPn_KEYCTL: LABEL0, LABEL1 and TXKEY can be written. -/
def keyctlSpec : WordSpec := ⟨.live, .rw, 0x0100FFFF, [], false, false⟩

theorem pageAt_keyctl (n : Fin 5) : pageAt (Reg.FP_KEYCTL n.val) = some (lanePage n.val) := by revert n; decide

theorem specAt_keyctl (s : State) (o : Origin) (n : Fin 5) : s.specAt o (lanePage n.val) (Reg.FP_KEYCTL n.val) = some keyctlSpec := by
  have hrow : (rowAt (kindOf (lanePage n.val)) (Reg.FP_KEYCTL n.val % 0x1000)).map (rowSpec (Reg.FP_KEYCTL n.val)) = some keyctlSpec := by
    revert n; decide
  have hoff : ¬ Reg.FP_KEYCTL n.val % 0x1000 < 0x40 := by clear hrow; revert n; decide
  simp only [State.specAt, pageAt_keyctl, Option.isNone_some, Bool.false_eq_true, if_false, if_neg hoff, hrow]

/-- An accepted write of FPn_KEYCTL stores its word and clears the slots that it names. -/
theorem keyctl_accepted (n : Fin 5) (h : s.Accepts o (Reg.FP_KEYCTL n.val) v) :
    s.command o (Reg.FP_KEYCTL n.val) v =
      (s.writeLive o (lanePage n.val) (Reg.FP_KEYCTL n.val) v keyctlSpec).keyClears o (lanePage n.val) (Reg.FP_KEYCTL n.val) v := by
  have hp := pageAt_keyctl n
  have hdoor : Reg.FP_KEYCTL n.val ≠ Reg.HST_SDOOR := by clear h hp; revert n; decide
  have hoff : 0x40 ≤ Reg.FP_KEYCTL n.val % 0x1000 := by clear h hp hdoor; revert n; decide
  have hmirror : mirrorPages.contains (lanePage n.val) = false := by clear h hp hdoor hoff; revert n; decide
  rw [command_accepted h (ownerPage_of_pageAt hp) (specAt_keyctl s o n) (inWindow_of_pageAt hp) hdoor, mirrorOut_same hmirror,
    writeWord_live hp hoff rfl (by decide)]

theorem keyClears_keyctl (s : State) (o : Origin) (n : Fin 5) (v : Nat) :
    s.keyClears o (lanePage n.val) (Reg.FP_KEYCTL n.val) v =
      (let u := if bitOf v 28 then s.clearKey o n.val 0 else s
       if bitOf v 29 then u.clearKey o n.val 1 else u) := by
  have hpage : 25 ≤ lanePage n.val ∧ lanePage n.val ≤ 29 ∧ Reg.FP_KEYCTL n.val % 0x1000 = 0x50 := by revert n; decide
  have hlane : lanePage n.val - 25 = n.val := by clear hpage; revert n; decide
  unfold State.keyClears
  rw [if_pos hpage, hlane]

/-- The VALID bit of a key slot. -/
def validField (n k : Nat) : RegField := if k = 0 then Fld.FP_KEYCTL_VALID0 n else Fld.FP_KEYCTL_VALID1 n

theorem validField_shape (n : Nat) {k : Nat} (hk : k < 2) :
    (validField n k).addr = Reg.FP_KEYCTL n ∧ (validField n k).lo = 16 + k ∧ (validField n k).width = 1 := by
  interval_cases k <;> exact ⟨rfl, rfl, rfl⟩

/-- A key slot of a port is empty and shown empty. -/
def State.slotEmpty (s : State) (n k : Nat) : Prop := ((s.lane n).keys[k]?).getD none = none ∧ s.on (validField n k) = false

theorem lane_modLane (s : State) (n : Nat) (f : LaneState → LaneState) :
    (s.modLane n f).lane n = ((s.fab.lanes[n]?).map f).getD laneReset := by
  simp [State.lane, State.modLane, updAt]

theorem clearKey_lane (s : State) (o : Origin) (n k : Nat) :
    (s.clearKey o n k).lane n =
      (s.modLane n (fun l => { l with keys := updAt l.keys k (fun _ => none), keyWords := updAt l.keyWords k (fun _ => [0, 0, 0, 0]) })).lane n := rfl

theorem laneReset_keys (k : Nat) : (laneReset.keys[k]?).getD none = none := by
  rcases k with _ | _ | k <;> rfl

theorem keys_cleared (l : List (Option (BitVec 128))) (k : Nat) : ((updAt l k (fun _ => none))[k]?).getD none = none := by
  cases h : l[k]? <;> simp [updAt, h]

theorem keys_kept {j k : Nat} (hjk : j ≠ k) (l : List (Option (BitVec 128))) : (updAt l j (fun _ => none))[k]? = l[k]? := by
  simp [updAt, hjk]

theorem clearKey_empties (s : State) (o : Origin) (n : Nat) {k : Nat} (hk : k < 2) : (s.clearKey o n k).slotEmpty n k := by
  constructor
  · rw [clearKey_lane, lane_modLane]
    cases s.fab.lanes[n]? with
    | none => exact laneReset_keys k
    | some l => exact keys_cleared l.keys k
  · obtain ⟨-, hlo, hwidth⟩ := validField_shape n hk
    have hfits : (validField n k).lo + (validField n k).width ≤ 32 := by omega
    have hget : (s.clearKey o n k).get (validField n k) = 0 := (get_put_same _ hfits 0).trans (Nat.zero_mod _)
    simp [State.on, hget]

theorem clearKey_keeps {j k : Nat} (hjk : j ≠ k) (hj : j < 2) (hk : k < 2) (h : s.slotEmpty n k) : (s.clearKey o n j).slotEmpty n k := by
  obtain ⟨hkey, hvalid⟩ := h
  constructor
  · rw [clearKey_lane, lane_modLane]
    unfold State.lane at hkey
    cases hl : s.fab.lanes[n]? with
    | none => exact laneReset_keys k
    | some l =>
      rw [hl] at hkey
      exact (congrArg (fun x : Option (Option (BitVec 128)) => x.getD none) (keys_kept hjk l.keys)).trans hkey
  · obtain ⟨-, hlo, hwidth⟩ := validField_shape n hj
    obtain ⟨-, hlo', hwidth'⟩ := validField_shape n hk
    have hfits : (validField n j).lo + (validField n j).width ≤ 32 := by omega
    have hapart : (validField n j).lo + (validField n j).width ≤ (validField n k).lo ∨
        (validField n k).lo + (validField n k).width ≤ (validField n j).lo := by omega
    have hget : (s.clearKey o n j).get (validField n k) = s.get (validField n k) := get_put_other _ hfits (.inr hapart) _
    simpa [State.on, hget] using hvalid

/-- The bits of a written FPn_KEYCTL that clear slots act (R485). -/
theorem keyClears_empties (n : Fin 5) (k : Fin 2) (hv : bitOf v (28 + k.val) = true) :
    (s.keyClears o (lanePage n.val) (Reg.FP_KEYCTL n.val) v).slotEmpty n.val k.val := by
  rw [keyClears_keyctl]
  fin_cases k
  · have h0 : bitOf v 28 = true := hv
    dsimp only
    rw [if_pos h0]
    split
    · exact clearKey_keeps (by decide) (by decide) (by decide) (clearKey_empties s o n.val (by decide))
    · exact clearKey_empties s o n.val (by decide)
  · have h1 : bitOf v 29 = true := hv
    dsimp only
    rw [if_pos h1]
    exact clearKey_empties _ o n.val (by decide)

/-- Clearing slots leaves TXKEY. -/
theorem clearKey_txkey (s : State) (o : Origin) (n : Nat) {k : Nat} (hk : k < 2) :
    (s.clearKey o n k).get (Fld.FP_KEYCTL_TXKEY n) = s.get (Fld.FP_KEYCTL_TXKEY n) := by
  obtain ⟨-, hlo, hwidth⟩ := validField_shape n hk
  have hfits : (validField n k).lo + (validField n k).width ≤ 32 := by omega
  have hbelow : (validField n k).lo + (validField n k).width ≤ (Fld.FP_KEYCTL_TXKEY n).lo := by
    show _ ≤ 24
    omega
  exact get_put_other _ hfits (.inr (.inl hbelow)) _

theorem keyClears_txkey (s : State) (o : Origin) (n : Fin 5) (v : Nat) :
    (s.keyClears o (lanePage n.val) (Reg.FP_KEYCTL n.val) v).get (Fld.FP_KEYCTL_TXKEY n.val) = s.get (Fld.FP_KEYCTL_TXKEY n.val) := by
  rw [keyClears_keyctl]
  dsimp only
  split_ifs <;> simp only [clearKey_txkey _ _ _ (show 0 < 2 by decide), clearKey_txkey _ _ _ (show 1 < 2 by decide)]

theorem keyClears_pendL (s : State) (o : Origin) (n : Fin 5) (v : Nat) :
    (s.keyClears o (lanePage n.val) (Reg.FP_KEYCTL n.val) v).acc.pendL = s.acc.pendL := by
  rw [keyClears_keyctl]
  dsimp only
  split_ifs <;> rfl

/-! #### What a write of FPn_KEYCTL stores -/

theorem bitOf_eq_testBit (x n : Nat) : bitOf x n = x.testBit n := by
  rw [Nat.testBit_eq_decide_div_mod_eq]; rfl

theorem bitOf_putBit_same (x n : Nat) (b : Bool) : bitOf (putBit x n b) n = b := by
  have h : putBit x n b / 2 ^ n % 2 = (if b then 1 else 0) % 2 := bitsOf_putBits_same x n 1 (if b then 1 else 0)
  unfold bitOf
  rw [h]
  cases b <;> rfl

/-- A bit that the mask lets through is that of the value written. -/
theorem mergeWord_bit {old mask x n : Nat} (hmask : mask.testBit n = true) (hrest : (0xFFFFFFFF - mask).testBit n = false) :
    bitOf (mergeWord old mask x) n = bitOf x n := by
  rw [bitOf_eq_testBit, bitOf_eq_testBit]
  simp [mergeWord, hmask, hrest]

theorem specialStored_keyctl (s : State) (n : Fin 5) (x : Nat) : s.specialStored (Reg.FP_KEYCTL n.val) x = x := by
  have hfixed : Reg.FP_KEYCTL n.val ≠ Reg.PWR_BO ∧ Reg.FP_KEYCTL n.val ≠ Reg.PWM_TRIG ∧
      ¬ (List.range 4).any (fun p => Reg.FP_KEYCTL n.val == Reg.PWM_PHANG p) = true ∧
      ¬ (Reg.FLT_CLASS 0 ≤ Reg.FP_KEYCTL n.val ∧ Reg.FP_KEYCTL n.val < Reg.FLT_CLASS 16) ∧
      ¬ (Reg.FP_KEYCTL n.val = Reg.TIM_DINC 0 ∨ Reg.FP_KEYCTL n.val = Reg.TIM_DINC 1) ∧
      (List.range 8).find? (fun k => Reg.FP_KEYCTL n.val == Reg.TPO_KWID k) = none := by
    revert n; decide
  obtain ⟨h1, h2, h3, h4, h5, h6⟩ := hfixed
  simp only [State.specialStored, if_neg h1, if_neg h2, if_neg h3, if_neg h4, if_neg h5, h6]

/-- TXKEY takes the bit written. -/
theorem newWord_txkey (s : State) (n : Fin 5) (v : Nat) : bitOf (s.newWord keyctlSpec (Reg.FP_KEYCTL n.val) v) 24 = bitOf v 24 := by
  unfold State.newWord State.storedOver
  rw [specialStored_keyctl]
  exact mergeWord_bit (by decide) (by decide)

theorem afterWrite_keyctl (s : State) (n : Fin 5) (old : Nat) :
    s.afterWrite (lanePage n.val) (Reg.FP_KEYCTL n.val) old =
      if bitOf old 24 != s.bit (Reg.FP_KEYCTL n.val) 24 then s.txKeyChanged n.val else s := by
  have hpage : lanePage n.val ≠ Pg.TMX ∧ lanePage n.val ≠ Pg.ADC ∧ lanePage n.val ≠ Pg.TPO ∧ ¬ (lanePage n.val = Pg.CNA ∨ lanePage n.val = Pg.CNB) ∧
      lanePage n.val ≠ Pg.PRT ∧ Reg.FP_KEYCTL n.val ≠ Reg.CHM_ZSEL ∧ lanePage n.val ≠ Pg.TIM ∧
      (25 ≤ lanePage n.val ∧ lanePage n.val ≤ 29 ∧ Reg.FP_KEYCTL n.val % 0x1000 = 0x50) ∧ lanePage n.val - 25 = n.val := by
    revert n; decide
  obtain ⟨h1, h2, h3, h4, h5, h6, h7, h8, h9⟩ := hpage
  unfold State.afterWrite
  dsimp only
  rw [pageAt_keyctl, if_neg (by simp), if_neg h1, if_neg h2, if_neg h3, if_neg h4, if_neg h5, if_neg h6, if_neg fun h => h7 h.1,
    if_neg fun h => h7 h.1, if_pos h8, h9]

/-- The words that say whether a port is on are no FPn_KEYCTL. -/
theorem laneOn_of_regs {n : Fin 5} {x : Nat} (h : u.regs = (s.wr (Reg.FP_KEYCTL n.val) x).regs) : u.laneOn n.val = s.laneOn n.val := by
  have haddr : Fld.FAB_STAT_STATE.addr ≠ Reg.FP_KEYCTL n.val ∧ (Fld.ens (lanePage n.val)).addr ≠ Reg.FP_KEYCTL n.val ∧
      Fld.FAB_CFG_PORTEN.addr ≠ Reg.FP_KEYCTL n.val := by
    clear h; revert n; decide
  have hget : ∀ g : RegField, g.addr ≠ Reg.FP_KEYCTL n.val → u.get g = s.get g := by
    intro g hg
    have hrd : u.rd g.addr = (s.wr (Reg.FP_KEYCTL n.val) x).rd g.addr := by simp only [State.rd, State.word, h]
    simp only [State.get, hrd, rd_wr_ne s hg.symm]
  obtain ⟨h1, h2, h3⟩ := haddr
  simp only [State.laneOn, State.fabRuns, State.ens, State.on, hget _ h1, hget _ h2, hget _ h3]

theorem txKeyChanged_off (h : s.laneOn n = false) : s.txKeyChanged n = s := if_neg (by simp [h])

theorem actsNow_keyctl (s : State) (n : Fin 5) : s.actsNow (lanePage n.val) keyctlSpec = !s.ens (lanePage n.val) := by
  have hprompt : s.promptPage (lanePage n.val) = false := by
    have hlist : [0, 1, 2, 3, 4, 5, 17, 18, 21, 30, 35, 36, 37, 38, 39, 40].contains (lanePage n.val) = false ∧ (lanePage n.val == Pg.LPE) = false := by
      revert n; decide
    simp only [State.promptPage, hlist, Bool.false_or, Bool.false_and]
  simp [State.actsNow, hprompt, keyctlSpec]

theorem writeLive_keyctl_off (n : Fin 5) (hens : s.ens (lanePage n.val) = false) :
    (s.writeLive o (lanePage n.val) (Reg.FP_KEYCTL n.val) v keyctlSpec).get (Fld.FP_KEYCTL_TXKEY n.val) = (bitOf v 24).toNat := by
  have hoff : s.laneOn n.val = false := by simp [State.laneOn, hens]
  obtain ⟨e, l, h⟩ := writeLive_now (s := s) (o := o) (p := lanePage n.val) (a := Reg.FP_KEYCTL n.val) (v := v) (w := keyctlSpec) rfl
    (by rw [actsNow_keyctl, hens]; rfl) fun u hu => by
      rw [afterWrite_keyctl, txKeyChanged_off ((laneOn_of_regs hu).trans hoff), ite_self]
  have hrd : (s.wr (Reg.FP_KEYCTL n.val) (s.newWord keyctlSpec (Reg.FP_KEYCTL n.val) v)).rd (Reg.FP_KEYCTL n.val) =
      s.newWord keyctlSpec (Reg.FP_KEYCTL n.val) v % 2 ^ 32 := rd_wr_same s _ _
  have hbit := newWord_txkey s n v
  rw [h]
  generalize s.newWord keyctlSpec (Reg.FP_KEYCTL n.val) v = x at hrd hbit
  show bitsOf ((s.wr (Reg.FP_KEYCTL n.val) x).rd (Reg.FP_KEYCTL n.val)) 24 1 = _
  rw [hrd, ← hbit, bitOf_eq_testBit, Nat.toNat_testBit]
  unfold bitsOf
  omega

theorem writeLive_keyctl_on (n : Fin 5) (hens : s.ens (lanePage n.val) = true) :
    (s.writeLive o (lanePage n.val) (Reg.FP_KEYCTL n.val) v keyctlSpec).acc.pendL =
      s.acc.pendL ++ [⟨lanePage n.val, Reg.FP_KEYCTL n.val, s.newWord keyctlSpec (Reg.FP_KEYCTL n.val) v, keyctlSpec.mask, o⟩] := by
  have hlater : ∀ u : State, u.regs = s.regs → u.actsNow (lanePage n.val) keyctlSpec = false := by
    intro u hu
    have hword : u.ens (lanePage n.val) = s.ens (lanePage n.val) := by simp only [State.ens, State.on, State.get, State.rd, State.word, hu]
    rw [actsNow_keyctl, hword, hens]
    rfl
  unfold State.writeLive
  dsimp only
  rw [if_neg (by rw [Bool.not_eq_true]; exact hlater _ (by split_ifs <;> rfl))]
  split_ifs <;> rfl

/-! #### The highest word of a key -/

theorem linkKey_accepted (n : Fin 5) (k : Fin 2) (w : Word) (h : s.Accepts o (linkKeyTop n.val k.val) w.toNat) :
    s.command o (linkKeyTop n.val k.val) w.toNat = s.keyWord o n.val k.val 3 w := by
  have hc : isCmd (lanePage n.val) (linkKeyTop n.val k.val) = true := by clear h; revert n k; decide
  have hs : spinAt (linkKeyTop n.val k.val) = false := by clear h hc; revert n k; decide
  have hm : mirrorPages.contains (lanePage n.val) = false := by clear h hc hs; revert n; decide
  have hword : BitVec.ofNat 32 w.toNat = w := by rw [BitVec.ofNat_toNat, BitVec.setWidth_eq]
  have hwrite : s.writeCommand o (linkKeyTop n.val k.val) w.toNat = s.keyWord o n.val k.val 3 (BitVec.ofNat 32 w.toNat) := by
    clear h hc hs hm; fin_cases n <;> fin_cases k <;> rfl
  rw [command_wo h hc hs, mirrorOut_same hm, hwrite, hword]

theorem roleKey_accepted (r : Fin 3) (w : Word) (h : s.Accepts o (roleKeyTop (r.val + 1)) w.toNat) :
    s.command o (roleKeyTop (r.val + 1)) w.toNat = s.roleWord o (r.val + 1) 3 w := by
  have hc : isCmd Pg.FAB (roleKeyTop (r.val + 1)) = true := by clear h; revert r; decide
  have hs : spinAt (roleKeyTop (r.val + 1)) = false := by clear h hc; revert r; decide
  have hword : BitVec.ofNat 32 w.toNat = w := by rw [BitVec.ofNat_toNat, BitVec.setWidth_eq]
  have hwrite : s.writeCommand o (roleKeyTop (r.val + 1)) w.toNat = s.roleWord o (r.val + 1) 3 (BitVec.ofNat 32 w.toNat) := by
    clear h hc hs; fin_cases r <;> rfl
  rw [command_wo h hc hs, mirrorOut_same (by decide), hwrite, hword]

/-! #### The slots and TXKEY -/

theorem txkey_off (n : Fin 5) (hens : s.ens (lanePage n.val) = false) (h : s.Accepts o (Reg.FP_KEYCTL n.val) v) :
    (settle (s.command o (Reg.FP_KEYCTL n.val) v)).get (Fld.FP_KEYCTL_TXKEY n.val) = (bitOf v 24).toNat :=
  calc (settle (s.command o (Reg.FP_KEYCTL n.val) v)).get (Fld.FP_KEYCTL_TXKEY n.val)
      = (s.command o (Reg.FP_KEYCTL n.val) v).get (Fld.FP_KEYCTL_TXKEY n.val) := rfl
    _ = _ := by rw [keyctl_accepted n h, keyClears_txkey, writeLive_keyctl_off n hens]

theorem txkey_on (n : Fin 5) (hens : s.ens (lanePage n.val) = true) (h : s.Accepts o (Reg.FP_KEYCTL n.val) v) :
    (settle (s.command o (Reg.FP_KEYCTL n.val) v)).acc.pendL =
      s.acc.pendL ++ [⟨lanePage n.val, Reg.FP_KEYCTL n.val, s.newWord keyctlSpec (Reg.FP_KEYCTL n.val) v, keyctlSpec.mask, o⟩] :=
  calc (settle (s.command o (Reg.FP_KEYCTL n.val) v)).acc.pendL
      = (s.command o (Reg.FP_KEYCTL n.val) v).acc.pendL := rfl
    _ = _ := by rw [keyctl_accepted n h, keyClears_pendL, writeLive_keyctl_on n hens]

theorem toNat_isOne (k : Fin 2) : (k.val == 1).toNat = k.val := by revert k; decide

/-- A changed TXKEY restarts the link of a port that is on (R485). -/
theorem writeActive_txkey (n : Fin 5) (hon : s.laneOn n.val = true) (hv : bitOf v 24 ≠ s.bit (Reg.FP_KEYCTL n.val) 24) (hfits : v < 2 ^ 32) :
    s.writeActive (lanePage n.val) (Reg.FP_KEYCTL n.val) v = (s.wr (Reg.FP_KEYCTL n.val) v).restartLink n.val := by
  have hrd : (s.wr (Reg.FP_KEYCTL n.val) v).rd (Reg.FP_KEYCTL n.val) = v := (rd_wr_same s _ v).trans (Nat.mod_eq_of_lt hfits)
  have hbit : (s.wr (Reg.FP_KEYCTL n.val) v).bit (Reg.FP_KEYCTL n.val) 24 = bitOf v 24 := congrArg (bitOf · 24) hrd
  have hchanged : (bitOf (s.rd (Reg.FP_KEYCTL n.val)) 24 != (s.wr (Reg.FP_KEYCTL n.val) v).bit (Reg.FP_KEYCTL n.val) 24) = true := by
    rw [hbit]; exact bne_iff_ne.mpr hv.symm
  calc s.writeActive (lanePage n.val) (Reg.FP_KEYCTL n.val) v
      = (s.wr (Reg.FP_KEYCTL n.val) v).afterWrite (lanePage n.val) (Reg.FP_KEYCTL n.val) (s.rd (Reg.FP_KEYCTL n.val)) := rfl
    _ = (s.wr (Reg.FP_KEYCTL n.val) v).txKeyChanged n.val := by rw [afterWrite_keyctl, if_pos hchanged]
    _ = _ := if_pos ((laneOn_of_regs rfl).trans hon)

theorem originateGong_runs (hruns : s.fabRuns = true) (r : Byte) :
    s.fabCommand ((2 + 256 * r.toNat) % 16) (bitsOf (2 + 256 * r.toNat) 8 8) =
      (let q := (s.fab.gseq + 1) % 65536
       let a := ({ s with fab := { s.fab with gseq := q } } : State).enterPair (s.ownAddr, q)
       let f := a.mkFrame 0 5 0x3FF (beBytes 2 a.ownAddr ++ beBytes 2 q ++ beBytes 1 r.toNat ++ beBytes 1 0xFF ++ beBytes 2 0 ++
         beBytes 4 (clockNs a.tim.pt))
       (a.floodPorts 99 true).foldl (fun t n => t.sendFrame n f) a) := by
  have hop : (2 + 256 * r.toNat) % 16 = 2 := by omega
  have hreason : bitsOf (2 + 256 * r.toNat) 8 8 = r.toNat := by
    have := r.isLt
    unfold bitsOf
    omega
  have hgo : ¬ (!s.fabRuns) = true := by simp [hruns]
  rw [hop, hreason]
  change s.originateGong r.toNat = _
  exact if_neg hgo

/-- Settles O44. -/
theorem gongAndKeysComplete : Obligations.GongAndKeysComplete := by
  refine ⟨?_, ?_, ?_, ?_, ?_, ?_, ?_, ?_⟩
  · intro s t n f hup hrx htype hlen hlane
    have hform := gongIn_formed hrx htype hlen hlane
    exact ⟨fun hknown => event_eq hup (hform.trans (if_pos hknown)),
      fun hnew => event_eq hup (hform.trans (if_neg (by rw [hnew]; exact Bool.false_ne_true)))⟩
  · intro s a g hup
    exact event_eq hup rfl
  · intro s o r h hruns
    exact congrArg done ((fabCmd_accepted h).trans (originateGong_runs hruns r))
  · intro s o n k w h
    exact congrArg done (linkKey_accepted n k w h)
  · intro s o r w h
    exact congrArg done (roleKey_accepted r w h)
  · intro s o n k h
    refine ⟨_, rfl, ?_⟩
    have hempty := keyClears_empties (s := s.writeLive o (lanePage n.val) (Reg.FP_KEYCTL n.val)
      (putBit (s.rd (Reg.FP_KEYCTL n.val)) (28 + k.val) true) keyctlSpec) (o := o) n k
      (bitOf_putBit_same (s.rd (Reg.FP_KEYCTL n.val)) (28 + k.val) true)
    rw [← keyctl_accepted n h] at hempty
    exact hempty
  · intro s o n k h
    have hbit := bitOf_putBit_same (s.rd (Reg.FP_KEYCTL n.val)) 24 (k.val == 1)
    refine ⟨fun hoff => ⟨_, rfl, ?_⟩, fun hon => ⟨_, _, rfl, txkey_on n hon h, rfl, rfl, ?_⟩⟩
    · rw [txkey_off n hoff h, hbit, toNat_isOne]
    · exact (newWord_txkey s n _).trans hbit
  · intro s n v hon hv hfits
    exact writeActive_txkey n hon hv hfits

end Sys2Proof.Machine
end

section
/-! The dispatch port: checks, answers, reports and the host session complete (R504 to R518). -/

namespace Sys2Proof.Machine
variable {s t u : State} {o : Origin} {p a v r n : Nat} {w : WordSpec} {f : FabFrame} {q : Req} {d : DispatchBody}

/-! ### A dispatch and its verdict (R510 to R514) -/

theorem dispatchDecide_served (happ : s.appUp = true) (hrole : s.roleOf q.origin = some r) :
    s.dispatchDecide q d =
      ((s.dispatchVerdict d, s.dispatchBody d),
       (if s.dispatchVerdict d = 0 && !s.dispatchRepeats d then s.dispatchSubmit q d else s).dispatchNote q (s.dispatchVerdict d)) := by
  simp [State.dispatchDecide, happ, hrole]

/-- A module that is no standby answers at once. -/
theorem dispatchIn_answers (h : s.Served q 4 0) (hrole : s.svc.role ≠ 2) :
    s.dispatchIn q d = (s.dispatchDecide q d).2.respond q 4 (s.dispatchDecide q d).1.1 (s.dispatchDecide q d).1.2 := by
  obtain ⟨hreached, happ, -, -⟩ := h
  have hanswer := arrive_reached hreached fun t => t.dispatchDecide q d
  rcases hreached with ⟨ho, -⟩ | ⟨n, ho, -⟩
  · simpa [State.dispatchIn, ho, hrole, happ, State.arrive] using hanswer
  · simpa [State.dispatchIn, ho, hrole] using hanswer

/-- A standby holds its answer (R514). -/
theorem dispatchIn_holds (h : s.Served q 4 0) (hrole : s.svc.role = 2) : s.dispatchIn q d = s.dispatchHold q d := by
  obtain ⟨hreached, happ, -, -⟩ := h
  rcases hreached with ⟨ho, h9, h2⟩ | ⟨n, ho, h9, hauth, hclass⟩
  · have h2 : s.domUp 2 = true := h2.resolve_left (by decide)
    simp [State.dispatchIn, ho, hrole, happ, h9, h2]
  · simp [State.dispatchIn, ho, hrole, happ, h9, hauth, hclass]

/-! #### The checks in their order (R510, R511) -/

theorem dispatchVerdict_length (h : d.blen ≠ 28) : s.dispatchVerdict d = 5 := if_pos h

/-- The form of a body is right. -/
structure DispatchForm (d : DispatchBody) : Prop where
  length : d.blen = 28
  reserved : d.reservedZero = true
  nanoseconds : d.actn.toNat ≤ 999999999
  number : fpIsNan d.iset = false
  finite : fpIsInf d.iset = false

theorem dispatchVerdict_form (hlen : d.blen = 28)
    (h : d.reservedZero = false ∨ 999999999 < d.actn.toNat ∨ fpIsNan d.iset = true ∨ fpIsInf d.iset = true) :
    s.dispatchVerdict d = 0x15 := by
  have hform : (!d.reservedZero || d.actn.toNat > 999999999 || fpIsNan d.iset || fpIsInf d.iset) = true := by
    simp only [Bool.or_eq_true, Bool.not_eq_true', decide_eq_true_eq, gt_iff_lt]
    tauto
  exact (if_neg (not_not.mpr hlen)).trans (if_pos hform)

section
variable (hform : DispatchForm d)
include hform

theorem dispatchVerdict_formed :
    s.dispatchVerdict d =
      if d.string.toNat ≠ s.get Fld.FAB_STRING_STRING then 0x14
      else if s.dispatchRepeats d then 0
      else if !s.dispatchSeqOk d then 0x13
      else if !s.dispatchTaken then 0x10
      else if !s.on Fld.TIM_STATE_SYNC then 0x17
      else if !d.imm && decide (s.dispatchAhead d < 200000) then 0x11
      else if !d.imm && decide (s.dispatchAhead d > (max 1 (s.get Fld.FAB_DISP_MAXAHEAD) * 1000000000 : Nat)) then 0x12
      else if s.lpe.frames.length ≥ 8 then 0x16
      else 0 := by
  obtain ⟨hlen, hres, hns, hnan, hinf⟩ := hform
  exact (if_neg (not_not.mpr hlen)).trans (if_neg (by simp [hres, hns, hnan, hinf]))

variable (hstring : d.string.toNat = s.get Fld.FAB_STRING_STRING)
include hstring

theorem dispatchVerdict_repeated (hlast : s.dsp.last = some d) : s.dispatchVerdict d = 0 := by
  have hrep : s.dispatchRepeats d = true := decide_eq_true hlast
  exact (dispatchVerdict_formed hform).trans ((if_neg (not_not.mpr hstring)).trans (if_pos hrep))

theorem dispatchVerdict_fresh (hlast : s.dsp.last ≠ some d) :
    s.dispatchVerdict d =
      if !s.dispatchSeqOk d then 0x13
      else if !s.dispatchTaken then 0x10
      else if !s.on Fld.TIM_STATE_SYNC then 0x17
      else if !d.imm && decide (s.dispatchAhead d < 200000) then 0x11
      else if !d.imm && decide (s.dispatchAhead d > (max 1 (s.get Fld.FAB_DISP_MAXAHEAD) * 1000000000 : Nat)) then 0x12
      else if s.lpe.frames.length ≥ 8 then 0x16
      else 0 := by
  have hrep : ¬ s.dispatchRepeats d = true := by simp [State.dispatchRepeats, hlast]
  exact (dispatchVerdict_formed hform).trans ((if_neg (not_not.mpr hstring)).trans (if_neg hrep))

theorem dispatchVerdict_old {l : DispatchBody} (hlast : s.dsp.last = some l) (hne : l ≠ d) (hseq : (d.seq - l.seq).toInt ≤ 0) :
    s.dispatchVerdict d = 0x13 := by
  have hfresh : s.dsp.last ≠ some d := by simp [hlast, hne]
  have hold : (!s.dispatchSeqOk d) = true := by
    unfold State.dispatchSeqOk
    rw [hlast]
    simpa only [gt_iff_lt, Bool.not_eq_true', decide_eq_false_iff_not, not_lt] using hseq
  exact (dispatchVerdict_fresh hform hstring hfresh).trans (if_pos hold)

variable (hlast : s.dsp.last ≠ some d) (hseq : ∀ l, s.dsp.last = some l → 0 < (d.seq - l.seq).toInt)
include hlast hseq

theorem dispatchVerdict_newer :
    s.dispatchVerdict d =
      if !s.dispatchTaken then 0x10
      else if !s.on Fld.TIM_STATE_SYNC then 0x17
      else if !d.imm && decide (s.dispatchAhead d < 200000) then 0x11
      else if !d.imm && decide (s.dispatchAhead d > (max 1 (s.get Fld.FAB_DISP_MAXAHEAD) * 1000000000 : Nat)) then 0x12
      else if s.lpe.frames.length ≥ 8 then 0x16
      else 0 := by
  have hok : s.dispatchSeqOk d = true := by
    unfold State.dispatchSeqOk
    split
    · rfl
    · next l hl => exact decide_eq_true (hseq l hl)
  exact (dispatchVerdict_fresh hform hstring hlast).trans (if_neg (by simp [hok]))

theorem dispatchVerdict_closed (htaken : s.dispatchTaken = false) : s.dispatchVerdict d = 0x10 :=
  (dispatchVerdict_newer hform hstring hlast hseq).trans (if_pos (by simp [htaken]))

variable (htaken : s.dispatchTaken = true)
include htaken

theorem dispatchVerdict_unsynced (hsync : s.on Fld.TIM_STATE_SYNC = false) : s.dispatchVerdict d = 0x17 :=
  (dispatchVerdict_newer hform hstring hlast hseq).trans ((if_neg (by simp [htaken])).trans (if_pos (by simp [hsync])))

variable (hsync : s.on Fld.TIM_STATE_SYNC = true)
include hsync

theorem dispatchVerdict_open :
    s.dispatchVerdict d =
      if !d.imm && decide (s.dispatchAhead d < 200000) then 0x11
      else if !d.imm && decide (s.dispatchAhead d > (max 1 (s.get Fld.FAB_DISP_MAXAHEAD) * 1000000000 : Nat)) then 0x12
      else if s.lpe.frames.length ≥ 8 then 0x16
      else 0 :=
  (dispatchVerdict_newer hform hstring hlast hseq).trans ((if_neg (by simp [htaken])).trans (if_neg (by simp [hsync])))

theorem dispatchVerdict_late (himm : d.imm = false) (hahead : s.dispatchAhead d < 200000) : s.dispatchVerdict d = 0x11 :=
  (dispatchVerdict_open hform hstring hlast hseq htaken hsync).trans (if_pos (by simp [himm, hahead]))

theorem dispatchVerdict_early (himm : d.imm = false)
    (hahead : (max 1 (s.get Fld.FAB_DISP_MAXAHEAD) * 1000000000 : Nat) < s.dispatchAhead d) : s.dispatchVerdict d = 0x12 := by
  have hnot : ¬ s.dispatchAhead d < 200000 := by omega
  exact (dispatchVerdict_open hform hstring hlast hseq htaken hsync).trans
    ((if_neg (by simp [hnot])).trans (if_pos (by rw [himm, decide_eq_true hahead]; rfl)))

theorem dispatchVerdict_room (hwhen : d.imm = true ∨ 200000 ≤ s.dispatchAhead d ∧
      s.dispatchAhead d ≤ (max 1 (s.get Fld.FAB_DISP_MAXAHEAD) * 1000000000 : Nat)) :
    s.dispatchVerdict d = if s.lpe.frames.length ≥ 8 then 0x16 else 0 := by
  have hlate : ¬ (!d.imm && decide (s.dispatchAhead d < 200000)) = true := by
    simp only [Bool.and_eq_true, Bool.not_eq_true', decide_eq_true_eq, not_and, not_lt]
    intro himm
    exact (hwhen.resolve_left (by simp [himm])).1
  have hearly : ¬ (!d.imm && decide (s.dispatchAhead d > (max 1 (s.get Fld.FAB_DISP_MAXAHEAD) * 1000000000 : Nat))) = true := by
    simp only [Bool.and_eq_true, Bool.not_eq_true', decide_eq_true_eq, not_and, not_lt, gt_iff_lt]
    intro himm
    exact (hwhen.resolve_left (by simp [himm])).2
  exact (dispatchVerdict_open hform hstring hlast hseq htaken hsync).trans ((if_neg hlate).trans (if_neg hearly))

end

/-! ### Loss of the dispatcher and reports (R516, R518) -/

theorem dispatchLoss_due (hwdt : s.get Fld.FAB_DISP_WDT ≠ 0) (hstate : s.svc.state = .running) (happ : s.appUp = true)
    (hlate : s.dsp.lastAt + s.get Fld.FAB_DISP_WDT * 1000000 ≤ s.nowNat) :
    s.dispatchLoss =
      (let a := (s.irq Pg.FAB Irq.FAB_DLOST).fault Pg.FAB Flt.DISPATCH_LOST 0
       match a.get Fld.FAB_DISP_ACTION with
       | 0 => a
       | 2 => a.haltString.2
       | _ => a.submitStop) := by
  have hgo : ¬ (s.get Fld.FAB_DISP_WDT = 0 || decide (s.svc.state ≠ .running) || !s.appUp ||
      decide (s.nowNat < s.dsp.lastAt + s.get Fld.FAB_DISP_WDT * 1000000)) = true := by
    simp [hwdt, hstate, happ, hlate]
  exact if_neg hgo

theorem sendReport_runs (hfab : s.fabRuns = true) (happ : s.appUp = true) (hstate : s.svc.state ≠ .recovery) :
    ¬ (!s.fabRuns || !s.appUp || !s.recoveryServes 6) = true := by
  have hserves : s.recoveryServes 6 = true := by simp [State.recoveryServes, hstate]
  simp [hfab, happ, hserves]

/-! ### The host session (R504, R508) -/

theorem sessionService_host {k : Nat} (ho : q.origin = .host) (hup : s.Up 9) (happ : s.appUp = true) (g : State → SvcAns) :
    s.sessionService q k g = (g s).2.respond q k (g s).1.1 (g s).1.2 := by
  unfold State.sessionService
  rw [arrive_reached (.inl ⟨ho, hup⟩)]
  simp [ho, happ]

theorem sessionService_fabric {k : Nat} {m : BitVec 10} (ho : q.origin = .fabric m) (h : s.Reached q k) (g : State → SvcAns) :
    s.sessionService q k g = s.respond q k 4 [] := by
  unfold State.sessionService
  rw [arrive_reached h]
  simp [ho]

/-- A role without a key opens where the ceiling allows it. -/
theorem openSession_keyless (tag : BitVec 128) (hkey : s.roleKey r = none) :
    s.openSession r tag = if r ≤ s.get Fld.HST_CFG_MAXROLE then ((0, []), s.wr Reg.HST_ROLE r) else ((9, []), s) := by
  simp [State.openSession, hkey, okBare]

/-- A role with a key opens by its tag on the challenge, which is used up (R508). -/
theorem openSession_keyed {key : BitVec 128} (tag : BitVec 128) (hkey : s.roleKey r = some key) :
    s.openSession r tag =
      (let a : State := { s with fab := { s.fab with challenge := none } }
       if r ≤ s.get Fld.HST_CFG_MAXROLE ∧ s.tagOpens key r tag = true then ((0, []), a.wr Reg.HST_ROLE r) else ((9, []), a)) := by
  simp [State.openSession, hkey, okBare]

theorem tagOpens_unchallenged {key : BitVec 128} (tag : BitVec 128) (h : s.fab.challenge = none) : s.tagOpens key r tag = false := by
  simp [State.tagOpens, h]

theorem tagOpens_challenged {key tag c : BitVec 128} {x : Nat} (h : s.fab.challenge = some (c, x)) :
    s.tagOpens key r tag = true ↔ s.nowNat ≤ x + 10000000000 ∧ sessionTag key c r = tag := by
  simp [State.tagOpens, h]

/-- Settles O45. -/
theorem dispatchAndSessionsComplete : Obligations.DispatchAndSessionsComplete := by
  refine ⟨⟨?_, ?_, ?_, ?_, ?_, ?_, ?_, ?_⟩, ?_⟩
  · intro s q d hserved hrole
    have hanswer := dispatchIn_answers (d := d) hserved hrole
    obtain ⟨-, happ, -, r, hr, -⟩ := hserved
    have hdecide := dispatchDecide_served (d := d) happ hr
    rw [hdecide] at hanswer
    refine ⟨fun h0 hrep => congrArg done (hanswer.trans ?_), fun h0 hrep => congrArg done (hanswer.trans ?_),
      fun hv => congrArg done (hanswer.trans ?_)⟩
    · simp [h0, hrep, State.dispatchNote]
    · simp [h0, hrep, State.dispatchNote]
    · simp [hv, State.dispatchNote]
  · intro s q d hserved hrole
    exact congrArg done (dispatchIn_holds hserved hrole)
  · intro s hup hwdt hstate happ hlate
    exact event_eq hup (dispatchLoss_due hwdt hstate happ hlate)
  · intro s hup hfab happ hstate
    exact event_eq hup (if_neg (sendReport_runs hfab happ hstate))
  · intro s q ho hup happ
    exact congrArg done (sessionService_host ho hup happ _)
  · intro s q role tag ho hup happ
    have hanswer := sessionService_host (k := 8) ho hup happ fun t => t.openSession role.toNat tag
    refine ⟨fun hkey => congrArg done (hanswer.trans ?_), fun key hkey => ⟨fun hnone => congrArg done (hanswer.trans ?_),
      fun c x hc => congrArg done (hanswer.trans ?_)⟩⟩
    · rw [openSession_keyless tag hkey]
      split <;> rfl
    · rw [openSession_keyed tag hkey, tagOpens_unchallenged tag hnone]
      simp
    · rw [openSession_keyed tag hkey]
      simp only [tagOpens_challenged hc]
      split <;> rfl
  · intro s q ho hup happ
    exact congrArg done (sessionService_host ho hup happ _)
  · intro s q m ho
    exact ⟨fun h => congrArg done (sessionService_fabric ho h _), fun role tag h => congrArg done (sessionService_fabric ho h _),
      fun h => congrArg done (sessionService_fabric ho h _)⟩
  · intro s d
    refine ⟨dispatchVerdict_length, dispatchVerdict_form, ?_⟩
    intro hlen hres hns hnan hinf
    have hform : DispatchForm d := ⟨hlen, hres, hns, hnan, hinf⟩
    refine ⟨fun hstring => (dispatchVerdict_formed hform).trans (if_pos hstring), fun hstring => ⟨dispatchVerdict_repeated hform hstring,
      fun l hl hne hseq => dispatchVerdict_old hform hstring hl hne hseq, fun hlast hseq => ⟨dispatchVerdict_closed hform hstring hlast hseq,
        dispatchVerdict_unsynced hform hstring hlast hseq, fun htaken hsync => ⟨?_, ?_, ?_⟩⟩⟩⟩
    · exact dispatchVerdict_late hform hstring hlast hseq htaken hsync
    · exact dispatchVerdict_early hform hstring hlast hseq htaken hsync
    · exact dispatchVerdict_room hform hstring hlast hseq htaken hsync

end Sys2Proof.Machine
end

section
/-! The time unit: timeouts, commands and services complete (R532 to R544, R553). -/

namespace Sys2Proof.Machine
variable {s t u : State} {o : Origin} {p a v r n : Nat} {w : WordSpec} {q : Req}

/-! ### Words of the time unit that act when written (R535, R549) -/

/-- The word of a block register is its row's. -/
theorem specAt_row (hp : pageAt a = some p) (hoff : 0x40 ≤ a % 0x1000) :
    s.specAt o p a = (rowAt (kindOf p) (a % 0x1000)).map (rowSpec a) := by
  rw [State.specAt, if_neg (by simp [hp]), if_neg (by omega)]

/-- A word of the time unit has no boundary to wait for. -/
theorem actsNow_tim (s : State) (w : WordSpec) : s.actsNow Pg.TIM w = true := by
  have hprompt : s.promptPage Pg.TIM = true := by
    unfold State.promptPage
    rw [show [0, 1, 2, 3, 4, 5, 17, 18, 21, 30, 35, 36, 37, 38, 39, 40].contains Pg.TIM = true from by decide, Bool.true_or]
  simp [State.actsNow, hprompt]

theorem timWord_accepted (h : s.Accepts o a v) (hp : pageAt a = some Pg.TIM) (hoff : 0x40 ≤ a % 0x1000) (hdoor : a ≠ Reg.HST_SDOOR)
    (hclass : ¬ (Reg.FLT_CLASS 0 ≤ a ∧ a < Reg.FLT_CLASS 16)) (hw : s.specAt o Pg.TIM a = some w) (hacc : w.acc = .rw)
    (hcls : w.cls ≠ .shadow) :
    s.command o a v =
      (let new := s.storedOver w a (s.rd a) v
       let noted := if new = s.rd a then s else s.audit 1 o a (s.rd a) new
       let kept := if w.serves then noted else noted.remember a new
       (kept.overtake a).writeActive Pg.TIM a new) := by
  have hpage : ¬ (25 ≤ Pg.TIM ∧ Pg.TIM ≤ 29 ∧ a % 0x1000 = 0x50) := fun hp' => absurd hp'.2.1 (by decide)
  rw [command_accepted h (ownerPage_of_pageAt hp) hw (inWindow_of_pageAt hp) hdoor, mirrorOut_same (by decide),
    writeWord_live hp hoff hacc hcls, State.keyClears, if_neg hpage]
  simp only [State.writeLive, hclass, decide_false, Bool.false_and, Bool.not_false, and_true, inWindow_of_pageAt hp, Bool.false_eq_true,
    if_false, actsNow_tim, if_true]

/-! #### The increment of a clock -/

theorem mergeWord_full (old : Nat) {v : Nat} (hv : v < 2 ^ 32) : mergeWord old 0xFFFFFFFF v = v := by
  have hland : v &&& (2 ^ 32 - 1) = v := (Nat.and_two_pow_sub_one_eq_mod v 32).trans (Nat.mod_eq_of_lt hv)
  have hnone : old &&& 0 = 0 := Nat.and_zero old
  show (old &&& 0) ||| (v &&& (2 ^ 32 - 1)) = v
  rw [hland, hnone, Nat.zero_or]

theorem specialStored_increment (s : State) (d : Fin 2) (x : Nat) : s.specialStored (Reg.TIM_DINC d.val) x = clampInc x := by
  have hfixed : Reg.TIM_DINC d.val ≠ Reg.PWR_BO ∧ Reg.TIM_DINC d.val ≠ Reg.PWM_TRIG ∧
      ¬ (List.range 4).any (fun p => Reg.TIM_DINC d.val == Reg.PWM_PHANG p) = true ∧
      ¬ (Reg.FLT_CLASS 0 ≤ Reg.TIM_DINC d.val ∧ Reg.TIM_DINC d.val < Reg.FLT_CLASS 16) ∧
      (Reg.TIM_DINC d.val = Reg.TIM_DINC 0 ∨ Reg.TIM_DINC d.val = Reg.TIM_DINC 1) := by
    revert d; decide
  obtain ⟨h1, h2, h3, h4, h5⟩ := hfixed
  simp only [State.specialStored, if_neg h1, if_neg h2, if_neg h3, if_neg h4, if_pos h5]

/-- The arming of slots is all that a page of the time unit does with a new value. -/
theorem afterWrite_tim (hp : pageAt a = some Pg.TIM) (old : Nat) :
    s.afterWrite Pg.TIM a old =
      if Pg.TIM = Pg.TIM ∧ 0x200 ≤ a % 0x1000 ∧ a % 0x1000 < 0x300 ∧ a % 0x1000 % 32 = 0 then
        (if bitOf old 31 then s else s.armFabric ((a % 0x1000 - 0x200) / 32))
      else if Pg.TIM = Pg.TIM ∧ 0x300 ≤ a % 0x1000 ∧ a % 0x1000 < 0x400 ∧ a % 0x1000 % 32 = 0 then
        (if bitOf old 31 then s else s.armCan ((a % 0x1000 - 0x300) / 32))
      else s := by
  have hzsel : a ≠ Reg.CHM_ZSEL := by
    intro h
    rw [h] at hp
    exact absurd hp (by decide)
  have hlane : ¬ (25 ≤ Pg.TIM ∧ Pg.TIM ≤ 29 ∧ a % 0x1000 = 0x50) := fun hp' => absurd hp'.2.1 (by decide)
  unfold State.afterWrite
  dsimp only
  rw [hp, if_neg (by simp), if_neg (by decide), if_neg (by decide), if_neg (by decide), if_neg (by decide), if_neg (by decide),
    if_neg hzsel, if_neg hlane]

theorem afterWrite_increment (s : State) (d : Fin 2) (old : Nat) : s.afterWrite Pg.TIM (Reg.TIM_DINC d.val) old = s := by
  have haddr : pageAt (Reg.TIM_DINC d.val) = some Pg.TIM ∧ Reg.TIM_DINC d.val % 0x1000 < 0x200 := by revert d; decide
  obtain ⟨hp, hlow⟩ := haddr
  rw [afterWrite_tim hp, if_neg (by omega), if_neg (by omega)]

/-- FIRMWARE writes an increment, held within 500 ppm (R535). -/
theorem increment_accepted (d : Fin 2) (hv : v < 2 ^ 32) (h : s.Accepts o (Reg.TIM_DINC d.val) v) :
    s.command o (Reg.TIM_DINC d.val) v =
      (((if clampInc v = s.rd (Reg.TIM_DINC d.val) then s else
          s.audit 1 o (Reg.TIM_DINC d.val) (s.rd (Reg.TIM_DINC d.val)) (clampInc v)).overtake (Reg.TIM_DINC d.val)).wr
        (Reg.TIM_DINC d.val) (clampInc v)) := by
  have haddr : pageAt (Reg.TIM_DINC d.val) = some Pg.TIM ∧ 0x40 ≤ Reg.TIM_DINC d.val % 0x1000 ∧ Reg.TIM_DINC d.val ≠ Reg.HST_SDOOR ∧
      ¬ (Reg.FLT_CLASS 0 ≤ Reg.TIM_DINC d.val ∧ Reg.TIM_DINC d.val < Reg.FLT_CLASS 16) ∧
      (rowAt (kindOf Pg.TIM) (Reg.TIM_DINC d.val % 0x1000)).map (rowSpec (Reg.TIM_DINC d.val)) =
        some ⟨.live, .rw, 0xFFFFFFFF, [], false, true⟩ := by
    clear h; revert d; decide
  obtain ⟨hp, hoff, hdoor, hclass, hrow⟩ := haddr
  have hstored : s.storedOver ⟨.live, .rw, 0xFFFFFFFF, [], false, true⟩ (Reg.TIM_DINC d.val) (s.rd (Reg.TIM_DINC d.val)) v = clampInc v := by
    unfold State.storedOver
    rw [specialStored_increment, mergeWord_full _ hv]
    rfl
  rw [timWord_accepted h hp hoff hdoor hclass ((specAt_row hp hoff).trans hrow) rfl (by decide), hstored]
  dsimp only
  rw [if_pos rfl, State.writeActive, afterWrite_increment]

/-! ### Timeouts, switches and services (R532 to R538, R541, R544, R553) -/

section
variable {d : Nat} (hens : s.ens Pg.TIM = true) (hon : s.on (Fld.TIM_DCFG_EN d) = true) (hsrc : s.get (Fld.TIM_DCFG_SRC d) = 0)
include hens hon hsrc

theorem announceLost_master {b : Nat × PtpMsg} (hbest : (s.dom d).best = some b) :
    s.announceLost d =
      (let a := (s.modDom d (fun x => { x with best := none, sync := none })).put (Fld.TIM_DSTAT_SLAVE d) 7
       if a.domState d = 4 then a.setDom d 5 else a) := by
  unfold State.announceLost
  rw [if_neg (by simp [hens, hon, hsrc]), hbest]

theorem announceLost_alone (hbest : (s.dom d).best = none) (hcap : s.on (Fld.TIM_DCFG_GMCAP d) = true) (hstate : s.domState d ≠ 7) :
    s.announceLost d = (s.wr64 (Reg.TIM_DGMID d) Config.moduleUid.toNat).setDom d 7 := by
  unfold State.announceLost
  rw [if_neg (by simp [hens, hon, hsrc]), hbest]
  exact if_pos (by simp [hcap, hstate])

end

/-- A SWITCH command and its domain, as they stand in the word written. -/
theorem switchWord (d : Fin 2) : (1 + 256 * d.val) % 16 = 1 ∧ bitsOf (1 + 256 * d.val) 8 1 = d.val := by revert d; decide

theorem switch_accepted (d : Fin 2) (h : s.Accepts o Reg.TIM_CMD (1 + 256 * d.val)) :
    s.command o Reg.TIM_CMD (1 + 256 * d.val) = s.switchCmd d.val := by
  obtain ⟨hop, hdom⟩ := switchWord d
  rw [timCmd_accepted h, hop, hdom]
  rfl

theorem timeSet_range {d mode sec ns : Nat} (h : 1 < d ∨ 1 < mode ∨ 999999999 < ns) : s.timeSet o d mode sec ns = (none, s) :=
  if_pos (by omega)

section
variable {d mode sec ns : Nat} (hd : d ≤ 1) (hmode : mode ≤ 1) (hns : ns ≤ 999999999)
include hd hmode hns

theorem timeSet_barred (h : s.get (Fld.TIM_DCFG_SRC d) = 0 ∨ s.domState d = 0) : s.timeSet o d mode sec ns = (some false, s) :=
  (if_neg (by omega)).trans (if_pos h)

theorem timeSet_free (hsrc : s.get (Fld.TIM_DCFG_SRC d) ≠ 0) (hstate : s.domState d ≠ 0) :
    s.timeSet o d mode sec ns =
      (let old := s.domClock d
       let new : Int := if mode = 0 then ((sec * 1000000000 + ns : Nat) : Int) * (nsUnit : Int)
         else (old : Int) + (toSigned 48 sec * 1000000000 + (ns : Int)) * (nsUnit : Int)
       let a := s.setDomClock d new
       let b := a.audit 0xA o (Reg.TIM_DTSL d) (clockSec old % 2 ^ 32) (clockSec (a.domClock d) % 2 ^ 32)
       let c := (b.timeRec 3 old (b.domClock d) d o).setDom d 2
       (some true, if c.activeDom = d then c.followActive else c)) :=
  (if_neg (by omega)).trans (if_neg (by tauto))

end

/-- The mode byte is 0 as a number exactly when it is 0. -/
theorem byte_toNat_eq_zero (x : Byte) : x.toNat = 0 ↔ x = 0 := by
  rw [← BitVec.toNat_inj]
  rfl

/-- Settles O47. -/
theorem timeComplete : Obligations.TimeComplete := by
  refine ⟨?_, ?_, ?_, ?_, ?_, ?_, ?_, ?_, ?_, ?_, ?_, ?_, ?_, ?_⟩
  · intro s d hup hstate
    exact event_eq hup (if_pos hstate)
  · intro s d hup hstate
    exact event_eq hup (if_pos hstate)
  · intro s d hup hens hon hsrc
    exact ⟨fun b hbest => event_eq hup (announceLost_master hens hon hsrc hbest),
      fun hbest hcap hstate => event_eq hup (announceLost_alone hens hon hsrc hbest hcap hstate)⟩
  · intro s o d v h
    exact congrArg done (timAdj_accepted d h)
  · intro s o d v h
    exact congrArg done (increment_accepted d v.isLt h)
  · intro s hup hres
    exact event_eq hup (if_pos hres)
  · intro s hup hens hrevert hactive hstate
    exact event_eq hup (if_pos (by simpa [hens, hrevert, hactive] using hstate))
  · intro s o d h hens hsynced hactive
    exact congrArg done ((switch_accepted d h).trans ((if_pos (by simp [hens, hsynced])).trans (if_neg hactive)))
  · intro s o d h hsynced
    exact congrArg done ((switch_accepted d h).trans (if_neg (by simp [hsynced])))
  · intro s o h
    exact congrArg done (timCmd_accepted h)
  · intro s q h
    exact congrArg done (firmware_served h _)
  · intro s q d mode sec ns h hd hmode hns hsrc hstate
    refine congrArg done ((firmware_served h _).trans ?_)
    dsimp only
    rw [timeSet_free hd hmode hns hsrc hstate]
    simp only [byte_toNat_eq_zero]
    rfl
  · intro s q d mode sec ns h hd hmode hns hbarred
    refine congrArg done ((firmware_served h _).trans ?_)
    dsimp only
    rw [timeSet_barred hd hmode hns hbarred]
  · intro s q d mode sec ns h hrange
    refine congrArg done ((firmware_served h _).trans ?_)
    dsimp only
    rw [timeSet_range hrange]

end Sys2Proof.Machine
end

section
/-! The time unit: timed outputs and launches complete (R545 to R550). -/

namespace Sys2Proof.Machine
variable {s t u : State} {o : Origin} {p a v r n : Nat} {w : WordSpec} {q : Req}

/-! ### Edges of the timed outputs (R545, R546) -/

theorem tpoLead_runs {k : Nat} (hnext : (s.tpo k).next = some n) (hens : s.ens Pg.TPO = true)
    (hmode : s.get (Fld.TPO_KCFG_MODE k) = 1 ∨ s.get (Fld.TPO_KCFG_MODE k) = 2) :
    s.tpoLead k =
      (let level := !s.on (Fld.TPO_KCFG_POL k)
       let a := ((s.setOn (Fld.TPO_KSTAT_LEVEL k) level).bump (Fld.TPO_KSTAT_PULSES k)).emit (.ball ("TPO" ++ toString k) level)
       let b := if s.get (Fld.TPO_KCFG_MODE k) = 1 || (s.tpo k).stepped then a.irq Pg.TPO k else a
       b.modTpo k (fun t => { t with
         next := if s.get (Fld.TPO_KCFG_MODE k) = 2 then some (n + b.rd (Reg.TPO_KPER k)) else none
         prev := some n, given := true, stepped := false })) := by
  have hgo : ¬ (!s.ens Pg.TPO || s.get (Fld.TPO_KCFG_MODE k) == 0 || s.get (Fld.TPO_KCFG_MODE k) == 3) = true := by
    rcases hmode with h | h <;> simp [hens, h]
  unfold State.tpoLead
  dsimp only
  rw [hnext]
  exact if_neg hgo

theorem tpoTrail_ends {k : Nat} (hlevel : s.on (Fld.TPO_KSTAT_LEVEL k) = !s.on (Fld.TPO_KCFG_POL k)) :
    s.tpoTrail k =
      (s.setOn (Fld.TPO_KSTAT_LEVEL k) (s.on (Fld.TPO_KCFG_POL k))).emit (.ball ("TPO" ++ toString k) (s.on (Fld.TPO_KCFG_POL k))) := by
  unfold State.tpoTrail
  simp [hlevel]

/-! ### Launch slots (R548 to R550) -/

/-- The bits of a slot's control word that can be written: EN with the length, or EN with the object. -/
def slotMask : SlotKind → Nat
  | .fabricSlot => 0x800001FF
  | .canSlot => 0x8000017F

/-- A slot's control word. -/
def slotSpec (kind : SlotKind) : WordSpec := ⟨.live, .rw, slotMask kind, [], false, false⟩

theorem slotArm_accepted (kind : SlotKind) (k : Fin 8) (h : s.Accepts o (slotCtl kind k.val) v) :
    ∃ w, s.specAt o Pg.TIM (slotCtl kind k.val) = some w ∧
      s.command o (slotCtl kind k.val) v =
        (let a := slotCtl kind k.val
         let new := s.storedOver w a (s.rd a) v
         (((if new = s.rd a then s else s.audit 1 o a (s.rd a) new).remember a new).overtake a).writeActive Pg.TIM a new) := by
  have haddr : pageAt (slotCtl kind k.val) = some Pg.TIM ∧ 0x40 ≤ slotCtl kind k.val % 0x1000 ∧ slotCtl kind k.val ≠ Reg.HST_SDOOR ∧
      ¬ (Reg.FLT_CLASS 0 ≤ slotCtl kind k.val ∧ slotCtl kind k.val < Reg.FLT_CLASS 16) ∧
      (rowAt (kindOf Pg.TIM) (slotCtl kind k.val % 0x1000)).map (rowSpec (slotCtl kind k.val)) = some (slotSpec kind) := by
    clear h; revert k; cases kind <;> decide
  obtain ⟨hp, hoff, hdoor, hclass, hrow⟩ := haddr
  have hw : s.specAt o Pg.TIM (slotCtl kind k.val) = some (slotSpec kind) := (specAt_row hp hoff).trans hrow
  exact ⟨_, hw, timWord_accepted h hp hoff hdoor hclass hw rfl (show RegClass.live ≠ .shadow by decide)⟩

/-- A control word that is written arms the slot that stood idle (R549). -/
theorem afterWrite_fabricSlot (k : Fin 8) {old : Nat} (hold : bitOf old 31 = false) :
    s.afterWrite Pg.TIM (Reg.TIM_FLCTL k.val) old = s.armFabric k.val := by
  have haddr : pageAt (Reg.TIM_FLCTL k.val) = some Pg.TIM ∧
      (Pg.TIM = Pg.TIM ∧ 0x200 ≤ Reg.TIM_FLCTL k.val % 0x1000 ∧ Reg.TIM_FLCTL k.val % 0x1000 < 0x300 ∧
        Reg.TIM_FLCTL k.val % 0x1000 % 32 = 0) ∧ (Reg.TIM_FLCTL k.val % 0x1000 - 0x200) / 32 = k.val := by
    revert k; decide
  obtain ⟨hp, hrange, hslot⟩ := haddr
  rw [afterWrite_tim hp, if_pos hrange, if_neg (by simp [hold]), hslot]

theorem afterWrite_canSlot (k : Fin 8) {old : Nat} (hold : bitOf old 31 = false) :
    s.afterWrite Pg.TIM (Reg.TIM_CLCTL k.val) old = s.armCan k.val := by
  have haddr : pageAt (Reg.TIM_CLCTL k.val) = some Pg.TIM ∧
      ¬ (Pg.TIM = Pg.TIM ∧ 0x200 ≤ Reg.TIM_CLCTL k.val % 0x1000 ∧ Reg.TIM_CLCTL k.val % 0x1000 < 0x300 ∧
        Reg.TIM_CLCTL k.val % 0x1000 % 32 = 0) ∧
      (Pg.TIM = Pg.TIM ∧ 0x300 ≤ Reg.TIM_CLCTL k.val % 0x1000 ∧ Reg.TIM_CLCTL k.val % 0x1000 < 0x400 ∧
        Reg.TIM_CLCTL k.val % 0x1000 % 32 = 0) ∧ (Reg.TIM_CLCTL k.val % 0x1000 - 0x300) / 32 = k.val := by
    revert k; decide
  obtain ⟨hp, hfabric, hrange, hslot⟩ := haddr
  rw [afterWrite_tim hp, if_neg hfabric, if_pos hrange, if_neg (by simp [hold]), hslot]

theorem armFabric_cases (s : State) (k : Nat) :
    s.armFabric k =
      if s.on (Fld.TIM_FLCTL_EN k) = false then s
      else if s.slotBad k then (s.setOn (Fld.TIM_FLCTL_EN k) false).irq Pg.TIM Irq.TIM_LREJ
      else if s.longPast (s.rd64 (Reg.TIM_FLT k)) then (s.bump (Fld.TIM_FLSTAT_LATE k)).launchFabric k
      else s := by
  unfold State.armFabric
  simp only [Bool.not_eq_true']

section
variable {k : Nat} (hen : s.on (Fld.TIM_FLCTL_EN k) = true)
include hen

theorem launchFabric_misses (hmiss : s.slotMisses k = true) :
    s.launchFabric k =
      (s.bump (Fld.TIM_FLSTAT_MISSED k)).slotNext (Fld.TIM_FLCTL_EN k) (Reg.TIM_FLT k)
        ((s.bump (Fld.TIM_FLSTAT_MISSED k)).rd (Reg.TIM_FLPER k)) (Fld.TIM_FLSTAT_MISSED k) true := by
  unfold State.launchFabric
  simp only [hen, hmiss, Bool.not_true, Bool.false_eq_true, if_false, if_true]

theorem launchFabric_sends (hmiss : s.slotMisses k = false) (hport : s.routePort (s.slotFrame k).dst.toNat = some p) :
    s.launchFabric k =
      (let a := ((s.egress p (s.slotFrame k) none).bump (Fld.TIM_FLSTAT_SENT k)).irq Pg.TIM Irq.TIM_LAUNCH
       a.slotNext (Fld.TIM_FLCTL_EN k) (Reg.TIM_FLT k) (a.rd (Reg.TIM_FLPER k)) (Fld.TIM_FLSTAT_MISSED k) false) := by
  unfold State.launchFabric
  simp only [hen, hmiss, hport, Bool.not_true, Bool.false_eq_true, if_false]

end

section
variable {k : Nat} (hen : s.on (Fld.TIM_CLCTL_EN k) = true)
include hen

theorem launchCan_requests (hlive : s.canLive (s.get (Fld.TIM_CLCTL_CTRLSEL k)) = true) :
    s.launchCan k =
      (let a := ((s.canRequest (s.get (Fld.TIM_CLCTL_CTRLSEL k)) (s.get (Fld.TIM_CLCTL_OBJ k))).bump
         ⟨Reg.TIM_CLSTAT k, 0, 16⟩).irq Pg.TIM Irq.TIM_LAUNCH
       a.slotNext (Fld.TIM_CLCTL_EN k) (Reg.TIM_CLT k) (a.rd (Reg.TIM_CLPER k)) ⟨Reg.TIM_CLSTAT k, 24, 8⟩ false) := by
  unfold State.launchCan
  simp only [hen, hlive, Bool.not_true, Bool.false_eq_true, if_false]

theorem launchCan_misses (hlive : s.canLive (s.get (Fld.TIM_CLCTL_CTRLSEL k)) = false) :
    s.launchCan k =
      (let a := s.bump ⟨Reg.TIM_CLSTAT k, 24, 8⟩
       a.slotNext (Fld.TIM_CLCTL_EN k) (Reg.TIM_CLT k) (a.rd (Reg.TIM_CLPER k)) ⟨Reg.TIM_CLSTAT k, 24, 8⟩ true) := by
  unfold State.launchCan
  simp only [hen, hlive, Bool.not_true, Bool.not_false, Bool.false_eq_true, if_false, if_true]

end

/-- Settles O48. -/
theorem pulsesAndLaunchesComplete : Obligations.PulsesAndLaunchesComplete := by
  refine ⟨?_, ?_, ?_, ?_, ?_, ?_, ?_⟩
  · intro s k n hup hnext hens hmode
    exact event_eq hup (tpoLead_runs hnext hens hmode)
  · intro s k hup hlevel
    exact event_eq hup (tpoTrail_ends hlevel)
  · intro s o kind k v h
    obtain ⟨w, hw, hstored⟩ := slotArm_accepted kind k h
    exact ⟨w, hw, congrArg done hstored⟩
  · intro s k v _ hidle
    exact (afterWrite_fabricSlot k hidle).trans (armFabric_cases _ _)
  · intro s k v _ hidle
    exact afterWrite_canSlot k hidle
  · intro s k hup hen
    exact ⟨fun hmiss => event_eq hup (launchFabric_misses hen hmiss),
      fun p hmiss hport => event_eq hup (launchFabric_sends hen hmiss hport)⟩
  · intro s k hup hen
    exact ⟨fun hlive => event_eq hup (launchCan_requests hen hlive), fun hlive => event_eq hup (launchCan_misses hen hlive)⟩

end Sys2Proof.Machine
end

section
/-! The CAN controllers: their events complete (R557 to R579). -/

namespace Sys2Proof.Machine
variable {s t u : State} {o : Origin} {p a v r n x : Nat} {w : WordSpec} {q : Req} {ws : List Word}

/-! ### A frame that ends (R557 to R566) -/

theorem canJoin_integrating (hps : s.canPs x = 1) (hrec : s.svc.state ≠ .recovery) (htrans : s.svc.state ≠ .transport) :
    s.canJoin x = (s.put (Fld.CN_STATE_PSTATE x) 2).canConfine x :=
  if_pos (by simp [hps, hrec, htrans])

/-- A controller that takes part outside LOOPBACK takes what its bus carries. -/
theorem canHears (hlive : s.canLive x = true) (hmode : s.get (Fld.CN_CFG_MODE x) ≠ 3) :
    ¬ (!s.canLive x || s.get (Fld.CN_CFG_MODE x) == 3) = true := by simp [hlive, hmode]

theorem canSent_normal {k sof ns : Nat} (hlive : s.canLive x = true) (hmode : s.get (Fld.CN_CFG_MODE x) = 0)
    (htxrq : s.on (objTXRQ x k) = true) (hhold : s.on (objHOLD x k) = false) (hused : s.objUsed x k true = true)
    (hlong : s.objTooLong x k = false) (hbus : (s.canOf x).onBus = some (k, ws)) :
    s.canSent x k sof ns =
      (let a := ((s.offBus x).setTxrq x k false).setOn (objTXOK x k) true
       let b := (a.put (objCOLL x k) 0).put (objNFRAMES x k) (a.get (objNFRAMES x k) + 1)
       let c := ((b.bump (Fld.CN_CNT_TXOK x)).modCan x (fun c => { c with tec := c.tec - 1 })).canConfine x
       let d := ((if c.on (objIE x k) then c.irq (canPage x) Irq.CN_TX else c).emit (.can x k ws)).sspShow x ns ws
       (if d.on (Fld.CN_REF_EN x) && d.get (Fld.CN_REF_OBJ x) == k then
          (d.wr64 (Reg.CN_REFSOF x) sof).modCan x (fun c => { c with
            refSeq := (c.refSeq + 1) % 256
            refSof := some (((sof : Int) * (nsUnit : Int) + ((d.tim.pt : Int) - (d.tim.mono : Int))).toNat, d.on Fld.TIM_STATE_SYNC) })
        else d).canShow x) := by
  have hgo : ¬ (!s.canLive x || !(s.get (Fld.CN_CFG_MODE x) == 0 || s.get (Fld.CN_CFG_MODE x) == 3) || !s.on (objTXRQ x k) ||
      s.on (objHOLD x k) || !s.objUsed x k true || s.objTooLong x k ||
      !((s.canOf x).onBus.any (fun b => b.1 == k) || ((s.canOf x).onBus.isNone && s.nextObject x == some k))) = true := by
    simp [hlive, hmode, htxrq, hhold, hused, hlong, hbus]
  have hloop : (0 : Nat) ≠ 3 := by decide
  refine (if_neg hgo).trans ?_
  rw [hmode, hbus]
  simp only [if_true, if_neg hloop]

/-! ### Errors (R557, R571) -/

theorem canOf_put (s : State) (f : RegField) (v x : Nat) : (s.put f v).canOf x = s.canOf x := rfl

section
variable {e : CanErr} {data heavy : Bool} (hlive : s.canLive x = true)
include hlive

theorem canErrorIn_exception {k : Option Nat} (he : e = .exception) (hpxe : s.on (Fld.CN_CFG_PXE x) = true) :
    s.canErrorIn x e k data heavy = s.canException x :=
  (if_neg (by simp [hlive])).trans (if_pos ⟨he, hpxe⟩)

variable (he : e = .exception → s.on (Fld.CN_CFG_PXE x) = false)
include he

theorem canErrorIn_receiving :
    s.canErrorIn x e none data heavy =
      ((((s.put (Fld.CN_STATE_LASTERR x) (canErrCode e)).errorCounts x e false heavy).canConfine x).offBus x).canShow x :=
  (if_neg (by simp [hlive])).trans (if_neg fun h => by simp [he h.1] at h)

theorem canErrorIn_sending {k : Nat} (hbus : (s.canOf x).onBus = some (k, ws)) :
    s.canErrorIn x e (some k) data heavy =
      (let a := s.put (Fld.CN_STATE_LASTERR x) (canErrCode e)
       let b := if data && isBitError e then (a.sspFree x).collide x k else if data then a.sspFree x else a
       let c := ((b.errorCounts x e true heavy).canConfine x).offBus x
       (if c.on (Fld.CN_CFG_ONESHOT x) then c.requestFails x k else c).canShow x) := by
  have hbus' : ((s.put (Fld.CN_STATE_LASTERR x) (canErrCode e)).canOf x).onBus = some (k, ws) := by
    rw [canOf_put]; exact hbus
  have hgo : ¬ (!s.canLive x) = true := by simp [hlive]
  have hcounts : ¬ (e = .exception ∧ s.on (Fld.CN_CFG_PXE x) = true) := fun h => by simp [he h.1] at h
  unfold State.canErrorIn
  rw [if_neg hgo, if_neg hcounts]
  simp only [hbus', Option.isNone_some, Bool.false_and, Bool.false_eq_true, if_false, Option.any_some, beq_self_eq_true, if_true,
    Option.isSome_some]

end

/-! ### What firmware does for a controller (R573, R575 to R579) -/

section
variable {k : Nat} (hfails : s.failsOver x k = true)
include hfails

theorem failoverObj_partner (htgt : bitsOf (s.rd (objAddr x k 6)) 30 2 = 1) (hlive : s.canLive (1 - x) = true)
    (hused : s.objUsed (1 - x) (s.rd (objAddr x k 6) % 128) true = true) :
    s.failoverObj x k =
      (let m := s.rd (objAddr x k 6) % 128
       let a := s.put (objDLC (1 - x) m) (s.get (objDLC x k))
       let n := min (s.objCapacity x k) (s.objCapacity (1 - x) m)
       let b := a.putBytes (1 - x) m ((List.range n).map (fun i => BitVec.ofNat 8 (a.objByte x k i)))
       (b.canRequest (1 - x) m).carried x k) :=
  (if_neg (by simp [hfails])).trans ((if_pos htgt).trans (if_neg (by simp [hlive, hused])))

theorem failoverObj_slot (htgt : bitsOf (s.rd (objAddr x k 6)) 30 2 = 2)
    (hmiss : s.slotMisses (bitsOf (s.rd (objAddr x k 6)) 8 3) = false) :
    s.failoverObj x k =
      (((s.putSlotBytes (bitsOf (s.rd (objAddr x k 6)) 8 3) 26 (s.fovImage x k)).launchNow (bitsOf (s.rd (objAddr x k 6)) 8 3)).carried x k) :=
  (if_neg (by simp [hfails])).trans ((if_neg (by rw [htgt]; decide)).trans ((if_pos htgt).trans (if_neg (by simp [hmiss]))))

end

/-- Settles O49. -/
theorem canEventsComplete : Obligations.CanEventsComplete := by
  refine ⟨?_, ?_, ?_, ?_, ?_, ?_, ?_, ?_, ?_, ?_, ?_⟩
  · intro s x hup hps hrec htrans
    exact event_eq hup (canJoin_integrating hps hrec htrans)
  · intro s x f hup hlive hmode
    exact event_eq hup (if_neg (canHears hlive hmode))
  · intro s x hup hlive hmode
    exact event_eq hup (if_neg (canHears hlive hmode))
  · intro s x k sent ws hup hlive hmode htxrq hhold hused hlong hbus
    exact event_eq hup (canSent_normal hlive hmode htxrq hhold hused hlong hbus)
  · intro s x k data heavy hup hlive hpxe
    exact event_eq hup (canErrorIn_exception hlive rfl hpxe)
  · intro s x e data heavy hup hlive he
    exact event_eq hup (canErrorIn_receiving hlive he)
  · intro s x k e data heavy ws hup hlive he hbus
    exact event_eq hup (canErrorIn_sending hlive he hbus)
  · intro s x hup hps
    exact event_eq hup (if_neg (not_not.mpr hps))
  · intro s x k hup hfails
    exact ⟨fun htgt hlive hused => event_eq hup (failoverObj_partner hfails htgt hlive hused),
      fun htgt hmiss => event_eq hup (failoverObj_slot hfails htgt hmiss)⟩
  · intro s x k hup hstamp
    exact ⟨fun happ => event_eq hup (if_pos (by rw [hstamp, happ]; rfl)), event_eq hup (if_pos hstamp)⟩
  · intro s x hup hen hens
    exact event_eq hup (if_neg (by simp [hen, hens]))

end Sys2Proof.Machine
end

section
/-! The CAN controllers: requests and commands complete (R563, R568, R572, R580). -/

namespace Sys2Proof.Machine
variable {s t u : State} {o : Origin} {p a v r n x : Nat} {w : WordSpec}

/-! ### Word 3 of an object (R563, R568) -/

theorem word3_address (x : Fin 2) (n : Fin 128) :
    0xA8000 + 0x2000 * x.val ≤ objAddr x.val n.val 3 ∧ objAddr x.val n.val 3 < 0xAA000 + 0x2000 * x.val ∧
      objAddr x.val n.val 3 - (0xA8000 + 0x2000 * x.val) = 64 * n.val + 12 := by
  have := n.isLt
  unfold objAddr
  omega

/-- No page lies in the object windows. -/
theorem pageAt_objects (hlo : 0xA8000 ≤ a) (hhi : a < 0xAC000) : pageAt a = none := by
  have hpages : ∀ k < 4, pageBases.findIdx? (fun b => (0xA8 + k) * 0x1000 == b) = none := by decide
  have hk : a / 0x1000 = 0xA8 + (a / 0x1000 - 0xA8) := by omega
  unfold pageAt
  rw [hk]
  exact hpages _ (by omega)

theorem ownerPage_word3 (x : Fin 2) (n : Fin 128) : ownerPage (objAddr x.val n.val 3) = some (canPage x.val) := by
  obtain ⟨hlo, hhi, -⟩ := word3_address x n
  have hx := x.isLt
  unfold ownerPage
  rw [pageAt_objects (by omega) (by omega)]
  dsimp only
  rw [if_neg (by omega), if_neg (by omega), if_neg (by omega)]
  fin_cases x
  · exact if_pos ⟨hlo, hhi⟩
  · exact (if_neg (by dsimp only at *; omega)).trans (if_pos ⟨hlo, hhi⟩)

theorem word3At_word3 (x : Fin 2) (n : Fin 128) : word3At (objAddr x.val n.val 3) = some (x.val, n.val) := by
  obtain ⟨hlo, hhi, hoff⟩ := word3_address x n
  have hx := x.isLt
  have hn := n.isLt
  have hctrl : (objAddr x.val n.val 3 - 0xA8000) / 0x2000 = x.val := by omega
  have hobj : (objAddr x.val n.val 3 - 0xA8000) % 0x2000 / 64 = n.val := by omega
  rw [word3At, if_pos (by omega), hctrl, hobj]

/-- Word 3 of an object, as the spec of its address. -/
def word3Spec : WordSpec := ⟨.live, .wo, 0x9E800000, [], false, true⟩

theorem specAt_word3 (s : State) (o : Origin) (x : Fin 2) (n : Fin 128) :
    s.specAt o (canPage x.val) (objAddr x.val n.val 3) = some word3Spec := by
  obtain ⟨hlo, hhi, hoff⟩ := word3_address x n
  have hx := x.isLt
  have hn := n.isLt
  have hctrl : (if objAddr x.val n.val 3 < 0xAA000 then 0 else 1) = x.val := by split <;> omega
  have hword : (64 * n.val + 12) % 64 / 4 = 3 := by omega
  rw [State.specAt, if_pos (by rw [pageAt_objects (by omega) (by omega)]; rfl), State.windowSpec, if_neg (by omega), if_neg (by omega),
    if_neg (by omega), if_neg (by omega)]
  dsimp only
  rw [hctrl, hoff, hword]
  rfl

/-- An accepted write of word 3 acts, with no record (R55, R563). -/
theorem word3_accepted (x : Fin 2) (n : Fin 128) (h : s.Accepts o (objAddr x.val n.val 3) v) :
    s.command o (objAddr x.val n.val 3) v = s.word3Write x.val n.val v := by
  obtain ⟨hlo, hhi, hoff⟩ := word3_address x n
  have hx := x.isLt
  have hn := n.isLt
  have hverdict : s.writeVerdict o (objAddr x.val n.val 3) v = 0 := h
  have hpage : pageAt (objAddr x.val n.val 3) = none := pageAt_objects (by omega) (by omega)
  have hmirror : mirrorPages.contains (canPage x.val) = false := by clear h hlo hhi hoff hx hverdict hpage; revert x; decide
  have hdoor : objAddr x.val n.val 3 ≠ Reg.HST_SDOOR := by
    intro hd
    rw [hd] at hpage
    exact absurd hpage (by decide)
  have hoffset : 0xA8000 ≤ objAddr x.val n.val 3 := by omega
  have hspin : spinAt (objAddr x.val n.val 3) = false := by
    unfold spinAt
    exact decide_eq_false (by omega)
  have hblock : Reg.base (canPage x.val) + 0x40 ≤ 0xA8000 := by
    clear h hlo hhi hoff hx hverdict hpage hmirror hdoor hoffset hspin; revert x; decide
  have hheader : ∀ k < 0x40, objAddr x.val n.val 3 ≠ Reg.base (canPage x.val) + k := fun k hk => by omega
  have hctrl := hheader 8 (by decide)
  have hirqe := hheader 20 (by decide)
  have hirqs := hheader 24 (by decide)
  have hcommit := hheader 28 (by decide)
  have herra := hheader 36 (by decide)
  have hwrite : s.writeWord true o (canPage x.val) (objAddr x.val n.val 3) v word3Spec = s.word3Write x.val n.val v := by
    simp [State.writeWord, lockWord, hpage, Reg.ctrl, Reg.irqe, Reg.irqs, Reg.erra, Reg.commit, hctrl, hirqe, hirqs, herra, hcommit,
      word3Spec, hspin, State.commandActs, word3At_word3]
  simp [State.command, State.busWriteBy, State.writeOne_, windowChange, hverdict, ownerPage_word3, specAt_word3, mirrorOut_same hmirror,
    hdoor, word3At_word3, hwrite, State.auditMany]

/-- Word 3 with TXRQ 1 requests, with TXRQ 0 withdraws (R563). -/
theorem word3Write_eq (s : State) (k n v : Nat) :
    s.word3Write k n v =
      (let a := if bitOf v 28 then s.setRxnew k n false else s
       let b := [objOVR k n, objTXOK k n, objFOVD k n, objTXERR k n].foldl (fun (t : State) f =>
         if bitOf v f.lo then t.setOn f false else t) a
       if bitOf v 31 then b.canRequest k n else b.canAbortObj k n) := rfl

theorem word3Write_request (k n v : Nat) :
    s.word3Write k n (putBit v 31 true) =
      (let w := putBit v 31 true
       let a := if bitOf w 28 then s.setRxnew k n false else s
       let b := [objOVR k n, objTXOK k n, objFOVD k n, objTXERR k n].foldl (fun (t : State) f =>
         if bitOf w f.lo then t.setOn f false else t) a
       b.canRequest k n) := by
  rw [word3Write_eq, bitOf_putBit_same]
  exact if_pos rfl

theorem word3Write_withdraw (k n v : Nat) :
    s.word3Write k n (putBit v 31 false) =
      (let w := putBit v 31 false
       let a := if bitOf w 28 then s.setRxnew k n false else s
       let b := [objOVR k n, objTXOK k n, objFOVD k n, objTXERR k n].foldl (fun (t : State) f =>
         if bitOf w f.lo then t.setOn f false else t) a
       b.canAbortObj k n) := by
  rw [word3Write_eq, bitOf_putBit_same]
  exact if_neg Bool.false_ne_true

/-! ### Controller commands (R572, R580) -/

theorem canCommand_recover (s : State) (k n : Nat) :
    s.canCommand k 1 n = if s.canPs k = 4 then s.put (Fld.CN_STATE_PSTATE k) 5 else s.irq (canPage k) Irq.CN_CMDREJ := rfl

theorem canCommand_release (s : State) (k n : Nat) : s.canCommand k 2 n = s.canReleaseObj k n := rfl

theorem canCommand_abort (s : State) (k n : Nat) : s.canCommand k 3 n = s.canAbortObj k n := rfl

theorem canCommand_clear (s : State) (k n : Nat) : s.canCommand k 4 n = (s.wr (Reg.CN_CNT k) 0).wr (Reg.CN_ECNT k) 0 := rfl

theorem recover_accepted (k : Fin 2) (h : s.Accepts o (Reg.CN_CMD k.val) 1) :
    s.command o (Reg.CN_CMD k.val) 1 =
      if s.canPs k.val = 4 then s.put (Fld.CN_STATE_PSTATE k.val) 5 else s.irq (canPage k.val) Irq.CN_CMDREJ := by
  have hop : 1 % 16 = 1 := by decide
  rw [cnCmd_accepted k h, hop, canCommand_recover]

/-- The operation and the object of a command, as they stand in the word written. -/
theorem objectWord (n : Fin 128) {op : Nat} (hop : op < 16) :
    (op + 256 * n.val) % 16 = op ∧ bitsOf (op + 256 * n.val) 8 7 = n.val := by
  have := n.isLt
  unfold bitsOf
  omega

theorem release_accepted (k : Fin 2) (n : Fin 128) (h : s.Accepts o (Reg.CN_CMD k.val) (2 + 256 * n.val)) :
    s.command o (Reg.CN_CMD k.val) (2 + 256 * n.val) = s.canReleaseObj k.val n.val := by
  obtain ⟨hop, hobj⟩ := objectWord n (op := 2) (by decide)
  rw [cnCmd_accepted k h, hop, hobj, canCommand_release]

theorem abort_accepted (k : Fin 2) (n : Fin 128) (h : s.Accepts o (Reg.CN_CMD k.val) (3 + 256 * n.val)) :
    s.command o (Reg.CN_CMD k.val) (3 + 256 * n.val) = s.canAbortObj k.val n.val := by
  obtain ⟨hop, hobj⟩ := objectWord n (op := 3) (by decide)
  rw [cnCmd_accepted k h, hop, hobj, canCommand_abort]

theorem clearCounts_accepted (k : Fin 2) (h : s.Accepts o (Reg.CN_CMD k.val) 4) :
    s.command o (Reg.CN_CMD k.val) 4 = (s.wr (Reg.CN_CNT k.val) 0).wr (Reg.CN_ECNT k.val) 0 := by
  have hop : 4 % 16 = 4 := by decide
  rw [cnCmd_accepted k h, hop, canCommand_clear]

/-- Settles O50. -/
theorem canCommandsComplete : Obligations.CanCommandsComplete := by
  refine ⟨?_, ?_, ?_, ?_, ?_, ?_, ?_, ?_⟩
  · intro s o x n v h
    exact congrArg done ((word3_accepted x n h).trans (word3Write_request _ _ _))
  · intro s o x n v h
    exact congrArg done ((word3_accepted x n h).trans (word3Write_withdraw _ _ _))
  · intro s x k
    exact ⟨fun hpend => if_pos hpend, fun hfree => if_neg (by simp [hfree])⟩
  · intro s x k htxrq
    exact ⟨fun hbusy => if_neg (by simp [hbusy]), fun hfree => if_pos (by simp [htxrq, hfree])⟩
  · intro s o x h
    have hrecover := recover_accepted x h
    exact ⟨fun hoff => congrArg done (hrecover.trans (if_pos hoff)), fun hoff => congrArg done (hrecover.trans (if_neg hoff))⟩
  · intro s o x n h hhold
    exact congrArg done ((release_accepted x n h).trans (if_pos hhold))
  · intro s o x n h
    exact congrArg done (abort_accepted x n h)
  · intro s o x h
    exact congrArg done (clearCounts_accepted x h)

end Sys2Proof.Machine
end

section
/-! The twins: ownership and handover complete (R588, R596 to R599, R605). -/

namespace Sys2Proof.Machine
variable {s t u : State} {o : Origin} {p a v r n : Nat} {w : WordSpec}

/-! ### Ownership (R588, R596 to R599, R605) -/

/-- OWN_IN and the twin state stand in different bits. -/
theorem tstate_ownIn (s : State) (b : Bool) : (s.setOn Fld.TWN_STATE_OWNIN b).tstate = s.tstate :=
  get_put_other (s := s) (f := Fld.TWN_STATE_OWNIN) (g := Fld.TWN_STATE_TSTATE) (by decide) (by decide) (bitNat b)

theorem ens_ownIn (s : State) (b : Bool) : (s.setOn Fld.TWN_STATE_OWNIN b).ens Pg.TWN = s.ens Pg.TWN :=
  congrArg (· != 0) (put_get (s := s) (f := Fld.TWN_STATE_OWNIN) (g := Fld.ens Pg.TWN) (by decide) (bitNat b))

theorem home_ownIn (s : State) (b : Bool) : (s.setOn Fld.TWN_STATE_OWNIN b).on Fld.TWN_CFG_HOME = s.on Fld.TWN_CFG_HOME :=
  congrArg (· != 0) (put_get (s := s) (f := Fld.TWN_STATE_OWNIN) (g := Fld.TWN_CFG_HOME) (by decide) (bitNat b))

theorem tstate_modTwn (s : State) (f : TwinState → TwinState) : (s.modTwn f).tstate = s.tstate := rfl
theorem ens_modTwn (s : State) (f : TwinState → TwinState) : (s.modTwn f).ens p = s.ens p := rfl

/-- OWN_IN has fallen now, and arms a standby. -/
theorem modTwn_armed (s : State) (x : Nat) :
    (s.modTwn (fun t => { t with lowAt := x })).modTwn (fun t => { t with armed := true }) =
      s.modTwn (fun t => { t with lowAt := x, armed := true }) := rfl

theorem ownInFalls_eq (s : State) :
    s.ownInFalls =
      (if s.ens Pg.TWN && s.tstate == 4 then (s.setOn Fld.TWN_STATE_OWNIN false).modTwn (fun t => { t with lowAt := s.nowNat, armed := true })
       else (s.setOn Fld.TWN_STATE_OWNIN false).modTwn (fun t => { t with lowAt := s.nowNat })) := by
  unfold State.ownInFalls
  dsimp only
  rw [ens_modTwn, tstate_modTwn, ens_ownIn, tstate_ownIn, modTwn_armed]

theorem takeOver_armed (harmed : s.twn.armed = true) (hstate : s.tstate = 4) (hin : s.on Fld.TWN_STATE_OWNIN = false)
    (hfit : s.on Fld.TWN_STATE_ELIG = true ∨ s.svc.state = .running) :
    s.takeOver =
      (((s.becomeOwner s.nowNat).bump Fld.TWN_CNT_TAKEOVERS).irq Pg.TWN Irq.TWN_TAKEOVER).faultEvent Pg.TWN Flt.TWIN_TAKEOVER
        (bitNat (!s.on Fld.TWN_STATE_ELIG)) :=
  (if_neg (by simp [harmed, hstate, hin])).trans (if_neg (by rcases hfit with h | h <;> simp [h]))

theorem ownStart_due (hens : s.ens Pg.TWN = true) (hstate : s.tstate = 6 ∨ s.tstate = 2) (hin : s.on Fld.TWN_STATE_OWNIN = false)
    (hlow : s.twn.lowAt + (if s.on Fld.TWN_CFG_HOME then 100000000 else 400000000) ≤ s.nowNat) (hrec : s.svc.state ≠ .recovery)
    (htrans : s.svc.state ≠ .transport) :
    s.ownStart = ((s.setOwn true).setTstate (if s.partnerThere then 3 else 1)).twinRefresh := by
  have hgo : (s.ens Pg.TWN && (s.tstate == 6 || s.tstate == 2) && !s.on Fld.TWN_STATE_OWNIN &&
      decide (s.nowNat ≥ s.twn.lowAt + (if s.on Fld.TWN_CFG_HOME then 100000000 else 400000000)) &&
      decide (s.svc.state ≠ .recovery) && decide (s.svc.state ≠ .transport)) = true := by
    rw [decide_eq_true hlow]
    rcases hstate with h | h <;> simp [hens, hin, hrec, htrans, h]
  exact if_pos hgo

theorem ownConflict_owner (hens : s.ens Pg.TWN = true) (hout : s.on Fld.TWN_STATE_OWNOUT = true) :
    s.ownConflict =
      (let a := s.setOn Fld.TWN_STATE_OWNIN true
       if s.on Fld.TWN_CFG_HOME then a else
       ((((a.setOwn false).setTstate 4).modTwn (fun t => { t with handover := none })).faultEvent Pg.TWN Flt.TWIN_OWNERSHIP 0).twinRefresh) := by
  unfold State.ownConflict
  rw [if_neg (by simp [hens, hout])]
  dsimp only
  rw [home_ownIn]

/-! #### A handover (R598, R599) -/

theorem twinCommand_handover (s : State) : s.twinCommand 1 = if s.mayHandOver then s.announce else s.irq Pg.TWN Irq.TWN_CMDREJ := rfl

theorem handoverCommand_accepted (h : s.Accepts o Reg.TWN_CMD 1) :
    s.command o Reg.TWN_CMD 1 = if s.mayHandOver then s.announce else s.irq Pg.TWN Irq.TWN_CMDREJ := by
  have hop : 1 % 16 = 1 := by decide
  rw [twnCmd_accepted h, hop, twinCommand_handover]

/-- At H the duty gives up its outputs while OWN_IN is high. -/
theorem handoverAt_given {h : Nat} {b : Bool} (hh : s.twn.handover = some (h, true, b)) :
    s.handoverAt true =
      (let b := ((((s.outputsLow.setOn Fld.TWN_STATE_OWNIN true).setOwn false).setTstate 4).wr64 Reg.TWN_LASTH h).chmNote .all 9
       let c := b.modTwn (fun t => { t with handover := none })
       ((c.bump Fld.TWN_CNT_HANDOVERS).irq Pg.TWN Irq.TWN_HANDOVER).twinRefresh) := by
  unfold State.handoverAt
  rw [hh]
  exact if_neg (by decide)

/-- At H without OWN_IN high the duty keeps its outputs. -/
theorem handoverAt_kept {h : Nat} {b : Bool} (hh : s.twn.handover = some (h, true, b)) :
    s.handoverAt false = s.outputsLow.handoverFails := by
  unfold State.handoverAt
  rw [hh]
  exact if_pos (by decide)

theorem handoverAt_taken {h : Nat} {b c : Bool} (hh : s.twn.handover = some (h, false, b)) :
    s.handoverAt c = (((s.becomeOwner h).setOn Fld.TWN_STATE_OWNIN false).bump Fld.TWN_CNT_HANDOVERS).irq Pg.TWN Irq.TWN_HANDOVER := by
  unfold State.handoverAt
  rw [hh]

theorem handoverUnanswered_fails {h : Nat} (hh : s.twn.handover = some (h, true, false)) : s.handoverUnanswered = s.handoverFails := by
  unfold State.handoverUnanswered
  rw [hh]

/-- Settles O51. -/
theorem ownershipComplete : Obligations.OwnershipComplete := by
  refine ⟨?_, ?_, ?_, ?_, ?_, ?_, ?_, ?_, ?_, ?_, ?_, ?_⟩
  · intro s hup
    refine ⟨fun hens hstate => event_eq hup ((ownInFalls_eq s).trans (if_pos (by simp [hens, hstate]))),
      fun hother => event_eq hup ((ownInFalls_eq s).trans (if_neg ?_))⟩
    rcases hother with h | h <;> simp [h]
  · intro s hup harmed hstate hin hfit
    exact event_eq hup (takeOver_armed harmed hstate hin hfit)
  · intro s hup hens hstate hin hlow hrec htrans
    exact event_eq hup (ownStart_due hens hstate hin hlow hrec htrans)
  · intro s hup hens hout hhome
    exact event_eq hup ((ownConflict_owner hens hout).trans (if_neg (by simp [hhome])))
  · intro s hup hens hout hhome
    exact event_eq hup ((ownConflict_owner hens hout).trans (if_pos hhome))
  · intro s hup hmay
    exact event_eq hup (if_pos hmay)
  · intro s o h
    have hcommand := handoverCommand_accepted h
    exact ⟨fun hmay => congrArg done (hcommand.trans (if_pos hmay)), fun hmay => congrArg done (hcommand.trans (if_neg (by simp [hmay])))⟩
  · intro s
    rfl
  · intro s h hup hens hstate
    exact event_eq hup (if_neg (by simp [hens, hstate]))
  · intro s h b hup hh
    refine ⟨event_eq hup (handoverAt_given hh), event_eq hup (handoverAt_kept hh), fun hb => event_eq hup (handoverUnanswered_fails (h := h) ?_)⟩
    rw [hh, hb]
  · intro s h b c hup hh
    exact event_eq hup (handoverAt_taken hh)
  · intro s hup hens hrevert hhome hstate helig htime
    have hnow : s.revertNow = true := by simp [State.revertNow, hens, hrevert, hhome, hstate, helig, htime]
    exact event_eq hup (if_pos hnow)

end Sys2Proof.Machine
end

section
/-! The twins: what they exchange completes (R591 to R595, R602, R626). -/

namespace Sys2Proof.Machine
variable {s t u : State} {o : Origin} {p a v r n : Nat} {w : WordSpec}

/-! ### What the twins exchange (R591 to R595, R602, R626) -/



/-- A write that every check lets pass is not refused with NOT_READY. -/
theorem busWrite_accepted (h : s.Accepts o a v) : (s.busWrite o a v).1 ≠ 0xA := by
  have hgo : ¬ s.writeVerdict o a v ≠ 0 := not_not.mpr h
  show (s.writeOne_ false closedDoor o a v).1 ≠ 0xA
  unfold State.writeOne_
  dsimp only
  rw [if_neg hgo]
  split
  · exact show (1 : Nat) ≠ 0xA by decide
  · exact show (0 : Nat) ≠ 0xA by decide

theorem busWrite_refused {c : Nat} (h : s.writeVerdict o a v = c) (hc : c ≠ 0) : (s.busWrite o a v).1 = c := by
  unfold State.busWrite State.busWriteBy State.writeOne_
  dsimp only
  rw [h, if_pos hc]

theorem mirrorIn_on (hens : s.ens Pg.TWN = true) (hlane : s.laneState 4 = 3) (x : Word) :
    s.mirrorIn a x =
      (if (s.busWrite .twin a x.toNat).1 = 0xA then
        (s.busWrite .twin a x.toNat).2.modTwn (fun t => { t with refused := t.refused ++ [(a, x)] })
       else (s.busWrite .twin a x.toNat).2) :=
  if_neg (by simp [hens, hlane])

/-- The estimator records of a STATE message. -/
theorem stateOut_owner (hens : s.ens Pg.TWN = true) (hout : s.on Fld.TWN_STATE_OWNOUT = true) :
    s.stateOut =
      s.each 77 (fun t k =>
        let l := (t.est.cells.drop (40 * k)).take 40
        if l = [] then t else
          t.sendTwin 5 (l.flatMap (fun (c : Nat × EstCell) => beBytes 2 c.1 ++ c.2.words.flatMap (fun w => beBytes 4 w.toNat)))) := by
  refine (if_neg (by simp [hens, hout])).trans (congrArg (s.each 77) ?_)
  funext t k
  exact if_congr List.isEmpty_iff rfl rfl

/-- Settles O52. -/
theorem twinFramesComplete : Obligations.TwinFramesComplete := by
  refine ⟨?_, ?_, ?_, ?_, ?_, ?_, ?_, ?_, ?_, ?_⟩
  · intro s hup hens
    exact event_eq hup (if_neg (by simp [hens]))
  · intro s m hup hens
    exact event_eq hup (congrArg State.mirrorAgain (if_neg (by simp [hens])))
  · intro s hup hens hp
    exact event_eq hup (if_neg (by simp [hens, hp]))
  · intro s m hup hens hout hinst hopen
    exact event_eq hup (if_neg (by simp [hens, hout, hinst, hopen]))
  · intro s a x hup hens hlane
    have hmirror := mirrorIn_on (a := a.toNat) hens hlane x
    exact ⟨fun h => event_eq hup (hmirror.trans (if_neg (busWrite_accepted h))),
      fun h => event_eq hup (hmirror.trans (if_pos (busWrite_refused h (by decide))))⟩
  · intro s hup hens hcrc
    exact event_eq hup (if_pos (by simp [hens, hcrc]))
  · intro s cells hup hens hout
    exact event_eq hup (if_neg (by simp [hens, hout]))
  · intro s hup hens hout
    exact event_eq hup (stateOut_owner hens hout)
  · intro s r f hup hens hsplit hout hring
    exact event_eq hup (if_pos (by simp [hens, hsplit, hout, hring]))
  · intro s recs hup hens
    exact event_eq hup (if_neg (by simp [hens]))

end Sys2Proof.Machine
end

section
/-! The twins: self-test, reset and power of the partner complete (R586, R597, R600, R601, R605). -/

namespace Sys2Proof.Machine
variable {s t u : State} {o : Origin} {p a v r n : Nat} {w : WordSpec}

/-! ### Commands of the twin unit (R586, R597, R600, R601, R605) -/

theorem twinCommand_selftest (s : State) :
    s.twinCommand 2 = if s.ens Pg.TWN then s.startSelfTest.surrender else s.twinReject := rfl

theorem twinCommand_reset (s : State) : s.twinCommand 3 = if s.mayReset then s.resetPartner else s.irq Pg.TWN Irq.TWN_CMDREJ := rfl

theorem twinCommand_cycle (s : State) :
    s.twinCommand 4 = if s.ens Pg.TWN && s.on Fld.TWN_CFG_PWREN && !s.on Fld.TWN_STATE_OWNIN then s.cyclePower else s.twinReject := rfl

theorem twinCommand_off (s : State) :
    s.twinCommand 5 =
      if s.ens Pg.TWN && !s.on Fld.TWN_STATE_OWNIN then
        let a := (((s.modTwn (fun t => { t with powerOut := false })).emit (.ball "PARTNER_PWR_EN" false)).put Fld.TWN_STATE_PSTATE 3).setPelig
          false
        if a.tstate = 3 then a.setTstate 1 else a
      else s.twinReject := rfl

theorem twinCommand_admit (s : State) :
    s.twinCommand 6 =
      if s.ens Pg.TWN then
        let a := (s.modTwn (fun t => { t with powerOut := true })).emit (.ball "PARTNER_PWR_EN" true)
        if a.get Fld.TWN_STATE_PSTATE = 3 then a.put Fld.TWN_STATE_PSTATE 0 else a
      else s.twinReject := rfl

theorem twinCommand_clear (s : State) :
    s.twinCommand 7 = (s.modTwn (fun t => { t with resets := [] })).put Fld.TWN_CNT_RESETS 0 := rfl

theorem twnOp_accepted {op : Nat} (hop : op < 16) (h : s.Accepts o Reg.TWN_CMD op) : s.command o Reg.TWN_CMD op = s.twinCommand op := by
  rw [twnCmd_accepted h, Nat.mod_eq_of_lt hop]

theorem selfTest_surrenders (hens : s.ens Pg.TWN = true) :
    s.startSelfTest.surrender = (s.modTwn (fun t => { t with testing := true })).surrender :=
  congrArg State.surrender (if_pos hens)

/-- Settles O53. -/
theorem partnerComplete : Obligations.PartnerComplete := by
  refine ⟨?_, ?_, ?_, ?_, ?_, ?_, ?_, ?_, ?_, ?_, ?_, ?_, ?_⟩
  · intro s hup hens
    exact event_eq hup (selfTest_surrenders hens)
  · intro s ok hup htesting
    exact event_eq hup (congrArg State.surrender (if_pos htesting))
  · intro s o h hens
    exact congrArg done ((twnOp_accepted (by decide) h).trans ((twinCommand_selftest s).trans ((if_pos hens).trans (selfTest_surrenders hens))))
  · intro s o h
    have hcommand := (twnOp_accepted (by decide) h).trans (twinCommand_reset s)
    exact ⟨fun hmay => congrArg done (hcommand.trans (if_pos hmay)), fun hmay => congrArg done (hcommand.trans (if_neg (by simp [hmay])))⟩
  · intro s hup hmay hp hin
    exact event_eq hup (if_pos (by simp [hmay, hp, hin]))
  · intro s
    rfl
  · intro s hout
    exact congrArg done (if_pos hout)
  · intro s o h hens hpwr hin
    exact congrArg done ((twnOp_accepted (by decide) h).trans ((twinCommand_cycle s).trans (if_pos (by simp [hens, hpwr, hin]))))
  · intro s hup hens hpwr hp hresets hout
    exact event_eq hup (if_pos (by simp [hens, hpwr, hp, hresets, hout]))
  · intro s hup hout hp
    exact event_eq hup (if_pos (by simp [hout, hp]))
  · intro s o h hens hin
    exact congrArg done ((twnOp_accepted (by decide) h).trans ((twinCommand_off s).trans (if_pos (by simp [hens, hin]))))
  · intro s o h hens
    exact congrArg done ((twnOp_accepted (by decide) h).trans ((twinCommand_admit s).trans (if_pos hens)))
  · intro s o h
    exact congrArg done ((twnOp_accepted (by decide) h).trans (twinCommand_clear s))

end Sys2Proof.Machine
end

section
/-! The recorder: intake, writer, commands and services complete (R612 to R628). -/

namespace Sys2Proof.Machine
variable {s t u : State} {o : Origin} {p a v r n : Nat} {w : WordSpec} {c : Rec} {rest : List Rec}

/-! ### Intake and writer (R612 to R620) -/


theorem intakeOne_arrives {x : RawRec} {l : List RawRec} (harriving : s.evr.arriving = x :: l) :
    s.intakeOne = ((s.modEvr (fun e => { e with arriving := l })).takeRaw x).evrShow := by
  unfold State.intakeOne
  rw [harriving]

theorem takeRaw_kept {x : RawRec} (h : keptAlways x.type = true ∨ s.get Fld.EVR_CFG_MINSEV ≤ x.sev) :
    s.takeRaw x = (s.noteStamped x (s.stampOf x)).intakeRec (s.stampOf x) := by
  have hgo : ¬ (!keptAlways x.type && decide (x.sev < s.get Fld.EVR_CFG_MINSEV)) = true := by
    rcases h with h | h
    · simp [h]
    · simp [Nat.not_lt.mpr h]
  exact if_neg hgo

theorem writeOne_frozen (m : MediaResult) (hfrozen : s.on Fld.EVR_STAT_FROZEN = true) (hintake : s.evr.intake = c :: rest) :
    s.writeOne m = ((s.modEvr (fun e => { e with intake := rest })).holdRec c).evrShow := by
  unfold State.writeOne
  rw [if_pos hfrozen, hintake]

section
variable (m : MediaResult) (hfrozen : s.on Fld.EVR_STAT_FROZEN = false)
include hfrozen

theorem writeOne_writes (hreleasing : s.evr.releasing = false) (hintake : s.evr.intake = c :: rest) :
    s.writeOne m = ((s.modEvr (fun e => { e with intake := rest })).writeOut c m).evrShow := by
  unfold State.writeOne
  rw [if_neg (by simp [hfrozen]), if_neg (by simp [hreleasing]), hintake]

theorem writeOne_releases (hreleasing : s.evr.releasing = true) (hholding : s.evr.holding = c :: rest) :
    s.writeOne m = ((s.modEvr (fun e => { e with holding := rest, releasing := !rest.isEmpty })).writeOut c m).evrShow := by
  unfold State.writeOne
  rw [if_neg (by simp [hfrozen]), if_pos hreleasing, hholding]

end

/-! #### Where a record goes -/

/-- Where a record goes that leaves its buffer. -/
theorem writeOut_left (s : State) (f : RecorderState → RecorderState) (c : Rec) (m : MediaResult) :
    (s.modEvr f).writeOut c m =
      if s.on Fld.EVR_STAT_MEDIAFLT then (s.modEvr f).faultyWrite c
      else if !s.hugood then (s.modEvr f).gasp c
      else if m = .good then (if c.sev = 7 then (s.modEvr f).appendReserve c else (s.modEvr f).appendMain c).noteChain c
      else (s.modEvr f).mediumFails.faultyWrite c := rfl

theorem writeOut_faulty (f : RecorderState → RecorderState) (m : MediaResult) (hfault : s.on Fld.EVR_STAT_MEDIAFLT = true) :
    ((s.modEvr f).writeOut c m).evrShow = ((s.modEvr f).faultyWrite c).evrShow := by
  rw [writeOut_left, if_pos hfault]

section
variable (f : RecorderState → RecorderState) (hfault : s.on Fld.EVR_STAT_MEDIAFLT = false)
include hfault

theorem writeOut_gasp (m : MediaResult) (hgood : s.hugood = false) :
    ((s.modEvr f).writeOut c m).evrShow =
      ((s.modEvr f).modEvr (fun e => { e with lastGasp := trimRing 4096 (e.lastGasp ++ [{ c with lastGasp := true }]) })).evrShow := by
  rw [writeOut_left, if_neg (by simp [hfault]), if_pos (by simp [hgood])]
  rfl

variable {m : MediaResult} (hgood : s.hugood = true)
include hgood

theorem writeOut_log (hm : m = .good) :
    ((s.modEvr f).writeOut c m).evrShow =
      ((if c.sev = 7 then (s.modEvr f).appendReserve c else (s.modEvr f).appendMain c).noteChain c).evrShow := by
  rw [writeOut_left, if_neg (by simp [hfault]), if_neg (by simp [hgood]), if_pos hm]

theorem writeOut_fails (hm : m ≠ .good) :
    ((s.modEvr f).writeOut c m).evrShow = ((s.modEvr f).mediumFails.faultyWrite c).evrShow := by
  rw [writeOut_left, if_neg (by simp [hfault]), if_neg (by simp [hgood]), if_neg hm]

end

/-! ### Commands of the recorder (R619 to R623) -/

theorem evrOp_accepted {op : Nat} (hop : op < 16) (h : s.Accepts o Reg.EVR_CMD op) : s.command o Reg.EVR_CMD op = s.evrCommand o op := by
  rw [evrCmd_accepted h, Nat.mod_eq_of_lt hop]

theorem evrCommand_freeze (s : State) (o : Origin) : s.evrCommand o 1 = (s.freezeLog o).audit 0xC o Reg.EVR_CMD 0 1 := rfl
theorem evrCommand_release (s : State) (o : Origin) : s.evrCommand o 2 = (s.endFreeze o).audit 0xC o Reg.EVR_CMD 0 2 := rfl
theorem evrCommand_clearMain (s : State) (o : Origin) :
    s.evrCommand o 3 = if s.clearBusy then s.irq Pg.EVR Irq.EVR_CMDREJ else (s.clearArea o false).1 := rfl
theorem evrCommand_clearReserve (s : State) (o : Origin) :
    s.evrCommand o 4 = if s.clearBusy then s.irq Pg.EVR Irq.EVR_CMDREJ else (s.clearArea o true).1 := rfl

theorem freezeLog_runs (hfrozen : s.on Fld.EVR_STAT_FROZEN = false) : s.freezeLog o = (s.flushArriving.beginFreeze o).evrShow :=
  if_neg (by simp [hfrozen])

theorem freeze_accepted (h : s.Accepts o Reg.EVR_CMD 1) (hfrozen : s.on Fld.EVR_STAT_FROZEN = false) :
    s.command o Reg.EVR_CMD 1 = ((s.flushArriving.beginFreeze o).evrShow).audit 0xC o Reg.EVR_CMD 0 1 := by
  rw [evrOp_accepted (by decide) h, evrCommand_freeze, freezeLog_runs hfrozen]

theorem clearArea_main (s : State) (o : Origin) :
    (s.clearArea o false).1 =
      (let recs := s.evr.main.flatMap Segment.recs
       let first := ((recs.map Rec.seq).head?).getD 0
       let last := ((recs.map Rec.seq).getLast?).getD 0
       let a := s.modEvr (fun e => { e with main := [] })
       let x := a.recordNow (a.recorderRaw 7 1 o first last recs.length)
       (((x.1.wr Reg.EVR_LASTCLR x.2).audit 0xC o Reg.EVR_CMD 0 3).irq Pg.EVR Irq.EVR_CLEARED).evrShow) := rfl

theorem clearArea_reserve (s : State) (o : Origin) :
    (s.clearArea o true).1 =
      (let recs := s.evr.reserve.flatMap Segment.recs
       let first := ((recs.map Rec.seq).head?).getD 0
       let last := ((recs.map Rec.seq).getLast?).getD 0
       let a := s.modEvr (fun e => { e with reserve := [] })
       let x := a.recordNow (a.recorderRaw 7 1 o first last recs.length)
       (((x.1.wr Reg.EVR_LASTCLR x.2).audit 0xC o Reg.EVR_CMD 0 4).irq Pg.EVR Irq.EVR_CLEARED).evrShow) := rfl

theorem mediaTestRun_passes (hfault : s.on Fld.EVR_STAT_MEDIAFLT = true) :
    s.mediaTestRun true =
      (let a := (s.setOn Fld.EVR_STAT_MEDIAFLT false).latchFault Pg.EVR Flt.LOG_MEDIA_FAULT
       let b := a.raiseRec (a.recorderRaw 2 5 .firmware 0 0 0)
       ((b.copyBack (b.evr.lastGasp ++ b.evr.norRegion.flatMap Segment.recs)).setOn Fld.EVR_STAT_NORFB false).evrShow) :=
  (if_neg (by decide)).trans (if_neg (by simp [hfault]))

theorem mediaTestRun_fails (s : State) : s.mediaTestRun false = s.mediumFails.evrShow := if_pos rfl

theorem commandAs_accepted (h : s.Accepts o a v) (f : State → State) : s.commandAs o a v f = f s :=
  if_pos (show s.writeVerdict o a v = 0 from h)

/-- Settles O54. -/
theorem recorderComplete : Obligations.RecorderComplete := by
  refine ⟨?_, ?_, ?_, ?_, ?_, ?_, ?_, ?_, ?_, ?_, ?_, ?_, ?_⟩
  · intro s x l hup harriving
    exact event_eq hup (intakeOne_arrives harriving)
  · intro s x
    exact ⟨takeRaw_kept, fun hkept hsev => if_pos (by simp [hkept, hsev])⟩
  · intro s m c rest hup hintake
    refine ⟨fun hfrozen => event_eq hup (writeOne_frozen m hfrozen hintake), fun hfrozen hreleasing => ?_⟩
    have hwrites := writeOne_writes m hfrozen hreleasing hintake
    refine ⟨fun hfault => event_eq hup (hwrites.trans (writeOut_faulty _ m hfault)),
      fun hfault hgood => event_eq hup (hwrites.trans (writeOut_gasp _ hfault m hgood)),
      fun hfault hgood hm hsev => event_eq hup (hwrites.trans ((writeOut_log _ hfault hgood hm).trans ?_)),
      fun hfault hgood hm hsev => event_eq hup (hwrites.trans ((writeOut_log _ hfault hgood hm).trans ?_)),
      fun hfault hgood hm => event_eq hup (hwrites.trans (writeOut_fails _ hfault hgood hm))⟩
    · rw [if_pos hsev]
    · rw [if_neg hsev]
  · intro s m c rest hup hfrozen hreleasing hholding
    exact event_eq hup (writeOne_releases m hfrozen hreleasing hholding)
  · intro s o h hfrozen
    exact congrArg done (freeze_accepted h hfrozen)
  · intro s o h _
    exact congrArg done ((evrOp_accepted (by decide) h).trans (evrCommand_release s o))
  · intro s hup _
    exact event_eq hup rfl
  · intro s o hfrozen
    exact if_neg (by simp [hfrozen])
  · intro s o h
    have hcommand := (evrOp_accepted (by decide) h).trans (evrCommand_clearMain s o)
    exact ⟨fun hbusy => congrArg done (hcommand.trans (if_pos hbusy)),
      fun hfree => congrArg done (hcommand.trans ((if_neg (by simp [hfree])).trans (clearArea_main s o)))⟩
  · intro s o h
    have hcommand := (evrOp_accepted (by decide) h).trans (evrCommand_clearReserve s o)
    exact ⟨fun hbusy => congrArg done (hcommand.trans (if_pos hbusy)),
      fun hfree => congrArg done (hcommand.trans ((if_neg (by simp [hfree])).trans (clearArea_reserve s o)))⟩
  · intro s o hfault
    exact ⟨fun h => congrArg done ((commandAs_accepted h _).trans (mediaTestRun_passes hfault)),
      fun hup => event_eq hup ((if_pos hfault).trans (mediaTestRun_passes hfault))⟩
  · intro s o h
    exact congrArg done ((commandAs_accepted h _).trans (mediaTestRun_fails s))
  · intro s
    rfl

/-! ### The recorder services (R619, R621 to R623, R628) -/

/-- A requester whose role suffices for more also has this service. -/
theorem served_of_le {q : Req} {svc m k : Nat} (h : s.Served q svc m) (hk : k ≤ m) : s.Served q svc k := by
  obtain ⟨hreached, happ, hserves, r, hr, hm⟩ := h
  exact ⟨hreached, happ, hserves, r, hr, hk.trans hm⟩

theorem areaRecs_none (h : 5 < n) : s.areaRecs n = none := by
  obtain ⟨k, rfl⟩ : ∃ k, n = k + 6 := ⟨n - 6, by omega⟩
  rfl

theorem byte_toNat_eq_one (x : Byte) : x.toNat = 1 ↔ x = 1 := by
  rw [← BitVec.toNat_inj]
  rfl

/-- LOG_CLEAR of an area at its role (R621). -/
theorem logClear_served {q : Req} {area : Byte} (harea : area.toNat ≤ 1) (h : s.Served q 0x204 (if area = 1 then 3 else 1)) :
    s.logClearSvc q area.toNat =
      (if s.clearBusy then s.respond q 0x204 7 [] else
       let x := s.clearArea q.origin (area.toNat == 1)
       x.1.respond q 0x204 0 (beBytes 4 x.2.1 ++ beBytes 4 x.2.2)) := by
  have hserved := firmware_served (served_of_le h (Nat.zero_le _)) fun t =>
    if area.toNat > 1 then ((0x15, []), t)
    else if (t.roleOf q.origin).getD 0 < (if area.toNat = 1 then 3 else 1) then ((6, []), t)
    else if t.clearBusy then ((7, []), t)
    else
      let x := t.clearArea q.origin (area.toNat == 1)
      ((0, beBytes 4 x.2.1 ++ beBytes 4 x.2.2), x.1)
  obtain ⟨-, -, -, r, hr, hrole⟩ := h
  have hallowed : ¬ (s.roleOf q.origin).getD 0 < (if area.toNat = 1 then 3 else 1) := by
    simp only [hr, Option.getD_some, byte_toNat_eq_one]
    exact Nat.not_lt.mpr hrole
  refine hserved.trans ?_
  dsimp only
  rw [if_neg (Nat.not_lt.mpr harea), if_neg hallowed]
  split <;> rfl

/-- Settles O55. -/
theorem logServicesComplete : Obligations.LogServicesComplete := by
  refine ⟨?_, ?_, ?_, ?_, ?_, ?_, ?_⟩
  · intro s q h
    exact congrArg done (firmware_served h _)
  · intro s q area minsev seq pcc h
    refine ⟨fun l hl => congrArg done ((firmware_served h _).trans ?_), fun harea => congrArg done ((firmware_served h _).trans ?_)⟩
    · dsimp only
      rw [hl]
    · dsimp only
      rw [areaRecs_none harea]
  · intro s q h
    exact congrArg done (firmware_served h _)
  · intro s q h
    exact congrArg done (firmware_served h _)
  · intro s q area harea h
    have hclear := logClear_served harea h
    exact ⟨fun hbusy => congrArg done (hclear.trans (if_pos hbusy)), fun hfree => congrArg done (hclear.trans (if_neg (by simp [hfree])))⟩
  · intro s q text h hsome hlen
    refine congrArg done ((firmware_served h _).trans ?_)
    dsimp only
    rw [if_neg (by simp [hsome, hlen])]
    rfl
  · intro s q text h hbad
    have hrefused : (text.isEmpty || decide (text.length > 64)) = true := by
      rcases hbad with hbad | hbad <;> simp [hbad]
    refine congrArg done ((firmware_served h _).trans ?_)
    dsimp only
    rw [if_pos hrefused]

end Sys2Proof.Machine
end

section
/-! Reset assertion, release, start and the reset commands complete (R633 to R646, R661). -/

namespace Sys2Proof.Machine
variable {s t u : State} {o : Origin} {p a v r n : Nat} {w : WordSpec}

/-! ### Sources and domains (R633 to R646) -/

theorem val_eq_twelve (x : Fin 16) : x.val = 12 ↔ x = 12 := by rw [Fin.ext_iff]; rfl
theorem val_eq_one (x : Fin 16) : x.val = 1 ↔ x = 1 := by rw [Fin.ext_iff]; rfl
theorem val_eq_eight (x : Fin 16) : x.val = 8 ↔ x = 8 := by rw [Fin.ext_iff]; rfl

theorem resetAssert_allowed {src : Fin 16} (htrans : s.svc.state ≠ .transport) (hlevels : allowedLevels src.val ≠ [])
    (hpartner : src = 8 → s.twn.resetOut = false) : s.resetAssert src.val = s.assertSource src.val := by
  have hgo : ¬ (s.svc.state = .transport ∨ allowedLevels src.val = [] ∨ (src.val = 8 ∧ s.twn.resetOut = true)) := by
    rintro (h | h | ⟨h8, hout⟩)
    · exact htrans h
    · exact hlevels h
    · rw [hpartner ((val_eq_eight src).mp h8)] at hout
      exact Bool.false_ne_true hout
  exact if_neg hgo

theorem assertSource_eq (s : State) (src : Fin 16) :
    s.assertSource src.val =
      (let lvl := s.levelOf src.val
       let first := s.clk.asserted = 0 ∧ s.clk.held = []
       let fails := s.clk.startPending && s.domUp 10 && !excusedSource src.val
       let a := s.modClk (fun c => { c with
         asserted := putBit c.asserted src.val true
         causes := putBit (if first then 0 else c.causes) src.val true
         widest := min lvl (if first then 3 else c.widest)
         failTimes := if fails then s.opsec :: c.failTimes else c.failTimes
         failedStart := c.failedStart || fails
         startPending := c.startPending && !fails })
       let b := (if fails then a.wr Reg.AON_BOOTLOG s.opsec else a).dropLevel lvl
       let d := if src = 12 then b.dropLoop else b
       let e := d.modClk (fun c => { c with held := (List.range 11).filter (fun k =>
                                              c.held.contains k || (d.reachOf src.val).contains k) })
       let f := if src = 1 then (e.modClk (fun c => { c with dieLatch := false })).bump Fld.PWR_CNT_BROWNOUTS else e
       f.wr Reg.RST_NOW f.clk.asserted) := by
  unfold State.assertSource
  simp only [val_eq_twelve, val_eq_one]

theorem resetRelease_asserted {src : Fin 16} (hasserted : bitOf s.clk.asserted src.val = true) (hlatch : src = 10 → s.clk.dieLatch = false) :
    s.resetRelease src.val =
      ((s.modClk (fun c => { c with asserted := putBit c.asserted src.val false })).wr Reg.RST_NOW
        (putBit s.clk.asserted src.val false)).releaseNext 10 := by
  have hgo : ¬ (!bitOf s.clk.asserted src.val || (src.val == 10 && s.clk.dieLatch)) = true := by
    by_cases h10 : src = 10
    · simp [hasserted, hlatch h10]
    · have hne : src.val ≠ 10 := fun h => h10 (Fin.ext h)
      simp [hasserted, hne]
  exact if_neg hgo

section
variable {d : Nat} {rest : List Nat} (hheld : s.clk.held = d :: rest)
include hheld

theorem releaseNext_waits (n : Nat) (h : s.reached d = true ∨ ∃ k, domainPll d = some k ∧ s.pllLocked k = false) :
    s.releaseNext (n + 1) = s := by
  have hwait : (s.reached d || ((domainPll d).map (fun k => !s.pllLocked k)).getD false) = true := by
    rcases h with h | ⟨k, hk, hlock⟩
    · simp [h]
    · simp [hk, hlock]
  simp only [State.releaseNext, hheld, if_pos hwait]

theorem releaseNext_goes (n : Nat) (hreached : s.reached d = false) (hpll : ∀ k, domainPll d = some k → s.pllLocked k = true) :
    s.releaseNext (n + 1) = ((s.modClk (fun c => { c with held := rest })).domainStart d).releaseNext n := by
  have hlocked : ((domainPll d).map (fun k => !s.pllLocked k)).getD false = false := by
    cases hk : domainPll d with
    | none => rfl
    | some k => simp [hpll k hk]
  have hgo : ¬ (s.reached d || ((domainPll d).map (fun k => !s.pllLocked k)).getD false) = true := by simp [hreached, hlocked]
  simp only [State.releaseNext, hheld, if_neg hgo]

end

theorem pllLock_locks (k : Fin 5) (hlocked : s.pllLocked k.val = false) (hreached : s.reached (if k = 0 then 10 else 2) = false) :
    s.pllLock k.val =
      (let a := ((s.setPll k.val true).irq Pg.CLK Irq.CLK_RELOCK).modClk (fun c => { c with
         waitPll := c.waitPll.filter (fun d => !(pllDomains k.val).contains d) })
       let b := if a.clk.pwmHeld && k.val == 1 then a.fault Pg.CLK Flt.CLK_FAIL 2 else a
       let d := if k = 1 ∨ k = 2 ∨ k = 3 then b.endInstance Pg.CLK Flt.CLK_FAIL (1 + k.val) else b
       d.pwmLetGo.releaseNext 10) := by
  have h0 : (k.val = 0) = (k = 0) := propext (by rw [Fin.ext_iff]; rfl)
  have h1 : (k.val = 1) = (k = 1) := propext (by rw [Fin.ext_iff]; rfl)
  have h2 : (k.val = 2) = (k = 2) := propext (by rw [Fin.ext_iff]; rfl)
  have h3 : (k.val = 3) = (k = 3) := propext (by rw [Fin.ext_iff]; rfl)
  have hgo : ¬ (s.pllLocked k.val || s.reached (if k.val = 0 then 10 else 2)) = true := by
    simp only [h0, hlocked, hreached, Bool.or_self, Bool.false_eq_true, not_false_eq_true]
  unfold State.pllLock
  rw [if_neg hgo]
  simp only [h1, h2, h3]

theorem configRestore_pending (hpending : s.clk.startPending = true) (hup : s.domUp 10 = true) :
    s.configRestore =
      ((restoreOrder.filter (restoredBy (s.get Fld.RST_CAUSE_LEVEL))).foldl State.restorePage s).restoreLocks.nothingHeld.maybeReady :=
  if_neg (by simp [hpending, hup])

/-! ### Starts and commands (R640 to R646) -/

theorem bootOk_completes (hpending : s.clk.startPending = true) (hup : s.domUp 10 = true) :
    s.bootOk =
      (let a := (s.modClk (fun c => { c with startPending := false })).put Fld.RST_BOOT_FAILS 0
       let b := { a with svc := { a.svc with appPaused := false } }
       let svn := (b.bank b.activeIdx).svn
       let d := if b.get Fld.RST_BOOT_RECOVERY = 0 ∧ b.rd Reg.UPD_SVNMIN < svn then b.wr Reg.UPD_SVNMIN svn else b
       if d.on Fld.UPD_BANKS_TRIAL && !d.on Fld.RST_BOOT_RECOVERY then
         ((((d.setOn Fld.UPD_BANKS_TRIAL false).bump Fld.UPD_CNT_ACTIVATIONS).irq Pg.UPD Irq.UPD_ACTIVATED).dropLock).updShow
       else d) :=
  if_neg (by simp [hpending, hup])

theorem watchdog_asserts (hheld : s.clk.held.contains 10 = false) (hhalted : s.on Fld.DBG_SESSION_HALTED = false) :
    s.watchdog = s.resetAssert 4 := by
  unfold State.watchdog
  rw [hheld, hhalted]
  exact if_neg Bool.false_ne_true

theorem rstOp_accepted {op : Nat} (hop : op < 16) (h : s.Accepts o Reg.RST_CMD op) : s.command o Reg.RST_CMD op = s.rstCommand op := by
  rw [rstCmd_accepted h, Nat.mod_eq_of_lt hop]

theorem rstCommand_recoveryExit (s : State) :
    s.rstCommand 1 =
      if s.svc.state = .recovery then
        ((s.clearBoot.setOn Fld.RST_BOOT_RECOVERY false).modClk (fun c => { c with softLevel := 1 })).resetAssert 6
      else s.irq Pg.RST Irq.RST_CMDREJ := rfl

theorem rstCommand_fuseBurn (s : State) :
    s.rstCommand 2 =
      if s.svc.state = .recovery ∧ ¬ s.on Fld.RST_FUSECFG_BURNT = true ∧ s.fusesOk = true then
        (s.setOn Fld.RST_FUSECFG_BURNT true).modClk (fun c => { c with
          fuseNext := some (Nat.lor (s.rd Reg.RST_FUSEPRG) 0xFC000000, s.rd Reg.RST_BOOTPRG % 16) })
      else s.irq Pg.RST Irq.RST_CMDREJ := rfl

theorem rstCommand_clearBoot (s : State) :
    s.rstCommand 3 =
      ((s.modClk (fun c => { c with failTimes := [], failedStart := false })).put Fld.RST_BOOT_FAILS 0).wr Reg.AON_BOOTLOG 0 := rfl

theorem bitOf_zero_of_odd (h : v % 2 = 1) : bitOf v 0 = true := by simp [bitOf, h]

/-- Settles O56. -/
theorem resetsComplete : Obligations.ResetsComplete := by
  refine ⟨?_, ?_, ?_, ?_, ?_, ?_, ?_, ?_, ?_, ?_, ?_⟩
  · intro s src htrans hlevels hpartner
    exact congrArg done ((resetAssert_allowed htrans hlevels hpartner).trans (assertSource_eq s src))
  · intro s src hasserted hlatch
    exact congrArg done (resetRelease_asserted hasserted hlatch)
  · intro s n d rest hheld
    exact ⟨releaseNext_waits hheld n, releaseNext_goes hheld n⟩
  · intro s k hlocked hreached
    exact congrArg done (pllLock_locks k hlocked hreached)
  · intro s hpending hup
    exact congrArg done (configRestore_pending hpending hup)
  · intro s o v h
    exact congrArg done (softRst_accepted h)
  · intro s o v h hodd hpending hup
    exact congrArg done ((bootOk_accepted h).trans ((if_pos (bitOf_zero_of_odd hodd)).trans (bootOk_completes hpending hup)))
  · intro s hheld hhalted
    have hasserts := watchdog_asserts hheld hhalted
    exact ⟨congrArg done hasserts, fun hpending => congrArg done ((if_pos hpending).trans hasserts)⟩
  · intro s o h
    have hcommand := (rstOp_accepted (by decide) h).trans (rstCommand_recoveryExit s)
    exact ⟨fun hrec => congrArg done (hcommand.trans (if_pos hrec)), fun hrec => congrArg done (hcommand.trans (if_neg hrec))⟩
  · intro s o h
    have hcommand := (rstOp_accepted (by decide) h).trans (rstCommand_fuseBurn s)
    refine ⟨fun hrec hburnt hfuses => congrArg done (hcommand.trans (if_pos ⟨hrec, by simp [hburnt], hfuses⟩)),
      fun hbarred => congrArg done (hcommand.trans (if_neg ?_))⟩
    rintro ⟨hrec, hburnt, hfuses⟩
    rcases hbarred with h | h | h
    · exact h hrec
    · exact hburnt h
    · rw [h] at hfuses
      exact Bool.false_ne_true hfuses
  · intro s o h
    exact congrArg done ((rstOp_accepted (by decide) h).trans (rstCommand_clearBoot s))

end Sys2Proof.Machine
end

section
/-! Clocks, supplies, memory, temperature and transport complete (R647 to R659). -/

namespace Sys2Proof.Machine
variable {s t u : State} {o : Origin} {p a v r n : Nat} {w : WordSpec}

/-! ### Clocks (R647 to R649) -/

theorem refLoss_good (h : s.on refOk = true) :
    s.refLoss =
      ((((s.setOn refOk false).bump Fld.CLK_CNT_REFLOSS).irq Pg.CLK Irq.CLK_REFLOSS).modClk (fun c => { c with
        refLost := true, pwmHeld := true })).fault Pg.CLK Flt.CLK_FAIL 0 :=
  if_neg (by simp [h])

theorem pllLoss_locked (k : Fin 5) (h : s.pllLocked k.val = true) :
    s.pllLoss k.val =
      (let a := ((((s.setPll k.val false).bump Fld.CLK_CNT_UNLOCKS).put Fld.CLK_LAST_PLL k.val).irq Pg.CLK Irq.CLK_UNLOCK).modClk (fun c => { c with
         waitPll := c.waitPll ++ pllDomains k.val, pwmHeld := c.pwmHeld || k.val == 1 || k.val == 2 || k.val == 3 })
       if k.val = 2 ∨ k.val = 3 then a.fault Pg.CLK Flt.CLK_FAIL (1 + k.val) else a) :=
  if_neg (by simp [h])

theorem clockMonitor_eq (s : State) (ppm : Nat) :
    s.clockMonitor ppm =
      (let a := s.wr Reg.CLK_REFPPM ppm
       if (toSigned 16 ppm).natAbs > 1000 then a.refLoss
       else if a.on refOk then a
       else (((a.setOn refOk true).modClk (fun c => { c with refLost := false })).endInstance Pg.CLK Flt.CLK_FAIL 0).pwmLetGo) := rfl

/-! ### Supplies (R652 to R656) -/

theorem warning_begins {vmain : Nat} {low : Bool} (hnew : ((s.put Fld.PWR_VMAIN_VMAIN vmain).setOn Fld.PWR_STAT_PFAIL low).on Fld.PWR_STAT_WARN = false)
    (hlow : low = true ∨ vmain < ((s.put Fld.PWR_VMAIN_VMAIN vmain).setOn Fld.PWR_STAT_PFAIL low).get Fld.PWR_BO_WARN) :
    s.warning vmain low =
      (let b := ((s.put Fld.PWR_VMAIN_VMAIN vmain).setOn Fld.PWR_STAT_PFAIL low).warningBegins vmain
       if vmain < b.get Fld.PWR_BO_HUTHR then b.hugoodFall else b) := by
  have hgo : ¬ (((s.put Fld.PWR_VMAIN_VMAIN vmain).setOn Fld.PWR_STAT_PFAIL low).on Fld.PWR_STAT_WARN ||
      !(low || decide (vmain < ((s.put Fld.PWR_VMAIN_VMAIN vmain).setOn Fld.PWR_STAT_PFAIL low).get Fld.PWR_BO_WARN))) = true := by
    rw [hnew]
    rcases hlow with h | h <;> simp [h]
  unfold State.warning
  dsimp only
  rw [if_neg hgo]

theorem warningEnd_above {vmain : Nat} (hwarn : ((s.put Fld.PWR_VMAIN_VMAIN vmain).setOn Fld.PWR_STAT_PFAIL false).on Fld.PWR_STAT_WARN = true)
    (habove : ((s.put Fld.PWR_VMAIN_VMAIN vmain).setOn Fld.PWR_STAT_PFAIL false).get Fld.PWR_BO_WARN < vmain) :
    s.warningEnd vmain =
      ((((s.put Fld.PWR_VMAIN_VMAIN vmain).setOn Fld.PWR_STAT_PFAIL false).setOn Fld.PWR_STAT_WARN false).endInstance Pg.PWR Flt.PWR_WARN
        0).hugoodRise := by
  have hgo : ¬ (!((s.put Fld.PWR_VMAIN_VMAIN vmain).setOn Fld.PWR_STAT_PFAIL false).on Fld.PWR_STAT_WARN ||
      decide (vmain ≤ ((s.put Fld.PWR_VMAIN_VMAIN vmain).setOn Fld.PWR_STAT_PFAIL false).get Fld.PWR_BO_WARN)) = true := by
    rw [hwarn]
    simp [Nat.not_le.mpr habove]
  exact if_neg hgo

theorem hugoodRise_bad (h : s.hugood = false) :
    s.hugoodRise = ((s.setOn Fld.PWR_STAT_HUGOOD true).irq Pg.PWR Irq.PWR_HURISE).gaspBack :=
  if_neg (by simp [h])

theorem vioFalls_low {vio : Nat} (hnew : (s.put Fld.PWR_VMAIN_VIO vio).on Fld.PWR_STAT_VIOLOW = false) (hlow : vio < 2950) :
    s.vioFalls vio =
      (((s.put Fld.PWR_VMAIN_VIO vio).setOn Fld.PWR_STAT_VIOLOW true).irq Pg.PWR Irq.PWR_VIOLOW).fault Pg.PWR Flt.VIO_LOW 0
        (BitVec.ofNat 32 vio) := by
  have hgo : ¬ ((s.put Fld.PWR_VMAIN_VIO vio).on Fld.PWR_STAT_VIOLOW || decide (2950 ≤ vio)) = true := by
    rw [hnew]
    simp [Nat.not_le.mpr hlow]
  exact if_neg hgo

theorem vioReturns_good {vio : Nat} (hlow : (s.put Fld.PWR_VMAIN_VIO vio).on Fld.PWR_STAT_VIOLOW = true) (hlo : 3135 ≤ vio) (hhi : vio ≤ 3465) :
    s.vioReturns vio = ((s.put Fld.PWR_VMAIN_VIO vio).setOn Fld.PWR_STAT_VIOLOW false).endInstance Pg.PWR Flt.VIO_LOW 0 := by
  have hgo : ((s.put Fld.PWR_VMAIN_VIO vio).on Fld.PWR_STAT_VIOLOW && decide (3135 ≤ vio ∧ vio ≤ 3465)) = true := by
    rw [hlow, Bool.true_and, decide_eq_true_eq]
    exact ⟨hlo, hhi⟩
  exact if_pos hgo

/-! ### Memory and temperature (R657 to R659) -/

theorem scrub_eq (s : State) (n bad : Nat) :
    s.scrub n bad =
      (let a := s.bump Fld.AON_SCRUB_PASSES
       let b := if n = 0 then a else (a.bumpBy Fld.AON_SCRUB_CORR n).irq Pg.AON Irq.AON_CORR
       if bad = 0 then b else
       let d := (((b.wr Reg.AON_RETBAD (Nat.lor (b.rd Reg.AON_RETBAD) bad)).bumpBy Fld.AON_SCRUB_UNCORR (popCount 32 bad)).irq Pg.AON
         Irq.AON_UNCORR).modClk (fun c => { c with retDue := Nat.lor c.retDue bad })
       d.modTwn (fun t => { t with eccAt := some d.nowNat })) := rfl

theorem word_toNat_eq_zero (x : Word) : x.toNat = 0 ↔ x = 0 := by
  rw [← BitVec.toNat_inj]
  rfl

theorem toSigned_toNat (x : BitVec 16) : toSigned 16 (x.toNat % 65536) = x.toInt := by
  have := x.isLt
  unfold toSigned
  rw [BitVec.toInt_eq_toNat_cond]
  split_ifs <;> omega

theorem dieTemp_eq (s : State) (x : BitVec 16) (die : BitVec 3) :
    s.dieTemp x.toNat die.toNat =
      (let a := s.wr Reg.PWR_DIE (x.toNat + die.toNat * 65536)
       let w : Int := a.get Fld.PWR_THERM_WARN
       if a.on Fld.PWR_STAT_DIEWARN then
         (if x.toInt ≤ w - 50 then (a.setOn Fld.PWR_STAT_DIEWARN false).endInstance Pg.PWR Flt.DIE_WARN 0 else a)
       else if x.toInt > w then
         ((a.setOn Fld.PWR_STAT_DIEWARN true).irq Pg.PWR Irq.PWR_DIEWARN).fault Pg.PWR Flt.DIE_WARN 0 (BitVec.ofNat 32 x.toNat)
       else a) := by
  have hx : x.toNat % 65536 = x.toNat := Nat.mod_eq_of_lt x.isLt
  have hdie : die.toNat % 8 = die.toNat := Nat.mod_eq_of_lt die.isLt
  unfold State.dieTemp
  rw [toSigned_toNat, hx, hdie]

theorem dieThermal_new (htrans : s.svc.state ≠ .transport) (hlatch : s.clk.dieLatch = false) :
    s.dieThermal = ((s.assertSource 10).modClk (fun c => { c with dieLatch := true })).bump Fld.AON_THERM_L0 :=
  if_neg (by simp [htrans, hlatch])

/-- Settles O57. -/
theorem clocksAndSuppliesComplete : Obligations.ClocksAndSuppliesComplete := by
  refine ⟨⟨?_, ?_, ?_⟩, ?_, ?_, ?_, ?_, ?_, ?_, ?_, ?_, ?_, ?_⟩
  · intro s h
    exact congrArg done (refLoss_good h)
  · intro s k h
    exact congrArg done (pllLoss_locked k h)
  · intro s ppm
    have hmonitor := clockMonitor_eq s ppm.toNat
    exact ⟨fun hfar => congrArg done (hmonitor.trans (if_pos hfar)),
      fun hnear hok => congrArg done (hmonitor.trans ((if_neg (Nat.not_lt.mpr hnear)).trans (if_pos hok))),
      fun hnear hok => congrArg done (hmonitor.trans ((if_neg (Nat.not_lt.mpr hnear)).trans (if_neg (by rw [hok]; exact Bool.false_ne_true))))⟩
  · intro s vmain low a hnew hlow
    exact congrArg done (warning_begins hnew hlow)
  · intro s vmain a hwarn habove
    exact congrArg done (warningEnd_above hwarn habove)
  · intro s h
    exact congrArg done (if_pos h)
  · intro s h
    exact congrArg done (hugoodRise_bad h)
  · intro s vio
    exact ⟨fun hnew hlow => congrArg done (vioFalls_low hnew hlow), fun hlow hlo hhi => congrArg done (vioReturns_good hlow hlo hhi)⟩
  · intro s n bad
    have hscrub := scrub_eq s n bad.toNat
    exact ⟨fun hgood => congrArg done (hscrub.trans (if_pos ((word_toNat_eq_zero bad).mpr hgood))),
      fun hbad => congrArg done (hscrub.trans (if_neg fun h => hbad ((word_toNat_eq_zero bad).mp h)))⟩
  · intro s x die
    have htemp := dieTemp_eq s x die
    exact ⟨fun hoff hhot => congrArg done (htemp.trans ((if_neg (by rw [hoff]; exact Bool.false_ne_true)).trans (if_pos hhot))),
      fun hon hcool => congrArg done (htemp.trans ((if_pos hon).trans (if_pos hcool))),
      fun hoff hcool => congrArg done (htemp.trans ((if_neg (by rw [hoff]; exact Bool.false_ne_true)).trans (if_neg (not_lt.mpr hcool)))),
      fun hon hhot => congrArg done (htemp.trans ((if_pos hon).trans (if_neg (not_le.mpr hhot))))⟩
  · intro s htrans hlatch
    exact congrArg done (dieThermal_new htrans hlatch)
  · intro s hdue
    exact congrArg done (if_pos hdue)
  · intro s htrans
    exact congrArg done (if_pos htrans)

end Sys2Proof.Machine
end

section
/-! Firmware update: services, commands and events complete (R674 to R684). -/

namespace Sys2Proof.Machine
variable {s t u : State} {o : Origin} {p a v r n : Nat} {w : WordSpec} {q : Req}

/-- The lane that a piece came by, where a node sent it. -/
def viaLane (o : Origin) (lane : Nat) : Option Nat :=
  match o with
  | .fabric _ => some lane
  | _ => none

/-! ### What the update services do (R674 to R678, R681) -/

/-- A service that is carried out is answered OK with no body. -/
theorem updService_ok {svc : Nat} {f : State → SvcAns} (h : s.Served q svc 1) (hf : f s = okBare t) :
    s.updService q svc f = t.respond q svc 0 [] := by
  unfold State.updService
  rw [firmware_served h, hf]
  rfl

theorem updService_refused {svc status reason : Nat} {f : State → SvcAns} (h : s.Served q svc 1) (hf : f s = refusedWith status reason t) :
    s.updService q svc f = t.respond q svc status (beBytes 1 reason) := by
  unfold State.updService
  rw [firmware_served h, hf]
  rfl

theorem updGate_locked (f : State → SvcAns) (hens : s.ens Pg.UPD = true) (hlock : s.lockedOut o = true) :
    s.updGate o f = refusedWith 7 7 s :=
  (if_neg (by simp [hens])).trans (if_pos hlock)

theorem updGate_off (f : State → SvcAns) (hens : s.ens Pg.UPD = false) : s.updGate o f = ((3, []), s) := if_pos (by simp [hens])

section
variable (hens : s.ens Pg.UPD = true) (hlock : s.lockedOut o = false)
include hens hlock

/-- While the lock is free or the sender's, a service acts on the state with the lock's idle time begun anew. -/
theorem updGate_open (f : State → SvcAns) : s.updGate o f = f (s.lockUsed o) :=
  (if_neg (by simp [hens])).trans (if_neg (by simp [hlock]))

theorem updClaim_open : s.updClaim o = okBare ((s.lockUsed o).takeLock o) := updGate_open hens hlock _

theorem updRelease_open : s.updRelease o = okBare (s.lockUsed o).dropLock := updGate_open hens hlock _

theorem updVerify_open :
    s.updVerify o =
      okBare (if ((s.lockUsed o).bank (s.lockUsed o).stagingIdx).verified then s.lockUsed o else (s.lockUsed o).beginVerify) :=
  updGate_open hens hlock _

theorem updDiscard_open : s.updDiscard o = okBare (s.lockUsed o).emptyStaging := updGate_open hens hlock _

theorem updWrite_open {lane off : Nat} {data : List Byte} (hlen : data.length ≤ 1008) (hfits : off + data.length ≤ 0x1800000)
    (hstaged : ((s.lockUsed o).bank (s.lockUsed o).stagingIdx).verified = false) (hphase : (s.lockUsed o).get Fld.UPD_STAT_PHASE ≠ 2) :
    s.updWrite o lane off data =
      okBare
        (let a := (s.lockUsed o).takeLock o
         (a.modBank a.stagingIdx (fun b => { b with via := viaLane o lane })).stagePiece off data) := by
  unfold State.updWrite
  rw [updGate_open hens hlock]
  generalize s.lockUsed o = u at *
  dsimp only
  rw [if_neg (Nat.not_lt.mpr hlen), if_neg (Nat.not_lt.mpr hfits), if_neg (by simp [hstaged]), if_neg hphase]
  rfl

section
variable {acts actn : Nat} (hbar : (s.lockUsed o).activateBar = 0)
include hbar

theorem updActivate_now (acts actn : Nat) : s.updActivate o true acts actn = okBare ((s.lockUsed o).takeLock o).activateDue := by
  unfold State.updActivate
  rw [updGate_open hens hlock]
  exact (if_neg (not_not.mpr hbar)).trans (if_pos rfl)

theorem updActivate_arms (hns : actn ≤ 999999999)
    (hlo : 1000000000 ≤ ((acts * 1000000000 + actn : Nat) : Int) - ((s.lockUsed o).plantNs : Int))
    (hhi : ((acts * 1000000000 + actn : Nat) : Int) - ((s.lockUsed o).plantNs : Int) ≤ 86400000000000) :
    s.updActivate o false acts actn =
      okBare
        (let ahead : Int := ((acts * 1000000000 + actn : Nat) : Int) - ((s.lockUsed o).plantNs : Int)
         let a := ((s.lockUsed o).takeLock o).modUpd (fun x => { x with armed := true })
         (a.wr64 Reg.UPD_ACTT (((s.lockUsed o).nowNat + ahead.toNat) % 2 ^ 64)).setPhase 4) := by
  unfold State.updActivate
  rw [updGate_open hens hlock]
  generalize s.lockUsed o = u at *
  dsimp only
  rw [if_neg (not_not.mpr hbar), if_neg Bool.false_ne_true, if_neg (by omega)]

end

/-! #### Loading one image in recovery (R681) -/

section
variable {kind : Nat} {service : Bool} {im m : Nat × Nat × Nat × Nat × Nat}
  (hrec : (s.lockUsed o).svc.state = .recovery) (hver : ((s.lockUsed o).bank (s.lockUsed o).stagingIdx).verified = true)
  (him : ((s.lockUsed o).bank (s.lockUsed o).stagingIdx).image kind = some im)
  (hm : ((s.lockUsed o).bank (s.lockUsed o).activeIdx).image 1 = some m) (hfits : (s.lockUsed o).imageFits m.1 im = true)
include hrec hver him hm hfits

theorem updLoad_fits (hlo : 3 ≤ kind) (hhi : kind ≤ 6) :
    s.updLoad o kind service =
      if kind = 3 then okBare ((s.lockUsed o).safetyImage im).mixedShow
      else
        (let u := s.lockUsed o
         let same := ((u.bank u.activeIdx).image kind).map (fun x => x.2.2.2.2) = some im.2.2.2.2
         let a := u.imageRuns kind im
         let b := if same then a else a.modUpd (fun x => { x with mixed := kind :: x.mixed })
         okBare b.mixedShow) := by
  unfold State.updLoad
  rw [updGate_open hens hlock]
  generalize s.lockUsed o = u at *
  dsimp only
  rw [if_neg (by omega), if_neg (by simp [hrec]), if_neg (by simp [hver]), him]
  dsimp only
  rw [if_neg (by omega), if_neg (by omega), hm]
  dsimp only
  rw [if_neg (by simp [hfits])]

end

end

/-! #### What the neighbour is served (R677) -/

section
variable {lane bid len : Nat} (hens : s.ens Pg.UPD = true) (hfrom : s.fromNeighbour o lane = true)
include hens hfrom

theorem updOffer_known (hbank : (s.bankWith bid).isSome = true) : s.updOffer o lane bid len = ((0, beBytes 1 1), s.lockUsed o) :=
  (if_neg (by simp [hens])).trans ((if_neg (by simp [hfrom])).trans (if_pos hbank))

theorem updOffer_new (hbank : (s.bankWith bid).isSome = false) (hlock : s.lockedOut o = false) (hstaged : (s.bank s.stagingIdx).verified = false)
    (hlen : len ≤ 0x1800000) :
    s.updOffer o lane bid len =
      (let a := s.emptyStaging.takeLock o
       let b := a.modBank a.stagingIdx (fun x => { x with via := some lane })
       ((0, beBytes 1 0), (b.modUpd (fun x => { x with fetch := some (lane, bid, 0, len) })).fetchNext)) :=
  (if_neg (by simp [hens])).trans ((if_neg (by simp [hfrom])).trans ((if_neg (by simp [hbank])).trans ((if_neg (by simp [hlock])).trans
    ((if_neg (by simp [hstaged])).trans (if_neg (Nat.not_lt.mpr hlen))))))

theorem updFetch_known {b : BankState} {off : Nat} (hbank : s.bankWith bid = some b) (hlen : len ≤ 1008) (hfits : off + len ≤ b.length) :
    s.updFetch o lane bid off len = ((0, beBytes 4 off ++ beBytes 2 len ++ beBytes 2 0 ++ b.bytesAt off len), s) := by
  unfold State.updFetch
  rw [if_neg (by simp [hens]), if_neg (by simp [hfrom]), hbank]
  exact if_neg (by omega)

end

/-! ### Commands of UPD_CMD (R684) -/

/-- A command acts as its service; one that is refused sets CMDREJ. -/
def updRun (x : SvcAns) : State := if x.1.1 = 0 then x.2 else x.2.irq Pg.UPD Irq.UPD_CMDREJ

theorem updRun_ok (t : State) : updRun (okBare t) = t := if_pos rfl

theorem updCommand_claim (s : State) (o : Origin) : s.updCommand o 1 = updRun (s.updClaim o) := rfl
theorem updCommand_release (s : State) (o : Origin) : s.updCommand o 2 = updRun (s.updRelease o) := rfl
theorem updCommand_verify (s : State) (o : Origin) : s.updCommand o 3 = updRun (s.updVerify o) := rfl
theorem updCommand_activate (s : State) (o : Origin) : s.updCommand o 4 = updRun (s.updActivate o true 0 0) := rfl
theorem updCommand_discard (s : State) (o : Origin) : s.updCommand o 5 = updRun (s.updDiscard o) := rfl

/-- Taking back an armed activation. -/
def State.disarmed (s : State) : SvcAns :=
  if s.upd.armed then okBare (((s.modUpd (fun u => { u with armed := false })).wr64 Reg.UPD_ACTT 0).updShow) else refusedWith 8 0xD s

theorem updCommand_disarm (s : State) (o : Origin) : s.updCommand o 6 = updRun (s.updGate o State.disarmed) := rfl

theorem updOp_accepted {op : Nat} (hop : op < 16) (h : s.Accepts o Reg.UPD_CMD op) : s.command o Reg.UPD_CMD op = s.updCommand o op := by
  rw [updCmd_accepted h, Nat.mod_eq_of_lt hop]

theorem lockUsed_armed (s : State) (o : Origin) : (s.lockUsed o).upd.armed = s.upd.armed := by
  unfold State.lockUsed
  dsimp only
  split <;> rfl

theorem updRun_off (s : State) : updRun ((3, []), s) = s.irq Pg.UPD Irq.UPD_CMDREJ := rfl

/-- A command while UPD is disabled is rejected. -/
theorem updRun_gate_off (f : State → SvcAns) (hens : s.ens Pg.UPD = false) : updRun (s.updGate o f) = s.irq Pg.UPD Irq.UPD_CMDREJ := by
  rw [updGate_off f hens, updRun_off]

/-! ### Events of the update unit (R674, R676 to R680) -/

theorem lockTimeout_due (hheld : s.on Fld.UPD_LOCK_HELD = true) (hlate : s.upd.lastAt + 60000000000 ≤ s.nowNat) :
    s.lockTimeout = (s.wr Reg.UPD_LOCK 0).irq Pg.UPD Irq.UPD_LOCK := by
  have hgo : (s.on Fld.UPD_LOCK_HELD && decide (s.nowNat ≥ s.upd.lastAt + 60000000000)) = true := by
    rw [hheld, decide_eq_true hlate]
    rfl
  exact (if_pos hgo).trans (if_pos hheld)

theorem activation_due (harmed : s.upd.armed = true) (happ : s.appUp = true)
    (hdue : toSigned 64 ((s.nowNat + 2 ^ 64 - s.rd64 Reg.UPD_ACTT) % 2 ^ 64) ≥ 0) : s.activation = s.activateDue := by
  have hgo : (s.upd.armed && s.appUp && decide (toSigned 64 ((s.nowNat + 2 ^ 64 - s.rd64 Reg.UPD_ACTT) % 2 ^ 64) ≥ 0)) = true := by
    rw [harmed, happ, decide_eq_true hdue]
    rfl
  exact if_pos hgo

theorem activateDue_now (h : s.twinGate = .now) : s.activateDue = s.activateNow := by
  unfold State.activateDue
  rw [h]

theorem activateDue_handOver (h : s.twinGate = .handOver) :
    s.activateDue = (((s.modUpd (fun u => { u with armed := true })).wr64 Reg.UPD_ACTT s.nowNat).setPhase 4).handoverAsked := by
  unfold State.activateDue
  rw [h]

theorem activateDue_no (h : s.twinGate = .no) :
    s.activateDue = ((s.modUpd (fun u => { u with armed := false })).put Fld.UPD_RESULT_REASON 0xA).updShow := by
  unfold State.activateDue
  rw [h]

theorem activateNow_eq (s : State) :
    s.activateNow =
      (let a := (((s.modUpd (fun u => { u with armed := false })).setPhase 5).wr64 Reg.UPD_ACTT 0).wr Reg.TWN_HOTIME 0
       let b := (a.put Fld.UPD_BANKS_ACTIVE a.stagingIdx).setOn Fld.UPD_BANKS_TRIAL true
       if b.svc.state = .recovery then (b.setOn Fld.RST_BOOT_RECOVERY false).softAt 1
       else { b.resetAssert 11 with svc := { (b.resetAssert 11).svc with appPaused := true } }) := rfl

theorem fetchIn_awaited {lane bid off len : Nat} {data : List Byte} (hfetch : s.upd.fetch = some (lane, bid, off, len)) (hdata : data ≠ [])
    (happ : s.appUp = true) :
    s.fetchIn lane off data =
      (let a := s.modUpd (fun u => { u with fetch := some (lane, bid, off + data.length, len), lastAt := s.nowNat })
       let b := a.stagePiece off data
       if b.get Fld.UPD_STAT_PHASE = 2 then b else b.fetchNext) := by
  unfold State.fetchIn
  rw [hfetch]
  exact if_neg (by simp [hdata, happ])

/-- Settles O58. -/
theorem updateComplete : Obligations.UpdateComplete := by
  refine ⟨⟨?_, ?_, ?_, ?_, ?_, ?_⟩, ?_, ?_, ?_, ?_, ?_, ?_, ?_⟩
  · intro s q h
    exact congrArg done (firmware_served h _)
  · intro s q hens hlock
    refine ⟨fun h => congrArg done (updService_ok h (updClaim_open hens hlock)), fun h => congrArg done (updService_ok h (updRelease_open hens hlock)),
      fun off data h hlen hfits hstaged hphase => congrArg done (updService_ok h (updWrite_open hens hlock hlen hfits hstaged hphase)),
      fun h => congrArg done (updService_ok h (updVerify_open hens hlock)), fun acts actn h hbar => ⟨?_, fun hns hlo hhi => ?_⟩,
      fun h => congrArg done (updService_ok h (updDiscard_open hens hlock))⟩
    · exact congrArg done (updService_ok h (updActivate_now hens hlock hbar _ _))
    · exact congrArg done (updService_ok h (updActivate_arms hens hlock hbar hns hlo hhi))
  · intro s q hens hlock
    exact ⟨fun h => congrArg done (updService_refused h (updGate_locked _ hens hlock)),
      fun off data h => congrArg done (updService_refused h (updGate_locked _ hens hlock))⟩
  · intro s q bid version svn len h happ hens hfrom
    refine ⟨fun hbank => congrArg done ((neighbour_reached h happ _).trans ?_),
      fun hbank hlock hstaged hlen => congrArg done ((neighbour_reached h happ _).trans ?_)⟩
    · rw [updOffer_known hens hfrom hbank]
    · dsimp only
      rw [updOffer_new hens hfrom hbank hlock hstaged hlen]
  · intro s q bid off len b h happ hens hfrom hbank hlen hfits
    refine congrArg done ((neighbour_reached h happ _).trans ?_)
    rw [updFetch_known hens hfrom hbank hlen hfits]
  · intro s q kind im m h hens hlock u hrec hver him hm hfits
    have hload := fun hlo hhi => updLoad_fits (service := s.roleOf q.origin == some 3) hens hlock hrec hver him hm hfits hlo hhi
    refine ⟨fun hkind => congrArg done ((firmware_served h _).trans ?_), fun hkind => congrArg done ((firmware_served h _).trans ?_)⟩
    · have hrange : 4 ≤ kind.toNat ∧ kind.toNat ≤ 6 := by
        rcases hkind with rfl | rfl | rfl <;> decide
      obtain ⟨hlo, hhi⟩ := hrange
      dsimp only
      rw [hload (by omega) hhi, if_neg (by omega)]
      rfl
    · have hthree : kind.toNat = 3 := by rw [hkind]; rfl
      rw [hload (by omega) (by omega), if_pos hthree]
      rfl
  · intro s o hens hlock
    refine ⟨fun h => congrArg done ?_, fun h => congrArg done ?_, fun h => congrArg done ?_, fun h hbar => congrArg done ?_,
      fun h => congrArg done ?_, fun h harmed => congrArg done ?_⟩
    · rw [updOp_accepted (by decide) h, updCommand_claim, updClaim_open hens hlock, updRun_ok]
    · rw [updOp_accepted (by decide) h, updCommand_release, updRelease_open hens hlock, updRun_ok]
    · rw [updOp_accepted (by decide) h, updCommand_verify, updVerify_open hens hlock, updRun_ok]
    · rw [updOp_accepted (by decide) h, updCommand_activate, updActivate_now hens hlock hbar, updRun_ok]
    · rw [updOp_accepted (by decide) h, updCommand_discard, updDiscard_open hens hlock, updRun_ok]
    · rw [updOp_accepted (by decide) h, updCommand_disarm, updGate_open hens hlock, State.disarmed, if_pos ((lockUsed_armed s o).trans harmed),
        updRun_ok]
  · intro s o hens
    refine ⟨fun h => congrArg done ?_, fun h => congrArg done ?_⟩
    · rw [updOp_accepted (by decide) h, updCommand_claim]
      exact updRun_gate_off _ hens
    · rw [updOp_accepted (by decide) h, updCommand_activate]
      exact updRun_gate_off _ hens
  · intro s hup hphase happ
    exact event_eq hup (if_neg (by simp [hphase, happ]))
  · intro s hup hheld hlate
    exact event_eq hup (lockTimeout_due hheld hlate)
  · intro s hup harmed happ hdue
    have hact := activation_due harmed happ hdue
    exact ⟨fun h => event_eq hup (hact.trans (activateDue_now h)), fun h => event_eq hup (hact.trans (activateDue_handOver h)),
      fun h => event_eq hup (hact.trans (activateDue_no h))⟩
  · intro s
    exact ⟨fun hrec => (activateNow_eq s).trans (if_pos hrec), fun hrec => (activateNow_eq s).trans (if_neg hrec)⟩
  · intro s lane off data bid len hup hfetch hdata happ
    exact event_eq hup (fetchIn_awaited hfetch hdata happ)

end Sys2Proof.Machine
end

section
/-! The margin ledger: its events, commands and services complete (R686 to R698). -/

namespace Sys2Proof.Machine
variable {s t u : State} {o : Origin} {p a r n i : Nat} {w : WordSpec} {q : Req} {v : Word}

/-! ### Measurements and margins (R686 to R691) -/

/-- A measurement shows its margin. -/
theorem measure_shows (s : State) (i : Nat) (v : Word) :
    s.measure i v =
      (let a := if 6 ≤ i ∧ i < 18 then
           (let k := ratRound (ratClamp (-8) 8 (-(ratRound (ratOf v) : Int)))
            s.modAge (fun a => { a with
              measured := smInsert i (k : Rat) a.measured
              trims := (i - 6, k) :: a.trims.filter (fun t => t.1 != i - 6) }))
         else if i = 1 then
           (if s.age.refCount = 0 then s else s.modAge (fun a => { a with
             measured := smInsert 1 (a.refSum / (a.refCount : Rat)) a.measured, refSum := 0, refCount := 0 }))
         else if 2 ≤ i ∧ i < 6 then s
         else s.modAge (fun a => { a with measured := smInsert i (ratOf v) a.measured })
       a.put (Fld.AGE_MVAL_M i) (a.marginOf i)) := rfl

theorem measure_comparator (v : Word) (hlo : 6 ≤ i) (hhi : i < 18) :
    s.measure i v =
      (let k := ratRound (ratClamp (-8) 8 (-(ratRound (ratOf v) : Int)))
       let a := s.modAge (fun a => { a with
         measured := smInsert i (k : Rat) a.measured
         trims := (i - 6, k) :: a.trims.filter (fun t => t.1 != i - 6) })
       a.put (Fld.AGE_MVAL_M i) (a.marginOf i)) := by
  rw [measure_shows, if_pos ⟨hlo, hhi⟩]

theorem measure_reference (s : State) (v : Word) :
    s.measure 1 v =
      (let a := if s.age.refCount = 0 then s else s.modAge (fun a => { a with
         measured := smInsert 1 (a.refSum / (a.refCount : Rat)) a.measured, refSum := 0, refCount := 0 })
       a.put (Fld.AGE_MVAL_M 1) (a.marginOf 1)) := by
  rw [measure_shows, if_neg (by omega), if_pos rfl]

theorem measure_converter (v : Word) (hlo : 2 ≤ i) (hhi : i < 6) : s.measure i v = s.put (Fld.AGE_MVAL_M i) (s.marginOf i) := by
  rw [measure_shows, if_neg (by omega), if_neg (by omega), if_pos ⟨hlo, hhi⟩]

theorem measure_other (v : Word) (h : i = 0 ∨ 18 ≤ i) :
    s.measure i v =
      (let a := s.modAge (fun a => { a with measured := smInsert i (ratOf v) a.measured })
       a.put (Fld.AGE_MVAL_M i) (a.marginOf i)) := by
  rw [measure_shows, if_neg (by omega), if_neg (by omega), if_neg (by omega)]

/-- An evaluation re-plans, evaluates every margin and stores the page (R690). -/
def State.evaluatedAge (s : State) : State :=
  let p := s.planVcore.planRef.planIntervals
  let t := ((p.each 42 State.evaluateMargin).wr Reg.AGE_EVAL p.opsec).ageShow
  (t.irq Pg.AGE Irq.AGE_EVALUATED).keepWords ageWords

theorem evaluateAge_runs (happ : s.appUp = true) : s.evaluateAge = s.evaluatedAge := if_neg (by simp [happ])

/-! ### Commands and trims (R692 to R694) -/

theorem ageCommand_evaluate (s : State) (o : Origin) (pair : Nat) : s.ageCommand o 1 pair = s.evaluateAge := rfl

theorem ageCommand_replaced (s : State) (o : Origin) (pair : Nat) :
    s.ageCommand o 2 pair =
      if pair > 9 then s.irq Pg.AGE Irq.AGE_CMDREJ else (s.pairReplaced pair).auditCommand o Reg.AGE_CMD 0 (2 + 256 * pair) := rfl

theorem evaluate_accepted (h : s.Accepts o Reg.AGE_CMD 1) : s.command o Reg.AGE_CMD 1 = s.evaluateAge := by
  have hop : 1 % 16 = 1 := by decide
  rw [ageCmd_accepted h, hop, ageCommand_evaluate]

theorem replaced_accepted (pair : BitVec 4) (h : s.Accepts o Reg.AGE_CMD (2 + 256 * pair.toNat)) :
    s.command o Reg.AGE_CMD (2 + 256 * pair.toNat) =
      if pair.toNat > 9 then s.irq Pg.AGE Irq.AGE_CMDREJ
      else (s.pairReplaced pair.toNat).auditCommand o Reg.AGE_CMD 0 (2 + 256 * pair.toNat) := by
  have hpair := pair.isLt
  have hop : (2 + 256 * pair.toNat) % 16 = 2 := by omega
  have hfield : bitsOf (2 + 256 * pair.toNat) 8 4 = pair.toNat := by
    unfold bitsOf
    omega
  rw [ageCmd_accepted h, hop, hfield, ageCommand_replaced]

section
variable {k : Int} {m : Nat} (htrim : s.age.trims.find? (fun t => t.1 == n) = some (m, k))
include htrim

theorem applyTrim_eq :
    s.applyTrim n =
      (if s.on (Fld.PRT_CMPSTAT_LEVEL n) then s else
       let f : RegField := ⟨Reg.AGE_CMPTRIM (n / 4), 8 * (n % 4), 8⟩
       let a := s.modAge (fun a => { a with trims := a.trims.filter (fun t => t.1 != n) })
       let b := a.put f (ofSigned 8 k)
       (if a.get f = ofSigned 8 k then b else b.irq Pg.AGE Irq.AGE_ACTION).keepWords ageWords) := by
  unfold State.applyTrim
  rw [htrim]

end

/-- Settles O59. -/
theorem ageingComplete : Obligations.AgeingComplete := by
  refine ⟨?_, ?_, ?_, ?_, ?_, ?_, ?_⟩
  · intro s i v hup
    refine ⟨fun hlo hhi => event_eq hup (measure_comparator v hlo hhi), fun hone => event_eq hup ?_,
      fun hlo hhi => event_eq hup (measure_converter v hlo hhi), fun h => event_eq hup (measure_other v h)⟩
    rw [hone]
    exact measure_reference s v
  · intro s i
    exact ⟨fun h => if_neg (by simp [h]), fun h => if_pos h⟩
  · intro s o happ
    have heval := evaluateAge_runs happ
    exact ⟨fun hup => event_eq hup heval, fun h => congrArg done ((evaluate_accepted h).trans heval)⟩
  · intro s o pair h
    have hreplaced := replaced_accepted pair h
    exact ⟨fun hpair => congrArg done (hreplaced.trans (if_neg (Nat.not_lt.mpr hpair))),
      fun hpair => congrArg done (hreplaced.trans (if_pos hpair))⟩
  · intro s n k hup htrim
    exact ⟨fun hlevel => event_eq hup ((applyTrim_eq htrim).trans (if_pos hlevel)),
      fun hlevel => event_eq hup ((applyTrim_eq htrim).trans (if_neg (by simp [hlevel])))⟩
  · intro s l hup happ
    exact ⟨fun hgood => event_eq hup (if_neg (by simp [happ, hgood])), event_eq hup (if_neg (by simp [happ]))⟩
  · intro s q i day
    refine ⟨fun h => congrArg done (firmware_served h _), fun h hi => congrArg done ((firmware_served h _).trans ?_),
      fun h hi => congrArg done ((firmware_served h _).trans ?_)⟩
    · rw [if_neg (Nat.not_lt.mpr hi)]
    · rw [if_pos hi]

end Sys2Proof.Machine
end

section
/-! The test access port and the debug session complete (R716 to R724). -/

namespace Sys2Proof.Machine
variable {s t u : State} {o : Origin} {p r n : Nat} {w : WordSpec}

/-! ### The test access port (R716 to R718) -/

theorem boundary_acts {code : Nat} (h : (s.setIr code).boundaryOk = true) :
    s.boundary code = (s.setIr code).modDbg (fun d => { d with acting := true }) := if_pos h

theorem boundary_blocked {code : Nat} (h : (s.setIr code).boundaryOk = false) : s.boundary code = (s.setIr code).blocked :=
  if_neg (by simp [h])

/-! ### The debug session (R719 to R721) -/

theorem authChallenge_answers (hlock : (s.setIr 0x10).on Fld.DBG_JTAG_LOCKOUT = false) :
    s.authChallenge =
      (let x := (s.setIr 0x10).drawNonce
       let y := x.2.drawNonce
       let t := y.2.modDbg (fun d => { d with challenge := some (x.1, y.1, y.2.nowNat) })
       t.emit (.tap (ofBe (t.challengeBytes x.1 y.1)))) :=
  if_neg (by simp [hlock])

theorem authSignature_judged {x y : BitVec 384} (hlock : (s.setIr 0x10).on Fld.DBG_JTAG_LOCKOUT = false) :
    s.authSignature x y =
      (let a := s.setIr 0x10
       let b := a.modDbg (fun d => { d with challenge := none })
       if a.authGood x y then
          ((((b.setOn Fld.DBG_SESSION_ACTIVE true).bump Fld.DBG_AUTHCNT_OK).irq Pg.DBG Irq.DBG_OPEN).modDbg (fun d => { d with
            counter := (d.counter + 1) % 2 ^ 32 })).auditDebug 0 1
        else
          let c := ((b.bump Fld.DBG_AUTHCNT_FAIL).irq Pg.DBG Irq.DBG_AUTHFAIL).auditDebug 0 0
          let times := a.nowNat :: c.dbg.failures.filter (fun t => decide (a.nowNat < t + 600000000000))
          let d := c.modDbg (fun d => { d with failures := times })
          if 3 ≤ times.length then d.setOn Fld.DBG_JTAG_LOCKOUT true else d) :=
  if_neg (by simp [hlock])

theorem auth_locked (step : AuthStep) (hlock : (s.setIr 0x10).on Fld.DBG_JTAG_LOCKOUT = true) : s.auth step = s.setIr 0x10 := by
  cases step with
  | challenge => exact if_pos hlock
  | signature x y => exact if_pos hlock

section
variable {a v : Nat} (hactive : (s.setIr 0x11).on Fld.DBG_SESSION_ACTIVE = true)
include hactive

/-- In a session DBGACC performs one access and shifts out the capture of the one before. -/
theorem dbgAccess_active (wr : Bool) (a v : Nat) :
    s.dbgAccess wr a v =
      (let u := (s.setIr 0x11).emit (.tap (s.setIr 0x11).dbg.capture)
       if wr then
         (let x := u.busWriteBy false hostDoor .debug a v
          x.2.modDbg (fun d => { d with capture := if x.1 = 0 then 0 else x.2.rd (Reg.erra ((ownerPage a).getD Pg.DEV)) }))
       else
         let x := u.busRead .debug a
         x.2.2.modDbg (fun d => { d with capture := if x.1 = 0 then x.2.1.toNat else x.2.2.rd (Reg.erra ((ownerPage a).getD Pg.DEV)) })) :=
  if_neg (by simp [hactive])

end

theorem dbgAccess_closed (wr : Bool) (a v : Nat) (hactive : (s.setIr 0x11).on Fld.DBG_SESSION_ACTIVE = false) :
    s.dbgAccess wr a v = s.setIr 0x11 := if_pos (by simp [hactive])

theorem endDebug_active (hactive : s.on Fld.DBG_SESSION_ACTIVE = true) :
    s.endDebug =
      ((((s.setOn Fld.DBG_SESSION_ACTIVE false).setOn Fld.DBG_SESSION_HALTED false).auditDebug 1 0).irq Pg.DBG Irq.DBG_END).dropDebugReset :=
  if_neg (by simp [hactive])

/-! ### Commands of the debug session (R724) -/

/-- Who may command: DEBUG in a session, a Sahric Service session while EN is 1. -/
def State.mayDebug (s : State) (o : Origin) : Bool :=
  match o with
  | .debug => s.on Fld.DBG_SESSION_ACTIVE
  | .host => s.ens Pg.DBG && s.roleOf o == some 3
  | .fabric _ => s.ens Pg.DBG && s.roleOf o == some 3
  | _ => false

/-- What each command does. -/
def State.debugAct (s : State) (op : Nat) : State :=
  match op with
  | 1 => s.setOn Fld.DBG_SESSION_HALTED true
  | 2 => s.setOn Fld.DBG_SESSION_HALTED false
  | 3 => s.debugReset
  | 4 => s.dropDebugReset
  | _ => s.endDebug

theorem dbgCommand_eq (s : State) (o : Origin) (op : Nat) :
    s.dbgCommand o op =
      if op = 0 ∨ op > 5 then s
      else if !s.mayDebug o then s.irq Pg.DBG Irq.DBG_CMDREJ
      else s.debugAct op := rfl

theorem mayDebug_allowed (h : (o = .debug ∧ s.on Fld.DBG_SESSION_ACTIVE = true) ∨
      ((o = .host ∨ ∃ n, o = .fabric n) ∧ s.ens Pg.DBG = true ∧ s.roleOf o = some 3)) : s.mayDebug o = true := by
  rcases h with ⟨rfl, hactive⟩ | ⟨rfl | ⟨n, rfl⟩, hens, hrole⟩
  · exact hactive
  · simp [State.mayDebug, hens, hrole]
  · simp [State.mayDebug, hens, hrole]

theorem mayDebug_barred (h : (o = .debug ∧ s.on Fld.DBG_SESSION_ACTIVE = false) ∨
      (o ≠ .debug ∧ (s.ens Pg.DBG = false ∨ s.roleOf o ≠ some 3))) : s.mayDebug o = false := by
  rcases h with ⟨rfl, hactive⟩ | ⟨hother, hbarred⟩
  · exact hactive
  · have hserved : (s.ens Pg.DBG && s.roleOf o == some 3) = false := by
      rcases hbarred with h | h <;> simp [h]
    cases o with
    | debug => exact absurd rfl hother
    | host => exact hserved
    | fabric n => exact hserved
    | _ => rfl

theorem dbgOp_accepted {op : Nat} (hop : op < 16) (h : s.Accepts o Reg.DBG_CMD op) : s.command o Reg.DBG_CMD op = s.dbgCommand o op := by
  rw [dbgCmd_accepted h, Nat.mod_eq_of_lt hop]

section
variable {op : Nat} (hlo : op ≠ 0) (hhi : op ≤ 5) (h : s.Accepts o Reg.DBG_CMD op)
include hlo hhi h

theorem dbgCommand_allowed (hmay : s.mayDebug o = true) :
    s.command o Reg.DBG_CMD op = s.debugAct op := by
  rw [dbgOp_accepted (by omega) h, dbgCommand_eq, if_neg (by omega), if_neg (by simp [hmay])]

theorem dbgCommand_barred (hmay : s.mayDebug o = false) : s.command o Reg.DBG_CMD op = s.irq Pg.DBG Irq.DBG_CMDREJ := by
  rw [dbgOp_accepted (by omega) h, dbgCommand_eq, if_neg (by omega), if_pos (by simp [hmay])]

end

/-- Settles O60. -/
theorem tapAndDebugComplete : Obligations.TapAndDebugComplete := by
  refine ⟨⟨?_, ?_, ?_, ?_, ?_, ?_, ?_⟩, ?_, ?_, ?_, ?_, ?_, ?_, ?_, ?_, ?_, ?_⟩
  · intro s
    rfl
  · intro s pattern
    rfl
  · intro s c
    rfl
  · intro s code
    rfl
  · intro s
    exact ⟨fun h => congrArg done (boundary_acts h), fun h => congrArg done (boundary_blocked h), fun h => congrArg done (boundary_acts h),
      fun h => congrArg done (boundary_blocked h), fun h => congrArg done (boundary_acts h), fun h => congrArg done (boundary_blocked h)⟩
  · intro s hacting hok
    exact congrArg done (if_pos (by simp [hacting, hok]))
  · intro s
    exact ⟨rfl, rfl⟩
  · intro s a hlock
    exact congrArg done (authChallenge_answers hlock)
  · intro s x y a b hlock
    exact congrArg done (authSignature_judged hlock)
  · intro s step hlock
    exact congrArg done (auth_locked step hlock)
  · intro s
    rfl
  · intro s wr a v hactive
    exact congrArg done (dbgAccess_closed wr a.toNat v.toNat hactive)
  · intro s a v u hactive
    exact ⟨congrArg done ((dbgAccess_active hactive true a.toNat v.toNat).trans (if_pos rfl)),
      congrArg done ((dbgAccess_active hactive false a.toNat v.toNat).trans (if_neg Bool.false_ne_true))⟩
  · intro s hactive
    exact endDebug_active hactive
  · intro s hidle
    exact congrArg done (if_pos hidle)
  · intro s o hmay
    have hmay := mayDebug_allowed hmay
    exact ⟨fun h => congrArg done (dbgCommand_allowed (by decide) (by decide) h hmay),
      fun h => congrArg done (dbgCommand_allowed (by decide) (by decide) h hmay),
      fun h => congrArg done (dbgCommand_allowed (by decide) (by decide) h hmay),
      fun h => congrArg done (dbgCommand_allowed (by decide) (by decide) h hmay),
      fun h => congrArg done (dbgCommand_allowed (by decide) (by decide) h hmay)⟩
  · intro s o hmay
    have hmay := mayDebug_barred hmay
    exact ⟨fun h => congrArg done (dbgCommand_barred (by decide) (by decide) h hmay),
      fun h => congrArg done (dbgCommand_barred (by decide) (by decide) h hmay),
      fun h => congrArg done (dbgCommand_barred (by decide) (by decide) h hmay),
      fun h => congrArg done (dbgCommand_barred (by decide) (by decide) h hmay),
      fun h => congrArg done (dbgCommand_barred (by decide) (by decide) h hmay)⟩

end Sys2Proof.Machine
end
